-- ==== Sys2Proof/Word.lean ====
section
/-! DEFINITION. The few plain word types of the TRT24 (R8, R9): a byte, the 48-bit word and the 32-bit pedal
instruction word. Everything a later repair may have to mend (sign extension, field extraction, CRCs) stands in
`Machine/Bits.lean`. -/

namespace Sys2Proof

/-- One byte of a PDU, a frame or a tag page. -/
abbrev Byte := BitVec 8

/-- The device's 48-bit word (R9, R102): a work word of a pedal sequencer. -/
abbrev Word48 := BitVec 48

/-- A pedal instruction (R228). -/
abbrev PedalWord := BitVec 32

end Sys2Proof
end

