-- ==== Sys2Proof/Syntax.lean ====
section
/-! DEFINITION. The commands of the TRT24: one constructor of `Instr` for each row of spec/opcode_table.json, in the
table's order. The table gives a row no operands; each constructor carries what its event brings from outside the
device (the frame that arrives, the session that writes, the channel it happens on, the level seen on a ball). -/

namespace Sys2Proof

/-- A spoke die (R13, R19): die A serves spokes 0-11, die B serves spokes 12-23. -/
inductive Die where
  | a | b
deriving DecidableEq, Repr

/-- A direction of a spoke link (R16): upstream from the spoke die, downstream to it. -/
inductive LinkDir where
  | up | down
deriving DecidableEq, Repr

/-- How a word read through port 0 or ports 1-3 came back from SECDED (R51-R53). -/
inductive ReadKind where
  /-- one bit wrong, corrected in the same slot -/
  | single
  /-- uncorrectable in the copy that was read -/
  | double
  /-- uncorrectable in both copies (metering and safety state only, R52) -/
  | both
deriving DecidableEq, Repr

/-- A read that met an error: the logical address (R49) and the kind. -/
structure ReadError where
  addr : Nat
  kind : ReadKind
deriving DecidableEq, Repr

/-- What the core die itself latches at a tick edge (R17): the eight safety inputs in the order of R302 (A before B,
in mV, R490; one that is not listed is open and stands at 0) and SEAL (`true` = high), the level that PFW_N will have at the edge
that ends the frame (the boundary before that edge asks for it, R150; log entry 5), the errors that the frame's port-0 reads meet, the cycles that engines 0-8 used in the frame that ended (02h/1-9/1), the keys that are held down (R369), and what the
BIST slice of the frame finds: whether the running test of its target completes in it, and the failing rows, lane, station or
algorithm (R471, R475, R476). -/
structure TickIn where
  safety : List Nat
  pfwN   : Bool
  sealHigh : Bool
  errors : List ReadError
  cycles : List Nat
  keys   : List Nat
  /-- a pass of target 5 or 6 ends in the frame (R471) -/
  bistDone : Bool
  /-- what the pass that ends in the frame finds failing: rows of the segment, the lane, stations, algorithms (R475, R476) -/
  bistFail : List Nat
deriving DecidableEq, Repr

/-- The content of an upstream frame (R19), field by field, before its CRC. Samples are signed 24-bit codes; the
fast tap holds eight signed 16-bit samples per voltage channel; sense values are raw SAR codes. -/
structure UpFrame where
  sync    : Nat
  ccLow   : Nat
  idFlags : Nat
  current : List Int
  voltage : List Int
  fastTap : List Int
  clip    : List Bool
  pilot   : List (List Nat)
  prox    : List Nat
  weld    : List Nat
  readback : List (List Nat)
  hx      : List Nat
  temp    : Nat
  supply  : Nat
deriving DecidableEq, Repr

/-- The content of a downstream frame (R20) before its CRC: the 32-bit header, twelve spoke words, the HX commands. -/
structure DownFrame where
  header : Nat
  words  : List Nat
  hx     : Nat
deriving DecidableEq, Repr

/-- What one CORE cycle shows the derailleur of one port (R45, R46): the requesters whose request line is up, those
that assert LOCK, whether the granted requester has withdrawn its request, the access it performs otherwise (`write` none
= a read; for a DMA word from a queue the word delivered), and the queue fills sampled in that cycle (R67). -/
structure RoundIn where
  requests : List Nat
  locks    : List Nat
  withdrawn : Bool
  addr     : Nat
  write    : Option Nat
  error    : Option ReadKind
  fills    : List (Nat × Nat)
deriving DecidableEq, Repr

/-- The endpoint a KOD session is bound to (R88, R365). -/
inductive Endpoint where
  | can (ctrl node : Nat)
  | udp (addr port : Nat)
  | nfc
deriving DecidableEq, Repr

/-- A CAN FD frame as received (R70, R71). -/
structure CanFrame where
  extended : Bool
  fdf : Bool
  brs : Bool
  ident : Nat
  data : List Byte
deriving DecidableEq, Repr

/-- Where a UDP datagram was sent to (R74). -/
inductive UdpDest where
  | unicast | multicast | broadcast
deriving DecidableEq, Repr

/-- The header of a KOD request (R75): its endpoint, whether it was broadcast, priority, session, sequence number and
the 8-byte tag when TAG = 1. -/
structure KodReq where
  ep  : Endpoint
  broadcast : Bool
  prio : Nat
  sid : Nat
  seq : Nat
  tag : Option Nat
deriving DecidableEq, Repr

/-- One item of a WRITE (R80): address, TYPE code and value in the numbering of `Machine/Operands.lean`. -/
structure WItem where
  addr  : Nat
  type  : Nat
  value : Int
deriving DecidableEq, Repr

/-- The body of SUBSCRIBE (R92). -/
structure SubReq where
  addr : Nat
  chg  : Bool
  all  : Bool
  period : Nat
  deadband : Int
  nprio : Nat
deriving DecidableEq, Repr

/-- Cipher suites, key-exchange groups and server signatures of a TLS offer (R252); `other` is any that the device lacks. -/
inductive TlsSuite where
  | ecdheEcdsaAes256GcmSha384 | aes256GcmSha384 | other
deriving DecidableEq, Repr

inductive TlsGroup where
  | secp256r1 | secp384r1 | other
deriving DecidableEq, Repr

inductive TlsSignature where
  | ecdsaP256Sha256 | ecdsaP384Sha384 | other
deriving DecidableEq, Repr

/-- A vehicle's TLS offer (R252): version 2 or 3 for TLS 1.2 or 1.3, its suites, groups and signatures, and whether it asks to
resume a session. -/
structure TlsOffer where
  version : Nat
  suites : List TlsSuite
  groups : List TlsGroup
  signatures : List TlsSignature
  resume : Bool
deriving DecidableEq, Repr

/-- The energy transfer mode that a vehicle asks for under ISO 15118-2 (R248). -/
inductive EnergyMode where
  | acSinglePhaseCore | acThreePhaseCore | other
deriving DecidableEq, Repr

/-- What a vehicle asks for in ChargeParameterDiscovery (R248): the mode and its maximum currents. -/
structure ChargeRequest where
  mode : EnergyMode
  vmax : List Nat
deriving DecidableEq, Repr

/-- ScheduleExchange of a spoke (R248): in Dynamic or Scheduled control mode. -/
structure ScheduleRequest where
  spoke   : Nat
  dynamic : Bool
deriving DecidableEq, Repr

/-- What names a SLAC run (R245): its RunID and the MAC of the vehicle. -/
structure SlacRunId where
  id  : Nat
  mac : Nat
deriving DecidableEq, Repr

/-- What PowerDelivery asks for (R249). -/
inductive PowerRequest where
  | start | stop | renegotiate
deriving DecidableEq, Repr

/-- A Chainline frame (R337): header fields with the CRC received, payload words and MAC. The margin of its header is in
0.1 dB; `erased` is how many of its symbols were erasures (R334, R335). -/
structure ChlFrame where
  ver : Nat
  type : Nat
  len : Nat
  slot : Nat
  addr : Nat
  unit : Nat
  seq : Nat
  relay : Nat
  crc : Nat
  payload : List Nat
  mac : Nat
  margin : Nat
  erased : Nat := 0
deriving DecidableEq, Repr

/-- The header facts of an accepted Chainline command (R339, R340). -/
structure ChlHdr where
  single : Bool
  unit : Nat
  seq : Nat
  slot : Nat
deriving DecidableEq, Repr

/-- A card found by a polling (R358, R359): Type A with its UID bytes or Type B with its PUPI bytes; `iso4` says that it
is ISO/IEC 14443-4 compliant. -/
structure Card where
  typeB : Bool
  uid : List Byte
  iso4 : Bool
  /-- the highest rate it supports, 0-3 for 106, 212, 424, 848 kbit/s (R362) -/
  rate : Nat
  /-- the frame waiting time that it declares, FWI 0-14 (R363) -/
  fwi : Nat := 4
deriving DecidableEq, Repr

/-- A wake source of R457. -/
inductive WakeSource where
  | kodFrame | slacParm | pilotChange | pedalSink | cardDetection | emulationField | keypadLine | chainlineFrame
  | causeChange | knownEvent
deriving DecidableEq, Repr

/-- What boot finds (R440): whether the SFDP tables are supported, the flash size in MiB, the mode its tables offer,
the vault (R382), the real-time clock, and the milliseconds the boot takes. -/
structure BootIn where
  sfdpOk  : Bool
  sizeMiB : Nat
  /-- the modes that its tables show beside single: bit 1 = quad 1-1-4, bit 2 = quad 1-4-4, bit 3 = octal (R429, 30h/0/3) -/
  flashModes : Nat
  jedec : Nat
  vaultValid : Bool
  wallTime : Nat
  clockOk : Bool
  millis  : Nat
deriving DecidableEq, Repr

/-- The commands of the device: one constructor per row of spec/opcode_table.json. `sid` is the session that writes,
`s` a spoke, `v` a written value. -/
inductive Instr where
  | tick (i : TickIn)
  | upstreamFrame (die : Die) (f : UpFrame) (crc : Nat)
  | downstreamFrame (die : Die) (f : DownFrame) (crc : Nat)
  | spokeLinkFailed (die : Die) (dir : LinkDir)
  | linkRetrained (die : Die)
  | planSwitch
  | overrun (engine : Nat) (unreached : List Nat)
  | derailleurRound (port : Nat) (r : RoundIn)
  | watchdogBite (port : Nat) (r : RoundIn)
  | postTriggerEnd
  | manualTrigger (sid : Nat) (v : Int)
  | release (sid : Nat) (v : Int)
  | mapSwitch
  | newSpare (failRows : List Nat)
  | dwellEnd
  | dmaStart (sid ch : Nat)
  | dmaAbort (sid ch : Nat)
  | descriptorComplete (ch : Nat)
  | queueResume (ch fill : Nat) (ended : Bool)
  | descriptorWindowData (sid : Nat) (w : Option Nat)
  | hostAreaData (sid : Nat)
  | clearCount (sid addr : Nat) (v : Int)
  | writeSetting (sid addr type : Nat) (v : Int)
  | settingLogAppend
  | canFdFrame (ctrl : Nat) (f : CanFrame)
  | reassemblyTimeout (ctrl node : Nat)
  | kodDatagram (addr port : Nat) (dest : UdpDest) (data : List Byte)
  | read (r : KodReq) (addrs : List Nat)
  | write (r : KodReq) (items : List WItem)
  | readRun (r : KodReq) (addr count : Nat)
  | writeRun (r : KodReq) (addr type : Nat) (values : List Nat)
  | loginBegin (r : KodReq) (role hostNonce : Nat)
  | loginProof (r : KodReq) (proof : Nat)
  | lockoutEnd (role : Nat)
  | pendingLoginExpiry (sid : Nat)
  | logout (r : KodReq)
  | keepalive (r : KodReq)
  | subscribe (r : KodReq) (b : SubReq)
  | unsubscribe (r : KodReq) (n : Nat)
  | discover (r : KodReq)
  | idleTimeout (sid : Nat)
  | close (sid target : Nat) (v : Int)
  | controllerChange (inst : Nat)
  | kodEnable (sid ctrl : Nat) (v : Int)
  | subscriptionEvaluation
  | bulkOpen (sid region : Nat)
  | bulkData (sid region word : Nat)
  | bulkOffset (sid region off : Nat)
  | bulkFinish (sid region : Nat)
  | bulkCommit (sid region : Nat)
  | bulkAbort (sid region : Nat)
  | stagingFlush (region : Nat)
  | sensorType (sid ch : Nat) (v : Int)
  | spokeGroup (sid s : Nat) (v : Int)
  | groupEnable (sid g : Nat) (v : Int)
  | referenceGroup (sid : Nat) (v : Int)
  | calibrationWrite (sid addr type : Nat) (v : Int)
  | sealOpening
  | sealClosing
  | missingCrossing (g : Nat)
  | snapshotRequest (sid : Nat) (v : Int)
  | snapshotLatch
  | pulseOutputChange (sid po mem : Nat) (v : Int)
  | jitterFreeEnd (po : Nat)
  | clearRegisters (sid : Nat) (v : Int)
  | powerFailDecision
  | flashPowerFailRecord
  | flashRecordCommit
  | powerFailResume
  | journalLatch
  | journalCommit
  | journalWriteFailure
  | slew (sid : Nat) (v : Int)
  | step (sid : Nat) (v : Int)
  | stepEffect
  | tariffActivation
  | rateSwitch
  | demandIntervalClose
  | billingPeriodClose
  | closeNow (sid : Nat) (v : Int)
  | authoriseSpoke (sid : Nat) (v : Int)
  | stop (sid slot : Nat) (v : Int)
  | collect (sid slot : Nat) (v : Int)
  | costRecomputation
  | tokenEntry (sid : Nat) (v : Int)
  | tokenLockoutEnd
  | pilotPeriodStart (s : Nat)
  | pedNop (s : Nat)
  | pedLdi (s d : Nat) (imm : Int)
  | pedLdu (s d imm : Nat)
  | pedMov (s d a : Nat)
  | pedAdd (s d a b : Nat)
  | pedSub (s d a b : Nat)
  | pedAddi (s d a : Nat) (imm : Int)
  | pedAnd (s d a b : Nat)
  | pedOr (s d a b : Nat)
  | pedMin (s d a b : Nat)
  | pedMax (s d a b : Nat)
  | pedEnc (s d a : Nat)
  | pedBr (s cond a b target : Nat)
  | pedBf (s mask target : Nat)
  | pedWait (s : Nat) (start : Bool) (mask : Nat)
  | pedYield (s : Nat)
  | pedTake (s d : Nat) (start : Bool) (mask : Nat)
  | pedIn (s d src : Nat)
  | pedOut (s a sink : Nat)
  | pedOuti (s imm sink : Nat)
  | pedTset (s n a : Nat)
  | pedTseti (s n imm : Nat)
  | pedNote (s a code : Nat)
  | pedHalt (s : Nat)
  | timerExpiry (s n : Nat)
  | programSwitch (s : Nat)
  | pedalRestart (sid s : Nat) (v : Int)
  | broadcast (sid : Nat) (v : Int)
  | offerLapse (s : Nat)
  | softGraceEnd (s : Nat)
  | seccDiscovery (s : Nat)
  | supportedAppProtocol (s offered : Nat)
  | cmSlacParmReq (rx : List Nat) (run mac : Nat)
  | cmStartAttenCharInd (rx : List Nat) (run mac : Nat)
  | cmMnbcSoundInd (run : SlacRunId) (atten : List (Nat × List Nat))
  | soundingWindowEnd (run : SlacRunId)
  | cmSlacMatchReq (s run mac : Nat)
  | cmValidateReq (s : Nat)
  | matchTimeout (s : Nat)
  | sessionSetup (s : Nat) (evccid : Nat)
  | serviceDiscovery (s : Nat)
  | serviceDetail (s service : Nat)
  | paymentServiceSelection (s : Nat) (contract : Bool)
  | paymentDetails (s emaid : Nat) (chain : List Nat)
  | authorizationSetup (s : Nat)
  | authorization (s : Nat) (contract : Option (Nat × List Nat))
  | serviceSelection (s : Nat) (bpt : Bool)
  | chargeParameterDiscovery (s : Nat) (asked : ChargeRequest)
  | acChargeParameterDiscovery (s : Nat) (vmax : List Nat) (vdis : Nat)
  | scheduleExchange (asked : ScheduleRequest)
  | powerDelivery (s : Nat) (p : PowerRequest)
  | powerDeliveryTimeout (s : Nat)
  | chargingStatus (s : Nat)
  | acChargeLoop (s : Nat) (vmax : List Nat) (vdis : Nat)
  | meteringReceipt (s : Nat)
  | meteringConfirmation (s : Nat)
  | sessionStop (s : Nat)
  | unsupportedMessage (s : Nat)
  | abnormalLoss (s : Nat) (tcpClosed : Bool)
  | orderlyStopTimeout (s : Nat)
  | tlsHandshake (s : Nat) (o : TlsOffer)
  | tlsFallbackTimeout (s : Nat)
  | contractDecision (sid s : Nat) (v : Int)
  | contractDecisionTimeout (s : Nat)
  | allocationPeriod (finished : Bool)
  | guardStage1 (c ph : Nat)
  | guardStage2 (c ph : Nat)
  | guardStage3 (c ph : Nat)
  | guardRecovery (c ph : Nat)
  | capActivation (slot : Nat)
  | capEnd (slot : Nat)
  | reboundDelayEnd
  | underVoltage (bank : Nat)
  | channelRestart (ch : Nat)
  | thermalLatch (ch : Nat)
  | clearLatch (sid ch : Nat) (v : Int)
  | offPulse (ch : Nat)
  | strokeEnd (s : Nat)
  | brakeEnd (s : Nat)
  | lkOvertimeStop (s : Nat)
  | weldLockout (s : Nat)
  | clearWeldLockout (sid s : Nat) (v : Int)
  | hxCommand (sid h : Nat) (v : Int)
  | functionDemand (f : Nat)
  | functionClear (f : Nat)
  | functionReset (sid f : Nat) (v : Int)
  | discrepancy (f : Nat)
  | residualTrip (s pt : Nat)
  | crossCheckFailure (s : Nat)
  | testWinding (s : Nat)
  | testWindingResult (s : Nat)
  | earthFault (g : Nat)
  | earthClear (g : Nat)
  | clearLockout (sid s : Nat) (v : Int)
  | clearDeviceFault (sid : Nat) (v : Int)
  | safetyDomainFault
  | tandemSend
  | tandemCopy (net : Nat) (msg : List Byte)
  | missingTwin (m seq : Nat)
  | tandemSilence (m : Nat)
  | firmwareRestart
  | leaseReclaim
  | leaseExpiry
  | outboundFrame (f : ChlFrame)
  | timeAlign (h : ChlHdr) (mc : Nat)
  | timeSet (h : ChlHdr) (target mcLow : Nat) (slewOk : Bool)
  | snapshot (h : ChlHdr) (mc : Nat)
  | billingClose (h : ChlHdr) (mc : Nat)
  | mcTargetReached
  | drCap (h : ChlHdr) (ident target mask cap duration start : Nat)
  | drCancel (h : ChlHdr) (ident : Nat)
  | tariffBegin (h : ChlHdr) (tid size : Nat)
  | tariffData (h : ChlHdr) (tid off : Nat) (words : List Nat)
  | tariffEnd (h : ChlHdr) (tid : Nat)
  | tariffAbort (h : ChlHdr) (tid : Nat)
  | tariffIdleTimeout
  | chainlineRead (h : ChlHdr) (shadow : Bool) (idx : List Nat)
  | reregister (h : ChlHdr) (window : Nat)
  | registration
  | repeater (h : ChlHdr) (relay vetoHours : Nat)
  | ack (h : ChlHdr) (seq : Nat)
  | inboundFrame (f : ChlFrame)
  | inboundSend
  | ackTimeout (seq : Nat)
  | orphanCall
  | hello
  | neighbourExpiry (addr : Nat)
  | ping (a response : Nat) (field : Bool)
  | polling (a : Nat) (cards : List Card) (limit : Bool)
  | settleEnd (a : Nat)
  | decision (sid a : Nat) (v : Int)
  | decisionTimeout (a : Nat)
  | apduCommand (sid a : Nat) (apdu : List Byte)
  | waitingTimeCap (a : Nat)
  | emulationApdu (apdu : List Byte)
  | emulationWtx
  | externalField
  | fieldAbsent
  | keyPress (key : Nat)
  | keyRelease (key : Nat)
  | entryTimeout
  | reqa
  | wupa
  | anticollision (level : Nat) (bits : Nat) (uid : Nat)
  | hlta
  | tagRead (page : Nat)
  | tagWrite (page : Nat) (data : List Byte) (supplyOk : Bool)
  | commitMarkerWrite (page : Nat) (data : List Byte) (supplyOk : Bool)
  | fdetRelease
  | fdetLow
  | identityRewrite
  | tamper (source : Nat)
  | bump (sid i : Nat) (v : Int)
  | keyInstall (sid slot nonce cipher len tag : Nat)
  | replaceRoot (sid : Nat) (v : Int)
  | ownerKey (sid : Nat) (len point : Nat)
  | randomGeneratorFailure
  | histogramDefinition (sid addr : Nat) (v : Int)
  | freeze (sid : Nat) (v : Int)
  | freezeEnd
  | clearHistogram (sid h : Nat) (v : Int)
  | clearExtreme (sid x : Nat) (v : Int)
  | clearRing (sid : Nat) (v : Int)
  | saveNow (sid : Nat) (v : Int)
  | saveComplete (ok : Bool)
  | updateRequest (sid : Nat) (v : Int)
  | displayAdmission (loopLow loopHigh : Bool)
  | panelFrame (underruns : List Nat)
  | powerGood (reg : Nat) (temp : Option Int)
  | powerGoodTimeout
  | displayIdle
  | panelTemperatureRead (temp : Option Int)
  | clearCrack (sid : Nat) (v : Int) (loopLow loopHigh : Bool)
  | drawData (sid : Nat) (w : Option Nat)
  | flashOperationComplete (ok : Bool)
  | powerFailAreaErase (slot : Nat) (ok : Bool)
  | boot (b : BootIn)
  | imageVerification (region : Nat)
  | commitEffect (region : Nat)
  | trialWindowEnd
  | confirm (sid : Nat) (v : Int)
  | selfConfirmation
  | rejectTrial (sid : Nat) (v : Int)
  | knownEventExit
  | wake (src : WakeSource)
  | workstand (sid : Nat) (v : Int)
  | restart (sid : Nat) (v : Int)
  | commandedRestart
  | softwareRestart
  | controlCoreWatchdog (core : Nat)
  | pllLockLoss (pll : Nat)
  | powerOnReset
  | brownOut (mainLost : Bool)
  | rstN
  | bistPassDue (t : Nat)
  | adcTest (s : Nat)
  | adcTestEnd
  | programFuses (sid : Nat) (v : Int)
  | apduResponse (a : Nat) (wtx : Option Nat) (resp : List Byte)
  | tagFieldLost
  | vbatLow
  | echoRequest (v6 : Bool) (src : Nat) (payload : List Byte)
  | neighbourDiscovery (src : Nat)
  | arpRequest (src target : Nat)
deriving DecidableEq, Repr

end Sys2Proof
end

