-- ==== Sys2Proof/WellFormed.lean ====
section
/-! DEFINITION. Which commands are well formed: every operand lies in the range that the spec gives it (spokes 0-23,
sessions 1-32 with 0 for none, work words 0-7, the immediate widths of R229, the sinks of R231, the instances of the
object tables). A command outside it names something the device does not have; the machine then changes nothing there. -/

namespace Sys2Proof

/-- The condition operands of BR (R229): condition 0-7, B 0 for conditions 0 and 5-7, A 0 for condition 0. -/
def brOk (cond a b : Nat) : Bool :=
  cond < 8 && a < 8 && b < 8 && (cond ≠ 0 || a = 0) && (!(cond = 0 || 5 ≤ cond) || b = 0)

/-- A panel temperature as the panel driver IC gives it (R420, 24h/0/19): one signed byte, or none where the read
failed. -/
def tempOk : Option Int → Bool
  | some t => (-128 ≤ t) && (t ≤ 127)
  | none => true

/-- The value range of a sink (R231). -/
def sinkMax : Nat → Option Nat
  | 0 => some 4
  | 1 => some 2000
  | 2 => some 1
  | 3 => some 2
  | 4 => some 1
  | 5 => some 2
  | 6 => some 1
  | 7 => some 4095
  | _ => none

/-- Is `v` a value of sink `n` (R231)? The replace sink takes 1 only. -/
def sinkOk (n v : Nat) : Bool :=
  match sinkMax n with
  | some m => v ≤ m && (n ≠ 6 || v = 1)
  | none => false

/-- Every operand in its range. -/
def Instr.wellFormed : Instr → Bool
  | .tick _ => true
  | .upstreamFrame _ _ _ => true
  | .downstreamFrame _ _ _ => true
  | .spokeLinkFailed _ _ => true
  | .linkRetrained _ => true
  | .planSwitch => true
  | .overrun engine _ => engine ≤ 8
  | .derailleurRound port _ => 1 ≤ port && port ≤ 3
  | .watchdogBite port _ => 1 ≤ port && port ≤ 3
  | .postTriggerEnd => true
  | .manualTrigger sid _ => sid ≤ 32
  | .release sid _ => sid ≤ 32
  | .mapSwitch => true
  | .newSpare _ => true
  | .dwellEnd => true
  | .dmaStart sid ch => sid ≤ 32 && ch < 16
  | .dmaAbort sid ch => sid ≤ 32 && ch < 16
  | .descriptorComplete ch => ch < 16
  | .queueResume ch _ _ => ch < 16
  | .descriptorWindowData sid _ => sid ≤ 32
  | .hostAreaData sid => sid ≤ 32
  | .clearCount sid addr _ => sid ≤ 32 && addr < 16777216
  | .writeSetting sid addr _ _ => sid ≤ 32 && addr < 16777216
  | .settingLogAppend => true
  | .canFdFrame ctrl _ => 1 ≤ ctrl && ctrl ≤ 2
  | .reassemblyTimeout ctrl _ => 1 ≤ ctrl && ctrl ≤ 2
  | .kodDatagram _ _ _ _ => true
  | .read _ _ => true
  | .write _ _ => true
  | .readRun _ addr _ => addr < 16777216
  | .writeRun _ addr _ _ => addr < 16777216
  | .loginBegin _ _ _ => true
  | .loginProof _ _ => true
  | .lockoutEnd role => role < 6
  | .pendingLoginExpiry sid => sid ≤ 32
  | .logout _ => true
  | .keepalive _ => true
  | .subscribe _ _ => true
  | .unsubscribe _ _ => true
  | .discover _ => true
  | .idleTimeout sid => sid ≤ 32
  | .close sid target _ => sid ≤ 32 && 1 ≤ target && target ≤ 32
  | .controllerChange inst => 1 ≤ inst && inst ≤ 3
  | .kodEnable sid ctrl _ => sid ≤ 32 && 1 ≤ ctrl && ctrl ≤ 2
  | .subscriptionEvaluation => true
  | .bulkOpen sid region => sid ≤ 32 && region < 6
  | .bulkData sid region _ => sid ≤ 32 && region < 6
  | .bulkOffset sid region _ => sid ≤ 32 && region < 6
  | .bulkFinish sid region => sid ≤ 32 && region < 6
  | .bulkCommit sid region => sid ≤ 32 && region < 6
  | .bulkAbort sid region => sid ≤ 32 && region < 6
  | .stagingFlush region => region < 6
  | .sensorType sid ch _ => sid ≤ 32 && ch < 152
  | .spokeGroup sid s _ => sid ≤ 32 && s < 24
  | .groupEnable sid g _ => sid ≤ 32 && g < 8
  | .referenceGroup sid _ => sid ≤ 32
  | .calibrationWrite sid addr _ _ => sid ≤ 32 && addr < 16777216
  | .sealOpening => true
  | .sealClosing => true
  | .missingCrossing g => g < 8
  | .snapshotRequest sid _ => sid ≤ 32
  | .snapshotLatch => true
  | .pulseOutputChange sid po mem _ => sid ≤ 32 && po < 4 && mem ≤ 7
  | .jitterFreeEnd po => po < 4
  | .clearRegisters sid _ => sid ≤ 32
  | .powerFailDecision => true
  | .flashPowerFailRecord => true
  | .flashRecordCommit => true
  | .powerFailResume => true
  | .journalLatch => true
  | .journalCommit => true
  | .journalWriteFailure => true
  | .slew sid _ => sid ≤ 32
  | .step sid _ => sid ≤ 32
  | .stepEffect => true
  | .tariffActivation => true
  | .rateSwitch => true
  | .demandIntervalClose => true
  | .billingPeriodClose => true
  | .closeNow sid _ => sid ≤ 32
  | .authoriseSpoke sid _ => sid ≤ 32
  | .stop sid slot _ => sid ≤ 32 && slot < 48
  | .collect sid slot _ => sid ≤ 32 && slot < 48
  | .costRecomputation => true
  | .tokenEntry sid _ => sid ≤ 32
  | .tokenLockoutEnd => true
  | .pilotPeriodStart s => s < 24
  | .pedNop s => s < 24
  | .pedLdi s d imm => s < 24 && d < 8 && -4194304 ≤ imm && imm < 4194304
  | .pedLdu s d imm => s < 24 && d < 8 && imm < 1048576
  | .pedMov s d a => s < 24 && d < 8 && a < 8
  | .pedAdd s d a b => s < 24 && d < 8 && a < 8 && b < 8
  | .pedSub s d a b => s < 24 && d < 8 && a < 8 && b < 8
  | .pedAddi s d a imm => s < 24 && d < 8 && a < 8 && -65536 ≤ imm && imm < 65536
  | .pedAnd s d a b => s < 24 && d < 8 && a < 8 && b < 8
  | .pedOr s d a b => s < 24 && d < 8 && a < 8 && b < 8
  | .pedMin s d a b => s < 24 && d < 8 && a < 8 && b < 8
  | .pedMax s d a b => s < 24 && d < 8 && a < 8 && b < 8
  | .pedEnc s d a => s < 24 && d < 8 && a < 8
  | .pedBr s cond a b target => s < 24 && brOk cond a b && target < 256
  | .pedBf s mask target => s < 24 && mask < 65536 && target < 256
  | .pedWait s _ mask => s < 24 && mask < 65536
  | .pedYield s => s < 24
  | .pedTake s d _ mask => s < 24 && d < 8 && mask < 65536
  | .pedIn s d src => s < 24 && d < 8 && src ≤ 17
  | .pedOut s a sink => s < 24 && a < 8 && sink ≤ 7
  | .pedOuti s imm sink => s < 24 && sinkOk sink imm
  | .pedTset s n a => s < 24 && n < 4 && a < 8
  | .pedTseti s n imm => s < 24 && n < 4 && imm < 1048576
  | .pedNote s a code => s < 24 && a < 8 && code < 128
  | .pedHalt s => s < 24
  | .timerExpiry s n => s < 24 && n < 4
  | .programSwitch s => s < 24
  | .pedalRestart sid s _ => sid ≤ 32 && s < 24
  | .broadcast sid _ => sid ≤ 32
  | .offerLapse s => s < 24
  | .softGraceEnd s => s < 24
  | .seccDiscovery s => s < 24
  | .supportedAppProtocol s _ => s < 24
  | .cmSlacParmReq _ _ _ => true
  | .cmStartAttenCharInd _ _ _ => true
  | .cmMnbcSoundInd _ _ => true
  | .soundingWindowEnd _ => true
  | .cmSlacMatchReq s _ _ => s < 24
  | .cmValidateReq s => s < 24
  | .matchTimeout s => s < 24
  | .sessionSetup s _ => s < 24
  | .serviceDiscovery s => s < 24
  | .serviceDetail s _ => s < 24
  | .paymentServiceSelection s _ => s < 24
  | .paymentDetails s _ _ => s < 24
  | .authorizationSetup s => s < 24
  | .authorization s _ => s < 24
  | .serviceSelection s _ => s < 24
  | .chargeParameterDiscovery s _ => s < 24
  | .acChargeParameterDiscovery s _ _ => s < 24
  | .scheduleExchange asked => asked.spoke < 24
  | .powerDelivery s _ => s < 24
  | .powerDeliveryTimeout s => s < 24
  | .chargingStatus s => s < 24
  | .acChargeLoop s _ _ => s < 24
  | .meteringReceipt s => s < 24
  | .meteringConfirmation s => s < 24
  | .sessionStop s => s < 24
  | .unsupportedMessage s => s < 24
  | .abnormalLoss s _ => s < 24
  | .orderlyStopTimeout s => s < 24
  | .tlsHandshake s _ => s < 24
  | .tlsFallbackTimeout s => s < 24
  | .contractDecision sid s _ => sid ≤ 32 && s < 24
  | .contractDecisionTimeout s => s < 24
  | .allocationPeriod _ => true
  | .guardStage1 c ph => c ≤ 8 && ph < 3
  | .guardStage2 c ph => c ≤ 8 && ph < 3
  | .guardStage3 c ph => c ≤ 8 && ph < 3
  | .guardRecovery c ph => c ≤ 8 && ph < 3
  | .capActivation slot => 48 ≤ slot && slot ≤ 55
  | .capEnd slot => 48 ≤ slot && slot ≤ 55
  | .reboundDelayEnd => true
  | .underVoltage bank => bank < 4
  | .channelRestart ch => ch < 104
  | .thermalLatch ch => ch < 104
  | .clearLatch sid ch _ => sid ≤ 32 && ch < 104
  | .offPulse ch => ch < 104
  | .strokeEnd s => s < 24
  | .brakeEnd s => s < 24
  | .lkOvertimeStop s => s < 24
  | .weldLockout s => s < 24
  | .clearWeldLockout sid s _ => sid ≤ 32 && s < 24
  | .hxCommand sid h _ => sid ≤ 32 && h < 8
  | .functionDemand f => f < 4
  | .functionClear f => f < 4
  | .functionReset sid f _ => sid ≤ 32 && f < 4
  | .discrepancy f => f < 4
  | .residualTrip s pt => s < 24 && pt < 5
  | .crossCheckFailure s => s < 24
  | .testWinding s => s < 24
  | .testWindingResult s => s < 24
  | .earthFault g => g < 8
  | .earthClear g => g < 8
  | .clearLockout sid s _ => sid ≤ 32 && s < 24
  | .clearDeviceFault sid _ => sid ≤ 32
  | .safetyDomainFault => true
  | .tandemSend => true
  | .tandemCopy net _ => net < 2
  | .missingTwin m _ => m < 16
  | .tandemSilence m => m < 16
  | .firmwareRestart => true
  | .leaseReclaim => true
  | .leaseExpiry => true
  | .outboundFrame _ => true
  | .timeAlign _ _ => true
  | .timeSet _ _ _ _ => true
  | .snapshot _ _ => true
  | .billingClose _ _ => true
  | .mcTargetReached => true
  | .drCap _ _ _ _ _ _ _ => true
  | .drCancel _ _ => true
  | .tariffBegin _ _ _ => true
  | .tariffData _ _ _ _ => true
  | .tariffEnd _ _ => true
  | .tariffAbort _ _ => true
  | .tariffIdleTimeout => true
  | .chainlineRead _ _ _ => true
  | .reregister _ _ => true
  | .registration => true
  | .repeater _ _ _ => true
  | .ack _ _ => true
  | .inboundFrame _ => true
  | .inboundSend => true
  | .ackTimeout _ => true
  | .orphanCall => true
  | .hello => true
  | .neighbourExpiry _ => true
  | .ping a _ _ => a < 24
  | .polling a _ _ => a < 24
  | .settleEnd a => a < 24
  | .decision sid a _ => sid ≤ 32 && a < 24
  | .decisionTimeout a => a < 24
  | .apduCommand sid a _ => sid ≤ 32 && a < 24
  | .waitingTimeCap a => a < 24
  | .emulationApdu _ => true
  | .emulationWtx => true
  | .externalField => true
  | .fieldAbsent => true
  | .keyPress key => key < 16
  | .keyRelease key => key < 16
  | .entryTimeout => true
  | .reqa => true
  | .wupa => true
  | .anticollision level _ _ => 1 ≤ level && level ≤ 2
  | .hlta => true
  | .tagRead page => page < 516
  | .tagWrite page _ _ => page < 516
  | .commitMarkerWrite page _ _ => page < 516
  | .fdetRelease => true
  | .fdetLow => true
  | .identityRewrite => true
  | .tamper source => source < 256
  | .bump sid i _ => sid ≤ 32 && i < 8
  | .keyInstall sid slot _ _ _ _ => sid ≤ 32 && 16 ≤ slot && slot ≤ 27
  | .replaceRoot sid _ => sid ≤ 32
  | .ownerKey sid _ _ => sid ≤ 32
  | .randomGeneratorFailure => true
  | .histogramDefinition sid addr _ => sid ≤ 32 && addr < 16777216
  | .freeze sid _ => sid ≤ 32
  | .freezeEnd => true
  | .clearHistogram sid h _ => sid ≤ 32 && h < 1024
  | .clearExtreme sid x _ => sid ≤ 32 && x < 512
  | .clearRing sid _ => sid ≤ 32
  | .saveNow sid _ => sid ≤ 32
  | .saveComplete _ => true
  | .updateRequest sid _ => sid ≤ 32
  | .displayAdmission _ _ => true
  | .panelFrame _ => true
  | .powerGood reg temp => reg < 256 && tempOk temp
  | .powerGoodTimeout => true
  | .displayIdle => true
  | .panelTemperatureRead temp => tempOk temp
  | .clearCrack sid _ _ _ => sid ≤ 32
  | .drawData sid _ => sid ≤ 32
  | .flashOperationComplete _ => true
  | .powerFailAreaErase slot _ => slot < 32
  | .boot _ => true
  | .imageVerification region => region < 6
  | .commitEffect region => region < 6
  | .trialWindowEnd => true
  | .confirm sid _ => sid ≤ 32
  | .selfConfirmation => true
  | .rejectTrial sid _ => sid ≤ 32
  | .knownEventExit => true
  | .wake _ => true
  | .workstand sid _ => sid ≤ 32
  | .restart sid _ => sid ≤ 32
  | .commandedRestart => true
  | .softwareRestart => true
  | .controlCoreWatchdog core => core < 4
  | .pllLockLoss pll => 1 ≤ pll && pll ≤ 5
  | .powerOnReset => true
  | .brownOut _ => true
  | .rstN => true
  | .bistPassDue t => 1 ≤ t && t ≤ 6
  | .adcTest s => s < 24
  | .adcTestEnd => true
  | .programFuses sid _ => sid ≤ 32
  | .apduResponse a _ _ => a < 24
  | .tagFieldLost => true
  | .vbatLow => true
  | .echoRequest _ _ _ => true
  | .neighbourDiscovery _ => true
  | .arpRequest _ _ => true

end Sys2Proof
end

