-- ==== Sys2Proof/Decode.lean ====
section
/-! DEFINITION. The pedal instruction words (R228, R229): decoder and encoder, and `decodeTableWord`. The opcode table of
the block gives none of its rows any bits, so no table word spells a command; the only encoded commands of the device are
the 24 pedal instructions, whose words stand in a pedal image (R220). -/

namespace Sys2Proof

/-- The command that a word of the table's bits spells: none, since no row has bits. -/
def decodeTableWord (_nbits _w : Nat) : Option Instr := none

/-- Bits `lo + n - 1` to `lo` of a word. -/
def wordField (w lo n : Nat) : Nat := w / 2 ^ lo % 2 ^ n

/-- An `n`-bit field read as two's complement. -/
def wordSigned (n x : Nat) : Int := if x < 2 ^ (n - 1) then x else (x : Int) - 2 ^ n

/-- The `n`-bit field of an integer. -/
def wordUnsigned (n : Nat) (v : Int) : Nat := (v % 2 ^ n).toNat

/-- `i` when the word uses only its fields and they lie in range, else no instruction (R221, R228). -/
def accept (reservedZero : Bool) (i : Instr) : Option Instr :=
  if reservedZero && i.wellFormed then some i else none

/-- The instruction a pedal word spells in the program of spoke `s`; none for an undefined opcode, a reserved bit that is
not 0 or a field out of range (R221, R228, R229). -/
def decodePedal (s : Nat) (x : PedalWord) : Option Instr :=
  let w := x.toNat
  let d := wordField w 23 3
  let a := wordField w 20 3
  let b := wordField w 17 3
  match wordField w 26 6 with
  | 0x00 => accept (wordField w 0 26 = 0) (.pedNop s)
  | 0x01 => accept true (.pedLdi s d (wordSigned 23 (wordField w 0 23)))
  | 0x02 => accept (wordField w 20 3 = 0) (.pedLdu s d (wordField w 0 20))
  | 0x03 => accept (wordField w 0 20 = 0) (.pedMov s d a)
  | 0x04 => accept (wordField w 0 17 = 0) (.pedAdd s d a b)
  | 0x05 => accept (wordField w 0 17 = 0) (.pedSub s d a b)
  | 0x06 => accept (wordField w 17 3 = 0) (.pedAddi s d a (wordSigned 17 (wordField w 0 17)))
  | 0x07 => accept (wordField w 0 17 = 0) (.pedAnd s d a b)
  | 0x08 => accept (wordField w 0 17 = 0) (.pedOr s d a b)
  | 0x09 => accept (wordField w 0 17 = 0) (.pedMin s d a b)
  | 0x0A => accept (wordField w 0 17 = 0) (.pedMax s d a b)
  | 0x0B => accept (wordField w 0 20 = 0) (.pedEnc s d a)
  | 0x10 => accept (wordField w 8 9 = 0) (.pedBr s d a b (wordField w 0 8))
  | 0x11 => accept (wordField w 24 2 = 0) (.pedBf s (wordField w 8 16) (wordField w 0 8))
  | 0x13 => accept (wordField w 17 9 = 0) (.pedWait s (wordField w 16 1 = 1) (wordField w 0 16))
  | 0x14 => accept (wordField w 0 26 = 0) (.pedYield s)
  | 0x15 => accept (wordField w 17 6 = 0) (.pedTake s d (wordField w 16 1 = 1) (wordField w 0 16))
  | 0x16 => accept (wordField w 8 15 = 0) (.pedIn s d (wordField w 0 8))
  | 0x17 => accept (wordField w 23 3 = 0 && wordField w 8 12 = 0) (.pedOut s a (wordField w 0 8))
  | 0x18 => accept (wordField w 20 6 = 0) (.pedOuti s (wordField w 8 12) (wordField w 0 8))
  | 0x19 => accept (wordField w 23 1 = 0 && wordField w 0 20 = 0) (.pedTset s (wordField w 24 2) a)
  | 0x1A => accept (wordField w 20 4 = 0) (.pedTseti s (wordField w 24 2) (wordField w 0 20))
  | 0x1B => accept (wordField w 23 3 = 0 && wordField w 7 13 = 0) (.pedNote s a (wordField w 0 7))
  | 0x3F => accept (wordField w 0 26 = 0) (.pedHalt s)
  | _ => none

/-- The numeric word of opcode, D, A and B fields and the low part. -/
def pedalFields (op d a b low : Nat) : Nat := op * 2 ^ 26 + d * 2 ^ 23 + a * 2 ^ 20 + b * 2 ^ 17 + low

/-- The S bit of WAIT and TAKE. -/
def startBit (st : Bool) : Nat := if st then 2 ^ 16 else 0

/-- The word of a pedal instruction (R228, R229); none for every other command. -/
def encodePedalNat : Instr → Option Nat
  | .pedNop _ => some (pedalFields 0x00 0 0 0 0)
  | .pedLdi _ d imm => some (pedalFields 0x01 d 0 0 (wordUnsigned 23 imm))
  | .pedLdu _ d imm => some (pedalFields 0x02 d 0 0 imm)
  | .pedMov _ d a => some (pedalFields 0x03 d a 0 0)
  | .pedAdd _ d a b => some (pedalFields 0x04 d a b 0)
  | .pedSub _ d a b => some (pedalFields 0x05 d a b 0)
  | .pedAddi _ d a imm => some (pedalFields 0x06 d a 0 (wordUnsigned 17 imm))
  | .pedAnd _ d a b => some (pedalFields 0x07 d a b 0)
  | .pedOr _ d a b => some (pedalFields 0x08 d a b 0)
  | .pedMin _ d a b => some (pedalFields 0x09 d a b 0)
  | .pedMax _ d a b => some (pedalFields 0x0A d a b 0)
  | .pedEnc _ d a => some (pedalFields 0x0B d a 0 0)
  | .pedBr _ cond a b target => some (pedalFields 0x10 cond a b target)
  | .pedBf _ mask target => some (pedalFields 0x11 0 0 0 (mask * 2 ^ 8 + target))
  | .pedWait _ st mask => some (pedalFields 0x13 0 0 0 (startBit st + mask))
  | .pedYield _ => some (pedalFields 0x14 0 0 0 0)
  | .pedTake _ d st mask => some (pedalFields 0x15 d 0 0 (startBit st + mask))
  | .pedIn _ d src => some (pedalFields 0x16 d 0 0 src)
  | .pedOut _ a sink => some (pedalFields 0x17 0 a 0 sink)
  | .pedOuti _ imm sink => some (pedalFields 0x18 0 0 0 (imm * 2 ^ 8 + sink))
  | .pedTset _ n a => some (pedalFields 0x19 0 a 0 (n * 2 ^ 24))
  | .pedTseti _ n imm => some (pedalFields 0x1A 0 0 0 (n * 2 ^ 24 + imm))
  | .pedNote _ a code => some (pedalFields 0x1B 0 a 0 code)
  | .pedHalt _ => some (pedalFields 0x3F 0 0 0 0)
  | _ => none

/-- The word of a pedal instruction. -/
def encodePedal (i : Instr) : Option PedalWord := (encodePedalNat i).map (BitVec.ofNat 32)

end Sys2Proof
end

