-- ==== Sys2Proof/Config.lean ====
section
/-! DEFINITION. What the spec leaves to the part at hand: free values, results of cryptography over secret keys, and the
analogue and rounding choices that no rule states. Every one is an opaque constant without a body, so a claim about the
machine holds for every choice. -/

namespace Sys2Proof.Config

/-- The n-th free value (R85 nonces, R271 and R344 delays, R386 roots, and every value the spec leaves undefined). It is
applied to the counter `State.draw`. Log entry 9. -/
opaque free : Nat → Nat

/-- Which neighbour an exact quantity that is not a whole number of units is rounded to (`true` = up): no rule states the
rounding of R128-R138. Log entry 8. -/
opaque roundsUp : Rat → Bool

/-- HMAC-SHA-256 of a key over bytes, as a 256-bit number (R86). Log entry 7. -/
opaque hmacSha256 : Nat → List Nat → Nat

/-- AES-256-CMAC of a key over bytes, as a 128-bit number (R86, R158, R164, R338, R412). Log entry 7. -/
opaque cmac : Nat → List Nat → Nat

/-- AES-256-GCM opening: key, nonce, associated bytes, ciphertext and tag; none when the tag fails (R391). Log entry 7. -/
opaque gcmOpen : Nat → Nat → List Nat → Nat → Nat → Option Nat

/-- AES-256-GCM sealing: key, nonce, associated bytes, key sealed; the ciphertext and the tag (R388). Log entry 7. -/
opaque gcmSeal : Nat → Nat → List Nat → Nat → Nat
opaque gcmTag : Nat → Nat → List Nat → Nat → Nat

/-- SHA-384 of a byte string (R396, R436). Log entry 7. -/
opaque sha384 : List Nat → Nat

/-- The hash H0 in OTP (R396). -/
opaque h0 : Nat

/-- Does the ECDSA P-384 signature of an image's words verify under the key the image carries (R435)? Log entry 7. -/
opaque signatureOk : List Nat → Bool

/-- Does a DER text hold a root certificate of a permitted key type (R398)? -/
opaque rootOk : List Nat → Bool

/-- Does a vehicle's contract chain verify against the roots in the assets at a wall time (R250, R398)? -/
opaque chainOk : List Nat → List Nat → Nat → Bool

/-- Does the signature of a commissioning record verify (R376, R396): the owner key's 97 bytes (none while it is not programmed: the
key whose hash is H0), the bytes signed, the 96 bytes of the signature. Log entry 7. -/
opaque commissioningOk : List Nat → List Nat → List Nat → Bool

/-- Where in its band each of the eight safety inputs begins to read clear and begins to read demand (R490). Log
entry 51. -/
opaque inputRises : Nat → Nat
opaque inputFalls : Nat → Nat

/-- The error of the metering engine's arithmetic in a cosine, a sine and an argument (R133), and in the pole and the gain of its
high-pass filter (R128 step 5); `Machine/Trig.lean` holds each within its bound. Log entry 10. -/
opaque trigError : Nat → Rat → Rat
opaque poleError : Rat
opaque gainError : Rat

/-- The argument that is published for a phasor of 0 (R133). -/
opaque angleOfZero : Rat

/-- Program counter and instruction count that the built-in pedal program shows (R236 gives its behaviour, not its
text): a spoke and a tick. -/
opaque builtinPc : Nat → Nat → Nat
opaque builtinCount : Nat → Nat → Nat

/-- Values fixed at manufacture in OTP memory (R99, R353): MAC address of the device and node address of
Chainline. -/
opaque deviceMac : Nat
opaque nodeAddress : Nat

/-- The station MAC of each spoke, from OTP (R239). -/
opaque stationMac : Nat → Nat

/-- The bootstrap credential B (R393), formed from a seed in OTP. -/
opaque bootstrapCredential : Nat

/-- The TXT32 text of a UDP endpoint's address and port (R99 names its content, not its form). -/
opaque endpointText : Nat → Nat → Nat

/-- The tag's UID (R371), seven bytes. -/
opaque tagUid : List Byte

/-- The internal byte and the two lock bytes of the tag's page 2 (R371 names them without their bytes). Log entry 35. -/
opaque tagFixed : Nat → Nat

/-- The capability container file E103h of the emulated Type 4 Tag (R365 names it without its bytes). -/
opaque ccFile : List Byte

/-- The value of notice 0503h (R183 names none): one for every short close, so that its repeats are counted (R408). Log entry
21. -/
opaque shortCloseValue : Nat

/-- The temperature in 0.01 °C that a die monitor's 16-bit word stands for (R19 and R405 name both, no rule the scale). -/
opaque dieTemperature : Nat → Int

/-- The 32-bit header of a downstream frame (R20 gives its width, not its content): a die and a tick. -/
opaque downHeader : Nat → Nat → Nat

end Sys2Proof.Config
end

