-- ==== Sys2Proof/Machine/Bits.lean ====
section
/-! DEFINITION. Bits and bytes: field extraction, two's complement, bytes of a word (R9), the CRCs of R499, rounding of
exact quantities. -/

namespace Sys2Proof.Machine

/-- Bits `hi` to `lo` of a number. -/
def field (w hi lo : Nat) : Nat := w / 2 ^ lo % 2 ^ (hi - lo + 1)

/-- Bit `n` of a number. -/
def bit (w n : Nat) : Bool := w / 2 ^ n % 2 = 1

/-- A number with bit `n` set or cleared. -/
def setBit (w n : Nat) (b : Bool) : Nat :=
  if bit w n = b then w else if b then w + 2 ^ n else w - 2 ^ n

/-- A number with its `n` bits from bit `lo` on replaced. -/
def putField (w lo n v : Nat) : Nat := w - field w (lo + n - 1) lo * 2 ^ lo + v % 2 ^ n * 2 ^ lo

/-- 1 or 0. -/
def b1 (b : Bool) : Int := if b then 1 else 0

/-- The signed reading of an `n`-bit pattern. -/
def signed (n w : Nat) : Int :=
  let m := w % 2 ^ n
  if m < 2 ^ (n - 1) then m else (m : Int) - 2 ^ n

/-- The `n`-bit pattern of an integer (two's complement). -/
def pattern (n : Nat) (v : Int) : Nat := (v % 2 ^ n).toNat

/-- Big-endian bytes of the low `8 * n` bits of a number, most significant byte first (R9). -/
def bytesBE : Nat → Nat → List Nat
  | 0, _ => []
  | n + 1, w => w / 2 ^ (8 * n) % 256 :: bytesBE n w

/-- The number a list of bytes spells, most significant byte first. -/
def numBE (l : List Nat) : Nat := l.foldl (fun a b => a * 256 + b) 0

/-- The six bytes of a 48-bit word (R499). -/
def wordBytes (w : Nat) : List Nat := bytesBE 6 w

/-- Bytes as numbers, and back. -/
def natBytes (l : List Byte) : List Nat := l.map BitVec.toNat
def toBytes (l : List Nat) : List Byte := l.map (BitVec.ofNat 8)

/-- The words of a byte string, six bytes each, the last filled with 00h. -/
def wordsOf : Nat → List Nat → List Nat
  | 0, _ => []
  | _, [] => []
  | n + 1, l => numBE ((l ++ List.replicate (6 - l.length) 0).take 6) :: wordsOf n (l.drop 6)

/-- One bit of the reflected CRC-32 register (R499). -/
def crc32Bit (c : Nat) : Nat := if c % 2 = 1 then Nat.xor (c / 2) 0xEDB88320 else c / 2

/-- One byte of the CRC-32. -/
def crc32Byte (c b : Nat) : Nat :=
  crc32Bit (crc32Bit (crc32Bit (crc32Bit (crc32Bit (crc32Bit (crc32Bit (crc32Bit (Nat.xor c b))))))))

/-- The CRC-32 of R499 over bytes. -/
def crc32 (l : List Nat) : Nat := Nat.xor (l.foldl crc32Byte 0xFFFFFFFF) 0xFFFFFFFF

/-- The CRC-32 with another initial register (R318). -/
def crc32From (init : Nat) (l : List Nat) : Nat := Nat.xor (l.foldl crc32Byte init) 0xFFFFFFFF

/-- One bit of an unreflected CRC of `n` bits with polynomial `p`. -/
def crcBit (n p c : Nat) : Nat := if bit c (n - 1) then Nat.xor (c * 2 % 2 ^ n) p else c * 2 % 2 ^ n

/-- One byte of an unreflected CRC. -/
def crcByte (n p c b : Nat) : Nat :=
  let x := Nat.xor c (b * 2 ^ (n - 8))
  crcBit n p (crcBit n p (crcBit n p (crcBit n p (crcBit n p (crcBit n p (crcBit n p (crcBit n p x)))))))

/-- CRC-16, polynomial 1021h, initial value FFFFh (R337, R371). -/
def crc16 (l : List Nat) : Nat := l.foldl (crcByte 16 0x1021) 0xFFFF

/-- CRC-8, polynomial 07h, initial value 00h (R371, R499). -/
def crc8 (l : List Nat) : Nat := l.foldl (crcByte 8 0x07) 0

/-- An exact quantity as a whole number of units: itself when it is one, else the neighbour that `Config.roundsUp`
chooses (log entry 8). -/
def roundQ (x : Rat) : Int :=
  if x.den = 1 then x.num else if Config.roundsUp x then x.floor + 1 else x.floor

/-- The rounding of R206 and of other rules that say "nearest": half away from zero is the upper neighbour. -/
def nearest (x : Rat) : Int := (x + 1 / 2).floor

/-- The square root of a non-negative exact quantity as a whole number of units (rms values, R133). -/
def rootQ (x : Rat) : Nat :=
  let r := Nat.sqrt x.floor.toNat
  if (r : Rat) * r = x then r else if Config.roundsUp x then r + 1 else r

/-- `v` held between two bounds. -/
def clampI (lo hi v : Int) : Int := max lo (min hi v)

/-- The element at `n`, or `d`. -/
def nth {α : Type} (l : List α) (n : Nat) (d : α) : α := l.getD n d

/-- The list with the element at `n` replaced through `f`. -/
def modAt {α : Type} (l : List α) (n : Nat) (f : α → α) : List α := l.modify n f

/-- The members of a list at which a test holds, as numbers. -/
def indicesWhere {α : Type} (p : α → Bool) (l : List α) : List Nat :=
  (l.zipIdx.filter fun x => p x.1).map Prod.snd

/-- A bit mask as the list of its set bits below `n`. -/
def bitsOf (n w : Nat) : List Nat := (List.range n).filter (bit w)

/-- A list of bit numbers as a mask. -/
def maskOf (l : List Nat) : Nat := l.foldl (fun w n => setBit w n true) 0

/-- The 29-bit identifier of a CAN FD frame (R70). -/
def canIdent (prio service dest src frag : Nat) : Nat :=
  prio * 2 ^ 26 + service * 2 ^ 21 + dest * 2 ^ 14 + src * 2 ^ 7 + frag

end Sys2Proof.Machine
end

