-- ==== Sys2Proof/Machine/State.lean ====
section
/-! DEFINITION. The state of the TRT24 as plain data. Every member the Kanil Object Dictionary shows lives in ONE
store, `State.obj`, keyed by its 24-bit object address (R7) with the defaults of `Machine/ObjTable.lean`; what the spec
gives the machine beside the dictionary stands in the structures below, one per mechanism. Ticks are values of CC. -/

namespace Sys2Proof.Machine

/-- The two ordering codes (R1, R2). -/
inductive Variant where
  | trt24 | trt12
deriving DecidableEq, Repr

/-- Spoke link of one die (R16-R26). -/
structure SpokeLink where
  /-- consecutive downstream frames that failed their CRC at the die (R22) -/
  downFails : Nat := 0
  /-- consecutive upstream frames that failed their CRC at the core die (R22) -/
  upFails : Nat := 0
  /-- the twelve spoke words the die holds for the next tick (R17, R20) -/
  held : List Nat := []
  /-- the HX field the die holds (R20) -/
  heldHx : Nat := 0
  /-- a good downstream frame has arrived since the last tick edge -/
  fresh : Bool := false
  /-- the frame applied at the last tick edge was fresh, so its OPT bits acted (R279) -/
  edgeFresh : Bool := false
  /-- the downstream frame for the next tick edge was discarded (R21) -/
  discarded : Bool := false
  /-- header flag bit 0 of the upstream frame latched at the last tick edge (R19): the downstream frame that was to be applied
  at that edge had been discarded -/
  edgeDiscarded : Bool := false
  /-- a valid downstream frame has arrived since the safety-domain reset (R314) -/
  seen : Bool := false
  /-- the die has removed its drive by itself after three bad frames (R22) -/
  cut : Bool := false
  /-- the upstream frame of the last tick, when its CRC was good -/
  up : Option UpFrame := none
  /-- the last upstream frame was discarded (R21) -/
  upLost : Bool := false
  /-- the downstream frame the core die assembled in this frame (R17) -/
  outgoing : Option DownFrame := none
deriving DecidableEq, Repr

/-- One requester-side port of Pannier and its derailleur (R45-R47). -/
structure Port where
  /-- age A of every requester 0-39 (R45) -/
  ages : List Nat := List.replicate 40 0
  /-- number L of the last winner -/
  last : Nat := 39
  /-- requester granted in the current cycle -/
  grant : Option Nat := none
  /-- requester that holds a lock (R46) -/
  lock : Option Nat := none
  /-- CORE cycles for which the lock has been held (R47) -/
  lockCycles : Nat := 0
  /-- slots used in the running frame -/
  used : Nat := 0
deriving DecidableEq, Repr

/-- The frame plan (R35-R41): the image that runs and the one that waits for its switch tick, as 48-bit words. -/
structure PlanState where
  running : List Nat := []
  waiting : Option (List Nat) := none
  /-- tick at which the waiting plan may switch (R40), and the capture length of its CFG region (R55) -/
  switchTick : Nat := 0
  capture : Nat := 4000
  /-- budgets B of engines 0-8 as the admission of the waiting plan computed them (R39) -/
  budgets : List Nat := []
deriving DecidableEq, Repr

/-- The Pannier store (R49-R59): bank map, contents, error marks, rotation and capture ring. -/
structure Pannier where
  /-- physical bank of logical bank 0-15 (R50) -/
  map : List Nat := List.range 16
  spare : Option Nat := some 16
  retired : List Nat := []
  /-- contents by logical word address, in the canonical form of `Machine/Ops.lean` -/
  mem : List (Nat × Nat) := []
  /-- logical addresses whose word carries an uncorrectable error (R52, R53) -/
  poisoned : List Nat := []
  /-- scrub queues: physical bank and logical address, at most 8 for a bank (R51) -/
  scrub : List (Nat × Nat) := []
  /-- words of the running copy step done (R58) -/
  copied : Nat := 0
  /-- operations of the running March C- test done (R58) -/
  tested : Nat := 0
  /-- physical bank under test -/
  testing : Option Nat := none
  /-- tick at which the dwell ends; the first dwell runs from reset -/
  dwellEnd : Nat := 8000
  /-- capture triggers raised and not yet acted on: mask bits of R57 -/
  triggers : List Nat := []
  /-- capture-ring slot written next (R56) -/
  ringSlot : Nat := 0
  /-- tick at which the post-trigger time ends (R57) -/
  ringStop : Nat := 0
deriving DecidableEq, Repr

/-- What a DMA channel keeps beside its members 03h/48-63 (R61-R68). -/
structure DmaChan where
  /-- the four words of the descriptor that runs -/
  desc : List Nat := []
  /-- words of it already written -/
  index : Nat := 0
  /-- pacing queue bound to the channel (R68) -/
  queue : Option Nat := none
  /-- an abort was written during a locked burst (R66) -/
  aborting : Bool := false
deriving DecidableEq, Repr

/-- A KOD session (R78, R85-R89). Its state, role and endpoint text are members of 04h/16-47. -/
structure KodSession where
  ep : Option Endpoint := none
  hostNonce : Nat := 0
  deviceNonce : Nat := 0
  /-- sequence number of the last accepted request -/
  last : Nat := 0
  /-- the response sent to it: its PDU, with the PRIO and SERVICE it was sent with -/
  cached : List Byte := []
  cachedPrio : Nat := 0
  cachedService : Nat := 0
  /-- a request is executing: its response waits for a tick boundary (R28, R79) -/
  busy : Bool := false
  /-- device-side notification count (R78) -/
  notified : Nat := 0
  /-- tick of the last accepted request, or of the LOGIN_BEGIN response -/
  since : Nat := 0
  /-- the session key K (R86), and the boot wrap key under which it is wrapped (R387) -/
  key : Nat := 0
  under : Option Nat := none
  /-- logged in with the bootstrap credential (R393) -/
  bootstrap : Bool := false
deriving DecidableEq, Repr

/-- A subscription (R91-R93). -/
structure Subscription where
  sid : Nat
  req : SubReq
  /-- tick of its last NOTIFY -/
  lastTick : Nat
  /-- address and value last sent -/
  lastSent : List (Nat × Int)
  /-- a NOTIFY waits to be transmitted: the tick whose state its values show, and its items -/
  unsent : Option (Nat × List (Nat × Int))
  coalesced : Bool
deriving DecidableEq, Repr

/-- A CAN FD reassembly in progress (R77). -/
structure Reassembly where
  ctrl : Nat
  node : Nat
  prio : Nat
  service : Nat
  next : Nat
  data : List Byte
  tick : Nat
deriving DecidableEq, Repr

/-- A complete PDU passed on by a transport (R74, R77). -/
structure RxPdu where
  ep : Endpoint
  broadcast : Bool
  prio : Nat
  service : Nat
  data : List Byte
deriving DecidableEq, Repr

/-- A validated WRITE that takes effect at the next tick boundary (R28, R82). -/
structure PendingWrite where
  req : KodReq
  items : List WItem
  /-- a write row that came while WRITEs wait: it is validated and applied in its turn (R28, log entry 6) -/
  row : Bool := false
deriving DecidableEq, Repr

/-- What a bulk-window region keeps beside its members 0Fh (R94-R97, R443). -/
structure Region where
  /-- words staged and not yet flushed, by offset -/
  staged : List (Nat × Nat) := []
  /-- words received over Chainline (R349) -/
  received : List Nat := []
  /-- TARIFF_ID of a Chainline update (R349) -/
  chlId : Nat := 0
  /-- flash slots A and B: words by offset -/
  slotA : List (Nat × Nat) := []
  slotB : List (Nat × Nat) := []
  /-- declared sizes of the images in slots A and B -/
  sizeA : Nat := 0
  sizeB : Nat := 0
  /-- a boot-header record that makes the staged slot active has been queued, and has been programmed (R445) -/
  committing : Bool := false
  recorded : Bool := false
  /-- the seal stood open when the finish took effect (R124) -/
  sealOpened : Bool := false
deriving DecidableEq, Repr

/-- KOD as a whole (R70-R99). -/
structure Kod where
  sessions : List KodSession := List.replicate 32 {}
  /-- ticks of the last failed proofs of roles 0-5 (R87) -/
  failed : List (List Nat) := List.replicate 6 []
  /-- end of the lockout of roles 0-5; 0 = none -/
  lockEnd : List Nat := List.replicate 6 0
  subs : List (Option Subscription) := List.replicate 64 none
  reasm : List Reassembly := []
  rx : List RxPdu := []
  writes : List PendingWrite := []
  /-- accepted token writes whose answer waits for the programming of the purse record (R194) -/
  held : List PendingWrite := []
  /-- controller settings that wait for their 100 ms (R72): object key, value, due tick -/
  changes : List (Nat × Int × Nat) := []
  regions : List Region := List.replicate 6 {}
deriving DecidableEq, Repr

/-- The processing state of a measurement channel (R115, R117, R128). Sample values are exact rationals. -/
structure Chan where
  xPrev : Int := 0
  /-- integrator state y (R115) -/
  y : Rat := 0
  /-- the last four values entering the fractional delay, newest first (R128 step 3) -/
  taps : List Rat := [0, 0, 0, 0]
  hpIn : Rat := 0
  hpOut : Rat := 0
  lastValid : Int := 0
  /-- the decimated sample of the frame as latched, the substituted one where it was missing (R56) -/
  latched : Int := 0
  /-- processed sample in mA or mV (R128 step 6) -/
  out : Rat := 0
  /-- sample after step 4, scaled, before the high-pass filter (R129) -/
  dc : Rat := 0
  /-- the raw samples of the last 8,000 ticks, newest first (08h/n/7) -/
  ring : List Int := []
  /-- ticks for which the clip flag still stands after a sample at a limit of the output (R117) -/
  clipTail : Nat := 0
  subst : Bool := false
  /-- overrun of the metering engine: not reached in the frame (R42) -/
  unreached : Bool := false
  /-- overrun of sample ingest, double error or ADC test: the sample is missing (R42, R52, R474) -/
  missing : Bool := false
deriving DecidableEq, Repr

/-- One processed row of a spoke or a group kept until its window closes (R132). -/
structure Row where
  tick : Nat
  vals : List Rat
  subst : List Bool
  clip : List Bool
deriving DecidableEq, Repr

/-- A sag run of one phase (R403). -/
structure SagRun where
  windows : Nat := 0
  lowest : Rat := 0
deriving DecidableEq, Repr

/-- A voltage group's zero-crossing and window state (R130-R132). Instants are in ticks with fraction. -/
structure Group where
  state : Nat := 0
  prev : Rat := 0
  passedHigh : Bool := false
  passedLow : Bool := false
  /-- previous valid or synthesised crossing and its polarity (true = positive) -/
  lastCross : Option (Rat × Bool) := none
  /-- the previous crossing was a valid one, not synthesised -/
  lastReal : Bool := false
  /-- last detected crossing, for the relock rule (R131) -/
  lastSeen : Option (Rat × Bool) := none
  halves : List Rat := []
  lastPos : Option Rat := none
  periods : List Rat := []
  missing : Nat := 0
  winStart : Rat := 0
  freeStep : Nat := 0
  timeout : Bool := false
  /-- a window of this group has closed locked since the safety-domain reset (R147 VALID) -/
  valid : Bool := false
  /-- a window has closed since the safety-domain reset (R139) -/
  closed : Bool := false
  rows : List Row := []
  sags : List SagRun := [{}, {}, {}]
  /-- consecutive windows above the earth limit, and at or below 90 % of it (R311) -/
  earthHigh : Nat := 0
  earthLow : Nat := 0
  earth : Bool := false
  /-- end of the 60 s for which the pulse outputs of the group's spokes run jitter-free (R143); 0 = none -/
  jfUntil : Nat := 0
deriving DecidableEq, Repr

/-- The metering state of a spoke (R134-R139). Energies are in mWh, varh or VAh. -/
structure Meter where
  rows : List Row := []
  /-- open-cycle accumulators of L1, L2, L3 (R135) -/
  openCycle : List Rat := [0, 0, 0]
  /-- no-load phases of the last closed window -/
  noload : List Bool := [false, false, false]
  /-- energy of this frame, for the pulse outputs (R142) -/
  lastTick : Rat := 0
  /-- reactive and apparent energy per tick of the last closed window (R142) -/
  perTickQ : Rat := 0
  perTickS : Rat := 0
  /-- fine accumulators of the 24 registers in units of 2^-24 (R138) -/
  fine : List Nat := List.replicate 24 0
  /-- consecutive windows that fail the residual cross-check (R309) -/
  crossRun : Nat := 0
  /-- overrun of the metering engine: the quantities of this spoke are not reached (R42) -/
  unreached : Bool := false
  /-- instant of the last clear of the registers: nothing metered before it reaches them (R145) -/
  clearedAt : Rat := 0
deriving DecidableEq, Repr

/-- The beacon period (R241): the group it follows, its start, one window of it has run, it waits for a crossing after a
return to locked. -/
structure Beacon where
  group : Nat := 0
  start : Rat := 0
  half : Bool := false
  relock : Bool := false
deriving DecidableEq, Repr

/-- A pulse output (R142-R144): its last two rising edges in us of CC time, newest first; end of the jitter-free period of its
spoke's group (0 = none), as of the last tick; more than 16 weights wait. -/
structure Pulse where
  edges : List Nat := []
  jfUntil : Nat := 0
  flooded : Bool := false
  /-- the inactive level, which the ball holds between pulses and while the output is disabled: true = high (R149) -/
  rest : Bool := false
deriving DecidableEq, Repr

/-- A spoke's block of a power-fail record (R157). -/
structure PfSpoke where
  delta : List Nat
  frac : List Nat
  slot : Nat
  rateA : Nat
  rateB : Nat
  dovf : Bool
  sopen : Bool
  kclosed : Bool
  exp : Bool
  demand : Nat
  speak : Nat
deriving DecidableEq, Repr

/-- A power-fail record (R156). -/
structure PfRecord where
  cause : Nat
  seq : Nat
  cc : Nat
  time : Nat
  mc : Nat
  jseq : Nat
  nextb : Nat
  kinds : Nat
  dstart : Nat
  rects : List Nat
  spokes : List PfSpoke
deriving DecidableEq, Repr

/-- A power-fail slot of the vault (R155): the record, its CRC (word 400) and its commit word; a commit word of 0 marks nothing. -/
structure VaultSlot where
  record : Option PfRecord := none
  crc : Nat := 0
  commit : Nat := 0
deriving DecidableEq, Repr

/-- A flash power-fail record in the power-fail area (R158, R433): the record, its CRC, its tag with the GR of the key that made
it, its commit word (none = erased) and whether the cancel word is programmed. -/
structure PfFlash where
  slot : Nat
  record : PfRecord
  crc : Nat
  tag : Nat
  root : Nat
  commit : Option Nat
  cancelled : Bool
deriving DecidableEq, Repr

/-- A billing-journal record (R161). -/
structure JRecord where
  trigger : Nat
  interval : Nat
  jseq : Nat
  snapSeq : Nat
  cc : Nat
  time : Nat
  mc : Nat
  highWater : Nat
  values : List Nat
  wraps : List Nat
  fracs : List Nat
  speak : List Nat
  /-- rates current since the latch, oldest first (R157): part of the metering state, not of the record in flash -/
  rates : List Nat
  /-- tag with the GR of the key that made it, CRC, and the commit word (none = erased) -/
  tag : Nat := 0
  root : Nat := 0
  crc : Nat := 0
  commit : Option Nat := none
deriving DecidableEq, Repr

/-- Power-fail decision, captures and journal (R150-R166). -/
structure PowerFail where
  /-- a decision stands (R151) -/
  active : Bool := false
  /-- cause code of the criterion met at the last tick boundary; 0 = none (R150) -/
  crit : Nat := 0
  /-- the record in the power-fail image of Pannier (R154) -/
  image : Option PfRecord := none
  /-- consecutive ticks without a criterion since the decision (R152) -/
  goodTicks : Nat := 0
  seq : Nat := 0
  /-- consecutive tick edges at which PFW_N was low -/
  pfwLow : Nat := 0
  /-- level of PFW_N at the coming tick edge (`true` = high), which TICK brings (R150, log entry 5) -/
  pfwNext : Bool := true
  /-- ticks for which criterion 3 has held -/
  sagTicks : Nat := 0
  /-- squares of the reference group's last 80 samples of L1-L3 -/
  window : List (List Rat) := []
  slots : List VaultSlot := [{}, {}]
  /-- vault slot that the last capture filled -/
  newest : Nat := 1
  flash : List PfFlash := []
  /-- slots of the power-fail area that are not erased (R433) -/
  usedSlots : List Nat := []
  badSlots : List Nat := []
  journal : List JRecord := []
  /-- latched records that wait for their commit word, oldest first (R162) -/
  latched : List JRecord := []
  base : Option JRecord := none
  /-- a committed record becomes the base at the next tick (R162) -/
  newBase : Option JRecord := none
  /-- triggers that latch at the running tick (R160) -/
  due : List Nat := []
  /-- tick of the last latch -/
  lastLatch : Nat := 0
  nextJseq : Nat := 0
deriving DecidableEq, Repr

/-- Wall time, tariff and demand interval (R167-R186). -/
structure Billing where
  /-- nanoseconds of wall time beyond 05h/0/0 -/
  ns : Nat := 0
  /-- remainder of the slew, in ns -/
  slewNs : Int := 0
  /-- a step whose effect is due in the next tick (R170): wall time before it, whether that was valid, its tick -/
  stepped : Option (Nat × Bool × Nat) := none
  /-- payload words of the active and of the pending tariff image -/
  active : List Nat := []
  pendingImage : List Nat := []
  /-- +A totals at the start of the running interval, in 2^-24 mWh (R182) -/
  intervalBase : List Nat := List.replicate 24 0
  /-- why the running interval is flagged -/
  short : Bool := false
  adjusted : Bool := false
  outage : Bool := false
  /-- closes of the billing period asked for: cause of R184 and the first tick at which it may be processed -/
  closeCauses : List (Nat × Nat) := []
  /-- target tick of a pending snapshot request (R140) -/
  snap : Option Nat := none
deriving DecidableEq, Repr

/-- What a session slot keeps beside its members 12h (R187-R190). -/
structure Session where
  startCc : Nat := 0
  /-- values and wrap counts of registers 0, 1, 8-23 at the start latch -/
  startRegs : List (Nat × Nat) := []
  prices : List (Nat × Nat) := []
  fee : Nat := 0
  tprice : Nat := 0
  exhausted : Bool := false
  /-- tick of the next recomputation of the cost (R189) -/
  costAt : Nat := 0
deriving DecidableEq, Repr

/-- An authorisation offered to a spoke (R235). -/
structure Offer where
  identity : Int
  purse : Nat
  until_ : Nat
deriving DecidableEq, Repr

/-- The waveform of a pilot in one frame (R203, R204): mode and duty driven, ticks since the period's rising edge, and the
time since the last pilot edge at the frame's start in 1/512 us. -/
structure Wave where
  mode : Nat := 0
  duty : Nat := 0
  phase : Nat := 0
  age : Nat := 0
deriving DecidableEq, Repr

/-- The pilot and proximity state of a spoke (R203-R217). Plateau buffers hold SAR codes, newest first. -/
structure Pilot where
  /-- PMODE and DUTY the die holds for the next rising edge (R204) -/
  heldMode : Nat := 0
  heldDuty : Nat := 0
  /-- PMODE and DUTY of the running period -/
  drivenMode : Nat := 0
  drivenDuty : Nat := 0
  /-- frames still to be entered whose samples were taken before a buffer was emptied (R207) -/
  skipHigh : Nat := 0
  skipLow : Nat := 0
  /-- waveforms of the last frame and of the one before it -/
  wave1 : Wave := {}
  wave2 : Wave := {}
  high : List Nat := []
  low : List Nat := []
  cand : Nat := 6
  candRun : Nat := 0
  dioCand : Nat := 0
  dioRun : Nat := 0
  pp : List Nat := []
  ppCand : Nat := 0
  ppRun : Nat := 0
  /-- weld-sense codes of the last 160 ticks, newest first; none = absent (R217) -/
  weld : List (Option Nat) := []
deriving DecidableEq, Repr

/-- State of the built-in default program (R236). -/
inductive DefaultState where
  | idle | connected | authorised | ready | charging | paused | stopping | fault
deriving DecidableEq, Repr

/-- A pedal sequencer (R219-R235). -/
structure Pedal where
  /-- instructions of the running program; ignored while `builtin` -/
  prog : List PedalWord := []
  builtin : Bool := true
  /-- the program that waits for its switch (R223): instructions, image identity, program number -/
  next : Option (List PedalWord × Nat × Nat) := none
  pc : Nat := 0
  w : List Word48 := List.replicate 8 0
  timers : List Nat := [0, 0, 0, 0]
  flags : Nat := 0
  /-- events raised and not yet delivered (R227) -/
  raised : Nat := 0
  /-- events of the last safety evaluations, which the coming boundary delivers (R225, R227) -/
  ready : Nat := 0
  /-- the inputs as the last safety evaluation left them (R225); none before the first one -/
  seen : Option (List Int) := none
  pmode : Nat := 0
  duty : Nat := 0
  request : Bool := false
  lock : Nat := 0
  aux : Nat := 0
  linkCtl : Nat := 0
  user : Nat := 0
  startCause : Nat := 0
  count : Nat := 0
  /-- an overrun leaves it out of the coming pedal slot (R42) -/
  unreached : Bool := false
  /-- was not reached in the slot before, so it is served first (R224) -/
  late : Bool := false
  /-- resumes at the next tick with this start cause (R234) -/
  resume : Option Nat := none
  offer : Option Offer := none
  /-- a replace waits for step 5 of the next tick (R235) -/
  replacing : Bool := false
  dflt : DefaultState := .idle
  /-- tick at which the built-in program entered that state -/
  dfltSince : Nat := 0
  /-- the built-in program has withdrawn its request on gate state 3: it raises it anew once the gate state is 0 (R236) -/
  regate : Bool := false
deriving DecidableEq, Repr

/-- Stage of the test-winding sequence (R310). -/
inductive TwStage where
  | none | running (start : Nat)
deriving DecidableEq, Repr

/-- The safety gate of a spoke (R232, R310, R312). -/
structure Gate where
  /-- a rising edge of the close request waits for its grant -/
  armed : Bool := false
  /-- the close request as read in the last evaluation -/
  lastReq : Bool := false
  stage : TwStage := .none
  /-- IX samples latched while the test runs: tick and mA -/
  samples : List (Nat × Rat) := []
  /-- a passed test serves the next closure -/
  passed : Bool := false
  tw : Nat := 0
  /-- ticks at which the soft conditions fell: the pilot condition, the granted current, the stop order (R312) -/
  softPilot : Option Nat := none
  softGrant : Option Nat := none
  softOrder : Option Nat := none
  stopOrder : Bool := false
  /-- tick W at which the die applied the last off command; after a reset the first tick (R295) -/
  weldFrom : Option Nat := some 0
  /-- the pilot stood in state A, the spoke was locked out, when the last frame looked for session ends (R188) -/
  wasA : Bool := false
  wasOut : Bool := false
deriving DecidableEq, Repr

/-- A wrapped key (R388). `key` is the key that its ciphertext opens to and `under` the secret whose key wrapped it, root or boot wrap
key: they stand for the cipher, so that an unwrap needs no law of it (log entry 7). No read shows them. -/
structure Blob where
  domain : Nat
  kind : Nat
  gen : Nat
  groot : Nat
  nonce : Nat
  len : Nat
  key : Nat
  under : Option Nat
deriving DecidableEq, Repr

/-- The vehicle link of a spoke (R239-R254). -/
structure VLink where
  entry : Option Nat := none
  run : Option Nat := none
  matchedAt : Option Nat := none
  nmk : Nat := 0
  tcp : Bool := false
  lastMsg : Nat := 0
  /-- tick of the stop notification (R243) -/
  stopAt : Option Nat := none
  stopping : Bool := false
  /-- tick at which PowerDelivery with start was first answered Ongoing (R249) -/
  startAt : Option Nat := none
  /-- end of a pending contract decision (R250) -/
  contractEnd : Option Nat := none
  /-- the host's decision on the contract: 0 none, 1 accepted, 2 refused -/
  contractResult : Nat := 0
  tlsFailedAt : Option Nat := none
  /-- the contract that waits or was decided in this session (R250) -/
  contract : Option Nat := none
  /-- the TLS session key, wrapped in the TLS area of Pannier (R253, log entry 34) -/
  tlsKey : Option Blob := none
  /-- a new entry time fell into a reset of the core domain: the attempts restart with the firmware (R244, R246) -/
  entered : Bool := false
  /-- bidirectional offer latched at SessionSetup (R254) -/
  bpt : Bool := false
deriving DecidableEq, Repr

/-- A SLAC run heard by the stations (R245): soundings per spoke as (spoke, count, sum of attenuations in dB). -/
structure SlacRun where
  run : Nat
  mac : Nat
  heard : List Nat
  start : Option Nat
  sounds : List (Nat × Nat × Nat)
  chosen : Option Nat
  /-- an answer to the parameter request that waits for the warm restart (R240): its tick and its stations -/
  answer : Option (Nat × List Nat) := none
deriving DecidableEq, Repr

/-- Peloton inputs of one spoke latched at tick N - 80 (R261). -/
structure PeloInput where
  active : Bool := false
  feeder : Nat := 0
  tier : Nat := 0
  phases : List Bool := [false, false, false]
  ceiling : Nat := 0
  started : Nat := 0
  expCeiling : Nat := 0
  gateOpen : Bool := true
  /-- a demand-response cap of 0 in force touches a phase it uses (R270) -/
  barred : Bool := false
deriving DecidableEq, Repr

/-- The peloton state of a spoke (R262-R269). -/
structure PeloSpoke where
  input : PeloInput := {}
  /-- grants published, newest first: tick and mA (R263) -/
  history : List (Nat × Nat) := []
  stopped : Bool := false
  /-- the guard sets the grant to 0 in step 6 of the next tick (R269) -/
  zeroNext : Bool := false
  paused : Bool := false
deriving DecidableEq, Repr

/-- Guard counters of one constraint phase (R268). -/
structure GuardPhase where
  above : Nat := 0
  above125 : Nat := 0
  below : Nat := 0
  stage : Nat := 0
  trim : Nat := 0
  measured : Int := 0
  lastStop : Nat := 0
  /-- stage 1 has been entered since the last recovery (R268) -/
  one : Bool := false
  /-- stage 3 has opened a spoke, or found none to open, and is not reported yet (R268) -/
  fired : Bool := false
  opened : Option Nat := none
deriving DecidableEq, Repr

/-- The allocator as a whole (R257-R271). -/
structure Peloton where
  spokes : List PeloSpoke := List.replicate 24 {}
  /-- feeders 0-7 and the site (8), three phases each -/
  guards : List (List GuardPhase) := List.replicate 9 [{}, {}, {}]
  avail : List (List Nat) := List.replicate 9 [0, 0, 0]
  exportLimit : List (List Nat) := List.replicate 9 [0, 0, 0]
  /-- a bite has abandoned the running computation (R47): it counts as late (R261) -/
  abandoned : Bool := false
  /-- the vehicle lag in ticks as latched at tick N - 80 (R261, R263) -/
  lag : Nat := 40000
  /-- end of the delay after a cap's end or a reset (R271) -/
  reboundEnd : Option Nat := none
deriving DecidableEq, Repr

/-- A protected switch channel (R276-R292). -/
structure Switch where
  /-- code the spoke die applies, and what blocks it there -/
  applied : Nat := 0
  uvOff : Bool := false
  tlatch : Bool := false
  ovt : Bool := false
  /-- consecutive ticks for which LK has been driven in one direction (R294) -/
  driveRun : Nat := 0
  /-- tick of the last change of the command -/
  changedAt : Nat := 0
  /-- tick from which the channel has been commanded on -/
  onSince : Option Nat := none
  /-- profile time 0, with the load type and nominal current in use (R282) -/
  profileAt : Nat := 0
  profType : Nat := 0
  profNom : Nat := 0
  /-- consecutive readbacks above the profile, on while off, off while on -/
  overRun : Nat := 0
  stuckRun : Nat := 0
  lostRun : Nat := 0
  /-- ticks of the restarts of the last 60 s (R284) -/
  restarts : List Nat := []
  /-- an under-voltage has turned the channel off and its recovery is awaited; readbacks with UV = 0 since -/
  uvSeen : Bool := false
  uvClear : Nat := 0
  /-- a clear of R287 sends code 3h in the next frame -/
  clearing : Bool := false
  /-- an off-pulse was requested for this tick -/
  pulseReq : Bool := false
  /-- tick of the pulse that waits for its judgement, and whether its first readback passed -/
  pulseAt : Option Nat := none
  pulseFirst : Bool := false
  /-- tick of the last pulse that the die applied (R290) -/
  lastPulse : Option Nat := none
  /-- consecutive pulses without a result (R289) -/
  noResult : Nat := 0
  /-- the operation count has been reported at 95 % (R107) -/
  warned : Bool := false
deriving DecidableEq, Repr

/-- The lock actuator of a spoke (R293). -/
inductive LockPhase where
  | idle
  | stroke (sink start : Nat)
  | brake (sink start : Nat)
deriving DecidableEq, Repr

structure Lock where
  phase : LockPhase := .idle
  /-- the sink value served last -/
  served : Nat := 0
  /-- brake readbacks received and those that showed the level of the stroke -/
  received : Nat := 0
  good : Nat := 0
  /-- tick at which the last stroke ended -/
  endedAt : Option Nat := none
  /-- readbacks in a row that show the released level in state 1 -/
  lostRun : Nat := 0
  /-- the first 80 ticks after a safety-domain reset: ticks seen, readbacks engaged and released -/
  bootSeen : Nat := 0
  bootEngaged : Nat := 0
  bootReleased : Nat := 0
deriving DecidableEq, Repr

/-- A two-channel safety function (R302-R306): the levels latched at the last tick edge (true = clear), demanding ticks in a
row, clear ticks in a row of both, ticks of disagreement, and whether a reset has been accepted. -/
structure SafetyFn where
  a : Bool := false
  b : Bool := false
  runA : Nat := 0
  runB : Nat := 0
  clearRun : Nat := 0
  disagree : Nat := 0
  resetOk : Bool := false
deriving DecidableEq, Repr

/-- Residual supervision of a spoke (R307, R308). -/
structure Residual where
  ix : List Rat := []
  timers : List Nat := [0, 0, 0, 0, 0]
  /-- points that have tripped since their timer last stood at 0 -/
  tripped : List Bool := [false, false, false, false, false]
  dc : Rat := 0
  /-- mean of squares minus mean^2 -/
  acSq : Rat := 0
deriving DecidableEq, Repr

/-- A tandem peer (R317-R321): copies without their twin as network, SEQ, tick and bytes 0-27; tick of the last matched
pair; matched pairs in a row; the DEMAND that stands. -/
structure Peer where
  copies : List (Nat × Nat × Nat × List Byte) := []
  lastPair : Nat := 0
  run : Nat := 0
  demand : Nat := 0
  /-- a SEQ of this peer has been accepted (R319) -/
  accepted : Bool := false
deriving DecidableEq, Repr

/-- The hold lease (R323-R326) and whether the firmware runs. -/
structure Lease where
  /-- the firmware runs: no core-domain reset is in progress -/
  fwUp : Bool := true
  startAt : Option Nat := none
  endAt : Nat := 0
  /-- a lease ended without being reclaimed -/
  unreclaimed : Bool := false
deriving DecidableEq, Repr

/-- A Chainline event that waits for an MC target (R346-R348). -/
inductive ChlEvent where
  | timeSet (target : Nat) (slewOk : Bool)
  | snapshot
  | billingClose
  | capStart (slot : Nat)
deriving DecidableEq, Repr

/-- An inbound message in the send queue (R344): the frame with payload word 0 complete once it has been sent. -/
structure InMsg where
  frame : ChlFrame
  sendings : Nat
  cw : Nat
  /-- boundaries left to wait -/
  backoff : Nat
  /-- tick of the last sending, when an acknowledgement is awaited -/
  sentAt : Option Nat
  /-- originated here, not forwarded -/
  own : Bool
deriving DecidableEq, Repr

/-- A neighbour's margins over its last 8 frames (R341); its other items are members of 20h/64-127. -/
structure Neighbour where
  margins : List Nat := []
  used : Bool := false
deriving DecidableEq, Repr

/-- The fast-tap samples of a frame of die A (R112): the tick at which it was latched, whether it was discarded, which phases of the
reference group clipped, and the samples of L1-L3. -/
structure FastTick where
  tick : Nat
  lost : Bool
  clip : List Bool
  taps : List (List Int)
deriving DecidableEq, Repr

/-- A phase of the reference group in the Chainline receiver (R331-R335). -/
structure ChlPhase where
  prev : Int := 0
  passedHigh : Bool := false
  passedLow : Bool := false
  /-- the last valid and synthesised crossings, newest first, and their polarity -/
  crossings : List (Rat × Bool) := []
  lastSeen : Option (Rat × Bool) := none
  missing : Nat := 0
  /-- a crossing has been rejected since the last one that stands -/
  rejected : Bool := false
  /-- closed half-cycles whose last samples are still to come: the crossing, and whether it stands -/
  windows : List (Rat × Bool) := []
  /-- the symbols of the last half-cycles, newest first: the crossing, and for each channel position and margin, none = erasure -/
  symbols : List (Rat × List (Option (Nat × Nat))) := []
deriving DecidableEq, Repr

/-- The Chainline receiver (R331-R338). -/
structure ChlPhy where
  group : Nat := 0
  fast : List FastTick := []
  phases : List ChlPhase := [{}, {}, {}]
  /-- tick of the engine's last overrun (R333) -/
  overran : Option Nat := none
deriving DecidableEq, Repr

/-- A half-cycle of L1 of the reference group has closed: when, with which polarity, whether its crossing stands, and MC then. -/
structure ChlEnd where
  instant : Rat
  positive : Bool
  stands : Bool
  mc : Nat
deriving DecidableEq, Repr

/-- A frame that is being sent (R333): channel and phase, the instant of its boundary, the positions still to be placed, the crossing from
which the last one was placed, and the instant of the pulse that waits. -/
structure ChlSending where
  channel : Nat
  phase : Nat
  boundary : Rat
  positions : List Nat
  placed : Option Rat := none
  pending : Option Rat := none
deriving DecidableEq, Repr

/-- The Chainline engine and its firmware (R329-R351). -/
structure Chainline where
  /-- the receiver, the half-cycles of L1 that have closed since its last frame, and the frames that are being sent (R331-R338) -/
  phy : ChlPhy := {}
  ends : List ChlEnd := []
  sending : List ChlSending := []
  /-- the last 64 accepted (MCREF, SEQ) -/
  accepted : List (Nat × Nat) := []
  /-- accepted commands that wait for their own step: CMD, header, payload words, MC at the end of the copy -/
  commands : List (Nat × ChlHdr × List Nat × Nat) := []
  events : List (Nat × ChlEvent) := []
  ownSeq : Nat := 0
  queue : List InMsg := []
  /-- (ADDR, SEQ) of inbound frames already forwarded -/
  relayed : List (Nat × Nat) := []
  neighbours : List Neighbour := List.replicate 64 {}
  /-- slot and margin of the last 16 outbound headers decoded -/
  headers : List (Nat × Nat) := []
  registerAt : Option Nat := none
  orphanAt : Option Nat := none
  helloAt : Option Nat := none
  /-- orphan calls heard with margin enough: address, tier, CC (R342); and the candidate state -/
  orphans : List (Nat × Nat × Nat) := []
  candidate : Bool := false
  /-- end of a veto (R342) -/
  vetoEnd : Option Nat := none
  tariffLast : Nat := 0
  keyNoticed : Bool := false
  /-- a header has set the low 3 bits of MC (R338) -/
  found : Bool := false
  /-- crossing that closed the last window of the reference group and counts for MC -/
  lastCount : Option Rat := none
  /-- the reference group has changed since (R329) -/
  refChanged : Bool := false
  /-- MC at which the running inbound sending ends -/
  sendEnd : Option Nat := none
  /-- MC at the last crossings of the reference group that were rejected or synthesised, newest first: their half-cycles are
  erasures (R335, R29) -/
  lost : List Nat := []
deriving DecidableEq, Repr

/-- An NFC front end (R356, R366). -/
structure FrontEnd where
  busy : Option Nat := none
  waiting : List Nat := []
deriving DecidableEq, Repr

/-- An aerial (R357-R363). -/
structure Aerial where
  low : Nat := 0
  empty : Nat := 0
  response : Nat := 0
  /-- polling is due at the next tick -/
  pollAt : Option Nat := none
  /-- cards read by the last polling, the end of the settle time -/
  cards : List Card := []
  settleEnd : Option Nat := none
  void : Bool := false
  decisionEnd : Option Nat := none
  card : Option Card := none
  /-- end of the waiting-time cap of a running exchange -/
  exchangeEnd : Option Nat := none
  /-- end of the frame waiting time that runs in it (R363) -/
  waitEnd : Nat := 0
  apdu : List Byte := []
deriving DecidableEq, Repr

/-- Card emulation on NF0 (R364-R366). -/
structure Emulation where
  field : Bool := false
  /-- 0 none, 1 NDEF, 2 KOD -/
  app : Nat := 0
  file : Nat := 0
  /-- a KOD PDU waits for the firmware since this tick -/
  waiting : Option Nat := none
  wtx : Nat := 0
deriving DecidableEq, Repr

/-- The keypad (R369, R370). -/
structure Keypad where
  digits : List Nat := []
  /-- the keys that the columns sampled so far in the running scan show -/
  scan : List Nat := []
  /-- keys accepted as pressed, and for each key the scans in a row that show the other state -/
  pressed : List Bool := List.replicate 16 false
  runs : List Nat := List.replicate 16 0
  lastKey : Nat := 0
deriving DecidableEq, Repr

/-- Air-interface state of the dormant tag (ISO/IEC 14443-3 as R371 uses it). -/
inductive PiccState where
  | idle
  /-- taking part in the anticollision of a cascade level; `halted` says that it came from `halt` -/
  | ready (level : Nat) (halted : Bool)
  | active
  | halt
deriving DecidableEq, Repr

/-- What the tag is programming (R372-R374): a page, or the marker and then the pointer. -/
inductive TagProg where
  | page (page : Nat) (data : List Byte)
  | marker (page : Nat) (data : List Byte) (pointer : List Byte)
  | pointer (data : List Byte)
  /-- a page that the device writes through its internal port (R376) -/
  | own (page : Nat) (data : List Byte)
deriving DecidableEq, Repr

/-- The dormant tag and its non-volatile memory (R371-R376). -/
structure Tag where
  mem : List Host.Cell := []
  picc : PiccState := .idle
  field : Bool := false
  prog : Option TagProg := none
  progEnd : Nat := 0
  fdet : Bool := false
  fieldGone : Option Nat := none
deriving DecidableEq, Repr

/-- The vault and the crypto engine (R381-R399). -/
structure Vault where
  root : Option Nat := none
  /-- the boot wrap key, drawn at every core start -/
  bootKey : Option Nat := none
  /-- last eight tamper events: source and time -/
  log : List (Nat × Nat) := []
  /-- zeroisation not yet reported (R385) -/
  unreported : Option Nat := none
  /-- the key slots 16-27: the blobs of the installed keys -/
  slots : List (Option Blob) := List.replicate 12 none
  /-- the real-time clock (R167): its time while it runs, since it was last set; none = not set, or stopped since -/
  rtc : Option Nat := none
  /-- the working key that the crypto engine holds (R394); no read shows it (R382) -/
  keyRegister : Option Nat := none
  /-- keys of the operations served since the last tick, in arrival order; the last is the operation in progress -/
  requests : List Nat := []
  /-- key of an operation that a power-fail capture ended with INTEGRITY and that the firmware repeats (R394) -/
  ended : Option Nat := none
  /-- metrology counter limit noticed (R122) -/
  limitNoticed : Bool := false
  /-- a VBAT notice was recorded since power-up (R384) -/
  vbatNoticed : Bool := false
  replacing : Bool := false
deriving DecidableEq, Repr

/-- The SEAL filter (R121). -/
structure Seal where
  level : Bool := false
  run : Nat := 0
  /-- filtered state: true = open -/
  opened : Bool := false
deriving DecidableEq, Repr

/-- A notice raised and not yet in the ring (R401, R407). -/
structure Notice where
  code : Nat
  inst : Nat
  value : Nat
deriving DecidableEq, Repr

/-- The recorder beside its members (R400-R412). -/
structure RecSave where
  /-- save count, and wall time of the end (0 while it is invalid) -/
  count : Nat
  time : Nat
  /-- CC of its start and of its end -/
  start : Nat
  stop : Nat
  /-- the recorder members saved -/
  data : List (Nat × Int)
  /-- tag, and the GR of the key that made it -/
  tag : Nat
  root : Nat
  /-- commit word -/
  commit : Nat
deriving DecidableEq, Repr

/-- The event recorder beside its members (R400-R412). -/
structure Recorder where
  /-- notices raised since the last tick boundary -/
  raised : List Notice := []
  /-- increments held back by a freeze: histogram and member of the bin (R410) -/
  held : List (Nat × Nat) := []
  freezeEnd : Option Nat := none
  freezeLast : Option Nat := none
  /-- ring clears that take effect at the coming boundary: the sessions that asked for them, in order -/
  clearing : List Nat := []
  /-- the ring holds no record since its last clear -/
  empty : Bool := true
  /-- the recorder slot that a running save writes (R412) -/
  saving : Option Nat := none
  saveDue : Bool := false
  /-- CC at the start of the running save -/
  saveStart : Nat := 0
  /-- what the running save has copied, and the offset in the region up to which it has (R412) -/
  saveBuf : List (Nat × Int) := []
  saveAt : Nat := 0
  /-- slot of the next save -/
  saveSlot : Nat := 0
  /-- recorder slots 0 and 1 -/
  saved : List (Option RecSave) := [none, none]
deriving DecidableEq, Repr

/-- An in-flight display rectangle beside its members 24h/16-23 (R422): the mode that runs, the modes left after it (R423,
R426), the temperature range, damage, whether its frames have begun, whether it stays cleared at the end; its words of the plane
buffers P0 and P1, where they stand there, and whether P1 is the one that serves the running pass (R416). -/
structure Slot where
  mode : Nat := 0
  range : Nat := 0
  reruns : List Nat := []
  damaged : Bool := false
  started : Bool := false
  recovering : Bool := false
  stays : Bool := false
  p0 : List Nat := []
  p1 : List Nat := []
  place : Nat := 0
  second : Bool := false
deriving DecidableEq, Repr

/-- The display engine (R416-R427). -/
structure Display where
  /-- buffers B and A by word; unlisted words hold white -/
  draw : List (Nat × Nat) := []
  front : List (Nat × Nat) := []
  /-- the waveform table in use -/
  table : List Nat := []
  queue : List Nat := []
  slots : List Slot := List.replicate 8 {}
  en : Bool := false
  vcom : Bool := false
  oe : Bool := false
  enAt : Nat := 0
  /-- tick at which DSP_EN falls -/
  enOff : Option Nat := none
  goodAt : Option Nat := none
  idleSince : Option Nat := none
  tempAt : Option Nat := none
  nextFrame : Option Nat := none
deriving DecidableEq, Repr

/-- A flash operation that waits or runs (R430), in the order of that rule; setting-log entries, recorder saves, bulk words
and erases wait in their own lists. -/
inductive FlashOp where
  | powerFail (slot : Nat)
  | journal
  | billing (seq : Nat)
  | demand
  | purse (purse : Nat) (sid : Nat)
  | keyStore
  | header (region : Nat)
deriving DecidableEq, Repr

/-- A setting-log entry (R434). -/
structure LogEntry where
  addr : Nat
  value : Int
  sealed : Bool
  /-- its TAG and its CRC -/
  tag : Nat := 0
  crc : Nat := 0
deriving DecidableEq, Repr

/-- A billing-period or demand record of flash (R185, R433): its members, its tag with the GR of the key that made it, its CRC and
its commit word. -/
structure FlashRec where
  seq : Nat
  data : List (Nat × Int)
  tag : Nat := 0
  root : Nat := 0
  crc : Nat := 0
  commit : Nat := 0
deriving DecidableEq, Repr

/-- What a boot-header record says of a region (R439). -/
structure HeaderEntry where
  /-- 0 = A, 1 = B, 255 = none -/
  active : Nat
  trial : Bool
  other : Nat
  tboots : Nat
  image : Nat
  words : Nat
  otherImage : Nat
  svn : Nat
deriving DecidableEq, Repr

/-- A boot-header record (R439): SEQ, the regions FW, CFG, TARIFF, AUTH, PEDAL and ASSETS, and its CRC. -/
structure HeaderRec where
  seq : Nat
  regions : List HeaderEntry
  crc : Nat
deriving DecidableEq, Repr

/-- The serial memory beside its members (R428-R448). -/
structure Flash where
  ops : List FlashOp := []
  current : Option FlashOp := none
  log : List LogEntry := []
  /-- settings that took effect and wait for their log entry -/
  logDue : List (Nat × Int) := []
  headerSeq : Nat := 0
  /-- the records in the boot-header sectors 0 and 1, oldest first (R431, R439) -/
  headers : List (List HeaderRec) := [[], []]
  /-- boot-header STATE of the FW slot: 1 = trial (R439) -/
  fwTrial : Bool := false
  trialEnd : Option Nat := none
  /-- billing periods kept in flash (R185) -/
  periods : List FlashRec := []
  /-- newest demand record (R433) -/
  demandRec : Option FlashRec := none
  /-- the key store (R388, R391): the blobs of the slots 16-27 -/
  keyStore : List (Option Blob) := List.replicate 12 none
  /-- purse records kept in flash: purse and its members -/
  purses : List (Nat × List (Nat × Int)) := []
deriving DecidableEq, Repr

/-- Modes and resets beside their members (R451-R468). -/
structure Modes where
  /-- how far the coming boundary has gone (R44): 1-4 = the last of steps 1-4 done, 5 = writes of step 5 have been applied,
  6 = steps 5 and 6 are done, 7 = step 7 is done as well (log entry 5) -/
  step : Nat := 0
  /-- tick at which a commanded restart follows (R468) -/
  restartAt : Option Nat := none
  /-- end of a running exit into Run (R451, R457) -/
  exitEnd : Option Nat := none
  /-- the device has booted since the last safety-domain reset -/
  booted : Bool := false
  /-- the main supplies are present (R460) -/
  powered : Bool := true
  /-- a core-domain reset has not been followed by the firmware's restart -/
  coreInReset : Bool := false
  /-- cause code of the last reset, latched in the vault (R464), and its tick -/
  cause : Nat := 1
  resetAt : Nat := 0
  /-- the loader in ROM answers KOD in place of the firmware (R442) -/
  rom : Bool := false
deriving DecidableEq, Repr

/-- The running ADC test (R474): spoke, start tick, samples of each channel, whether it settles. -/
structure AdcTest where
  spoke : Nat
  start : Nat
  samples : List (Nat × List Int)
  stopped : Option Nat
deriving DecidableEq, Repr

/-- BIST (R471-R477). -/
structure Bist where
  adc : Option AdcTest := none
  adcNext : Nat := 0
  adcFailed : List Nat := []
  lane : Nat := 0
  laneFailed : Bool := false
  /-- physical instruction-SRAM segment that the running or next pass of target 2 frees and tests -/
  segment : Nat := 0
  /-- the map of the instruction SRAM: the physical one of 17 segments that holds each logical one (R471) -/
  segMap : List Nat := List.range 16
  /-- words copied and operations done of the running pass of target 2 -/
  segCopied : Nat := 0
  segTested : Nat := 0
  /-- tick of the last completed pass of targets 1-6 -/
  lastPass : List Nat := List.replicate 6 0
  due : List Bool := List.replicate 6 false
  /-- soft repairs: target, block, row -/
  repairs : List (Nat × Nat × Nat) := []
  fuseList : List (Nat × Nat × Nat) := []
  fused : List (Nat × Nat × Nat) := []
  cryptoFailed : Bool := false
  stationFailed : List Nat := []
deriving DecidableEq, Repr

/-- Something the device sends (R71, R74, R93, R142, R319, R333, R365): what an observer outside sees. -/
inductive Output where
  /-- a CAN FD frame with bit-rate switching: controller (1 = A, 2 = B), 29-bit identifier, data (R70, R71, R77) -/
  | canFrame (ctrl ident : Nat) (data : List Byte)
  /-- a UDP datagram from the KOD port: address, port, data (R74) -/
  | datagram (addr port : Nat) (data : List Byte)
  /-- the status of a single-object write row: session, object, status -/
  | writeStatus (sid key status : Nat)
  /-- a value read through a data window: session, object, word -/
  | dataWord (sid key word : Nat)
  /-- a test pulse: output, tick and us in it of the edge, width in us, the level that the pulse drives (R142-R144, R149) -/
  | pulse (po tick us width : Nat) (high : Bool)
  /-- a tandem datagram to ff02::1, from and to this port (R319) -/
  | tandem (port : Nat) (msg : List Byte)
  /-- a Chainline frame (R333, R343, R344): channel, transmit phase, pulse width in µs, and for each half-cycle of the frame
  the position of its pulse (R332, R336); in a half-cycle whose phase is not locked, or whose slot overran, none is fired -/
  | chainline (f : ChlFrame) (channel phase width : Nat) (positions : List Nat)
  | vehicle (s : Nat) (message : String) (values : List Int)
  | tagReply (data : List Byte)
  /-- the bits of a cascade level that complete those a reader has sent: how many, and their value, the first one lowest (R371) -/
  | tagBits (count value : Nat)
  | card (a : Nat) (data : List Byte)
  /-- a card is woken and selected by its identity, and activated at a rate where it speaks ISO/IEC 14443-4 (R362) -/
  | activate (a : Nat) (typeB : Bool) (uid : List Byte) (rate : Option Nat)
  /-- a command of a polling, without its check bytes (R358); of an anticollision frame `bits` is the number of bits after NVB -/
  | reader (a : Nat) (frame : List Byte) (bits : Nat)
  | emulation (data : List Byte)
  /-- what the emulated card declares when it is activated: its FWI (R365) -/
  | emulationAts (fwi : Nat)
  | wtx
  | beacon (s : Nat) (us : Nat) (start : Rat)
  | net (kind : String) (dest : Nat) (data : List Byte)
  | flashErase (slot : Nat)
  /-- CHL_TRIG is driven high: the instant of its rising edge in ticks, and for how many us (R333) -/
  | trigger (start : Rat) (width : Nat)
  /-- a frame of the panel (R417): for each line the words on DSP_SD15-DSP_SD0, one a clock; DSP_SDSP rises with the first, DSP_SDLE and
  DSP_GDCLK follow the last, DSP_GDSP stands in line 0 -/
  | panel (lines : List (List Nat))
deriving DecidableEq, Repr

/-- Everything that belongs to one spoke beside the dictionary. -/
structure Spoke where
  pilot : Pilot := {}
  pedal : Pedal := {}
  gate : Gate := {}
  link : VLink := {}
  meter : Meter := {}
  residual : Residual := {}
  lock : Lock := {}
deriving DecidableEq, Repr

/-- The state of the block. -/
structure State where
  variant : Variant := .trt24
  /-- the object store: key (R7) and value, in the canonical form of `Machine/Ops.lean` -/
  obj : List (Nat × Int) := []
  /-- commands that wait, first in, first out -/
  pending : List Instr := []
  /-- what the device has sent, oldest first -/
  out : List Output := []
  /-- index of the next free value (the model's own field, R85, R271, R344 draw from it) -/
  draw : Nat := 0
  linkA : SpokeLink := {}
  linkB : SpokeLink := {}
  ports : List Port := [{}, {}, {}]
  plan : PlanState := {}
  pannier : Pannier := {}
  dma : List DmaChan := List.replicate 16 {}
  kod : Kod := {}
  chans : List Chan := List.replicate 152 {}
  groups : List Group := List.replicate 8 {}
  spokes : List Spoke := List.replicate 24 {}
  pulses : List Pulse := List.replicate 4 {}
  beacon : Beacon := {}
  pf : PowerFail := {}
  billing : Billing := {}
  sessions : List Session := List.replicate 48 {}
  /-- number given to the last session (R187) -/
  sessionSeq : Nat := 0
  /-- purses below their low-credit threshold (R190) -/
  lowPurses : List Nat := []
  /-- ticks of the last refusals with INTEGRITY, and the end of the entry lockout; 0 = none (R195) -/
  tokenFails : List Nat := []
  tokenLock : Nat := 0
  slac : List SlacRun := []
  peloton : Peloton := {}
  switches : List Switch := List.replicate 104 {}
  functions : List SafetyFn := List.replicate 4 {}
  lease : Lease := {}
  peers : List Peer := List.replicate 16 {}
  /-- tick of the last tandem message -/
  tandemAt : Option Nat := none
  chainline : Chainline := {}
  frontEnds : List FrontEnd := List.replicate 4 {}
  aerials : List Aerial := List.replicate 24 {}
  emulation : Emulation := {}
  keypad : Keypad := {}
  tag : Tag := {}
  vault : Vault := {}
  sealFilter : Seal := {}
  recorder : Recorder := {}
  display : Display := {}
  flash : Flash := {}
  modes : Modes := {}
  bist : Bist := {}
deriving DecidableEq, Repr

/-- Why the block stops with a fault. No command of this block ends in one: the spec gives every command an effect, and
an event whose condition does not hold leaves the state as it is. The type has one constructor so that it is a closed
inductive with a name. -/
inductive Fault where
  /-- Raised by nobody: reserved for a later repair that finds an access outside what the spec defines. Safe. -/
  | outsideSpec
deriving DecidableEq, Repr

/-- Why the block refuses a command. -/
inductive Refusal where
  /-- Raised by `exec` for a command that has no meaning yet, named by its mnemonic. Safe. -/
  | notModelled (mnemonic : String)
deriving DecidableEq, Repr

/-- What stands in the object store after reset beside the defaults: functions 2 and 3 wait for their startup test (R306), so
every spoke carries their causes and is in fault (R299, R303). -/
def resetObj : List (Nat × Int) :=
  (List.range 24).flatMap fun sp => [(7602176 + 256 * (16 + sp), 1), (7602176 + 256 * (16 + sp) + 1, 12)]

/-- The block right after a power-on reset, before boot (R13, R314): nothing is admitted, every sink at its reset value,
no session, nothing listed in memory; the members of the dictionary at their defaults. The variant is TRT24 (DESIGN CHOICE,
log entry 1). -/
def State.reset : State := { obj := resetObj }

end Sys2Proof.Machine
end

