-- ==== Sys2Proof/Machine/ObjTable.lean ====
section
/-! DEFINITION. The object table: one row for every object of the Kanil Object Dictionary (R100, R103, R104), class by
class, with its type, its access entry, its category, its range and its default. Where a default depends on the variant
or the instance, the row carries the plain part of it and `specialDefault` the rest. Write-only commands keep no value. -/

namespace Sys2Proof.Machine

/-- The types of R101, in the order of their codes. -/
inductive ObjType where
  | b1 | u8 | u16 | u32 | u48 | s48 | q48 | e8 | t48 | txt32 | blk
deriving DecidableEq, Repr

/-- What an access entry names (R84, R103); `nobody` is the dash. -/
inductive Access where
  | observer | operator | installer | utility | metrology | nobody
deriving DecidableEq, Repr

/-- The categories of R104. -/
inductive ObjKind where
  | setting | status | count | command | metrology | window
deriving DecidableEq, Repr

/-- A row of an object table: instances, members (`stride` 0 for a range, else members m0, m0 + stride, ...), type,
read and write entry, seal, category, range and default. -/
structure ObjRow where
  i0 : Nat
  i1 : Nat
  m0 : Nat
  m1 : Nat
  stride : Nat
  ty : ObjType
  rd : Access
  wr : Access
  sealed : Bool
  kind : ObjKind
  lo : Int
  hi : Int
  dflt : Int
deriving DecidableEq, Repr

/-- Largest values of the wide types (R101); a TXT32 is its 32 bytes as one big-endian number, a BLK its bytes behind a
leading byte 01h. -/
def u32Max : Int := 4294967295
def u48Max : Int := 281474976710655
def s48Min : Int := -140737488355328
def s48Max : Int := 140737488355327
def txtMax : Int := 2 ^ 256 - 1
def blkMax : Int := 2 ^ 8008

/-- What 0Dh/n/3 holds while nothing has been written to it: a value outside Q48, so that the default of R115 stands. -/
def noGain : Int := s48Min - 1

/-- Class 00h. -/
def rows00 : List ObjRow := [
  -- 00h/0/0 Part code (R6)
  ⟨0, 0, 0, 0, 0, .txt32, .observer, .nobody, false, .status, 0, txtMax, 0⟩,
  -- 00h/0/1 Variant (R6)
  ⟨0, 0, 1, 1, 0, .e8, .observer, .nobody, false, .status, 0, 255, 0⟩,
  -- 00h/0/2 Spoke count (R6)
  ⟨0, 0, 2, 2, 0, .u8, .observer, .nobody, false, .status, 0, 255, 24⟩,
  -- 00h/0/8 Link A state (R27)
  ⟨0, 0, 8, 8, 0, .e8, .observer, .nobody, false, .status, 0, 255, 1⟩,
  -- 00h/0/9 Link B state (R27)
  ⟨0, 0, 9, 9, 0, .e8, .observer, .nobody, false, .status, 0, 255, 1⟩,
  -- 00h/0/10 Link A error count (R27)
  ⟨0, 0, 10, 10, 0, .u32, .observer, .installer, false, .count, 0, u32Max, 0⟩,
  -- 00h/0/11 Link B error count (R27)
  ⟨0, 0, 11, 11, 0, .u32, .observer, .installer, false, .count, 0, u32Max, 0⟩,
  -- 00h/0/16 Count saturated (R108)
  ⟨0, 0, 16, 16, 0, .b1, .observer, .nobody, false, .status, 0, 1, 0⟩,
  -- 00h/0/17 Last saturated count (R108)
  ⟨0, 0, 17, 17, 0, .u32, .observer, .nobody, false, .status, 0, u32Max, 0⟩
]

/-- Class 01h. -/
def rows01 : List ObjRow := [
  -- 01h/0/0 Mode (R469)
  ⟨0, 0, 0, 0, 0, .e8, .observer, .nobody, false, .status, 0, 255, 0⟩,
  -- 01h/0/1 Deepest mode (R469)
  ⟨0, 0, 1, 1, 0, .e8, .observer, .installer, false, .setting, 0, 3, 3⟩,
  -- 01h/0/2 Workstand (R469)
  ⟨0, 0, 2, 2, 0, .b1, .observer, .installer, false, .command, 0, 1, 0⟩,
  -- 01h/0/3 Margin (R469)
  ⟨0, 0, 3, 3, 0, .u16, .observer, .installer, false, .setting, 20, 10000, 100⟩,
  -- 01h/0/4 Next event tick (R469)
  ⟨0, 0, 4, 4, 0, .u48, .observer, .nobody, false, .status, 0, u48Max, 0⟩,
  -- 01h/0/5 Next event kind (R469)
  ⟨0, 0, 5, 5, 0, .e8, .observer, .nobody, false, .status, 0, 255, 0⟩,
  -- 01h/0/6 Last reset cause (R469)
  ⟨0, 0, 6, 6, 0, .e8, .observer, .nobody, false, .status, 0, 255, 1⟩,
  -- 01h/0/7 Restart (R469)
  ⟨0, 0, 7, 7, 0, .b1, .nobody, .installer, false, .command, 0, 1, 0⟩,
  -- 01h/0/8 Watchdog timeout (R469)
  ⟨0, 0, 8, 8, 0, .u16, .observer, .installer, false, .setting, 100, 5000, 500⟩,
  -- 01h/16–19/0 Time in mode (R470)
  ⟨16, 19, 0, 0, 0, .u48, .observer, .installer, false, .count, 0, u48Max, 0⟩,
  -- 01h/16–19/1 Wakes (R470)
  ⟨16, 19, 1, 1, 0, .u32, .observer, .installer, false, .count, 0, u32Max, 0⟩,
  -- 01h/32–39/0 Clock state (R470)
  ⟨32, 39, 0, 0, 0, .e8, .observer, .nobody, false, .status, 0, 255, 1⟩,
  -- 01h/32–39/1 Frequency (R470)
  ⟨32, 39, 1, 1, 0, .u32, .observer, .nobody, false, .status, 0, u32Max, 0⟩
]

/-- Class 02h. Before a plan has run 02h/0/5 reads 16 (DESIGN CHOICE, log entry 48). -/
def rows02 : List ObjRow := [
  -- 02h/0/0 Cadence count (R48)
  ⟨0, 0, 0, 0, 0, .u48, .observer, .nobody, false, .status, 0, u48Max, 0⟩,
  -- 02h/0/1 Plan state (R48)
  ⟨0, 0, 1, 1, 0, .e8, .observer, .nobody, false, .status, 0, 255, 0⟩,
  -- 02h/0/2 Plan identity (R48)
  ⟨0, 0, 2, 2, 0, .u32, .observer, .nobody, false, .status, 0, u32Max, 0⟩,
  -- 02h/0/3 Refusal item (R48)
  ⟨0, 0, 3, 3, 0, .u16, .observer, .nobody, false, .status, 0, 65535, 0⟩,
  -- 02h/0/4 Refusal demand (R48)
  ⟨0, 0, 4, 4, 0, .u32, .observer, .nobody, false, .status, 0, u32Max, 0⟩,
  -- 02h/0/5 C3 watchdog (R48)
  ⟨0, 0, 5, 5, 0, .u8, .observer, .installer, false, .command, 1, 128, 16⟩,
  -- 02h/1–9/0 Engine budget (R48)
  ⟨1, 9, 0, 0, 0, .u32, .observer, .nobody, false, .status, 0, u32Max, 0⟩,
  -- 02h/1–9/1 Engine worst seen (R48)
  ⟨1, 9, 1, 1, 0, .u32, .observer, .installer, false, .count, 0, u32Max, 0⟩,
  -- 02h/1–9/2 Overrun count (R48)
  ⟨1, 9, 2, 2, 0, .u32, .observer, .installer, false, .count, 0, u32Max, 0⟩,
  -- 02h/16–19/0 Port slots planned (R48)
  ⟨16, 19, 0, 0, 0, .u32, .observer, .nobody, false, .status, 0, u32Max, 0⟩,
  -- 02h/16–19/1 Port slots worst seen (R48)
  ⟨16, 19, 1, 1, 0, .u32, .observer, .installer, false, .count, 0, u32Max, 0⟩,
  -- 02h/17–19/2 Watchdog bites (R48)
  ⟨17, 19, 2, 2, 0, .u32, .observer, .installer, false, .count, 0, u32Max, 0⟩,
  -- 02h/17–19/3 Empty grants (R48)
  ⟨17, 19, 3, 3, 0, .u32, .observer, .installer, false, .count, 0, u32Max, 0⟩
]

/-- Class 03h. No rule gives the category of List head 03h/48-63/0: it is a setting (DESIGN CHOICE, log entry 51). -/
def rows03 : List ObjRow := [
  -- 03h/0/0 Capture length (R69)
  ⟨0, 0, 0, 0, 0, .u16, .observer, .nobody, false, .setting, 2000, 8000, 4000⟩,
  -- 03h/0/1 Corrected errors (R69)
  ⟨0, 0, 1, 1, 0, .u32, .observer, .installer, false, .count, 0, u32Max, 0⟩,
  -- 03h/0/2 Uncorrectable errors (R69)
  ⟨0, 0, 2, 2, 0, .u32, .observer, .installer, false, .count, 0, u32Max, 0⟩,
  -- 03h/0/3 Last error address (R69)
  ⟨0, 0, 3, 3, 0, .u32, .observer, .nobody, false, .status, 0, u32Max, 0⟩,
  -- 03h/0/4 Rotation state (R69)
  ⟨0, 0, 4, 4, 0, .e8, .observer, .nobody, false, .status, 0, 255, 0⟩,
  -- 03h/0/5 Rotation bank (R69)
  ⟨0, 0, 5, 5, 0, .u8, .observer, .nobody, false, .status, 0, 255, 0⟩,
  -- 03h/0/6 Rotation steps (R69)
  ⟨0, 0, 6, 6, 0, .u32, .observer, .nobody, false, .status, 0, u32Max, 0⟩,
  -- 03h/0/7 Capture state (R69)
  ⟨0, 0, 7, 7, 0, .e8, .observer, .nobody, false, .status, 0, 255, 0⟩,
  -- 03h/0/8 Rotation dwell (R69)
  ⟨0, 0, 8, 8, 0, .u16, .observer, .installer, false, .setting, 0, 65535, 8000⟩,
  -- 03h/0/9 Trigger CC (R69)
  ⟨0, 0, 9, 9, 0, .u48, .observer, .nobody, false, .status, 0, u48Max, 0⟩,
  -- 03h/0/10 Ignored triggers (R69)
  ⟨0, 0, 10, 10, 0, .u32, .observer, .installer, false, .count, 0, u32Max, 0⟩,
  -- 03h/0/11 Trigger mask (R69)
  ⟨0, 0, 11, 11, 0, .u8, .observer, .installer, false, .setting, 0, 255, 3⟩,
  -- 03h/0/12 Manual trigger (R69)
  ⟨0, 0, 12, 12, 0, .b1, .nobody, .operator, false, .command, 0, 1, 0⟩,
  -- 03h/0/13 Release (R69)
  ⟨0, 0, 13, 13, 0, .b1, .nobody, .operator, false, .command, 0, 1, 0⟩,
  -- 03h/0/14 Post-trigger time (R69)
  ⟨0, 0, 14, 14, 0, .u16, .observer, .installer, false, .setting, 0, 65535, 2000⟩,
  -- 03h/1–17/0 Bank use (R69)
  ⟨1, 17, 0, 0, 0, .e8, .observer, .nobody, false, .status, 0, 255, 0⟩,
  -- 03h/1–17/1 Bank corrected errors (R69)
  ⟨1, 17, 1, 1, 0, .u32, .observer, .installer, false, .count, 0, u32Max, 0⟩,
  -- 03h/20–33/0 Region base (R69)
  ⟨20, 33, 0, 0, 0, .u32, .observer, .nobody, false, .status, 0, u32Max, 0⟩,
  -- 03h/20–33/1 Region size (R69)
  ⟨20, 33, 1, 1, 0, .u32, .observer, .nobody, false, .status, 0, u32Max, 0⟩,
  -- 03h/48–63/0 List head (R69)
  ⟨48, 63, 0, 0, 0, .u32, .observer, .installer, false, .setting, 0, u32Max, 0⟩,
  -- 03h/48–63/1 Control (R69)
  ⟨48, 63, 1, 1, 0, .e8, .nobody, .installer, false, .command, 1, 2, 0⟩,
  -- 03h/48–63/2 Channel state (R69)
  ⟨48, 63, 2, 2, 0, .e8, .observer, .nobody, false, .status, 0, 255, 0⟩,
  -- 03h/48–63/3 Cause (R69)
  ⟨48, 63, 3, 3, 0, .u8, .observer, .nobody, false, .status, 0, 255, 0⟩,
  -- 03h/48–63/4 Current descriptor (R69)
  ⟨48, 63, 4, 4, 0, .u32, .observer, .nobody, false, .status, 0, u32Max, 0⟩,
  -- 03h/48–63/5 Error address (R69)
  ⟨48, 63, 5, 5, 0, .u32, .observer, .nobody, false, .status, 0, u32Max, 0⟩,
  -- 03h/48–63/6 Completions (R69)
  ⟨48, 63, 6, 6, 0, .u32, .observer, .nobody, false, .status, 0, u32Max, 0⟩,
  -- 03h/64–71/0 START (R69)
  ⟨64, 71, 0, 0, 0, .u16, .observer, .installer, false, .setting, 0, 65535, 0⟩,
  -- 03h/64–71/1 STOP (R69)
  ⟨64, 71, 1, 1, 0, .u16, .observer, .installer, false, .setting, 0, 65535, 0⟩,
  -- 03h/64–71/2 Fill (R69)
  ⟨64, 71, 2, 2, 0, .u16, .observer, .nobody, false, .status, 0, 65535, 0⟩,
  -- 03h/72/0 Descriptor window offset (R69)
  ⟨72, 72, 0, 0, 0, .u16, .observer, .installer, false, .window, 8192, 16383, 8192⟩,
  -- 03h/72/1 Descriptor window data (R69)
  ⟨72, 72, 1, 1, 0, .u48, .observer, .installer, false, .window, 0, u48Max, 0⟩,
  -- 03h/73/0 Host area offset (R69)
  ⟨73, 73, 0, 0, 0, .u16, .observer, .observer, false, .window, 0, 32767, 0⟩,
  -- 03h/73/1 Host area data (R69)
  ⟨73, 73, 1, 1, 0, .u48, .observer, .nobody, false, .window, 0, u48Max, 0⟩
]

/-- Class 04h. -/
def rows04 : List ObjRow := [
  -- 04h/0/0 Sessions (R99)
  ⟨0, 0, 0, 0, 0, .u8, .observer, .nobody, false, .status, 0, 255, 0⟩,
  -- 04h/0/1 Idle timeout (R99)
  ⟨0, 0, 1, 1, 0, .u16, .observer, .installer, false, .setting, 5, 3600, 60⟩,
  -- 04h/0/2 Subscriptions (R99)
  ⟨0, 0, 2, 2, 0, .u8, .observer, .nobody, false, .status, 0, 255, 0⟩,
  -- 04h/0/3 Discarded PDUs (R99)
  ⟨0, 0, 3, 3, 0, .u32, .observer, .installer, false, .count, 0, u32Max, 0⟩,
  -- 04h/0/4 Login failures (R99)
  ⟨0, 0, 4, 4, 0, .u32, .observer, .installer, false, .count, 0, u32Max, 0⟩,
  -- 04h/1–2/0 Node ID (R99)
  ⟨1, 2, 0, 0, 0, .u8, .observer, .installer, false, .setting, 1, 120, 16⟩,
  -- 04h/1–2/1 Nominal rate (R99)
  ⟨1, 2, 1, 1, 0, .e8, .observer, .installer, false, .setting, 0, 3, 2⟩,
  -- 04h/1–2/2 Data rate (R99)
  ⟨1, 2, 2, 2, 0, .e8, .observer, .installer, false, .setting, 0, 3, 1⟩,
  -- 04h/1–2/3 KOD enable (R99)
  ⟨1, 2, 3, 3, 0, .b1, .observer, .installer, false, .setting, 0, 1, 1⟩,
  -- 04h/3/0 PLCA node ID (R99)
  ⟨3, 3, 0, 0, 0, .u8, .observer, .installer, false, .setting, 0, 31, 1⟩,
  -- 04h/3/1 PLCA node count (R99)
  ⟨3, 3, 1, 1, 0, .u8, .observer, .installer, false, .setting, 2, 32, 8⟩,
  -- 04h/3/2 IPv4 address (R99)
  ⟨3, 3, 2, 2, 0, .u32, .observer, .installer, false, .setting, 0, u32Max, 0⟩,
  -- 04h/3/3 IPv4 prefix (R99)
  ⟨3, 3, 3, 3, 0, .u8, .observer, .installer, false, .setting, 8, 30, 24⟩,
  -- 04h/3/4 MAC address (R99)
  ⟨3, 3, 4, 4, 0, .u48, .observer, .nobody, false, .status, 0, u48Max, 0⟩,
  -- 04h/3/5 KOD port (R99)
  ⟨3, 3, 5, 5, 0, .u16, .observer, .installer, false, .setting, 1024, 65535, 23115⟩,
  -- 04h/16–47/0 Session state (R99)
  ⟨16, 47, 0, 0, 0, .e8, .observer, .nobody, false, .status, 0, 255, 0⟩,
  -- 04h/16–47/1 Session role (R99)
  ⟨16, 47, 1, 1, 0, .e8, .observer, .nobody, false, .status, 0, 255, 0⟩,
  -- 04h/16–47/2 Endpoint (R99)
  ⟨16, 47, 2, 2, 0, .txt32, .observer, .nobody, false, .status, 0, txtMax, 0⟩,
  -- 04h/16–47/3 Idle remaining (R99)
  ⟨16, 47, 3, 3, 0, .u16, .observer, .nobody, false, .status, 0, 65535, 0⟩,
  -- 04h/16–47/4 Close (R99)
  ⟨16, 47, 4, 4, 0, .b1, .nobody, .installer, false, .command, 0, 1, 0⟩
]

/-- Class 05h. -/
def rows05 : List ObjRow := [
  -- 05h/0/0 Wall time (R196)
  ⟨0, 0, 0, 0, 0, .t48, .observer, .nobody, false, .status, 0, u48Max, 0⟩,
  -- 05h/0/1 Time valid (R196)
  ⟨0, 0, 1, 1, 0, .b1, .observer, .nobody, false, .status, 0, 1, 0⟩,
  -- 05h/0/2 Step target (R196)
  ⟨0, 0, 2, 2, 0, .t48, .nobody, .installer, false, .command, 0, u48Max, 0⟩,
  -- 05h/0/3 Slew (R196)
  ⟨0, 0, 3, 3, 0, .s48, .observer, .operator, false, .command, -2000, 2000, 0⟩,
  -- 05h/0/4 High-water time (R196)
  ⟨0, 0, 4, 4, 0, .t48, .observer, .nobody, false, .status, 0, u48Max, 0⟩,
  -- 05h/0/5 Local offset (R196)
  ⟨0, 0, 5, 5, 0, .s48, .observer, .nobody, false, .status, s48Min, s48Max, 0⟩,
  -- 05h/0/6 Regression from (R196)
  ⟨0, 0, 6, 6, 0, .t48, .observer, .nobody, false, .status, 0, u48Max, 0⟩,
  -- 05h/0/7 Regression to (R196)
  ⟨0, 0, 7, 7, 0, .t48, .observer, .nobody, false, .status, 0, u48Max, 0⟩
]

/-- Class 08h. -/
def rows08 : List ObjRow := [
  -- 08h/*/0 Sensor type (R125)
  ⟨0, 151, 0, 0, 0, .e8, .observer, .metrology, true, .setting, 0, 5, 2⟩,
  -- 08h/*/1 Gain code (R125)
  ⟨0, 151, 1, 1, 0, .e8, .observer, .metrology, true, .setting, 0, 5, 0⟩,
  -- 08h/*/2 Full scale (R125)
  ⟨0, 151, 2, 2, 0, .u32, .observer, .metrology, true, .setting, 0, u32Max, 75000⟩,
  -- 08h/*/3 Leak shift (R125)
  ⟨0, 151, 3, 3, 0, .u8, .observer, .metrology, true, .setting, 10, 16, 14⟩,
  -- 08h/*/4 Clipped (R125)
  ⟨0, 151, 4, 4, 0, .b1, .observer, .nobody, false, .status, 0, 1, 0⟩,
  -- 08h/*/5 Clip count (R125)
  ⟨0, 151, 5, 5, 0, .u32, .observer, .installer, false, .count, 0, u32Max, 0⟩,
  -- 08h/*/6 Substitution count (R125)
  ⟨0, 151, 6, 6, 0, .u32, .observer, .installer, false, .count, 0, u32Max, 0⟩,
  -- 08h/*/7 Raw mean (R125)
  ⟨0, 151, 7, 7, 0, .s48, .observer, .nobody, false, .status, s48Min, s48Max, 0⟩,
  -- 08h/*/8 Channel state (R125)
  ⟨0, 151, 8, 8, 0, .e8, .observer, .nobody, false, .status, 0, 255, 1⟩
]

/-- Class 09h. -/
def rows09 : List ObjRow := [
  -- 09h/0–7/0 Group enable (R126)
  ⟨0, 7, 0, 0, 0, .b1, .observer, .metrology, true, .setting, 0, 1, 1⟩,
  -- 09h/0–7/1 Nominal voltage (R126)
  ⟨0, 7, 1, 1, 0, .u16, .observer, .metrology, true, .setting, 100, 277, 230⟩,
  -- 09h/0–7/2 Nominal frequency (R126)
  ⟨0, 7, 2, 2, 0, .e8, .observer, .metrology, true, .setting, 0, 1, 0⟩,
  -- 09h/0–7/3 Assigned spokes (R126)
  ⟨0, 7, 3, 3, 0, .u32, .observer, .nobody, false, .status, 0, u32Max, 0⟩,
  -- 09h/0–7/4–7 RMS L1, L2, L3, NP (R126)
  ⟨0, 7, 4, 7, 0, .u32, .observer, .nobody, false, .status, 0, u32Max, 0⟩,
  -- 09h/0–7/8 Frequency (R126)
  ⟨0, 7, 8, 8, 0, .u32, .observer, .nobody, false, .status, 0, u32Max, 0⟩,
  -- 09h/8/0 Reference group (R126)
  ⟨8, 8, 0, 0, 0, .e8, .observer, .metrology, true, .setting, 0, 7, 0⟩,
  -- 09h/32–55/0 Spoke group (R126)
  ⟨32, 55, 0, 0, 0, .e8, .observer, .metrology, true, .setting, 0, 7, 0⟩
]

/-- Class 0Ah. -/
def rows0A : List ObjRow := [
  -- 0Ah/*/0–3 Current rms I1, I2, I3, IN (R146)
  ⟨0, 23, 0, 3, 0, .u32, .observer, .nobody, false, .status, 0, u32Max, 0⟩,
  -- 0Ah/*/4 IX DC mean (R146)
  ⟨0, 23, 4, 4, 0, .s48, .observer, .nobody, false, .status, s48Min, s48Max, 0⟩,
  -- 0Ah/*/5 IX AC rms (R146)
  ⟨0, 23, 5, 5, 0, .u32, .observer, .nobody, false, .status, 0, u32Max, 0⟩,
  -- 0Ah/*/6 Computed residual rms (R146)
  ⟨0, 23, 6, 6, 0, .u32, .observer, .nobody, false, .status, 0, u32Max, 0⟩,
  -- 0Ah/*/7–9 Active power L1, L2, L3 (R146)
  ⟨0, 23, 7, 9, 0, .s48, .observer, .nobody, false, .status, s48Min, s48Max, 0⟩,
  -- 0Ah/*/10 Active power total (R146)
  ⟨0, 23, 10, 10, 0, .s48, .observer, .nobody, false, .status, s48Min, s48Max, 0⟩,
  -- 0Ah/*/11–13 Reactive power L1, L2, L3 (R146)
  ⟨0, 23, 11, 13, 0, .s48, .observer, .nobody, false, .status, s48Min, s48Max, 0⟩,
  -- 0Ah/*/14 Reactive power total (R146)
  ⟨0, 23, 14, 14, 0, .s48, .observer, .nobody, false, .status, s48Min, s48Max, 0⟩,
  -- 0Ah/*/15–17 Apparent power L1, L2, L3 (R146)
  ⟨0, 23, 15, 17, 0, .u48, .observer, .nobody, false, .status, 0, u48Max, 0⟩,
  -- 0Ah/*/18 Apparent power total (R146)
  ⟨0, 23, 18, 18, 0, .u48, .observer, .nobody, false, .status, 0, u48Max, 0⟩,
  -- 0Ah/*/19–21 Power factor L1, L2, L3 (R146)
  ⟨0, 23, 19, 21, 0, .q48, .observer, .nobody, false, .status, s48Min, s48Max, 16777216⟩,
  -- 0Ah/*/22 Power factor total (R146)
  ⟨0, 23, 22, 22, 0, .q48, .observer, .nobody, false, .status, s48Min, s48Max, 16777216⟩,
  -- 0Ah/*/23–25 Phase angle L1, L2, L3 (R146)
  ⟨0, 23, 23, 25, 0, .q48, .observer, .nobody, false, .status, s48Min, s48Max, 0⟩,
  -- 0Ah/*/26 Status (R146)
  ⟨0, 23, 26, 26, 0, .u32, .observer, .nobody, false, .status, 0, u32Max, 0⟩,
  -- 0Ah/*/27 Update tick (R146)
  ⟨0, 23, 27, 27, 0, .u48, .observer, .nobody, false, .status, 0, u48Max, 0⟩,
  -- 0Ah/*/28 Starting current (R146)
  ⟨0, 23, 28, 28, 0, .u32, .observer, .metrology, true, .setting, 1000, 1000000, 10000⟩
]

/-- Class 0Bh. -/
def rows0B : List ObjRow := [
  -- 0Bh/*/0 Value (R148)
  ⟨0, 575, 0, 0, 0, .u48, .observer, .nobody, false, .metrology, 0, u48Max, 0⟩,
  -- 0Bh/*/1 Wrap count (R148)
  ⟨0, 575, 1, 1, 0, .u8, .observer, .nobody, false, .metrology, 0, 255, 0⟩,
  -- 0Bh/*/2 Accumulation mode (R148)
  ⟨0, 575, 2, 2, 0, .e8, .observer, .metrology, true, .setting, 0, 1, 0⟩,
  -- 0Bh/*/3 Snapshot value (R148)
  ⟨0, 575, 3, 3, 0, .u48, .observer, .nobody, false, .metrology, 0, u48Max, 0⟩,
  -- 0Bh/*/4 Snapshot wrap count (R148)
  ⟨0, 575, 4, 4, 0, .u8, .observer, .nobody, false, .metrology, 0, 255, 0⟩,
  -- 0Bh/*/5 Fine fraction (R148)
  ⟨0, 575, 5, 5, 0, .u32, .observer, .nobody, false, .metrology, 0, u32Max, 0⟩,
  -- 0Bh/1000/0 Snapshot request (R148)
  ⟨1000, 1000, 0, 0, 0, .u48, .observer, .utility, false, .command, 0, u48Max, 0⟩,
  -- 0Bh/1000/1 Snapshot tick (R148)
  ⟨1000, 1000, 1, 1, 0, .u48, .observer, .nobody, false, .metrology, 0, u48Max, 0⟩,
  -- 0Bh/1000/2 Snapshot time (R148)
  ⟨1000, 1000, 2, 2, 0, .t48, .observer, .nobody, false, .metrology, 0, u48Max, 0⟩,
  -- 0Bh/1000/3 Snapshot MC (R148)
  ⟨1000, 1000, 3, 3, 0, .u48, .observer, .nobody, false, .metrology, 0, u48Max, 0⟩,
  -- 0Bh/1000/4 Snapshot sequence (R148)
  ⟨1000, 1000, 4, 4, 0, .u16, .observer, .nobody, false, .metrology, 0, 65535, 0⟩,
  -- 0Bh/1000/5 Snapshot source (R148)
  ⟨1000, 1000, 5, 5, 0, .e8, .observer, .nobody, false, .metrology, 0, 255, 0⟩,
  -- 0Bh/1000/6 Clear registers (R148)
  ⟨1000, 1000, 6, 6, 0, .b1, .nobody, .metrology, true, .command, 0, 1, 0⟩
]

/-- Class 0Ch. -/
def rows0C : List ObjRow := [
  -- 0Ch/*/0 Enable (R149)
  ⟨0, 3, 0, 0, 0, .b1, .observer, .installer, false, .setting, 0, 1, 0⟩,
  -- 0Ch/*/1 Spoke (R149)
  ⟨0, 3, 1, 1, 0, .u8, .observer, .installer, false, .setting, 0, 23, 0⟩,
  -- 0Ch/*/2 Quantity (R149)
  ⟨0, 3, 2, 2, 0, .e8, .observer, .installer, false, .setting, 0, 7, 0⟩,
  -- 0Ch/*/3 Meter constant (R149)
  ⟨0, 3, 3, 3, 0, .u32, .observer, .installer, false, .setting, 1, 1000000, 10000⟩,
  -- 0Ch/*/4 Width (R149)
  ⟨0, 3, 4, 4, 0, .u32, .observer, .installer, false, .setting, 10, 200000, 10000⟩,
  -- 0Ch/*/5 Force jitter-free (R149)
  ⟨0, 3, 5, 5, 0, .b1, .observer, .installer, false, .setting, 0, 1, 0⟩,
  -- 0Ch/*/6 Mode (R149)
  ⟨0, 3, 6, 6, 0, .e8, .observer, .nobody, false, .status, 0, 255, 0⟩,
  -- 0Ch/*/7 Polarity (R149)
  ⟨0, 3, 7, 7, 0, .b1, .observer, .installer, false, .setting, 0, 1, 0⟩,
  -- 0Ch/*/8 Pulse count (R149)
  ⟨0, 3, 8, 8, 0, .u32, .observer, .installer, false, .count, 0, u32Max, 0⟩,
  -- 0Ch/*/9 Residue (R149)
  ⟨0, 3, 9, 9, 0, .s48, .observer, .nobody, false, .status, s48Min, s48Max, 0⟩
]

/-- Class 0Dh. -/
def rows0D : List ObjRow := [
  -- 0Dh/*/0 Gain (R127)
  ⟨0, 151, 0, 0, 0, .q48, .observer, .metrology, true, .setting, 12582912, 20971520, 16777216⟩,
  -- 0Dh/*/1 Phase (R127)
  ⟨0, 151, 1, 1, 0, .q48, .observer, .metrology, true, .setting, -16777216, 16777216, 0⟩,
  -- 0Dh/*/2 Offset (R127)
  ⟨0, 151, 2, 2, 0, .s48, .observer, .metrology, true, .setting, -1048576, 1048576, 0⟩,
  -- 0Dh/*/3 Integrator gain (R127)
  ⟨0, 151, 3, 3, 0, .q48, .observer, .metrology, true, .setting, s48Min, s48Max, 0⟩,
  -- 0Dh/256/0 Seal state (R127)
  ⟨256, 256, 0, 0, 0, .e8, .observer, .nobody, false, .status, 0, 255, 0⟩,
  -- 0Dh/256/1 Metrology event counter (R127)
  ⟨256, 256, 1, 1, 0, .u16, .observer, .nobody, false, .status, 0, 65535, 0⟩,
  -- 0Dh/256/2 Calibration checksum (R127)
  ⟨256, 256, 2, 2, 0, .u32, .observer, .nobody, false, .status, 0, u32Max, 0⟩,
  -- 0Dh/256/3 Last calibration time (R127)
  ⟨256, 256, 3, 3, 0, .t48, .observer, .nobody, false, .status, 0, u48Max, 0⟩
]

/-- Class 0Fh. -/
def rows0F : List ObjRow := [
  -- 0Fh/0–5/0 Command (R94)
  ⟨0, 5, 0, 0, 0, .e8, .nobody, .installer, false, .command, 1, 4, 0⟩,
  -- 0Fh/0–5/1 State (R94)
  ⟨0, 5, 1, 1, 0, .e8, .observer, .nobody, false, .status, 0, 255, 0⟩,
  -- 0Fh/0–5/2 Owner (R94)
  ⟨0, 5, 2, 2, 0, .u8, .observer, .nobody, false, .status, 0, 255, 0⟩,
  -- 0Fh/0–5/3 Declared size (R94)
  ⟨0, 5, 3, 3, 0, .u32, .observer, .installer, false, .window, 0, u32Max, 0⟩,
  -- 0Fh/0–5/4 Offset (R94)
  ⟨0, 5, 4, 4, 0, .u32, .observer, .installer, false, .window, 0, u32Max, 0⟩,
  -- 0Fh/0–5/5 Data (R94)
  ⟨0, 5, 5, 5, 0, .u48, .observer, .installer, false, .window, 0, u48Max, 0⟩,
  -- 0Fh/0–5/6 Flush mark (R94)
  ⟨0, 5, 6, 6, 0, .u32, .observer, .nobody, false, .status, 0, u32Max, 0⟩,
  -- 0Fh/0–5/7 High-water (R94)
  ⟨0, 5, 7, 7, 0, .u32, .observer, .nobody, false, .status, 0, u32Max, 0⟩,
  -- 0Fh/0–5/8 Result (R94)
  ⟨0, 5, 8, 8, 0, .u8, .observer, .nobody, false, .status, 0, 255, 0⟩
]

/-- Class 10h. -/
def rows10 : List ObjRow := [
  -- 10h/0/0 Active tariff (R197)
  ⟨0, 0, 0, 0, 0, .u32, .observer, .nobody, false, .status, 0, u32Max, 0⟩,
  -- 10h/0/1 Pending tariff (R197)
  ⟨0, 0, 1, 1, 0, .u32, .observer, .nobody, false, .status, 0, u32Max, 0⟩,
  -- 10h/0/2 Pending activation (R197)
  ⟨0, 0, 2, 2, 0, .t48, .observer, .nobody, false, .status, 0, u48Max, 0⟩,
  -- 10h/0/3 Current rate (R197)
  ⟨0, 0, 3, 3, 0, .e8, .observer, .nobody, false, .status, 0, 255, 0⟩,
  -- 10h/0/4 Next rate (R197)
  ⟨0, 0, 4, 4, 0, .e8, .observer, .nobody, false, .status, 0, 255, 0⟩,
  -- 10h/0/5 Next switch (R197)
  ⟨0, 0, 5, 5, 0, .t48, .observer, .nobody, false, .status, 0, u48Max, 0⟩,
  -- 10h/0/6 Next billing close (R197)
  ⟨0, 0, 6, 6, 0, .t48, .observer, .nobody, false, .status, 0, u48Max, 0⟩,
  -- 10h/0/7 Demand length (R197)
  ⟨0, 0, 7, 7, 0, .u8, .observer, .nobody, false, .status, 0, 255, 15⟩,
  -- 10h/1–8/0 Import price (R197)
  ⟨1, 8, 0, 0, 0, .u32, .observer, .nobody, false, .status, 0, u32Max, 0⟩,
  -- 10h/1–8/1 Export credit (R197)
  ⟨1, 8, 1, 1, 0, .u32, .observer, .nobody, false, .status, 0, u32Max, 0⟩
]

/-- Class 11h. -/
def rows11 : List ObjRow := [
  -- 11h/*/0–23 Register value (R198)
  ⟨0, 447, 0, 23, 0, .u48, .observer, .nobody, false, .metrology, 0, u48Max, 0⟩,
  -- 11h/*/24–47 Wrap count (R198)
  ⟨0, 447, 24, 47, 0, .u8, .observer, .nobody, false, .metrology, 0, 255, 0⟩,
  -- 11h/*/48 Maximum demand (R198)
  ⟨0, 447, 48, 48, 0, .u32, .observer, .nobody, false, .metrology, 0, u32Max, 0⟩,
  -- 11h/*/49 Time of maximum (R198)
  ⟨0, 447, 49, 49, 0, .t48, .observer, .nobody, false, .metrology, 0, u48Max, 0⟩,
  -- 11h/*/50 Intervals (R198)
  ⟨0, 447, 50, 50, 0, .u16, .observer, .nobody, false, .metrology, 0, 65535, 0⟩,
  -- 11h/*/51 Short intervals (R198)
  ⟨0, 447, 51, 51, 0, .u16, .observer, .nobody, false, .metrology, 0, 65535, 0⟩,
  -- 11h/*/52 Running interval energy (R198)
  ⟨0, 447, 52, 52, 0, .u32, .observer, .nobody, false, .metrology, 0, u32Max, 0⟩,
  -- 11h/31+32p/0 Start (R198)
  ⟨31, 447, 0, 0, 0, .t48, .observer, .nobody, false, .metrology, 0, u48Max, 0⟩,
  -- 11h/31+32p/1 End (R198)
  ⟨31, 447, 1, 1, 0, .t48, .observer, .nobody, false, .metrology, 0, u48Max, 0⟩,
  -- 11h/31+32p/2 Sequence (R198)
  ⟨31, 447, 2, 2, 0, .u32, .observer, .nobody, false, .metrology, 0, u32Max, 0⟩,
  -- 11h/31+32p/3 Cause (R198)
  ⟨31, 447, 3, 3, 0, .e8, .observer, .nobody, false, .metrology, 0, 255, 0⟩,
  -- 11h/31+32p/4 Flags (R198)
  ⟨31, 447, 4, 4, 0, .u8, .observer, .nobody, false, .metrology, 0, 255, 0⟩,
  -- 11h/31/10 Close now (R198)
  ⟨31, 31, 10, 10, 0, .b1, .nobody, .utility, false, .command, 0, 1, 0⟩,
  -- 11h/31/11 Interval start (R198)
  ⟨31, 31, 11, 11, 0, .t48, .observer, .nobody, false, .metrology, 0, u48Max, 0⟩
]

/-- Class 12h. -/
def rows12 : List ObjRow := [
  -- 12h/0–47/0 State (R199)
  ⟨0, 47, 0, 0, 0, .e8, .observer, .nobody, false, .metrology, 0, 255, 0⟩,
  -- 12h/0–47/1 Session number (R199)
  ⟨0, 47, 1, 1, 0, .u32, .observer, .nobody, false, .metrology, 0, u32Max, 0⟩,
  -- 12h/0–47/2 Spoke (R199)
  ⟨0, 47, 2, 2, 0, .u8, .observer, .nobody, false, .metrology, 0, 255, 0⟩,
  -- 12h/0–47/3 Purse (R199)
  ⟨0, 47, 3, 3, 0, .u16, .observer, .nobody, false, .metrology, 0, 65535, 65535⟩,
  -- 12h/0–47/4 Identity (R199)
  ⟨0, 47, 4, 4, 0, .txt32, .observer, .nobody, false, .metrology, 0, txtMax, 0⟩,
  -- 12h/0–47/5–6 Start, end (R199)
  ⟨0, 47, 5, 6, 0, .t48, .observer, .nobody, false, .metrology, 0, u48Max, 0⟩,
  -- 12h/0–47/7 Tariff (R199)
  ⟨0, 47, 7, 7, 0, .u32, .observer, .nobody, false, .metrology, 0, u32Max, 0⟩,
  -- 12h/0–47/8–9 Import, export (R199)
  ⟨0, 47, 8, 9, 0, .u48, .observer, .nobody, false, .metrology, 0, u48Max, 0⟩,
  -- 12h/0–47/10–25 By rate (R199)
  ⟨0, 47, 10, 25, 0, .u48, .observer, .nobody, false, .metrology, 0, u48Max, 0⟩,
  -- 12h/0–47/26 Minutes (R199)
  ⟨0, 47, 26, 26, 0, .u32, .observer, .nobody, false, .metrology, 0, u32Max, 0⟩,
  -- 12h/0–47/27 Cost (R199)
  ⟨0, 47, 27, 27, 0, .s48, .observer, .nobody, false, .metrology, s48Min, s48Max, 0⟩,
  -- 12h/0–47/28 End reason (R199)
  ⟨0, 47, 28, 28, 0, .e8, .observer, .nobody, false, .metrology, 0, 255, 0⟩,
  -- 12h/0–47/29 Collect (R199)
  ⟨0, 47, 29, 29, 0, .b1, .nobody, .operator, false, .command, 0, 1, 0⟩,
  -- 12h/0–47/30 Stop (R199)
  ⟨0, 47, 30, 30, 0, .b1, .nobody, .operator, false, .command, 0, 1, 0⟩,
  -- 12h/64/0 Authorise spoke (R199)
  ⟨64, 64, 0, 0, 0, .u8, .nobody, .operator, false, .command, 0, 255, 0⟩,
  -- 12h/64/1 Identity (R199)
  ⟨64, 64, 1, 1, 0, .txt32, .observer, .operator, false, .command, 0, txtMax, 0⟩,
  -- 12h/64/2 Purse (R199)
  ⟨64, 64, 2, 2, 0, .u16, .observer, .operator, false, .command, 0, 65535, 65535⟩
]

/-- Class 13h. -/
def rows13 : List ObjRow := [
  -- 13h/0–255/0 Customer identifier (R200)
  ⟨0, 255, 0, 0, 0, .txt32, .observer, .utility, false, .setting, 0, txtMax, 0⟩,
  -- 13h/0–255/1 Unit value (R200)
  ⟨0, 255, 1, 1, 0, .u32, .observer, .utility, false, .setting, 0, u32Max, 10000⟩,
  -- 13h/0–255/2 Balance (R200)
  ⟨0, 255, 2, 2, 0, .s48, .observer, .nobody, false, .metrology, s48Min, s48Max, 0⟩,
  -- 13h/0–255/3 Maximum balance (R200)
  ⟨0, 255, 3, 3, 0, .u48, .observer, .utility, false, .setting, 0, u48Max, 1000000000⟩,
  -- 13h/0–255/4 Low-credit threshold (R200)
  ⟨0, 255, 4, 4, 0, .u48, .observer, .operator, false, .setting, 0, u48Max, 0⟩,
  -- 13h/0–255/5 Floor (R200)
  ⟨0, 255, 5, 5, 0, .u16, .observer, .nobody, false, .metrology, 0, 65535, 0⟩,
  -- 13h/0–255/6 Window high (R200)
  ⟨0, 255, 6, 6, 0, .u16, .observer, .nobody, false, .metrology, 0, 65535, 0⟩,
  -- 13h/0–255/7 Window low (R200)
  ⟨0, 255, 7, 7, 0, .u48, .observer, .nobody, false, .metrology, 0, u48Max, 0⟩,
  -- 13h/0–255/8 Purse state (R200)
  ⟨0, 255, 8, 8, 0, .e8, .observer, .nobody, false, .metrology, 0, 255, 0⟩,
  -- 13h/0–255/9 Accepted tokens (R200)
  ⟨0, 255, 9, 9, 0, .u32, .observer, .nobody, false, .metrology, 0, u32Max, 0⟩,
  -- 13h/256/0 Token entry (R200)
  ⟨256, 256, 0, 0, 0, .txt32, .nobody, .operator, false, .command, 0, txtMax, 0⟩,
  -- 13h/256/1 Last result (R200)
  ⟨256, 256, 1, 1, 0, .u8, .observer, .nobody, false, .metrology, 0, 255, 0⟩,
  -- 13h/256/2 Lockout remaining (R200)
  ⟨256, 256, 2, 2, 0, .u16, .observer, .nobody, false, .metrology, 0, 65535, 0⟩
]

/-- Class 14h. -/
def rows14 : List ObjRow := [
  -- 14h/*/4k Identity (R377)
  ⟨0, 1023, 0, 0, 4, .txt32, .operator, .nobody, false, .status, 0, txtMax, 0⟩,
  -- 14h/*/4k + 1 Purse (R377)
  ⟨0, 1023, 1, 1, 4, .u16, .operator, .nobody, false, .status, 0, 65535, 65535⟩,
  -- 14h/*/4k + 2 Valid until (R377)
  ⟨0, 1023, 2, 2, 4, .t48, .operator, .nobody, false, .status, 0, u48Max, 0⟩,
  -- 14h/*/4k + 3 Flags (R377)
  ⟨0, 1023, 3, 3, 4, .u8, .operator, .nobody, false, .status, 0, 255, 0⟩,
  -- 14h/0/32 List identity (R377)
  ⟨0, 0, 32, 32, 0, .u32, .observer, .nobody, false, .status, 0, u32Max, 0⟩,
  -- 14h/0/33 Entries (R377)
  ⟨0, 0, 33, 33, 0, .u16, .observer, .nobody, false, .status, 0, 65535, 0⟩
]

/-- Class 18h. -/
def rows18 : List ObjRow := [
  -- 18h/*/0 Pilot state (R218)
  ⟨0, 23, 0, 0, 0, .e8, .observer, .nobody, false, .status, 0, 255, 6⟩,
  -- 18h/*/1 Diode status (R218)
  ⟨0, 23, 1, 1, 0, .e8, .observer, .nobody, false, .status, 0, 255, 0⟩,
  -- 18h/*/2 Pilot condition (R218)
  ⟨0, 23, 2, 2, 0, .b1, .observer, .nobody, false, .status, 0, 1, 0⟩,
  -- 18h/*/3 High plateau (R218)
  ⟨0, 23, 3, 3, 0, .s48, .observer, .nobody, false, .status, s48Min, s48Max, 0⟩,
  -- 18h/*/4 Low plateau (R218)
  ⟨0, 23, 4, 4, 0, .s48, .observer, .nobody, false, .status, s48Min, s48Max, 0⟩,
  -- 18h/*/5 Duty in force (R218)
  ⟨0, 23, 5, 5, 0, .u16, .observer, .nobody, false, .status, 0, 65535, 0⟩,
  -- 18h/*/6 Pilot mode in force (R218)
  ⟨0, 23, 6, 6, 0, .e8, .observer, .nobody, false, .status, 0, 255, 0⟩,
  -- 18h/*/7 Decoded current (R218)
  ⟨0, 23, 7, 7, 0, .u32, .observer, .nobody, false, .status, 0, u32Max, 0⟩,
  -- 18h/*/8 Proximity state (R218)
  ⟨0, 23, 8, 8, 0, .e8, .observer, .nobody, false, .status, 0, 255, 0⟩,
  -- 18h/*/9 Proximity resistance (R218)
  ⟨0, 23, 9, 9, 0, .u32, .observer, .nobody, false, .status, 0, u32Max, 4095000⟩,
  -- 18h/*/10 Cable rating (R218)
  ⟨0, 23, 10, 10, 0, .u32, .observer, .nobody, false, .status, 0, u32Max, 0⟩,
  -- 18h/*/11 Outlet kind (R218)
  ⟨0, 23, 11, 11, 0, .e8, .observer, .installer, false, .setting, 0, 1, 0⟩,
  -- 18h/*/12 Tethered rating (R218)
  ⟨0, 23, 12, 12, 0, .u32, .observer, .installer, false, .setting, 6000, 80000, 32000⟩,
  -- 18h/*/13 Weld-sense state (R218)
  ⟨0, 23, 13, 13, 0, .e8, .observer, .nobody, false, .status, 0, 255, 3⟩,
  -- 18h/*/14 Weld-sense maximum (R218)
  ⟨0, 23, 14, 14, 0, .u16, .observer, .nobody, false, .status, 0, 65535, 0⟩,
  -- 18h/*/15 Live threshold (R218)
  ⟨0, 23, 15, 15, 0, .u16, .observer, .installer, false, .setting, 246, 4095, 1638⟩,
  -- 18h/*/16 Dead threshold (R218)
  ⟨0, 23, 16, 16, 0, .u16, .observer, .installer, false, .setting, 164, 4095, 410⟩,
  -- 18h/*/17 State filter (R218)
  ⟨0, 23, 17, 17, 0, .u8, .observer, .installer, false, .setting, 1, 64, 8⟩,
  -- 18h/*/18 State changes (R218)
  ⟨0, 23, 18, 18, 0, .u32, .observer, .installer, false, .count, 0, u32Max, 0⟩,
  -- 18h/*/19 Last change tick (R218)
  ⟨0, 23, 19, 19, 0, .u48, .observer, .nobody, false, .status, 0, u48Max, 0⟩,
  -- 18h/*/20 Diode faults (R218)
  ⟨0, 23, 20, 20, 0, .u32, .observer, .installer, false, .count, 0, u32Max, 0⟩
]

/-- Class 19h. -/
def rows19 : List ObjRow := [
  -- 19h/*/0 Run state (R237)
  ⟨0, 23, 0, 0, 0, .e8, .observer, .nobody, false, .status, 0, 255, 1⟩,
  -- 19h/*/1 Program counter (R237)
  ⟨0, 23, 1, 1, 0, .u8, .observer, .nobody, false, .status, 0, 255, 0⟩,
  -- 19h/*/2 Pending flags (R237)
  ⟨0, 23, 2, 2, 0, .u32, .observer, .nobody, false, .status, 0, u32Max, 0⟩,
  -- 19h/*/3 Gate state (R237)
  ⟨0, 23, 3, 3, 0, .e8, .observer, .nobody, false, .status, 0, 255, 0⟩,
  -- 19h/*/4 Gate blockers (R237)
  ⟨0, 23, 4, 4, 0, .u8, .observer, .nobody, false, .status, 0, 255, 0⟩,
  -- 19h/*/5 Close request (R237)
  ⟨0, 23, 5, 5, 0, .b1, .observer, .nobody, false, .status, 0, 1, 0⟩,
  -- 19h/*/6 Image identity (R237)
  ⟨0, 23, 6, 6, 0, .u32, .observer, .nobody, false, .status, 0, u32Max, 0⟩,
  -- 19h/*/7 Program number (R237)
  ⟨0, 23, 7, 7, 0, .u8, .observer, .nobody, false, .status, 0, 255, 0⟩,
  -- 19h/*/8–11 Parameters P0–P3 (R237)
  ⟨0, 23, 8, 11, 0, .s48, .observer, .installer, false, .setting, s48Min, s48Max, 1⟩,
  -- 19h/*/12–19 W0–W7 (R237)
  ⟨0, 23, 12, 19, 0, .s48, .observer, .nobody, false, .status, s48Min, s48Max, 0⟩,
  -- 19h/*/20–23 T0–T3 (R237)
  ⟨0, 23, 20, 23, 0, .u32, .observer, .nobody, false, .status, 0, u32Max, 0⟩,
  -- 19h/*/24 Instructions last tick (R237)
  ⟨0, 23, 24, 24, 0, .u8, .observer, .nobody, false, .status, 0, 255, 0⟩,
  -- 19h/*/25 Sink errors (R237)
  ⟨0, 23, 25, 25, 0, .u32, .observer, .installer, false, .count, 0, u32Max, 0⟩,
  -- 19h/*/26 User status (R237)
  ⟨0, 23, 26, 26, 0, .u16, .observer, .nobody, false, .status, 0, 65535, 0⟩,
  -- 19h/*/27 Halt address (R237)
  ⟨0, 23, 27, 27, 0, .u8, .observer, .nobody, false, .status, 0, 255, 0⟩,
  -- 19h/*/28 Restart (R237)
  ⟨0, 23, 28, 28, 0, .b1, .nobody, .installer, false, .command, 0, 1, 0⟩,
  -- 19h/256/0 Broadcast (R238)
  ⟨256, 256, 0, 0, 0, .u16, .nobody, .operator, false, .command, 0, 65535, 0⟩,
  -- 19h/256/1 Last broadcast (R238)
  ⟨256, 256, 1, 1, 0, .u16, .observer, .nobody, false, .status, 0, 65535, 0⟩,
  -- 19h/256/2 Image identity (R238)
  ⟨256, 256, 2, 2, 0, .u32, .observer, .nobody, false, .status, 0, u32Max, 0⟩,
  -- 19h/256/3 Switch pending (R238)
  ⟨256, 256, 3, 3, 0, .u32, .observer, .nobody, false, .status, 0, u32Max, 0⟩
]

/-- Class 1Ah. -/
def rows1A : List ObjRow := [
  -- 1Ah/*/0 Link state (R256)
  ⟨0, 23, 0, 0, 0, .e8, .observer, .nobody, false, .status, 0, 255, 0⟩,
  -- 1Ah/*/1 Link control in force (R256)
  ⟨0, 23, 1, 1, 0, .e8, .observer, .nobody, false, .status, 0, 255, 0⟩,
  -- 1Ah/*/2 Protocol (R256)
  ⟨0, 23, 2, 2, 0, .e8, .observer, .nobody, false, .status, 0, 255, 0⟩,
  -- 1Ah/*/3 Identification (R256)
  ⟨0, 23, 3, 3, 0, .e8, .observer, .nobody, false, .status, 0, 255, 0⟩,
  -- 1Ah/*/4 TLS (R256)
  ⟨0, 23, 4, 4, 0, .e8, .observer, .nobody, false, .status, 0, 255, 0⟩,
  -- 1Ah/*/5 Station MAC (R256)
  ⟨0, 23, 5, 5, 0, .u48, .observer, .nobody, false, .status, 0, u48Max, 0⟩,
  -- 1Ah/*/6 Vehicle MAC (R256)
  ⟨0, 23, 6, 6, 0, .u48, .observer, .nobody, false, .status, 0, u48Max, 0⟩,
  -- 1Ah/*/7 EVCCID (R256)
  ⟨0, 23, 7, 7, 0, .txt32, .observer, .nobody, false, .status, 0, txtMax, 0⟩,
  -- 1Ah/*/8 Contract identity (R256)
  ⟨0, 23, 8, 8, 0, .txt32, .observer, .nobody, false, .status, 0, txtMax, 0⟩,
  -- 1Ah/*/9 Vehicle maximum current (R256)
  ⟨0, 23, 9, 9, 0, .u32, .observer, .nobody, false, .status, 0, u32Max, 0⟩,
  -- 1Ah/*/10 Vehicle maximum discharge (R256)
  ⟨0, 23, 10, 10, 0, .u32, .observer, .nobody, false, .status, 0, u32Max, 0⟩,
  -- 1Ah/*/11 Failed attempts (R256)
  ⟨0, 23, 11, 11, 0, .u8, .observer, .nobody, false, .status, 0, 255, 0⟩,
  -- 1Ah/*/12 Last mean attenuation (R256)
  ⟨0, 23, 12, 12, 0, .u16, .observer, .nobody, false, .status, 0, 65535, 0⟩,
  -- 1Ah/*/13 Matches (R256)
  ⟨0, 23, 13, 13, 0, .u32, .observer, .installer, false, .count, 0, u32Max, 0⟩,
  -- 1Ah/*/14 Deferred runs (R256)
  ⟨0, 23, 14, 14, 0, .u32, .observer, .installer, false, .count, 0, u32Max, 0⟩,
  -- 1Ah/*/15 Transmit attenuation (R256)
  ⟨0, 23, 15, 15, 0, .u8, .observer, .installer, false, .setting, 0, 30, 0⟩,
  -- 1Ah/*/16 Protocol enable (R256)
  ⟨0, 23, 16, 16, 0, .u8, .observer, .installer, false, .setting, 0, 255, 7⟩,
  -- 1Ah/*/17 Plug & Charge enable (R256)
  ⟨0, 23, 17, 17, 0, .b1, .observer, .installer, false, .setting, 0, 1, 1⟩,
  -- 1Ah/*/18 Bidirectional enable (R256)
  ⟨0, 23, 18, 18, 0, .b1, .observer, .installer, false, .setting, 0, 1, 0⟩,
  -- 1Ah/*/19 Contract decision (R256)
  ⟨0, 23, 19, 19, 0, .e8, .nobody, .operator, false, .command, 1, 2, 0⟩,
  -- 1Ah/*/20 Contract pending (R256)
  ⟨0, 23, 20, 20, 0, .b1, .observer, .nobody, false, .status, 0, 1, 0⟩,
  -- 1Ah/256/0 Beacon alignment (R256)
  ⟨256, 256, 0, 0, 0, .e8, .observer, .nobody, false, .status, 0, 255, 0⟩,
  -- 1Ah/256/1 Protocol priority (R256)
  ⟨256, 256, 1, 1, 0, .e8, .observer, .installer, false, .setting, 0, 1, 0⟩,
  -- 1Ah/256/2 Last run spoke (R256)
  ⟨256, 256, 2, 2, 0, .u8, .observer, .nobody, false, .status, 0, 255, 255⟩,
  -- 1Ah/256/3 Last run margin (R256)
  ⟨256, 256, 3, 3, 0, .u16, .observer, .nobody, false, .status, 0, 65535, 0⟩,
  -- 1Ah/256/4 Contract decision time (R256)
  ⟨256, 256, 4, 4, 0, .u8, .observer, .installer, false, .setting, 1, 50, 10⟩
]

/-- Class 1Bh. -/
def rows1B : List ObjRow := [
  -- 1Bh/0–8/0–2 Import limit L1–L3 (R272)
  ⟨0, 8, 0, 2, 0, .u32, .observer, .installer, false, .setting, 0, 2000000, 100000⟩,
  -- 1Bh/0–8/3–5 Reserve L1–L3 (R272)
  ⟨0, 8, 3, 5, 0, .u32, .observer, .installer, false, .setting, 0, 2000000, 0⟩,
  -- 1Bh/0–8/6–8 Export limit L1–L3 (R272)
  ⟨0, 8, 6, 8, 0, .u32, .observer, .installer, false, .setting, 0, 2000000, 32000⟩,
  -- 1Bh/0–8/9–11 Effective limit L1–L3 (R272)
  ⟨0, 8, 9, 11, 0, .u32, .observer, .nobody, false, .status, 0, u32Max, 0⟩,
  -- 1Bh/0–8/12–14 Measured L1–L3 (R272)
  ⟨0, 8, 12, 14, 0, .s48, .observer, .nobody, false, .status, s48Min, s48Max, 0⟩,
  -- 1Bh/0–8/15–17 Allocated L1–L3 (R272)
  ⟨0, 8, 15, 17, 0, .u32, .observer, .nobody, false, .status, 0, u32Max, 0⟩,
  -- 1Bh/0–8/18 Guard stage (R272)
  ⟨0, 8, 18, 18, 0, .e8, .observer, .nobody, false, .status, 0, 255, 0⟩,
  -- 1Bh/0–8/19 Trim (R272)
  ⟨0, 8, 19, 19, 0, .u32, .observer, .nobody, false, .status, 0, u32Max, 0⟩,
  -- 1Bh/0–8/20 Guard actions (R272)
  ⟨0, 8, 20, 20, 0, .u32, .observer, .installer, false, .count, 0, u32Max, 0⟩,
  -- 1Bh/9/0 Vehicle lag (R273)
  ⟨9, 9, 0, 0, 0, .u16, .observer, .installer, false, .setting, 1000, 10000, 5000⟩,
  -- 1Bh/9/1 Export credit (R273)
  ⟨9, 9, 1, 1, 0, .b1, .observer, .installer, false, .setting, 0, 1, 1⟩,
  -- 1Bh/9/2 Rebound window (R273)
  ⟨9, 9, 2, 2, 0, .u16, .observer, .installer, false, .setting, 0, 600, 0⟩,
  -- 1Bh/9/3 Last period (R273)
  ⟨9, 9, 3, 3, 0, .u48, .observer, .nobody, false, .status, 0, u48Max, 0⟩,
  -- 1Bh/9/4 Late computations (R273)
  ⟨9, 9, 4, 4, 0, .u32, .observer, .installer, false, .count, 0, u32Max, 0⟩,
  -- 1Bh/16–39/0 Feeder (R274)
  ⟨16, 39, 0, 0, 0, .u8, .observer, .installer, false, .setting, 0, 7, 0⟩,
  -- 1Bh/16–39/1 Phase rotation (R274)
  ⟨16, 39, 1, 1, 0, .e8, .observer, .installer, false, .setting, 0, 2, 0⟩,
  -- 1Bh/16–39/2 Tier (R274)
  ⟨16, 39, 2, 2, 0, .u8, .observer, .installer, false, .setting, 0, 3, 1⟩,
  -- 1Bh/16–39/3 Outlet maximum (R274)
  ⟨16, 39, 3, 3, 0, .u32, .observer, .installer, false, .setting, 6000, 80000, 32000⟩,
  -- 1Bh/16–39/4 Granted current (R274)
  ⟨16, 39, 4, 4, 0, .u32, .observer, .nobody, false, .status, 0, u32Max, 0⟩,
  -- 1Bh/16–39/5 Export grant (R274)
  ⟨16, 39, 5, 5, 0, .u32, .observer, .nobody, false, .status, 0, u32Max, 0⟩,
  -- 1Bh/16–39/6 Ceiling (R274)
  ⟨16, 39, 6, 6, 0, .u32, .observer, .nobody, false, .status, 0, u32Max, 0⟩,
  -- 1Bh/16–39/7 Allocation state (R274)
  ⟨16, 39, 7, 7, 0, .e8, .observer, .nobody, false, .status, 0, 255, 0⟩,
  -- 1Bh/16–39/8 Phases used (R274)
  ⟨16, 39, 8, 8, 0, .u8, .observer, .nobody, false, .status, 0, 255, 7⟩,
  -- 1Bh/16–39/9 Hold (R274)
  ⟨16, 39, 9, 9, 0, .u32, .observer, .nobody, false, .status, 0, u32Max, 0⟩,
  -- 1Bh/48–55/0 Cap state (R275)
  ⟨48, 55, 0, 0, 0, .e8, .observer, .nobody, false, .status, 0, 255, 0⟩,
  -- 1Bh/48–55/1 Target (R275)
  ⟨48, 55, 1, 1, 0, .u8, .observer, .nobody, false, .status, 0, 255, 0⟩,
  -- 1Bh/48–55/2 Phase mask (R275)
  ⟨48, 55, 2, 2, 0, .u8, .observer, .nobody, false, .status, 0, 255, 0⟩,
  -- 1Bh/48–55/3 Cap (R275)
  ⟨48, 55, 3, 3, 0, .u32, .observer, .nobody, false, .status, 0, u32Max, 0⟩,
  -- 1Bh/48–55/4 Start (R275)
  ⟨48, 55, 4, 4, 0, .t48, .observer, .nobody, false, .status, 0, u48Max, 0⟩,
  -- 1Bh/48–55/5 End (R275)
  ⟨48, 55, 5, 5, 0, .t48, .observer, .nobody, false, .status, 0, u48Max, 0⟩,
  -- 1Bh/48–55/6 Cap identity (R275)
  ⟨48, 55, 6, 6, 0, .u32, .observer, .nobody, false, .status, 0, u32Max, 0⟩
]

/-- Class 1Ch. -/
def rows1C : List ObjRow := [
  -- 1Ch/*/0 Command (R297)
  ⟨0, 103, 0, 0, 0, .e8, .observer, .operator, false, .command, 0, 1, 0⟩,
  -- 1Ch/*/1 Channel state (R297)
  ⟨0, 103, 1, 1, 0, .e8, .observer, .nobody, false, .status, 0, 255, 0⟩,
  -- 1Ch/*/2 Latch cause (R297)
  ⟨0, 103, 2, 2, 0, .e8, .observer, .nobody, false, .status, 0, 255, 0⟩,
  -- 1Ch/*/3 Clear latch (R297)
  ⟨0, 103, 3, 3, 0, .b1, .nobody, .installer, false, .command, 0, 1, 0⟩,
  -- 1Ch/*/4 Load type (R297)
  ⟨0, 103, 4, 4, 0, .e8, .observer, .installer, false, .setting, 0, 5, 0⟩,
  -- 1Ch/*/5 Nominal current (R297)
  ⟨0, 103, 5, 5, 0, .u32, .observer, .installer, false, .setting, 10, 2000, 500⟩,
  -- 1Ch/*/6 Current (R297)
  ⟨0, 103, 6, 6, 0, .u32, .observer, .nobody, false, .status, 0, u32Max, 0⟩,
  -- 1Ch/*/7 Hot (R297)
  ⟨0, 103, 7, 7, 0, .b1, .observer, .nobody, false, .status, 0, 1, 0⟩,
  -- 1Ch/*/8 Restarts available (R297)
  ⟨0, 103, 8, 8, 0, .u8, .observer, .nobody, false, .status, 0, 255, 7⟩,
  -- 1Ch/*/9 Operations (R297)
  ⟨0, 103, 9, 9, 0, .u32, .observer, .installer, false, .count, 0, u32Max, 0⟩,
  -- 1Ch/*/10 Rated operations (R297)
  ⟨0, 103, 10, 10, 0, .u32, .observer, .installer, false, .setting, 0, u32Max, 100000⟩,
  -- 1Ch/*/11 Off-pulse failures (R297)
  ⟨0, 103, 11, 11, 0, .u32, .observer, .installer, false, .count, 0, u32Max, 0⟩,
  -- 1Ch/*/12 Last off-pulse (R297)
  ⟨0, 103, 12, 12, 0, .u48, .observer, .nobody, false, .status, 0, u48Max, 0⟩,
  -- 1Ch/*/13 Readback (R297)
  ⟨0, 103, 13, 13, 0, .u16, .observer, .nobody, false, .status, 0, 65535, 0⟩,
  -- 1Ch/*/16 Lock state (R297)
  ⟨0, 103, 16, 16, 0, .e8, .observer, .nobody, false, .status, 0, 255, 0⟩,
  -- 1Ch/*/17 Stroke time (R297)
  ⟨0, 103, 17, 17, 0, .u16, .observer, .installer, false, .setting, 50, 500, 300⟩,
  -- 1Ch/*/18 Feedback polarity (R297)
  ⟨0, 103, 18, 18, 0, .b1, .observer, .installer, false, .setting, 0, 1, 0⟩,
  -- 1Ch/*/19 Engage direction (R297)
  ⟨0, 103, 19, 19, 0, .b1, .observer, .installer, false, .setting, 0, 1, 0⟩,
  -- 1Ch/*/20 Weld check (R297)
  ⟨0, 103, 20, 20, 0, .e8, .observer, .nobody, false, .status, 0, 255, 1⟩,
  -- 1Ch/*/21 Openings under load (R297)
  ⟨0, 103, 21, 21, 0, .u32, .observer, .installer, false, .count, 0, u32Max, 0⟩,
  -- 1Ch/*/22 Clear weld lockout (R297)
  ⟨0, 103, 22, 22, 0, .b1, .nobody, .installer, false, .command, 0, 1, 0⟩,
  -- 1Ch/256/0–3 Bank state (R298)
  ⟨256, 256, 0, 3, 0, .e8, .observer, .nobody, false, .status, 0, 255, 0⟩,
  -- 1Ch/256/4 Welded lockouts (R298)
  ⟨256, 256, 4, 4, 0, .u32, .observer, .installer, false, .count, 0, u32Max, 0⟩
]

/-- Class 1Dh. -/
def rows1D : List ObjRow := [
  -- 1Dh/0–3/0 Function state (R327)
  ⟨0, 3, 0, 0, 0, .e8, .observer, .nobody, false, .status, 0, 255, 0⟩,
  -- 1Dh/0–3/1 Channel levels (R327)
  ⟨0, 3, 1, 1, 0, .u8, .observer, .nobody, false, .status, 0, 255, 0⟩,
  -- 1Dh/0–3/2 Zone (R327)
  ⟨0, 3, 2, 2, 0, .u32, .observer, .installer, false, .setting, 0, u32Max, 0⟩,
  -- 1Dh/0–3/3 Discrepancy time (R327)
  ⟨0, 3, 3, 3, 0, .u16, .observer, .installer, false, .setting, 10, 2000, 0⟩,
  -- 1Dh/0–3/4 Restart mode (R327)
  ⟨0, 3, 4, 4, 0, .e8, .observer, .installer, false, .setting, 0, 1, 0⟩,
  -- 1Dh/0–3/5 Startup test (R327)
  ⟨0, 3, 5, 5, 0, .b1, .observer, .installer, false, .setting, 0, 1, 0⟩,
  -- 1Dh/0–3/6 OSSD filter (R327)
  ⟨0, 3, 6, 6, 0, .u8, .observer, .installer, false, .setting, 0, 4, 0⟩,
  -- 1Dh/0–3/7 Reset (R327)
  ⟨0, 3, 7, 7, 0, .b1, .nobody, .operator, false, .command, 0, 1, 0⟩,
  -- 1Dh/0–3/8 Site propagation (R327)
  ⟨0, 3, 8, 8, 0, .b1, .observer, .installer, false, .setting, 0, 1, 0⟩,
  -- 1Dh/0–3/9 Demands (R327)
  ⟨0, 3, 9, 9, 0, .u32, .observer, .installer, false, .count, 0, u32Max, 0⟩,
  -- 1Dh/16–39/0 Safety state (R327)
  ⟨16, 39, 0, 0, 0, .e8, .observer, .nobody, false, .status, 0, 255, 0⟩,
  -- 1Dh/16–39/1 Causes (R327)
  ⟨16, 39, 1, 1, 0, .u16, .observer, .nobody, false, .status, 0, 65535, 0⟩,
  -- 1Dh/16–39/2 Residual DC estimate (R327)
  ⟨16, 39, 2, 2, 0, .u32, .observer, .nobody, false, .status, 0, u32Max, 0⟩,
  -- 1Dh/16–39/3 Residual AC estimate (R327)
  ⟨16, 39, 3, 3, 0, .u32, .observer, .nobody, false, .status, 0, u32Max, 0⟩,
  -- 1Dh/16–39/4 Test-winding result (R327)
  ⟨16, 39, 4, 4, 0, .e8, .observer, .nobody, false, .status, 0, 255, 0⟩,
  -- 1Dh/16–39/5 Test expected (R327)
  ⟨16, 39, 5, 5, 0, .u16, .observer, .installer, false, .setting, 5, 100, 10⟩,
  -- 1Dh/16–39/6 Test tolerance (R327)
  ⟨16, 39, 6, 6, 0, .u8, .observer, .installer, false, .setting, 10, 50, 30⟩,
  -- 1Dh/16–39/7 Clear lockout (R327)
  ⟨16, 39, 7, 7, 0, .b1, .nobody, .operator, false, .command, 0, 1, 0⟩,
  -- 1Dh/16–39/8 Residual trips (R327)
  ⟨16, 39, 8, 8, 0, .u32, .observer, .installer, false, .count, 0, u32Max, 0⟩,
  -- 1Dh/16–39/9 Cross-check failures (R327)
  ⟨16, 39, 9, 9, 0, .u32, .observer, .installer, false, .count, 0, u32Max, 0⟩,
  -- 1Dh/256/0 Device fault causes (R327)
  ⟨256, 256, 0, 0, 0, .u16, .observer, .nobody, false, .status, 0, 65535, 0⟩,
  -- 1Dh/256/1 Clear device fault (R327)
  ⟨256, 256, 1, 1, 0, .b1, .nobody, .installer, false, .command, 0, 1, 0⟩,
  -- 1Dh/256/2 Hold lease (R327)
  ⟨256, 256, 2, 2, 0, .u16, .observer, .installer, false, .setting, 250, 5000, 2000⟩,
  -- 1Dh/256/3 Lease state (R327)
  ⟨256, 256, 3, 3, 0, .e8, .observer, .nobody, false, .status, 0, 255, 0⟩,
  -- 1Dh/256/4 Lease remaining (R327)
  ⟨256, 256, 4, 4, 0, .u16, .observer, .nobody, false, .status, 0, 65535, 0⟩,
  -- 1Dh/256/5 Lease expiries (R327)
  ⟨256, 256, 5, 5, 0, .u32, .observer, .installer, false, .count, 0, u32Max, 0⟩,
  -- 1Dh/256/6 Earth limit (R327)
  ⟨256, 256, 6, 6, 0, .u32, .observer, .installer, false, .setting, 10000, 250000, 50000⟩,
  -- 1Dh/257/0–2 DC levels (R327)
  ⟨257, 257, 0, 2, 0, .u32, .observer, .installer, false, .setting, 1000, 1000000, 6000⟩,
  -- 1Dh/257/3–5 DC times (R327)
  ⟨257, 257, 3, 5, 0, .u32, .observer, .installer, false, .setting, 21, 10000, 8000⟩,
  -- 1Dh/257/6–7 AC levels (R327)
  ⟨257, 257, 6, 7, 0, .u32, .observer, .installer, false, .setting, 1000, 1000000, 30000⟩,
  -- 1Dh/257/8–9 AC times (R327)
  ⟨257, 257, 8, 9, 0, .u32, .observer, .installer, false, .setting, 21, 10000, 250⟩
]

/-- Class 1Eh. -/
def rows1E : List ObjRow := [
  -- 1Eh/0/0 Enable (R328)
  ⟨0, 0, 0, 0, 0, .b1, .observer, .installer, false, .setting, 0, 1, 0⟩,
  -- 1Eh/0/1 Member number (R328)
  ⟨0, 0, 1, 1, 0, .u8, .observer, .installer, false, .setting, 0, 15, 0⟩,
  -- 1Eh/0/2 Group identity (R328)
  ⟨0, 0, 2, 2, 0, .u16, .observer, .installer, false, .setting, 1, 65535, 1⟩,
  -- 1Eh/0/3 Peer mask (R328)
  ⟨0, 0, 3, 3, 0, .u16, .observer, .installer, false, .setting, 0, 65535, 0⟩,
  -- 1Eh/0/4 Compare window (R328)
  ⟨0, 0, 4, 4, 0, .u16, .observer, .installer, false, .setting, 5, 200, 20⟩,
  -- 1Eh/0/5 Site reaction (R328)
  ⟨0, 0, 5, 5, 0, .e8, .observer, .installer, false, .setting, 0, 1, 1⟩,
  -- 1Eh/0/6 Tandem zone (R328)
  ⟨0, 0, 6, 6, 0, .u32, .observer, .installer, false, .setting, 0, u32Max, 0⟩,
  -- 1Eh/0/7 Tandem port (R328)
  ⟨0, 0, 7, 7, 0, .u16, .observer, .installer, false, .setting, 1024, 65535, 23116⟩,
  -- 1Eh/0/8 Tandem state (R328)
  ⟨0, 0, 8, 8, 0, .e8, .observer, .nobody, false, .status, 0, 255, 0⟩,
  -- 1Eh/0/9 Sequence sent (R328)
  ⟨0, 0, 9, 9, 0, .u32, .observer, .nobody, false, .status, 0, u32Max, 0⟩,
  -- 1Eh/16–31/0 Peer state (R328)
  ⟨16, 31, 0, 0, 0, .e8, .observer, .nobody, false, .status, 0, 255, 0⟩,
  -- 1Eh/16–31/1 Last SEQ (R328)
  ⟨16, 31, 1, 1, 0, .u32, .observer, .nobody, false, .status, 0, u32Max, 0⟩,
  -- 1Eh/16–31/2 Last state (R328)
  ⟨16, 31, 2, 2, 0, .u16, .observer, .nobody, false, .status, 0, 65535, 0⟩,
  -- 1Eh/16–31/3 Mismatches (R328)
  ⟨16, 31, 3, 3, 0, .u32, .observer, .installer, false, .count, 0, u32Max, 0⟩,
  -- 1Eh/16–31/4 Missing twins (R328)
  ⟨16, 31, 4, 4, 0, .u32, .observer, .installer, false, .count, 0, u32Max, 0⟩,
  -- 1Eh/16–31/5 CRC failures (R328)
  ⟨16, 31, 5, 5, 0, .u32, .observer, .installer, false, .count, 0, u32Max, 0⟩
]

/-- Class 20h. -/
def rows20 : List ObjRow := [
  -- 20h/0/0 Node address (R353)
  ⟨0, 0, 0, 0, 0, .u48, .observer, .utility, false, .setting, 0, 1099511627775, 0⟩,
  -- 20h/0/1 Enable (R353)
  ⟨0, 0, 1, 1, 0, .b1, .observer, .installer, false, .setting, 0, 1, 1⟩,
  -- 20h/0/2 Transmit phase (R353)
  ⟨0, 0, 2, 2, 0, .e8, .observer, .installer, false, .setting, 0, 2, 0⟩,
  -- 20h/0/3 Pulse width (R353)
  ⟨0, 0, 3, 3, 0, .u8, .observer, .installer, false, .setting, 10, 35, 25⟩,
  -- 20h/0/4 Uplink channel (R353)
  ⟨0, 0, 4, 4, 0, .u8, .observer, .installer, false, .setting, 1, 7, 1⟩,
  -- 20h/0/5 Downlink channel (R353)
  ⟨0, 0, 5, 5, 0, .u8, .observer, .installer, false, .setting, 0, 7, 0⟩,
  -- 20h/0/6 Detection threshold (R353)
  ⟨0, 0, 6, 6, 0, .u16, .observer, .installer, false, .setting, 1, 65535, 64⟩,
  -- 20h/0/7 Minimum margin (R353)
  ⟨0, 0, 7, 7, 0, .u8, .observer, .installer, false, .setting, 0, 30, 6⟩,
  -- 20h/0/8 MC (R353)
  ⟨0, 0, 8, 8, 0, .u48, .observer, .nobody, false, .status, 0, u48Max, 0⟩,
  -- 20h/0/9 MC state (R353)
  ⟨0, 0, 9, 9, 0, .e8, .observer, .nobody, false, .status, 0, 255, 0⟩,
  -- 20h/0/10 Tier (R353)
  ⟨0, 0, 10, 10, 0, .u8, .observer, .nobody, false, .status, 0, 255, 255⟩,
  -- 20h/0/11 Relay number (R353)
  ⟨0, 0, 11, 11, 0, .u8, .observer, .nobody, false, .status, 0, 255, 0⟩,
  -- 20h/0/12 Parent (R353)
  ⟨0, 0, 12, 12, 0, .u8, .observer, .nobody, false, .status, 0, 255, 0⟩,
  -- 20h/0/13 Veto until (R353)
  ⟨0, 0, 13, 13, 0, .t48, .observer, .nobody, false, .status, 0, u48Max, 0⟩,
  -- 20h/0/14 Registration window (R353)
  ⟨0, 0, 14, 14, 0, .u32, .observer, .installer, false, .setting, 1, 86400, 3600⟩,
  -- 20h/0/15 Tariff idle timeout (R353)
  ⟨0, 0, 15, 15, 0, .u32, .observer, .installer, false, .setting, 600, 604800, 86400⟩,
  -- 20h/0/16 Ack timeout (R353)
  ⟨0, 0, 16, 16, 0, .u16, .observer, .installer, false, .setting, 45, 3600, 128⟩,
  -- 20h/0/17 Frames accepted (R353)
  ⟨0, 0, 17, 17, 0, .u32, .observer, .installer, false, .count, 0, u32Max, 0⟩,
  -- 20h/0/18 Frames failed (R353)
  ⟨0, 0, 18, 18, 0, .u32, .observer, .installer, false, .count, 0, u32Max, 0⟩,
  -- 20h/0/19 Erasures (R353)
  ⟨0, 0, 19, 19, 0, .u32, .observer, .installer, false, .count, 0, u32Max, 0⟩,
  -- 20h/0/20 Frames sent (R353)
  ⟨0, 0, 20, 20, 0, .u32, .observer, .installer, false, .count, 0, u32Max, 0⟩,
  -- 20h/0/21 Last margin (R353)
  ⟨0, 0, 21, 21, 0, .u16, .observer, .nobody, false, .status, 0, 65535, 0⟩,
  -- 20h/64–127/0 Address (R354)
  ⟨64, 127, 0, 0, 0, .u48, .observer, .nobody, false, .status, 0, u48Max, 0⟩,
  -- 20h/64–127/1 Tier (R354)
  ⟨64, 127, 1, 1, 0, .u8, .observer, .nobody, false, .status, 0, 255, 0⟩,
  -- 20h/64–127/2 Relay number (R354)
  ⟨64, 127, 2, 2, 0, .u8, .observer, .nobody, false, .status, 0, 255, 0⟩,
  -- 20h/64–127/3 Margin (R354)
  ⟨64, 127, 3, 3, 0, .u16, .observer, .nobody, false, .status, 0, 65535, 0⟩,
  -- 20h/64–127/4 Last heard (R354)
  ⟨64, 127, 4, 4, 0, .u48, .observer, .nobody, false, .status, 0, u48Max, 0⟩
]

/-- Class 21h. -/
def rows21 : List ObjRow := [
  -- 21h/0–3/0 Front-end state (R378)
  ⟨0, 3, 0, 0, 0, .e8, .observer, .nobody, false, .status, 0, 255, 0⟩,
  -- 21h/0–3/1 Transmit power (R378)
  ⟨0, 3, 1, 1, 0, .u16, .observer, .installer, false, .setting, 10, 250, 250⟩,
  -- 21h/0–3/2 Transactions (R378)
  ⟨0, 3, 2, 2, 0, .u32, .observer, .installer, false, .count, 0, u32Max, 0⟩,
  -- 21h/16–39/0 Aerial state (R378)
  ⟨16, 39, 0, 0, 0, .e8, .observer, .nobody, false, .status, 0, 255, 0⟩,
  -- 21h/16–39/1 Enable (R378)
  ⟨16, 39, 1, 1, 0, .b1, .observer, .installer, false, .setting, 0, 1, 1⟩,
  -- 21h/16–39/2 Baseline (R378)
  ⟨16, 39, 2, 2, 0, .u16, .observer, .nobody, false, .status, 0, 65535, 0⟩,
  -- 21h/16–39/3 Deviation (R378)
  ⟨16, 39, 3, 3, 0, .u16, .observer, .nobody, false, .status, 0, 65535, 0⟩,
  -- 21h/16–39/4 Threshold (R378)
  ⟨16, 39, 4, 4, 0, .u16, .observer, .installer, false, .setting, 5, 500, 20⟩,
  -- 21h/16–39/5 Last identity (R378)
  ⟨16, 39, 5, 5, 0, .txt32, .observer, .nobody, false, .status, 0, txtMax, 0⟩,
  -- 21h/16–39/6 Last result (R378)
  ⟨16, 39, 6, 6, 0, .e8, .observer, .nobody, false, .status, 0, 255, 0⟩,
  -- 21h/16–39/7 Decision (R378)
  ⟨16, 39, 7, 7, 0, .e8, .nobody, .operator, false, .command, 1, 2, 0⟩,
  -- 21h/16–39/8 APDU command (R378)
  ⟨16, 39, 8, 8, 0, .blk, .nobody, .operator, false, .command, 0, blkMax, 0⟩,
  -- 21h/16–39/9 APDU response (R378)
  ⟨16, 39, 9, 9, 0, .blk, .operator, .nobody, false, .status, 0, blkMax, 0⟩,
  -- 21h/16–39/10 APDU status (R378)
  ⟨16, 39, 10, 10, 0, .u8, .observer, .nobody, false, .status, 0, 255, 0⟩,
  -- 21h/16–39/11 Cards in field (R378)
  ⟨16, 39, 11, 11, 0, .u8, .observer, .nobody, false, .status, 0, 255, 0⟩,
  -- 21h/16–39/12 Bound spoke (R378)
  ⟨16, 39, 12, 12, 0, .u8, .observer, .installer, false, .setting, 0, 255, 0⟩,
  -- 21h/256/0 Waiting-time cap (R378)
  ⟨256, 256, 0, 0, 0, .u16, .observer, .installer, false, .setting, 100, 5000, 1000⟩,
  -- 21h/256/1 Maximum rate (R378)
  ⟨256, 256, 1, 1, 0, .e8, .observer, .installer, false, .setting, 0, 3, 3⟩,
  -- 21h/256/2 Emulation enable (R378)
  ⟨256, 256, 2, 2, 0, .b1, .observer, .installer, false, .setting, 0, 1, 1⟩,
  -- 21h/256/3 Emulation aerial (R378)
  ⟨256, 256, 3, 3, 0, .u8, .observer, .installer, false, .setting, 0, 5, 0⟩,
  -- 21h/256/4 Unlisted policy (R378)
  ⟨256, 256, 4, 4, 0, .e8, .observer, .installer, false, .setting, 0, 1, 0⟩,
  -- 21h/256/5 Decision time (R378)
  ⟨256, 256, 5, 5, 0, .u8, .observer, .installer, false, .setting, 1, 30, 10⟩,
  -- 21h/256/6 Settle time (R378)
  ⟨256, 256, 6, 6, 0, .u16, .observer, .installer, false, .setting, 0, 2000, 500⟩
]

/-- Class 22h. -/
def rows22 : List ObjRow := [
  -- 22h/0/0 Tag state (R379)
  ⟨0, 0, 0, 0, 0, .e8, .observer, .nobody, false, .status, 0, 255, 0⟩,
  -- 22h/0/1 Tag UID (R379)
  ⟨0, 0, 1, 1, 0, .txt32, .observer, .nobody, false, .status, 0, txtMax, 0⟩,
  -- 22h/0/2 Commissioning state (R379)
  ⟨0, 0, 2, 2, 0, .e8, .observer, .nobody, false, .status, 0, 255, 0⟩,
  -- 22h/0/3 Applied SEQ (R379)
  ⟨0, 0, 3, 3, 0, .u16, .observer, .nobody, false, .status, 0, 65535, 0⟩,
  -- 22h/0/4 Applied time (R379)
  ⟨0, 0, 4, 4, 0, .t48, .observer, .nobody, false, .status, 0, u48Max, 0⟩,
  -- 22h/0/5 Field events (R379)
  ⟨0, 0, 5, 5, 0, .u32, .observer, .installer, false, .count, 0, u32Max, 0⟩
]

/-- Class 23h. -/
def rows23 : List ObjRow := [
  -- 23h/0/0 Token entry (R380)
  ⟨0, 0, 0, 0, 0, .b1, .observer, .installer, false, .setting, 0, 1, 1⟩,
  -- 23h/0/1 Entry timeout (R380)
  ⟨0, 0, 1, 1, 0, .u8, .observer, .installer, false, .setting, 10, 255, 60⟩,
  -- 23h/0/2 Digits entered (R380)
  ⟨0, 0, 2, 2, 0, .u8, .observer, .nobody, false, .status, 0, 255, 0⟩,
  -- 23h/0/3 Key events (R380)
  ⟨0, 0, 3, 3, 0, .u32, .observer, .installer, false, .count, 0, u32Max, 0⟩,
  -- 23h/0/4 Last key event (R380)
  ⟨0, 0, 4, 4, 0, .u16, .observer, .nobody, false, .status, 0, 65535, 0⟩
]

/-- Class 24h. -/
def rows24 : List ObjRow := [
  -- 24h/0/0 Engine state (R427)
  ⟨0, 0, 0, 0, 0, .e8, .observer, .nobody, false, .status, 0, 255, 0⟩,
  -- 24h/0/1 Width (R427)
  ⟨0, 0, 1, 1, 0, .u16, .observer, .installer, false, .setting, 8, 1600, 1600⟩,
  -- 24h/0/2 Height (R427)
  ⟨0, 0, 2, 2, 0, .u16, .observer, .installer, false, .setting, 8, 1200, 1200⟩,
  -- 24h/0/3 Clock divisor (R427)
  ⟨0, 0, 3, 3, 0, .u8, .observer, .installer, false, .setting, 5, 20, 5⟩,
  -- 24h/0/4 Line blank (R427)
  ⟨0, 0, 4, 4, 0, .u8, .observer, .installer, false, .setting, 8, 255, 40⟩,
  -- 24h/0/5 Crack state (R427)
  ⟨0, 0, 5, 5, 0, .e8, .observer, .nobody, false, .status, 0, 255, 0⟩,
  -- 24h/0/6 Clear crack (R427)
  ⟨0, 0, 6, 6, 0, .b1, .nobody, .installer, false, .command, 0, 1, 0⟩,
  -- 24h/0/7 Update request (R427)
  ⟨0, 0, 7, 7, 0, .u48, .nobody, .operator, false, .command, 0, u48Max, 0⟩,
  -- 24h/0/8 Waiting (R427)
  ⟨0, 0, 8, 8, 0, .u8, .observer, .nobody, false, .status, 0, 255, 0⟩,
  -- 24h/0/9 Panel temperature (R427)
  ⟨0, 0, 9, 9, 0, .s48, .observer, .nobody, false, .status, s48Min, s48Max, 0⟩,
  -- 24h/0/10 Draw offset (R427)
  ⟨0, 0, 10, 10, 0, .u32, .observer, .operator, false, .window, 0, 159999, 0⟩,
  -- 24h/0/11 Draw data (R427)
  ⟨0, 0, 11, 11, 0, .u48, .observer, .operator, false, .window, 0, u48Max, 0⟩,
  -- 24h/0/12 Waveform table (R427)
  ⟨0, 0, 12, 12, 0, .u32, .observer, .nobody, false, .status, 0, u32Max, 0⟩,
  -- 24h/0/14 Idle time (R427)
  ⟨0, 0, 14, 14, 0, .u16, .observer, .installer, false, .setting, 0, 10000, 100⟩,
  -- 24h/0/15 Supply address (R427)
  ⟨0, 0, 15, 15, 0, .u8, .observer, .installer, false, .setting, 0, 127, 72⟩,
  -- 24h/0/16 I²C rate (R427)
  ⟨0, 0, 16, 16, 0, .e8, .observer, .installer, false, .setting, 0, 1, 1⟩,
  -- 24h/0/17 Power-good register (R427)
  ⟨0, 0, 17, 17, 0, .u8, .observer, .installer, false, .setting, 0, 255, 15⟩,
  -- 24h/0/18 Power-good mask (R427)
  ⟨0, 0, 18, 18, 0, .u8, .observer, .installer, false, .setting, 0, 255, 255⟩,
  -- 24h/0/19 Temperature register (R427)
  ⟨0, 0, 19, 19, 0, .u8, .observer, .installer, false, .setting, 0, 255, 0⟩,
  -- 24h/0/20 VCOM register (R427)
  ⟨0, 0, 20, 20, 0, .u8, .observer, .installer, false, .setting, 0, 255, 3⟩,
  -- 24h/0/21 VCOM value (R427)
  ⟨0, 0, 21, 21, 0, .u16, .observer, .installer, false, .setting, 0, 65535, 0⟩,
  -- 24h/0/22 Underruns (R427)
  ⟨0, 0, 22, 22, 0, .u32, .observer, .installer, false, .count, 0, u32Max, 0⟩,
  -- 24h/16–23/0 Slot state (R427)
  ⟨16, 23, 0, 0, 0, .e8, .observer, .nobody, false, .status, 0, 255, 0⟩,
  -- 24h/16–23/1 Rectangle (R427)
  ⟨16, 23, 1, 1, 0, .u48, .observer, .nobody, false, .status, 0, u48Max, 0⟩,
  -- 24h/16–23/2 Frames done (R427)
  ⟨16, 23, 2, 2, 0, .u16, .observer, .nobody, false, .status, 0, 65535, 0⟩,
  -- 24h/16–23/3 Frames total (R427)
  ⟨16, 23, 3, 3, 0, .u16, .observer, .nobody, false, .status, 0, 65535, 0⟩,
  -- 24h/16–23/4 Result (R427)
  ⟨16, 23, 4, 4, 0, .u8, .observer, .nobody, false, .status, 0, 255, 0⟩
]

/-- Class 28h. -/
def rows28 : List ObjRow := [
  -- 28h/0/0 Vault state (R399)
  ⟨0, 0, 0, 0, 0, .e8, .observer, .nobody, false, .status, 0, 255, 1⟩,
  -- 28h/0/1 Root generation (R399)
  ⟨0, 0, 1, 1, 0, .u16, .observer, .nobody, false, .status, 0, 65535, 0⟩,
  -- 28h/0/2 Tamper events (R399)
  ⟨0, 0, 2, 2, 0, .u32, .observer, .installer, false, .count, 0, u32Max, 0⟩,
  -- 28h/0/3 Last tamper source (R399)
  ⟨0, 0, 3, 3, 0, .e8, .observer, .nobody, false, .status, 0, 255, 0⟩,
  -- 28h/0/4 Last tamper time (R399)
  ⟨0, 0, 4, 4, 0, .t48, .observer, .nobody, false, .status, 0, u48Max, 0⟩,
  -- 28h/0/5 Tamper inputs (R399)
  ⟨0, 0, 5, 5, 0, .u8, .observer, .nobody, false, .status, 0, 255, 0⟩,
  -- 28h/0/6 Replace root (R399)
  ⟨0, 0, 6, 6, 0, .b1, .nobody, .installer, false, .command, 0, 1, 0⟩,
  -- 28h/0/7 Anti-rollback count (R399)
  ⟨0, 0, 7, 7, 0, .u8, .observer, .nobody, false, .status, 0, 255, 0⟩,
  -- 28h/0/8 Owner key programmed (R399)
  ⟨0, 0, 8, 8, 0, .b1, .observer, .nobody, false, .status, 0, 1, 0⟩,
  -- 28h/0/9 Owner key (R399)
  ⟨0, 0, 9, 9, 0, .blk, .observer, .installer, false, .command, 0, blkMax, 0⟩,
  -- 28h/0/10 Random generator state (R399)
  ⟨0, 0, 10, 10, 0, .e8, .observer, .nobody, false, .status, 0, 255, 0⟩,
  -- 28h/8–15/0 Domain generation (R399)
  ⟨8, 15, 0, 0, 0, .u16, .observer, .nobody, false, .status, 0, 65535, 0⟩,
  -- 28h/8–15/1 Bump (R399)
  ⟨8, 15, 1, 1, 0, .b1, .nobody, .installer, true, .command, 0, 1, 0⟩,
  -- 28h/16–27/0 Slot state (R399)
  ⟨16, 27, 0, 0, 0, .e8, .observer, .nobody, false, .status, 0, 255, 0⟩,
  -- 28h/16–27/1 Slot value (R399)
  ⟨16, 27, 1, 1, 0, .blk, .nobody, .installer, false, .command, 0, blkMax, 0⟩,
  -- 28h/16–27/2 Installed time (R399)
  ⟨16, 27, 2, 2, 0, .t48, .observer, .nobody, false, .status, 0, u48Max, 0⟩
]

/-- Class 29h. -/
def rows29 : List ObjRow := [
  -- 29h/*/0–31 Bin 0–31 (R413)
  ⟨0, 1023, 0, 31, 0, .u48, .observer, .nobody, false, .status, 0, u48Max, 0⟩,
  -- 29h/*/32 Underflow (R413)
  ⟨0, 1023, 32, 32, 0, .u48, .observer, .nobody, false, .status, 0, u48Max, 0⟩,
  -- 29h/*/33 Overflow (R413)
  ⟨0, 1023, 33, 33, 0, .u48, .observer, .nobody, false, .status, 0, u48Max, 0⟩,
  -- 29h/*/34 Sequence (R413)
  ⟨0, 1023, 34, 34, 0, .u16, .observer, .nobody, false, .status, 0, 65535, 0⟩,
  -- 29h/*/35 Frozen (R413)
  ⟨0, 1023, 35, 35, 0, .b1, .observer, .nobody, false, .status, 0, 1, 0⟩,
  -- 29h/*/36 Saturated (R413)
  ⟨0, 1023, 36, 36, 0, .b1, .observer, .nobody, false, .status, 0, 1, 0⟩,
  -- 29h/*/37 Clear (R413)
  ⟨0, 1023, 37, 37, 0, .b1, .nobody, .installer, false, .command, 0, 1, 0⟩,
  -- 29h/*/38 Source (R413)
  ⟨0, 1023, 38, 38, 0, .u32, .observer, .installer, false, .setting, 0, u32Max, 0⟩,
  -- 29h/*/39 Period (R413)
  ⟨0, 1023, 39, 39, 0, .u16, .observer, .installer, false, .setting, 0, 65535, 0⟩,
  -- 29h/*/40 Low (R413)
  ⟨0, 1023, 40, 40, 0, .s48, .observer, .installer, false, .setting, s48Min, s48Max, 0⟩,
  -- 29h/*/41 Width (R413)
  ⟨0, 1023, 41, 41, 0, .u48, .observer, .installer, false, .setting, 1, u48Max, 1⟩,
  -- 29h/254/0 Freeze (R413)
  ⟨254, 254, 0, 0, 0, .u16, .observer, .metrology, false, .command, 0, 2000, 0⟩,
  -- 29h/254/1 Last save time (R413)
  ⟨254, 254, 1, 1, 0, .t48, .observer, .nobody, false, .status, 0, u48Max, 0⟩,
  -- 29h/254/2 Save count (R413)
  ⟨254, 254, 2, 2, 0, .u32, .observer, .nobody, false, .status, 0, u32Max, 0⟩,
  -- 29h/254/3 Save failures (R413)
  ⟨254, 254, 3, 3, 0, .u32, .observer, .installer, false, .count, 0, u32Max, 0⟩,
  -- 29h/254/4 Save now (R413)
  ⟨254, 254, 4, 4, 0, .b1, .nobody, .installer, false, .command, 0, 1, 0⟩,
  -- 29h/255/0–23 Event count (R413)
  ⟨255, 255, 0, 23, 0, .u48, .observer, .metrology, false, .count, 0, u48Max, 0⟩
]

/-- Class 2Ah. -/
def rows2A : List ObjRow := [
  -- 2Ah/*/0 Minimum (R414)
  ⟨0, 511, 0, 0, 0, .s48, .observer, .nobody, false, .status, s48Min, s48Max, 0⟩,
  -- 2Ah/*/1 Minimum time (R414)
  ⟨0, 511, 1, 1, 0, .t48, .observer, .nobody, false, .status, 0, u48Max, 0⟩,
  -- 2Ah/*/2 Maximum (R414)
  ⟨0, 511, 2, 2, 0, .s48, .observer, .nobody, false, .status, s48Min, s48Max, 0⟩,
  -- 2Ah/*/3 Maximum time (R414)
  ⟨0, 511, 3, 3, 0, .t48, .observer, .nobody, false, .status, 0, u48Max, 0⟩,
  -- 2Ah/*/4 Sequence (R414)
  ⟨0, 511, 4, 4, 0, .u16, .observer, .nobody, false, .status, 0, 65535, 0⟩,
  -- 2Ah/*/5 Flags (R414)
  ⟨0, 511, 5, 5, 0, .u8, .observer, .nobody, false, .status, 0, 255, 1⟩,
  -- 2Ah/*/6 Clear (R414)
  ⟨0, 511, 6, 6, 0, .b1, .nobody, .installer, false, .command, 0, 1, 0⟩,
  -- 2Ah/*/7 Source (R414)
  ⟨0, 511, 7, 7, 0, .u32, .observer, .installer, false, .setting, 0, u32Max, 0⟩,
  -- 2Ah/*/8 Period (R414)
  ⟨0, 511, 8, 8, 0, .u16, .observer, .installer, false, .setting, 0, 65535, 0⟩
]

/-- Class 2Bh. -/
def rows2B : List ObjRow := [
  -- 2Bh/*/8k Code (R415)
  ⟨0, 1023, 0, 0, 8, .u16, .observer, .nobody, false, .status, 0, 65535, 0⟩,
  -- 2Bh/*/8k + 1 Repeat (R415)
  ⟨0, 1023, 1, 1, 8, .u16, .observer, .nobody, false, .status, 0, 65535, 0⟩,
  -- 2Bh/*/8k + 2 Instance (R415)
  ⟨0, 1023, 2, 2, 8, .u8, .observer, .nobody, false, .status, 0, 255, 0⟩,
  -- 2Bh/*/8k + 3 Time (R415)
  ⟨0, 1023, 3, 3, 8, .t48, .observer, .nobody, false, .status, 0, u48Max, 0⟩,
  -- 2Bh/*/8k + 4 Time valid (R415)
  ⟨0, 1023, 4, 4, 8, .b1, .observer, .nobody, false, .status, 0, 1, 0⟩,
  -- 2Bh/*/8k + 5 Value (R415)
  ⟨0, 1023, 5, 5, 8, .u48, .observer, .nobody, false, .status, 0, u48Max, 0⟩,
  -- 2Bh/*/8k + 6 Record number (R415)
  ⟨0, 1023, 6, 6, 8, .u32, .observer, .nobody, false, .status, 0, u32Max, 0⟩,
  -- 2Bh/0/32 Write count (R415)
  ⟨0, 0, 32, 32, 0, .u32, .observer, .nobody, false, .status, 0, u32Max, 0⟩,
  -- 2Bh/0/33 Ring sequence (R415)
  ⟨0, 0, 33, 33, 0, .u16, .observer, .nobody, false, .status, 0, 65535, 0⟩,
  -- 2Bh/0/34 Clear ring (R415)
  ⟨0, 0, 34, 34, 0, .b1, .nobody, .metrology, false, .command, 0, 1, 0⟩
]

/-- Class 30h. -/
def rows30 : List ObjRow := [
  -- 30h/64/0 Journal interval (R166)
  ⟨64, 64, 0, 0, 0, .u8, .observer, .installer, false, .setting, 1, 60, 15⟩,
  -- 30h/64/1 Restoration source (R166)
  ⟨64, 64, 1, 1, 0, .e8, .observer, .nobody, false, .status, 0, 255, 2⟩,
  -- 30h/64/2 Last capture time (R166)
  ⟨64, 64, 2, 2, 0, .t48, .observer, .nobody, false, .status, 0, u48Max, 0⟩,
  -- 30h/64/3 Decisions (R166)
  ⟨64, 64, 3, 3, 0, .u32, .observer, .installer, false, .count, 0, u32Max, 0⟩,
  -- 30h/64/4 Last cause (R166)
  ⟨64, 64, 4, 4, 0, .e8, .observer, .nobody, false, .status, 0, 255, 0⟩,
  -- 30h/64/5 Journal sequence (R166)
  ⟨64, 64, 5, 5, 0, .u32, .observer, .nobody, false, .status, 0, u32Max, 0⟩,
  -- 30h/64/6 Journal time (R166)
  ⟨64, 64, 6, 6, 0, .t48, .observer, .nobody, false, .status, 0, u48Max, 0⟩,
  -- 30h/64/7 Journal write failures (R166)
  ⟨64, 64, 7, 7, 0, .u32, .observer, .installer, false, .count, 0, u32Max, 0⟩,
  -- 30h/64/8 Restoration flags (R166)
  ⟨64, 64, 8, 8, 0, .u8, .observer, .nobody, false, .status, 0, 255, 0⟩,
  -- 30h/65–88/0 Gap bound (R166)
  ⟨65, 88, 0, 0, 0, .u48, .observer, .nobody, false, .status, 0, u48Max, 0⟩,
  -- 30h/65–88/1 Highest apparent power (R166)
  ⟨65, 88, 1, 1, 0, .u48, .observer, .nobody, false, .status, 0, u48Max, 0⟩,
  -- 30h/0/0 Flash state (R449)
  ⟨0, 0, 0, 0, 0, .e8, .observer, .nobody, false, .status, 0, 255, 0⟩,
  -- 30h/0/1 Flash size (R449)
  ⟨0, 0, 1, 1, 0, .u32, .observer, .nobody, false, .status, 0, u32Max, 0⟩,
  -- 30h/0/2 JEDEC identity (R449)
  ⟨0, 0, 2, 2, 0, .u32, .observer, .nobody, false, .status, 0, u32Max, 0⟩,
  -- 30h/0/3 Mode in force (R449)
  ⟨0, 0, 3, 3, 0, .e8, .observer, .nobody, false, .status, 0, 255, 0⟩,
  -- 30h/0/4 Clock in force (R449)
  ⟨0, 0, 4, 4, 0, .u8, .observer, .nobody, false, .status, 0, 255, 0⟩,
  -- 30h/0/5 Highest mode (R449)
  ⟨0, 0, 5, 5, 0, .e8, .observer, .installer, false, .setting, 0, 3, 3⟩,
  -- 30h/0/6 Highest clock (R449)
  ⟨0, 0, 6, 6, 0, .u8, .observer, .installer, false, .setting, 25, 133, 133⟩,
  -- 30h/0/7 Program failures (R449)
  ⟨0, 0, 7, 7, 0, .u32, .observer, .installer, false, .count, 0, u32Max, 0⟩,
  -- 30h/0/8 Erase failures (R449)
  ⟨0, 0, 8, 8, 0, .u32, .observer, .installer, false, .count, 0, u32Max, 0⟩,
  -- 30h/0/9 Free power-fail slots (R449)
  ⟨0, 0, 9, 9, 0, .u8, .observer, .nobody, false, .status, 0, 255, 32⟩,
  -- 30h/0/10 Setting log use (R449)
  ⟨0, 0, 10, 10, 0, .u32, .observer, .nobody, false, .status, 0, u32Max, 0⟩,
  -- 30h/32–54/0 Area offset (R449)
  ⟨32, 54, 0, 0, 0, .u32, .observer, .nobody, false, .status, 0, u32Max, 0⟩,
  -- 30h/32–54/1 Area size (R449)
  ⟨32, 54, 1, 1, 0, .u32, .observer, .nobody, false, .status, 0, u32Max, 0⟩
]

/-- Class 31h. -/
def rows31 : List ObjRow := [
  -- 31h/0/0 Boot source (R450)
  ⟨0, 0, 0, 0, 0, .e8, .observer, .nobody, false, .status, 0, 255, 0⟩,
  -- 31h/0/1 Trial window (R450)
  ⟨0, 0, 1, 1, 0, .u16, .observer, .installer, false, .setting, 60, 3600, 600⟩,
  -- 31h/0/2 Trial remaining (R450)
  ⟨0, 0, 2, 2, 0, .u16, .observer, .nobody, false, .status, 0, 65535, 0⟩,
  -- 31h/0/3 Confirmation mode (R450)
  ⟨0, 0, 3, 3, 0, .e8, .observer, .installer, false, .setting, 0, 1, 0⟩,
  -- 31h/0/4 Confirm (R450)
  ⟨0, 0, 4, 4, 0, .b1, .nobody, .installer, false, .command, 0, 1, 0⟩,
  -- 31h/0/5 Reject trial (R450)
  ⟨0, 0, 5, 5, 0, .b1, .nobody, .installer, false, .command, 0, 1, 0⟩,
  -- 31h/0/6 Trial boots (R450)
  ⟨0, 0, 6, 6, 0, .u8, .observer, .nobody, false, .status, 0, 255, 0⟩,
  -- 31h/0/7 Boot time (R450)
  ⟨0, 0, 7, 7, 0, .u16, .observer, .nobody, false, .status, 0, 65535, 0⟩,
  -- 31h/0/8 Last fallback (R450)
  ⟨0, 0, 8, 8, 0, .e8, .observer, .nobody, false, .status, 0, 255, 0⟩,
  -- 31h/16–21/0 Active slot (R450)
  ⟨16, 21, 0, 0, 0, .e8, .observer, .nobody, false, .status, 0, 255, 2⟩,
  -- 31h/16–21/1 Active image (R450)
  ⟨16, 21, 1, 1, 0, .u32, .observer, .nobody, false, .status, 0, u32Max, 0⟩,
  -- 31h/16–21/2 Security version (R450)
  ⟨16, 21, 2, 2, 0, .u8, .observer, .nobody, false, .status, 0, 255, 0⟩,
  -- 31h/16–21/3 Other slot (R450)
  ⟨16, 21, 3, 3, 0, .e8, .observer, .nobody, false, .status, 0, 255, 0⟩,
  -- 31h/16–21/4 Other image (R450)
  ⟨16, 21, 4, 4, 0, .u32, .observer, .nobody, false, .status, 0, u32Max, 0⟩,
  -- 31h/16–21/5 Commits (R450)
  ⟨16, 21, 5, 5, 0, .u32, .observer, .nobody, false, .status, 0, u32Max, 0⟩,
  -- 31h/16–21/6 Last commit time (R450)
  ⟨16, 21, 6, 6, 0, .t48, .observer, .nobody, false, .status, 0, u48Max, 0⟩
]

/-- Class 38h. -/
def rows38 : List ObjRow := [
  -- 38h/0/0 Slice in force (R478)
  ⟨0, 0, 0, 0, 0, .u16, .observer, .nobody, false, .status, 0, 65535, 0⟩,
  -- 38h/0/1 Schedule position (R478)
  ⟨0, 0, 1, 1, 0, .u8, .observer, .nobody, false, .status, 0, 255, 0⟩,
  -- 38h/0/2 Pending fuse repairs (R478)
  ⟨0, 0, 2, 2, 0, .u8, .observer, .nobody, false, .status, 0, 255, 0⟩,
  -- 38h/0/3 Program fuses (R478)
  ⟨0, 0, 3, 3, 0, .b1, .nobody, .installer, false, .command, 0, 1, 0⟩,
  -- 38h/0/4 Fuses used (R478)
  ⟨0, 0, 4, 4, 0, .u8, .observer, .nobody, false, .status, 0, 255, 0⟩,
  -- 38h/1–6/0 Target state (R478)
  ⟨1, 6, 0, 0, 0, .e8, .observer, .nobody, false, .status, 0, 255, 0⟩,
  -- 38h/2–6/1 Share (R478)
  ⟨2, 6, 1, 1, 0, .u8, .observer, .installer, false, .setting, 0, 16, 1⟩,
  -- 38h/1–6/2 Test interval (R478)
  ⟨1, 6, 2, 2, 0, .u32, .observer, .installer, false, .setting, 60, 604800, 86400⟩,
  -- 38h/1–6/3 Outcome (R478)
  ⟨1, 6, 3, 3, 0, .e8, .observer, .installer, false, .setting, 0, 2, 0⟩,
  -- 38h/1–6/4 Passes (R478)
  ⟨1, 6, 4, 4, 0, .u32, .observer, .installer, false, .count, 0, u32Max, 0⟩,
  -- 38h/1–6/5 Failures (R478)
  ⟨1, 6, 5, 5, 0, .u32, .observer, .installer, false, .count, 0, u32Max, 0⟩,
  -- 38h/1–6/6 Aborted tests (R478)
  ⟨1, 6, 6, 6, 0, .u32, .observer, .installer, false, .count, 0, u32Max, 0⟩,
  -- 38h/1–6/7 Last pass (R478)
  ⟨1, 6, 7, 7, 0, .t48, .observer, .nobody, false, .status, 0, u48Max, 0⟩,
  -- 38h/1–6/8 Last failure (R478)
  ⟨1, 6, 8, 8, 0, .u48, .observer, .nobody, false, .status, 0, u48Max, 0⟩,
  -- 38h/1–6/9 Soft repairs (R478)
  ⟨1, 6, 9, 9, 0, .u8, .observer, .nobody, false, .status, 0, 255, 0⟩
]

/-- The rows of a class (R100); a class that does not exist has none. -/
def rowsOf : Nat → List ObjRow
  | 0x00 => rows00
  | 0x01 => rows01
  | 0x02 => rows02
  | 0x03 => rows03
  | 0x04 => rows04
  | 0x05 => rows05
  | 0x08 => rows08
  | 0x09 => rows09
  | 0x0A => rows0A
  | 0x0B => rows0B
  | 0x0C => rows0C
  | 0x0D => rows0D
  | 0x0F => rows0F
  | 0x10 => rows10
  | 0x11 => rows11
  | 0x12 => rows12
  | 0x13 => rows13
  | 0x14 => rows14
  | 0x18 => rows18
  | 0x19 => rows19
  | 0x1A => rows1A
  | 0x1B => rows1B
  | 0x1C => rows1C
  | 0x1D => rows1D
  | 0x1E => rows1E
  | 0x20 => rows20
  | 0x21 => rows21
  | 0x22 => rows22
  | 0x23 => rows23
  | 0x24 => rows24
  | 0x28 => rows28
  | 0x29 => rows29
  | 0x2A => rows2A
  | 0x2B => rows2B
  | 0x30 => rows30
  | 0x31 => rows31
  | 0x38 => rows38
  | _ => []

/-- Does a row cover instance `i`, member `m`? -/
def ObjRow.covers (r : ObjRow) (i m : Nat) : Bool :=
  r.i0 ≤ i && i ≤ r.i1 &&
    (if r.stride = 0 then r.m0 ≤ m && m ≤ r.m1 else m < 32 && m % r.stride = r.m0)

/-- The row of an object; the first that covers it. In class 11h the instances 31 + 32p have rows of their own
(R198). -/
def findRow (c i m : Nat) : Option ObjRow :=
  (rowsOf c).find? fun r =>
    r.covers i m && (c ≠ 0x11 || (i % 32 == 31) == (r.i0 == 31)) && (c ≠ 0x29 || i = 0 || (i == 254 || i == 255) == (r.i0 == i))

/-- A 24-bit object address (R7). -/
def key (c i m : Nat) : Nat := c * 262144 + i * 256 + m

def keyClass (k : Nat) : Nat := k / 262144
def keyInst (k : Nat) : Nat := k / 256 % 1024
def keyMember (k : Nat) : Nat := k % 256

/-- Spokes served (R2). -/
def Variant.spokes : Variant → Nat
  | .trt24 => 24
  | .trt12 => 12

/-- The bit mask of every existing spoke. -/
def Variant.spokeMask (v : Variant) : Nat := 2 ^ v.spokes - 1

/-- Words of a capture-ring slot (R56), words of the ring for a capture length (R55), and words of the store (R49). -/
def slotWords (v : Variant) : Nat := if v = .trt24 then 152 else 92
def ringWords (v : Variant) (len : Nat) : Nat := len * slotWords v
def storeWords : Nat := 2097152

/-- Base of the capture ring (R54). -/
def ringBase : Nat := 853184

/-- Region bases of Pannier for the default capture length (R54): the heap follows the ring. -/
def regionBases (v : Variant) : List Nat :=
  [0, 65536, 81920, 132096, 148480, 164864, 205824, 238592, 336896, 386048, 418816, 451584, ringBase,
    ringBase + ringWords v 4000]

/-- Region sizes of Pannier for the default capture length (R54): the heap takes every remaining word. -/
def regionSizes (v : Variant) : List Nat :=
  [65536, 16384, 50176, 16384, 16384, 40960, 32768, 98304, 49152, 32768, 32768, 401600, ringWords v 4000,
    storeWords - ringBase - ringWords v 4000]

/-- START and STOP of the pacing queues after reset (R67). -/
def queueStart : List Nat := [64, 32, 64, 16, 16, 64, 32, 4]
def queueStop : List Nat := [240, 120, 0, 60, 60, 240, 0, 15]

/-- Offsets and sizes of the flash areas on a 32 MiB device (R431). -/
def areaOffset : List Nat :=
  [0, 0x1000, 0x2000, 0x4000, 0x10000, 0x410000, 0x810000, 0x890000, 0x910000, 0x920000, 0x930000, 0x970000, 0x9B0000,
   0x9C0000, 0x9D0000, 0xA10000, 0xA30000, 0xA80000, 0xAD0000, 0xAF0000, 0xB00000, 0xD00000, 0xF00000]
def areaSize : List Nat :=
  [0x1000, 0x1000, 0x2000, 0xC000, 0x400000, 0x400000, 0x80000, 0x80000, 0x10000, 0x10000, 0x40000, 0x40000, 0x10000,
   0x10000, 0x40000, 0x20000, 0x50000, 0x50000, 0x20000, 0x10000, 0x200000, 0x200000, 0x1100000]

/-- Kind of a measurement channel (R110): current I1-I3 and IN (0), IX (1) or voltage (2). -/
def chanKind (n : Nat) : Nat := if n < 120 then (if n % 5 = 4 then 1 else 0) else 2

/-- Kind of a switch channel by its instance (R276): KH, KL, LK, AX or HX (0-4). -/
def switchKind (n : Nat) : Nat := if n < 96 then n % 4 else 4

/-- Frequencies of the clock domains FLD, CORE, MOD, GPLC, NFC, SMEM, PIX, VLT at reset (R461): SMEM at its lowest
step and PIX at the divisor 5 (DESIGN CHOICE, log entry 3). -/
def clockHz : List Nat := [25000000, 200000000, 4096000, 75000000, 13560000, 25000000, 40000000, 32768]

/-- ASCII text as a TXT32 value, left-aligned (R101). -/
def txt32 (bytes : List Nat) : Int :=
  (((bytes ++ List.replicate (32 - bytes.length) 0).take 32).foldl (fun a b => a * 256 + b) 0 : Nat)

/-- "TRT24-IF" and "TRT12-IF" (R6). -/
def partCode : Variant → Int
  | .trt24 => txt32 [0x54, 0x52, 0x54, 0x32, 0x34, 0x2D, 0x49, 0x46]
  | .trt12 => txt32 [0x54, 0x52, 0x54, 0x31, 0x32, 0x2D, 0x49, 0x46]

/-- Defaults that depend on the variant or the instance, by the object tables and the rules they name. The stored default
of 0Dh/n/3 is -1, which stands for "the default of R115"; 20h/0/4 stores 0 for "1 + (address mod 7)". -/
def specialDefault (v : Variant) (c i m : Nat) : Option Int :=
  match c with
  | 0x00 =>
    if i = 0 && m = 0 then some (partCode v)
    else if i = 0 && m = 1 then some (if v = .trt24 then 0 else 1)
    else if i = 0 && m = 2 then some v.spokes
    else if i = 0 && m = 9 then some (if v = .trt24 then 1 else 3)
    else none
  | 0x03 =>
    if 1 ≤ i && i ≤ 17 && m = 0 then some ((i : Int) - 1)
    else if 20 ≤ i && i ≤ 33 && m = 0 then some ((regionBases v).getD (i - 20) 0)
    else if 20 ≤ i && i ≤ 33 && m = 1 then some ((regionSizes v).getD (i - 20) 0)
    else if 64 ≤ i && i ≤ 71 && m = 0 then some (queueStart.getD (i - 64) 0)
    else if 64 ≤ i && i ≤ 71 && m = 1 then some (queueStop.getD (i - 64) 0)
    else none
  | 0x08 =>
    if m = 0 then some ([2, 4, 5].getD (chanKind i) 0)
    else if m = 2 then some ([75000, 1000, 600000].getD (chanKind i) 0)
    else none
  | 0x09 =>
    if i < 8 && m = 3 then some (if i * 3 + 2 < v.spokes then (7 * 2 ^ (3 * i) : Nat) else 0)
    else if 32 ≤ i && i ≤ 55 && m = 0 then some ((i - 32) / 3 : Nat)
    else none
  | 0x0C => if m = 1 then some i else none
  | 0x0D => if m = 3 && i < 256 then some noGain else none
  | 0x19 => if 8 ≤ m && m ≤ 11 && i < 256 then some ([1, 4000, 24000, 0].getD (m - 8) 0) else none
  | 0x1B =>
    if i = 8 && (m ≤ 2 || 9 ≤ m && m ≤ 11) then some 800000
    else if i < 8 && 9 ≤ m && m ≤ 11 then some 100000
    else if 16 ≤ i && i ≤ 39 && m = 0 then some ((i - 16) / 3 : Nat)
    else none
  | 0x1C =>
    if i = 256 then (if m = 2 || m = 3 then some (if v = .trt24 then 0 else 2) else none)
    else if m = 4 then some ([0, 0, 2, 1, 5].getD (switchKind i) 0)
    else if m = 5 then some ([500, 500, 1000, 250, 1000].getD (switchKind i) 0)
    else if m = 10 then some ([100000, 100000, 50000, 1000000, 1000000].getD (switchKind i) 0)
    else none
  | 0x1D =>
    if (i = 2 || i = 3) && m = 0 then some 3
    else if i ≤ 3 && m = 2 then some v.spokeMask
    else if i ≤ 3 && m = 3 then some ([100, 500, 20, 20].getD i 0)
    else if i = 0 && m = 4 then some 1
    else if (i = 2 || i = 3) && m = 5 then some 1
    else if i = 257 then some ([6000, 60000, 200000, 8000, 800, 80, 30000, 150000, 250, 35].getD m 0)
    else none
  | 0x1E => if i = 0 && m = 6 then some v.spokeMask else none
  | 0x20 => if i = 0 && m = 4 then some 0 else none
  | 0x21 => if 16 ≤ i && i ≤ 39 && m = 12 then some (if i - 16 < v.spokes then ((i - 16 : Nat) : Int) else 255) else none
  | 0x30 =>
    if 32 ≤ i && i ≤ 54 && m = 0 then some (areaOffset.getD (i - 32) 0)
    else if 32 ≤ i && i ≤ 54 && m = 1 then some (areaSize.getD (i - 32) 0)
    else none
  | 0x01 => if 32 ≤ i && i ≤ 39 && m = 1 then some (clockHz.getD (i - 32) 0) else none
  | 0x38 =>
    if 2 ≤ i && i ≤ 6 && m = 1 then some (if i = 2 then 2 else 1)
    else if m = 3 && i ≤ 2 then some 1
    else none
  | _ => none

/-- What an object that nothing has written reads as (R104). -/
def defaultOf (v : Variant) (k : Nat) : Int :=
  match specialDefault v (keyClass k) (keyInst k) (keyMember k) with
  | some d => d
  | none =>
    match findRow (keyClass k) (keyInst k) (keyMember k) with
    | some r => r.dflt
    | none => 0

end Sys2Proof.Machine
end

