-- ==== Sys2Proof/Machine/Keys.lean ====
section
/-! DEFINITION. A name for the address of every object of the dictionary (R7): `k18PilotState i` is 18h/i/0. Objects of
one instance take no instance; objects that span several members take the offset of the member, `j`; objects at members
4k or 8k take `k`. Instances are the numbers of the object tables. -/

namespace Sys2Proof.Machine

abbrev k00PartCode : Nat := key 0x00 0 0
abbrev k00Variant : Nat := key 0x00 0 1
abbrev k00SpokeCount : Nat := key 0x00 0 2
abbrev k00LinkAState : Nat := key 0x00 0 8
abbrev k00LinkBState : Nat := key 0x00 0 9
abbrev k00LinkAErrorCount : Nat := key 0x00 0 10
abbrev k00LinkBErrorCount : Nat := key 0x00 0 11
abbrev k00CountSaturated : Nat := key 0x00 0 16
abbrev k00LastSaturatedCount : Nat := key 0x00 0 17
abbrev k01Mode : Nat := key 0x01 0 0
abbrev k01DeepestMode : Nat := key 0x01 0 1
abbrev k01Workstand : Nat := key 0x01 0 2
abbrev k01Margin : Nat := key 0x01 0 3
abbrev k01NextEventTick : Nat := key 0x01 0 4
abbrev k01NextEventKind : Nat := key 0x01 0 5
abbrev k01LastResetCause : Nat := key 0x01 0 6
abbrev k01Restart : Nat := key 0x01 0 7
abbrev k01WatchdogTimeout : Nat := key 0x01 0 8
abbrev k01TimeInMode (i : Nat) : Nat := key 0x01 i 0
abbrev k01Wakes (i : Nat) : Nat := key 0x01 i 1
abbrev k01ClockState (i : Nat) : Nat := key 0x01 i 0
abbrev k01Frequency (i : Nat) : Nat := key 0x01 i 1
abbrev k02CadenceCount : Nat := key 0x02 0 0
abbrev k02PlanState : Nat := key 0x02 0 1
abbrev k02PlanIdentity : Nat := key 0x02 0 2
abbrev k02RefusalItem : Nat := key 0x02 0 3
abbrev k02RefusalDemand : Nat := key 0x02 0 4
abbrev k02C3Watchdog : Nat := key 0x02 0 5
abbrev k02EngineBudget (i : Nat) : Nat := key 0x02 i 0
abbrev k02EngineWorstSeen (i : Nat) : Nat := key 0x02 i 1
abbrev k02OverrunCount (i : Nat) : Nat := key 0x02 i 2
abbrev k02PortSlotsPlanned (i : Nat) : Nat := key 0x02 i 0
abbrev k02PortSlotsWorstSeen (i : Nat) : Nat := key 0x02 i 1
abbrev k02WatchdogBites (i : Nat) : Nat := key 0x02 i 2
abbrev k02EmptyGrants (i : Nat) : Nat := key 0x02 i 3
abbrev k03CaptureLength : Nat := key 0x03 0 0
abbrev k03CorrectedErrors : Nat := key 0x03 0 1
abbrev k03UncorrectableErrors : Nat := key 0x03 0 2
abbrev k03LastErrorAddress : Nat := key 0x03 0 3
abbrev k03RotationState : Nat := key 0x03 0 4
abbrev k03RotationBank : Nat := key 0x03 0 5
abbrev k03RotationSteps : Nat := key 0x03 0 6
abbrev k03CaptureState : Nat := key 0x03 0 7
abbrev k03RotationDwell : Nat := key 0x03 0 8
abbrev k03TriggerCC : Nat := key 0x03 0 9
abbrev k03IgnoredTriggers : Nat := key 0x03 0 10
abbrev k03TriggerMask : Nat := key 0x03 0 11
abbrev k03ManualTrigger : Nat := key 0x03 0 12
abbrev k03Release : Nat := key 0x03 0 13
abbrev k03PostTriggerTime : Nat := key 0x03 0 14
abbrev k03BankUse (i : Nat) : Nat := key 0x03 i 0
abbrev k03BankCorrectedErrors (i : Nat) : Nat := key 0x03 i 1
abbrev k03RegionBase (i : Nat) : Nat := key 0x03 i 0
abbrev k03RegionSize (i : Nat) : Nat := key 0x03 i 1
abbrev k03ListHead (i : Nat) : Nat := key 0x03 i 0
abbrev k03Control (i : Nat) : Nat := key 0x03 i 1
abbrev k03ChannelState (i : Nat) : Nat := key 0x03 i 2
abbrev k03Cause (i : Nat) : Nat := key 0x03 i 3
abbrev k03CurrentDescriptor (i : Nat) : Nat := key 0x03 i 4
abbrev k03ErrorAddress (i : Nat) : Nat := key 0x03 i 5
abbrev k03Completions (i : Nat) : Nat := key 0x03 i 6
abbrev k03START (i : Nat) : Nat := key 0x03 i 0
abbrev k03STOP (i : Nat) : Nat := key 0x03 i 1
abbrev k03Fill (i : Nat) : Nat := key 0x03 i 2
abbrev k03DescriptorWindowOffset : Nat := key 0x03 72 0
abbrev k03DescriptorWindowData : Nat := key 0x03 72 1
abbrev k03HostAreaOffset : Nat := key 0x03 73 0
abbrev k03HostAreaData : Nat := key 0x03 73 1
abbrev k04Sessions : Nat := key 0x04 0 0
abbrev k04IdleTimeout : Nat := key 0x04 0 1
abbrev k04Subscriptions : Nat := key 0x04 0 2
abbrev k04DiscardedPDUs : Nat := key 0x04 0 3
abbrev k04LoginFailures : Nat := key 0x04 0 4
abbrev k04NodeID (i : Nat) : Nat := key 0x04 i 0
abbrev k04NominalRate (i : Nat) : Nat := key 0x04 i 1
abbrev k04DataRate (i : Nat) : Nat := key 0x04 i 2
abbrev k04KODEnable (i : Nat) : Nat := key 0x04 i 3
abbrev k04PLCANodeID : Nat := key 0x04 3 0
abbrev k04PLCANodeCount : Nat := key 0x04 3 1
abbrev k04IPv4Address : Nat := key 0x04 3 2
abbrev k04IPv4Prefix : Nat := key 0x04 3 3
abbrev k04MACAddress : Nat := key 0x04 3 4
abbrev k04KODPort : Nat := key 0x04 3 5
abbrev k04SessionState (i : Nat) : Nat := key 0x04 i 0
abbrev k04SessionRole (i : Nat) : Nat := key 0x04 i 1
abbrev k04Endpoint (i : Nat) : Nat := key 0x04 i 2
abbrev k04IdleRemaining (i : Nat) : Nat := key 0x04 i 3
abbrev k04Close (i : Nat) : Nat := key 0x04 i 4
abbrev k05WallTime : Nat := key 0x05 0 0
abbrev k05TimeValid : Nat := key 0x05 0 1
abbrev k05StepTarget : Nat := key 0x05 0 2
abbrev k05Slew : Nat := key 0x05 0 3
abbrev k05HighWaterTime : Nat := key 0x05 0 4
abbrev k05LocalOffset : Nat := key 0x05 0 5
abbrev k05RegressionFrom : Nat := key 0x05 0 6
abbrev k05RegressionTo : Nat := key 0x05 0 7
abbrev k08SensorType (i : Nat) : Nat := key 0x08 i 0
abbrev k08GainCode (i : Nat) : Nat := key 0x08 i 1
abbrev k08FullScale (i : Nat) : Nat := key 0x08 i 2
abbrev k08LeakShift (i : Nat) : Nat := key 0x08 i 3
abbrev k08Clipped (i : Nat) : Nat := key 0x08 i 4
abbrev k08ClipCount (i : Nat) : Nat := key 0x08 i 5
abbrev k08SubstitutionCount (i : Nat) : Nat := key 0x08 i 6
abbrev k08RawMean (i : Nat) : Nat := key 0x08 i 7
abbrev k08ChannelState (i : Nat) : Nat := key 0x08 i 8
abbrev k09GroupEnable (i : Nat) : Nat := key 0x09 i 0
abbrev k09NominalVoltage (i : Nat) : Nat := key 0x09 i 1
abbrev k09NominalFrequency (i : Nat) : Nat := key 0x09 i 2
abbrev k09AssignedSpokes (i : Nat) : Nat := key 0x09 i 3
abbrev k09RMSL1L2L3NP (i j : Nat) : Nat := key 0x09 i (4 + j)
abbrev k09Frequency (i : Nat) : Nat := key 0x09 i 8
abbrev k09ReferenceGroup : Nat := key 0x09 8 0
abbrev k09SpokeGroup (i : Nat) : Nat := key 0x09 i 0
abbrev k0ACurrentRmsI1I2I3IN (i j : Nat) : Nat := key 0x0A i j
abbrev k0AIXDCMean (i : Nat) : Nat := key 0x0A i 4
abbrev k0AIXACRms (i : Nat) : Nat := key 0x0A i 5
abbrev k0AComputedResidualRms (i : Nat) : Nat := key 0x0A i 6
abbrev k0AActivePowerL1L2L3 (i j : Nat) : Nat := key 0x0A i (7 + j)
abbrev k0AActivePowerTotal (i : Nat) : Nat := key 0x0A i 10
abbrev k0AReactivePowerL1L2L3 (i j : Nat) : Nat := key 0x0A i (11 + j)
abbrev k0AReactivePowerTotal (i : Nat) : Nat := key 0x0A i 14
abbrev k0AApparentPowerL1L2L3 (i j : Nat) : Nat := key 0x0A i (15 + j)
abbrev k0AApparentPowerTotal (i : Nat) : Nat := key 0x0A i 18
abbrev k0APowerFactorL1L2L3 (i j : Nat) : Nat := key 0x0A i (19 + j)
abbrev k0APowerFactorTotal (i : Nat) : Nat := key 0x0A i 22
abbrev k0APhaseAngleL1L2L3 (i j : Nat) : Nat := key 0x0A i (23 + j)
abbrev k0AStatus (i : Nat) : Nat := key 0x0A i 26
abbrev k0AUpdateTick (i : Nat) : Nat := key 0x0A i 27
abbrev k0AStartingCurrent (i : Nat) : Nat := key 0x0A i 28
abbrev k0BValue (i : Nat) : Nat := key 0x0B i 0
abbrev k0BWrapCount (i : Nat) : Nat := key 0x0B i 1
abbrev k0BAccumulationMode (i : Nat) : Nat := key 0x0B i 2
abbrev k0BSnapshotValue (i : Nat) : Nat := key 0x0B i 3
abbrev k0BSnapshotWrapCount (i : Nat) : Nat := key 0x0B i 4
abbrev k0BFineFraction (i : Nat) : Nat := key 0x0B i 5
abbrev k0BSnapshotRequest : Nat := key 0x0B 1000 0
abbrev k0BSnapshotTick : Nat := key 0x0B 1000 1
abbrev k0BSnapshotTime : Nat := key 0x0B 1000 2
abbrev k0BSnapshotMC : Nat := key 0x0B 1000 3
abbrev k0BSnapshotSequence : Nat := key 0x0B 1000 4
abbrev k0BSnapshotSource : Nat := key 0x0B 1000 5
abbrev k0BClearRegisters : Nat := key 0x0B 1000 6
abbrev k0CEnable (i : Nat) : Nat := key 0x0C i 0
abbrev k0CSpoke (i : Nat) : Nat := key 0x0C i 1
abbrev k0CQuantity (i : Nat) : Nat := key 0x0C i 2
abbrev k0CMeterConstant (i : Nat) : Nat := key 0x0C i 3
abbrev k0CWidth (i : Nat) : Nat := key 0x0C i 4
abbrev k0CForceJitterFree (i : Nat) : Nat := key 0x0C i 5
abbrev k0CMode (i : Nat) : Nat := key 0x0C i 6
abbrev k0CPolarity (i : Nat) : Nat := key 0x0C i 7
abbrev k0CPulseCount (i : Nat) : Nat := key 0x0C i 8
abbrev k0CResidue (i : Nat) : Nat := key 0x0C i 9
abbrev k0DGain (i : Nat) : Nat := key 0x0D i 0
abbrev k0DPhase (i : Nat) : Nat := key 0x0D i 1
abbrev k0DOffset (i : Nat) : Nat := key 0x0D i 2
abbrev k0DIntegratorGain (i : Nat) : Nat := key 0x0D i 3
abbrev k0DSealState : Nat := key 0x0D 256 0
abbrev k0DMetrologyEventCounter : Nat := key 0x0D 256 1
abbrev k0DCalibrationChecksum : Nat := key 0x0D 256 2
abbrev k0DLastCalibrationTime : Nat := key 0x0D 256 3
abbrev k0FCommand (i : Nat) : Nat := key 0x0F i 0
abbrev k0FState (i : Nat) : Nat := key 0x0F i 1
abbrev k0FOwner (i : Nat) : Nat := key 0x0F i 2
abbrev k0FDeclaredSize (i : Nat) : Nat := key 0x0F i 3
abbrev k0FOffset (i : Nat) : Nat := key 0x0F i 4
abbrev k0FData (i : Nat) : Nat := key 0x0F i 5
abbrev k0FFlushMark (i : Nat) : Nat := key 0x0F i 6
abbrev k0FHighWater (i : Nat) : Nat := key 0x0F i 7
abbrev k0FResult (i : Nat) : Nat := key 0x0F i 8
abbrev k10ActiveTariff : Nat := key 0x10 0 0
abbrev k10PendingTariff : Nat := key 0x10 0 1
abbrev k10PendingActivation : Nat := key 0x10 0 2
abbrev k10CurrentRate : Nat := key 0x10 0 3
abbrev k10NextRate : Nat := key 0x10 0 4
abbrev k10NextSwitch : Nat := key 0x10 0 5
abbrev k10NextBillingClose : Nat := key 0x10 0 6
abbrev k10DemandLength : Nat := key 0x10 0 7
abbrev k10ImportPrice (i : Nat) : Nat := key 0x10 i 0
abbrev k10ExportCredit (i : Nat) : Nat := key 0x10 i 1
abbrev k11RegisterValue (i j : Nat) : Nat := key 0x11 i j
abbrev k11WrapCount (i j : Nat) : Nat := key 0x11 i (24 + j)
abbrev k11MaximumDemand (i : Nat) : Nat := key 0x11 i 48
abbrev k11TimeOfMaximum (i : Nat) : Nat := key 0x11 i 49
abbrev k11Intervals (i : Nat) : Nat := key 0x11 i 50
abbrev k11ShortIntervals (i : Nat) : Nat := key 0x11 i 51
abbrev k11RunningIntervalEnergy (i : Nat) : Nat := key 0x11 i 52
abbrev k11Start (i : Nat) : Nat := key 0x11 i 0
abbrev k11End (i : Nat) : Nat := key 0x11 i 1
abbrev k11Sequence (i : Nat) : Nat := key 0x11 i 2
abbrev k11Cause (i : Nat) : Nat := key 0x11 i 3
abbrev k11Flags (i : Nat) : Nat := key 0x11 i 4
abbrev k11CloseNow : Nat := key 0x11 31 10
abbrev k11IntervalStart : Nat := key 0x11 31 11
abbrev k12State (i : Nat) : Nat := key 0x12 i 0
abbrev k12SessionNumber (i : Nat) : Nat := key 0x12 i 1
abbrev k12Spoke (i : Nat) : Nat := key 0x12 i 2
abbrev k12Purse0 (i : Nat) : Nat := key 0x12 i 3
abbrev k12Identity0 (i : Nat) : Nat := key 0x12 i 4
abbrev k12StartEnd (i j : Nat) : Nat := key 0x12 i (5 + j)
abbrev k12Tariff (i : Nat) : Nat := key 0x12 i 7
abbrev k12ImportExport (i j : Nat) : Nat := key 0x12 i (8 + j)
abbrev k12ByRate (i j : Nat) : Nat := key 0x12 i (10 + j)
abbrev k12Minutes (i : Nat) : Nat := key 0x12 i 26
abbrev k12Cost (i : Nat) : Nat := key 0x12 i 27
abbrev k12EndReason (i : Nat) : Nat := key 0x12 i 28
abbrev k12Collect (i : Nat) : Nat := key 0x12 i 29
abbrev k12Stop (i : Nat) : Nat := key 0x12 i 30
abbrev k12AuthoriseSpoke : Nat := key 0x12 64 0
abbrev k12Identity64 : Nat := key 0x12 64 1
abbrev k12Purse64 : Nat := key 0x12 64 2
abbrev k13CustomerIdentifier (i : Nat) : Nat := key 0x13 i 0
abbrev k13UnitValue (i : Nat) : Nat := key 0x13 i 1
abbrev k13Balance (i : Nat) : Nat := key 0x13 i 2
abbrev k13MaximumBalance (i : Nat) : Nat := key 0x13 i 3
abbrev k13LowCreditThreshold (i : Nat) : Nat := key 0x13 i 4
abbrev k13Floor (i : Nat) : Nat := key 0x13 i 5
abbrev k13WindowHigh (i : Nat) : Nat := key 0x13 i 6
abbrev k13WindowLow (i : Nat) : Nat := key 0x13 i 7
abbrev k13PurseState (i : Nat) : Nat := key 0x13 i 8
abbrev k13AcceptedTokens (i : Nat) : Nat := key 0x13 i 9
abbrev k13TokenEntry : Nat := key 0x13 256 0
abbrev k13LastResult : Nat := key 0x13 256 1
abbrev k13LockoutRemaining : Nat := key 0x13 256 2
abbrev k14Identity (i k : Nat) : Nat := key 0x14 i (4 * k)
abbrev k14Purse (i k : Nat) : Nat := key 0x14 i (4 * k + 1)
abbrev k14ValidUntil (i k : Nat) : Nat := key 0x14 i (4 * k + 2)
abbrev k14Flags (i k : Nat) : Nat := key 0x14 i (4 * k + 3)
abbrev k14ListIdentity : Nat := key 0x14 0 32
abbrev k14Entries : Nat := key 0x14 0 33
abbrev k18PilotState (i : Nat) : Nat := key 0x18 i 0
abbrev k18DiodeStatus (i : Nat) : Nat := key 0x18 i 1
abbrev k18PilotCondition (i : Nat) : Nat := key 0x18 i 2
abbrev k18HighPlateau (i : Nat) : Nat := key 0x18 i 3
abbrev k18LowPlateau (i : Nat) : Nat := key 0x18 i 4
abbrev k18DutyInForce (i : Nat) : Nat := key 0x18 i 5
abbrev k18PilotModeInForce (i : Nat) : Nat := key 0x18 i 6
abbrev k18DecodedCurrent (i : Nat) : Nat := key 0x18 i 7
abbrev k18ProximityState (i : Nat) : Nat := key 0x18 i 8
abbrev k18ProximityResistance (i : Nat) : Nat := key 0x18 i 9
abbrev k18CableRating (i : Nat) : Nat := key 0x18 i 10
abbrev k18OutletKind (i : Nat) : Nat := key 0x18 i 11
abbrev k18TetheredRating (i : Nat) : Nat := key 0x18 i 12
abbrev k18WeldSenseState (i : Nat) : Nat := key 0x18 i 13
abbrev k18WeldSenseMaximum (i : Nat) : Nat := key 0x18 i 14
abbrev k18LiveThreshold (i : Nat) : Nat := key 0x18 i 15
abbrev k18DeadThreshold (i : Nat) : Nat := key 0x18 i 16
abbrev k18StateFilter (i : Nat) : Nat := key 0x18 i 17
abbrev k18StateChanges (i : Nat) : Nat := key 0x18 i 18
abbrev k18LastChangeTick (i : Nat) : Nat := key 0x18 i 19
abbrev k18DiodeFaults (i : Nat) : Nat := key 0x18 i 20
abbrev k19RunState (i : Nat) : Nat := key 0x19 i 0
abbrev k19ProgramCounter (i : Nat) : Nat := key 0x19 i 1
abbrev k19PendingFlags (i : Nat) : Nat := key 0x19 i 2
abbrev k19GateState (i : Nat) : Nat := key 0x19 i 3
abbrev k19GateBlockers (i : Nat) : Nat := key 0x19 i 4
abbrev k19CloseRequest (i : Nat) : Nat := key 0x19 i 5
abbrev k19ImageIdentity0 (i : Nat) : Nat := key 0x19 i 6
abbrev k19ProgramNumber (i : Nat) : Nat := key 0x19 i 7
abbrev k19ParametersP0P3 (i j : Nat) : Nat := key 0x19 i (8 + j)
abbrev k19W0W7 (i j : Nat) : Nat := key 0x19 i (12 + j)
abbrev k19T0T3 (i j : Nat) : Nat := key 0x19 i (20 + j)
abbrev k19InstructionsLastTick (i : Nat) : Nat := key 0x19 i 24
abbrev k19SinkErrors (i : Nat) : Nat := key 0x19 i 25
abbrev k19UserStatus (i : Nat) : Nat := key 0x19 i 26
abbrev k19HaltAddress (i : Nat) : Nat := key 0x19 i 27
abbrev k19Restart (i : Nat) : Nat := key 0x19 i 28
abbrev k19Broadcast : Nat := key 0x19 256 0
abbrev k19LastBroadcast : Nat := key 0x19 256 1
abbrev k19ImageIdentity256 : Nat := key 0x19 256 2
abbrev k19SwitchPending : Nat := key 0x19 256 3
abbrev k1ALinkState (i : Nat) : Nat := key 0x1A i 0
abbrev k1ALinkControlInForce (i : Nat) : Nat := key 0x1A i 1
abbrev k1AProtocol (i : Nat) : Nat := key 0x1A i 2
abbrev k1AIdentification (i : Nat) : Nat := key 0x1A i 3
abbrev k1ATLS (i : Nat) : Nat := key 0x1A i 4
abbrev k1AStationMAC (i : Nat) : Nat := key 0x1A i 5
abbrev k1AVehicleMAC (i : Nat) : Nat := key 0x1A i 6
abbrev k1AEVCCID (i : Nat) : Nat := key 0x1A i 7
abbrev k1AContractIdentity (i : Nat) : Nat := key 0x1A i 8
abbrev k1AVehicleMaximumCurrent (i : Nat) : Nat := key 0x1A i 9
abbrev k1AVehicleMaximumDischarge (i : Nat) : Nat := key 0x1A i 10
abbrev k1AFailedAttempts (i : Nat) : Nat := key 0x1A i 11
abbrev k1ALastMeanAttenuation (i : Nat) : Nat := key 0x1A i 12
abbrev k1AMatches (i : Nat) : Nat := key 0x1A i 13
abbrev k1ADeferredRuns (i : Nat) : Nat := key 0x1A i 14
abbrev k1ATransmitAttenuation (i : Nat) : Nat := key 0x1A i 15
abbrev k1AProtocolEnable (i : Nat) : Nat := key 0x1A i 16
abbrev k1APlugChargeEnable (i : Nat) : Nat := key 0x1A i 17
abbrev k1ABidirectionalEnable (i : Nat) : Nat := key 0x1A i 18
abbrev k1AContractDecision (i : Nat) : Nat := key 0x1A i 19
abbrev k1AContractPending (i : Nat) : Nat := key 0x1A i 20
abbrev k1ABeaconAlignment : Nat := key 0x1A 256 0
abbrev k1AProtocolPriority : Nat := key 0x1A 256 1
abbrev k1ALastRunSpoke : Nat := key 0x1A 256 2
abbrev k1ALastRunMargin : Nat := key 0x1A 256 3
abbrev k1AContractDecisionTime : Nat := key 0x1A 256 4
abbrev k1BImportLimitL1L3 (i j : Nat) : Nat := key 0x1B i j
abbrev k1BReserveL1L3 (i j : Nat) : Nat := key 0x1B i (3 + j)
abbrev k1BExportLimitL1L3 (i j : Nat) : Nat := key 0x1B i (6 + j)
abbrev k1BEffectiveLimitL1L3 (i j : Nat) : Nat := key 0x1B i (9 + j)
abbrev k1BMeasuredL1L3 (i j : Nat) : Nat := key 0x1B i (12 + j)
abbrev k1BAllocatedL1L3 (i j : Nat) : Nat := key 0x1B i (15 + j)
abbrev k1BGuardStage (i : Nat) : Nat := key 0x1B i 18
abbrev k1BTrim (i : Nat) : Nat := key 0x1B i 19
abbrev k1BGuardActions (i : Nat) : Nat := key 0x1B i 20
abbrev k1BVehicleLag : Nat := key 0x1B 9 0
abbrev k1BExportCredit : Nat := key 0x1B 9 1
abbrev k1BReboundWindow : Nat := key 0x1B 9 2
abbrev k1BLastPeriod : Nat := key 0x1B 9 3
abbrev k1BLateComputations : Nat := key 0x1B 9 4
abbrev k1BFeeder (i : Nat) : Nat := key 0x1B i 0
abbrev k1BPhaseRotation (i : Nat) : Nat := key 0x1B i 1
abbrev k1BTier (i : Nat) : Nat := key 0x1B i 2
abbrev k1BOutletMaximum (i : Nat) : Nat := key 0x1B i 3
abbrev k1BGrantedCurrent (i : Nat) : Nat := key 0x1B i 4
abbrev k1BExportGrant (i : Nat) : Nat := key 0x1B i 5
abbrev k1BCeiling (i : Nat) : Nat := key 0x1B i 6
abbrev k1BAllocationState (i : Nat) : Nat := key 0x1B i 7
abbrev k1BPhasesUsed (i : Nat) : Nat := key 0x1B i 8
abbrev k1BHold (i : Nat) : Nat := key 0x1B i 9
abbrev k1BCapState (i : Nat) : Nat := key 0x1B i 0
abbrev k1BTarget (i : Nat) : Nat := key 0x1B i 1
abbrev k1BPhaseMask (i : Nat) : Nat := key 0x1B i 2
abbrev k1BCap (i : Nat) : Nat := key 0x1B i 3
abbrev k1BStart (i : Nat) : Nat := key 0x1B i 4
abbrev k1BEnd (i : Nat) : Nat := key 0x1B i 5
abbrev k1BCapIdentity (i : Nat) : Nat := key 0x1B i 6
abbrev k1CCommand (i : Nat) : Nat := key 0x1C i 0
abbrev k1CChannelState (i : Nat) : Nat := key 0x1C i 1
abbrev k1CLatchCause (i : Nat) : Nat := key 0x1C i 2
abbrev k1CClearLatch (i : Nat) : Nat := key 0x1C i 3
abbrev k1CLoadType (i : Nat) : Nat := key 0x1C i 4
abbrev k1CNominalCurrent (i : Nat) : Nat := key 0x1C i 5
abbrev k1CCurrent (i : Nat) : Nat := key 0x1C i 6
abbrev k1CHot (i : Nat) : Nat := key 0x1C i 7
abbrev k1CRestartsAvailable (i : Nat) : Nat := key 0x1C i 8
abbrev k1COperations (i : Nat) : Nat := key 0x1C i 9
abbrev k1CRatedOperations (i : Nat) : Nat := key 0x1C i 10
abbrev k1COffPulseFailures (i : Nat) : Nat := key 0x1C i 11
abbrev k1CLastOffPulse (i : Nat) : Nat := key 0x1C i 12
abbrev k1CReadback (i : Nat) : Nat := key 0x1C i 13
abbrev k1CLockState (i : Nat) : Nat := key 0x1C i 16
abbrev k1CStrokeTime (i : Nat) : Nat := key 0x1C i 17
abbrev k1CFeedbackPolarity (i : Nat) : Nat := key 0x1C i 18
abbrev k1CEngageDirection (i : Nat) : Nat := key 0x1C i 19
abbrev k1CWeldCheck (i : Nat) : Nat := key 0x1C i 20
abbrev k1COpeningsUnderLoad (i : Nat) : Nat := key 0x1C i 21
abbrev k1CClearWeldLockout (i : Nat) : Nat := key 0x1C i 22
abbrev k1CBankState (j : Nat) : Nat := key 0x1C 256 j
abbrev k1CWeldedLockouts : Nat := key 0x1C 256 4
abbrev k1DFunctionState (i : Nat) : Nat := key 0x1D i 0
abbrev k1DChannelLevels (i : Nat) : Nat := key 0x1D i 1
abbrev k1DZone (i : Nat) : Nat := key 0x1D i 2
abbrev k1DDiscrepancyTime (i : Nat) : Nat := key 0x1D i 3
abbrev k1DRestartMode (i : Nat) : Nat := key 0x1D i 4
abbrev k1DStartupTest (i : Nat) : Nat := key 0x1D i 5
abbrev k1DOSSDFilter (i : Nat) : Nat := key 0x1D i 6
abbrev k1DReset (i : Nat) : Nat := key 0x1D i 7
abbrev k1DSitePropagation (i : Nat) : Nat := key 0x1D i 8
abbrev k1DDemands (i : Nat) : Nat := key 0x1D i 9
abbrev k1DSafetyState (i : Nat) : Nat := key 0x1D i 0
abbrev k1DCauses (i : Nat) : Nat := key 0x1D i 1
abbrev k1DResidualDCEstimate (i : Nat) : Nat := key 0x1D i 2
abbrev k1DResidualACEstimate (i : Nat) : Nat := key 0x1D i 3
abbrev k1DTestWindingResult (i : Nat) : Nat := key 0x1D i 4
abbrev k1DTestExpected (i : Nat) : Nat := key 0x1D i 5
abbrev k1DTestTolerance (i : Nat) : Nat := key 0x1D i 6
abbrev k1DClearLockout (i : Nat) : Nat := key 0x1D i 7
abbrev k1DResidualTrips (i : Nat) : Nat := key 0x1D i 8
abbrev k1DCrossCheckFailures (i : Nat) : Nat := key 0x1D i 9
abbrev k1DDeviceFaultCauses : Nat := key 0x1D 256 0
abbrev k1DClearDeviceFault : Nat := key 0x1D 256 1
abbrev k1DHoldLease : Nat := key 0x1D 256 2
abbrev k1DLeaseState : Nat := key 0x1D 256 3
abbrev k1DLeaseRemaining : Nat := key 0x1D 256 4
abbrev k1DLeaseExpiries : Nat := key 0x1D 256 5
abbrev k1DEarthLimit : Nat := key 0x1D 256 6
abbrev k1DDCLevels (j : Nat) : Nat := key 0x1D 257 j
abbrev k1DDCTimes (j : Nat) : Nat := key 0x1D 257 (3 + j)
abbrev k1DACLevels (j : Nat) : Nat := key 0x1D 257 (6 + j)
abbrev k1DACTimes (j : Nat) : Nat := key 0x1D 257 (8 + j)
abbrev k1EEnable : Nat := key 0x1E 0 0
abbrev k1EMemberNumber : Nat := key 0x1E 0 1
abbrev k1EGroupIdentity : Nat := key 0x1E 0 2
abbrev k1EPeerMask : Nat := key 0x1E 0 3
abbrev k1ECompareWindow : Nat := key 0x1E 0 4
abbrev k1ESiteReaction : Nat := key 0x1E 0 5
abbrev k1ETandemZone : Nat := key 0x1E 0 6
abbrev k1ETandemPort : Nat := key 0x1E 0 7
abbrev k1ETandemState : Nat := key 0x1E 0 8
abbrev k1ESequenceSent : Nat := key 0x1E 0 9
abbrev k1EPeerState (i : Nat) : Nat := key 0x1E i 0
abbrev k1ELastSEQ (i : Nat) : Nat := key 0x1E i 1
abbrev k1ELastState (i : Nat) : Nat := key 0x1E i 2
abbrev k1EMismatches (i : Nat) : Nat := key 0x1E i 3
abbrev k1EMissingTwins (i : Nat) : Nat := key 0x1E i 4
abbrev k1ECRCFailures (i : Nat) : Nat := key 0x1E i 5
abbrev k20NodeAddress : Nat := key 0x20 0 0
abbrev k20Enable : Nat := key 0x20 0 1
abbrev k20TransmitPhase : Nat := key 0x20 0 2
abbrev k20PulseWidth : Nat := key 0x20 0 3
abbrev k20UplinkChannel : Nat := key 0x20 0 4
abbrev k20DownlinkChannel : Nat := key 0x20 0 5
abbrev k20DetectionThreshold : Nat := key 0x20 0 6
abbrev k20MinimumMargin : Nat := key 0x20 0 7
abbrev k20MC : Nat := key 0x20 0 8
abbrev k20MCState : Nat := key 0x20 0 9
abbrev k20Tier0 : Nat := key 0x20 0 10
abbrev k20RelayNumber0 : Nat := key 0x20 0 11
abbrev k20Parent : Nat := key 0x20 0 12
abbrev k20VetoUntil : Nat := key 0x20 0 13
abbrev k20RegistrationWindow : Nat := key 0x20 0 14
abbrev k20TariffIdleTimeout : Nat := key 0x20 0 15
abbrev k20AckTimeout : Nat := key 0x20 0 16
abbrev k20FramesAccepted : Nat := key 0x20 0 17
abbrev k20FramesFailed : Nat := key 0x20 0 18
abbrev k20Erasures : Nat := key 0x20 0 19
abbrev k20FramesSent : Nat := key 0x20 0 20
abbrev k20LastMargin : Nat := key 0x20 0 21
abbrev k20Address (i : Nat) : Nat := key 0x20 i 0
abbrev k20Tier64 (i : Nat) : Nat := key 0x20 i 1
abbrev k20RelayNumber64 (i : Nat) : Nat := key 0x20 i 2
abbrev k20Margin (i : Nat) : Nat := key 0x20 i 3
abbrev k20LastHeard (i : Nat) : Nat := key 0x20 i 4
abbrev k21FrontEndState (i : Nat) : Nat := key 0x21 i 0
abbrev k21TransmitPower (i : Nat) : Nat := key 0x21 i 1
abbrev k21Transactions (i : Nat) : Nat := key 0x21 i 2
abbrev k21AerialState (i : Nat) : Nat := key 0x21 i 0
abbrev k21Enable (i : Nat) : Nat := key 0x21 i 1
abbrev k21Baseline (i : Nat) : Nat := key 0x21 i 2
abbrev k21Deviation (i : Nat) : Nat := key 0x21 i 3
abbrev k21Threshold (i : Nat) : Nat := key 0x21 i 4
abbrev k21LastIdentity (i : Nat) : Nat := key 0x21 i 5
abbrev k21LastResult (i : Nat) : Nat := key 0x21 i 6
abbrev k21Decision (i : Nat) : Nat := key 0x21 i 7
abbrev k21APDUCommand (i : Nat) : Nat := key 0x21 i 8
abbrev k21APDUResponse (i : Nat) : Nat := key 0x21 i 9
abbrev k21APDUStatus (i : Nat) : Nat := key 0x21 i 10
abbrev k21CardsInField (i : Nat) : Nat := key 0x21 i 11
abbrev k21BoundSpoke (i : Nat) : Nat := key 0x21 i 12
abbrev k21WaitingTimeCap : Nat := key 0x21 256 0
abbrev k21MaximumRate : Nat := key 0x21 256 1
abbrev k21EmulationEnable : Nat := key 0x21 256 2
abbrev k21EmulationAerial : Nat := key 0x21 256 3
abbrev k21UnlistedPolicy : Nat := key 0x21 256 4
abbrev k21DecisionTime : Nat := key 0x21 256 5
abbrev k21SettleTime : Nat := key 0x21 256 6
abbrev k22TagState : Nat := key 0x22 0 0
abbrev k22TagUID : Nat := key 0x22 0 1
abbrev k22CommissioningState : Nat := key 0x22 0 2
abbrev k22AppliedSEQ : Nat := key 0x22 0 3
abbrev k22AppliedTime : Nat := key 0x22 0 4
abbrev k22FieldEvents : Nat := key 0x22 0 5
abbrev k23TokenEntry : Nat := key 0x23 0 0
abbrev k23EntryTimeout : Nat := key 0x23 0 1
abbrev k23DigitsEntered : Nat := key 0x23 0 2
abbrev k23KeyEvents : Nat := key 0x23 0 3
abbrev k23LastKeyEvent : Nat := key 0x23 0 4
abbrev k24EngineState : Nat := key 0x24 0 0
abbrev k24Width : Nat := key 0x24 0 1
abbrev k24Height : Nat := key 0x24 0 2
abbrev k24ClockDivisor : Nat := key 0x24 0 3
abbrev k24LineBlank : Nat := key 0x24 0 4
abbrev k24CrackState : Nat := key 0x24 0 5
abbrev k24ClearCrack : Nat := key 0x24 0 6
abbrev k24UpdateRequest : Nat := key 0x24 0 7
abbrev k24Waiting : Nat := key 0x24 0 8
abbrev k24PanelTemperature : Nat := key 0x24 0 9
abbrev k24DrawOffset : Nat := key 0x24 0 10
abbrev k24DrawData : Nat := key 0x24 0 11
abbrev k24WaveformTable : Nat := key 0x24 0 12
abbrev k24IdleTime : Nat := key 0x24 0 14
abbrev k24SupplyAddress : Nat := key 0x24 0 15
abbrev k24ICRate : Nat := key 0x24 0 16
abbrev k24PowerGoodRegister : Nat := key 0x24 0 17
abbrev k24PowerGoodMask : Nat := key 0x24 0 18
abbrev k24TemperatureRegister : Nat := key 0x24 0 19
abbrev k24VCOMRegister : Nat := key 0x24 0 20
abbrev k24VCOMValue : Nat := key 0x24 0 21
abbrev k24Underruns : Nat := key 0x24 0 22
abbrev k24SlotState (i : Nat) : Nat := key 0x24 i 0
abbrev k24Rectangle (i : Nat) : Nat := key 0x24 i 1
abbrev k24FramesDone (i : Nat) : Nat := key 0x24 i 2
abbrev k24FramesTotal (i : Nat) : Nat := key 0x24 i 3
abbrev k24Result (i : Nat) : Nat := key 0x24 i 4
abbrev k28VaultState : Nat := key 0x28 0 0
abbrev k28RootGeneration : Nat := key 0x28 0 1
abbrev k28TamperEvents : Nat := key 0x28 0 2
abbrev k28LastTamperSource : Nat := key 0x28 0 3
abbrev k28LastTamperTime : Nat := key 0x28 0 4
abbrev k28TamperInputs : Nat := key 0x28 0 5
abbrev k28ReplaceRoot : Nat := key 0x28 0 6
abbrev k28AntiRollbackCount : Nat := key 0x28 0 7
abbrev k28OwnerKeyProgrammed : Nat := key 0x28 0 8
abbrev k28OwnerKey : Nat := key 0x28 0 9
abbrev k28RandomGeneratorState : Nat := key 0x28 0 10
abbrev k28DomainGeneration (i : Nat) : Nat := key 0x28 i 0
abbrev k28Bump (i : Nat) : Nat := key 0x28 i 1
abbrev k28SlotState (i : Nat) : Nat := key 0x28 i 0
abbrev k28SlotValue (i : Nat) : Nat := key 0x28 i 1
abbrev k28InstalledTime (i : Nat) : Nat := key 0x28 i 2
abbrev k29Bin031 (i j : Nat) : Nat := key 0x29 i j
abbrev k29Underflow (i : Nat) : Nat := key 0x29 i 32
abbrev k29Overflow (i : Nat) : Nat := key 0x29 i 33
abbrev k29Sequence (i : Nat) : Nat := key 0x29 i 34
abbrev k29Frozen (i : Nat) : Nat := key 0x29 i 35
abbrev k29Saturated (i : Nat) : Nat := key 0x29 i 36
abbrev k29Clear (i : Nat) : Nat := key 0x29 i 37
abbrev k29Source (i : Nat) : Nat := key 0x29 i 38
abbrev k29Period (i : Nat) : Nat := key 0x29 i 39
abbrev k29Low (i : Nat) : Nat := key 0x29 i 40
abbrev k29Width (i : Nat) : Nat := key 0x29 i 41
abbrev k29Freeze : Nat := key 0x29 254 0
abbrev k29LastSaveTime : Nat := key 0x29 254 1
abbrev k29SaveCount : Nat := key 0x29 254 2
abbrev k29SaveFailures : Nat := key 0x29 254 3
abbrev k29SaveNow : Nat := key 0x29 254 4
abbrev k29EventCount (j : Nat) : Nat := key 0x29 255 j
abbrev k2AMinimum (i : Nat) : Nat := key 0x2A i 0
abbrev k2AMinimumTime (i : Nat) : Nat := key 0x2A i 1
abbrev k2AMaximum (i : Nat) : Nat := key 0x2A i 2
abbrev k2AMaximumTime (i : Nat) : Nat := key 0x2A i 3
abbrev k2ASequence (i : Nat) : Nat := key 0x2A i 4
abbrev k2AFlags (i : Nat) : Nat := key 0x2A i 5
abbrev k2AClear (i : Nat) : Nat := key 0x2A i 6
abbrev k2ASource (i : Nat) : Nat := key 0x2A i 7
abbrev k2APeriod (i : Nat) : Nat := key 0x2A i 8
abbrev k2BCode (i k : Nat) : Nat := key 0x2B i (8 * k)
abbrev k2BRepeat (i k : Nat) : Nat := key 0x2B i (8 * k + 1)
abbrev k2BInstance (i k : Nat) : Nat := key 0x2B i (8 * k + 2)
abbrev k2BTime (i k : Nat) : Nat := key 0x2B i (8 * k + 3)
abbrev k2BTimeValid (i k : Nat) : Nat := key 0x2B i (8 * k + 4)
abbrev k2BValue (i k : Nat) : Nat := key 0x2B i (8 * k + 5)
abbrev k2BRecordNumber (i k : Nat) : Nat := key 0x2B i (8 * k + 6)
abbrev k2BWriteCount : Nat := key 0x2B 0 32
abbrev k2BRingSequence : Nat := key 0x2B 0 33
abbrev k2BClearRing : Nat := key 0x2B 0 34
abbrev k30FlashState : Nat := key 0x30 0 0
abbrev k30FlashSize : Nat := key 0x30 0 1
abbrev k30JEDECIdentity : Nat := key 0x30 0 2
abbrev k30ModeInForce : Nat := key 0x30 0 3
abbrev k30ClockInForce : Nat := key 0x30 0 4
abbrev k30HighestMode : Nat := key 0x30 0 5
abbrev k30HighestClock : Nat := key 0x30 0 6
abbrev k30ProgramFailures : Nat := key 0x30 0 7
abbrev k30EraseFailures : Nat := key 0x30 0 8
abbrev k30FreePowerFailSlots : Nat := key 0x30 0 9
abbrev k30SettingLogUse : Nat := key 0x30 0 10
abbrev k30AreaOffset (i : Nat) : Nat := key 0x30 i 0
abbrev k30AreaSize (i : Nat) : Nat := key 0x30 i 1
abbrev k30JournalInterval : Nat := key 0x30 64 0
abbrev k30RestorationSource : Nat := key 0x30 64 1
abbrev k30LastCaptureTime : Nat := key 0x30 64 2
abbrev k30Decisions : Nat := key 0x30 64 3
abbrev k30LastCause : Nat := key 0x30 64 4
abbrev k30JournalSequence : Nat := key 0x30 64 5
abbrev k30JournalTime : Nat := key 0x30 64 6
abbrev k30JournalWriteFailures : Nat := key 0x30 64 7
abbrev k30RestorationFlags : Nat := key 0x30 64 8
abbrev k30GapBound (i : Nat) : Nat := key 0x30 i 0
abbrev k30HighestApparentPower (i : Nat) : Nat := key 0x30 i 1
abbrev k31BootSource : Nat := key 0x31 0 0
abbrev k31TrialWindow : Nat := key 0x31 0 1
abbrev k31TrialRemaining : Nat := key 0x31 0 2
abbrev k31ConfirmationMode : Nat := key 0x31 0 3
abbrev k31Confirm : Nat := key 0x31 0 4
abbrev k31RejectTrial : Nat := key 0x31 0 5
abbrev k31TrialBoots : Nat := key 0x31 0 6
abbrev k31BootTime : Nat := key 0x31 0 7
abbrev k31LastFallback : Nat := key 0x31 0 8
abbrev k31ActiveSlot (i : Nat) : Nat := key 0x31 i 0
abbrev k31ActiveImage (i : Nat) : Nat := key 0x31 i 1
abbrev k31SecurityVersion (i : Nat) : Nat := key 0x31 i 2
abbrev k31OtherSlot (i : Nat) : Nat := key 0x31 i 3
abbrev k31OtherImage (i : Nat) : Nat := key 0x31 i 4
abbrev k31Commits (i : Nat) : Nat := key 0x31 i 5
abbrev k31LastCommitTime (i : Nat) : Nat := key 0x31 i 6
abbrev k38SliceInForce : Nat := key 0x38 0 0
abbrev k38SchedulePosition : Nat := key 0x38 0 1
abbrev k38PendingFuseRepairs : Nat := key 0x38 0 2
abbrev k38ProgramFuses : Nat := key 0x38 0 3
abbrev k38FusesUsed : Nat := key 0x38 0 4
abbrev k38TargetState (i : Nat) : Nat := key 0x38 i 0
abbrev k38TestInterval (i : Nat) : Nat := key 0x38 i 2
abbrev k38Outcome (i : Nat) : Nat := key 0x38 i 3
abbrev k38Passes (i : Nat) : Nat := key 0x38 i 4
abbrev k38Failures (i : Nat) : Nat := key 0x38 i 5
abbrev k38AbortedTests (i : Nat) : Nat := key 0x38 i 6
abbrev k38LastPass (i : Nat) : Nat := key 0x38 i 7
abbrev k38LastFailure (i : Nat) : Nat := key 0x38 i 8
abbrev k38SoftRepairs (i : Nat) : Nat := key 0x38 i 9
abbrev k38Share (i : Nat) : Nat := key 0x38 i 1

end Sys2Proof.Machine
end

