-- ==== Sys2Proof/Machine/Ops.lean ====
section
/-! DEFINITION. The shared operations: the canonical stores, the object store, time, counts (R106-R108), notices (R407),
access to the lists of State, free values, and what the device sends. -/

namespace Sys2Proof.Machine

/-! ### Canonical stores: keys strictly rising, no entry that equals what an unlisted key reads as -/

/-- Reading a key of a store; `d` is what an unlisted key reads as. -/
def storeRead {α : Type} (d : α) : List (Nat × α) → Nat → α
  | [], _ => d
  | (a, w) :: t, k => if a = k then w else storeRead d t k

/-- The store with `k` entered or replaced, in key order. -/
def storeInsert {α : Type} : List (Nat × α) → Nat → α → List (Nat × α)
  | [], k, v => [(k, v)]
  | (a, w) :: t, k, v =>
    if k < a then (k, v) :: (a, w) :: t else if k = a then (k, v) :: t else (a, w) :: storeInsert t k v

/-- Writing a key of a store; writing what an unlisted key reads as removes the entry. -/
def storeWrite {α : Type} [DecidableEq α] (d : α) (l : List (Nat × α)) (k : Nat) (v : α) : List (Nat × α) :=
  if v = d then l.filter (fun p => p.1 ≠ k) else storeInsert l k v

/-- The canonical form of a store whose unlisted keys read `dflt k`. -/
abbrev storeWf {α : Type} [DecidableEq α] (dflt : Nat → α) (l : List (Nat × α)) : Prop :=
  (l.map Prod.fst).Pairwise (· < ·) ∧ ∀ p ∈ l, p.2 ≠ dflt p.1

/-- The canonical form of the object store, of Pannier and of the tag's memory. -/
abbrev Memory.wf (s : State) : Prop :=
  storeWf (defaultOf s.variant) s.obj ∧ storeWf (fun _ => (0 : Nat)) s.pannier.mem ∧
    storeWf (fun _ => (0 : Byte)) s.tag.mem

/-! ### The object store -/

/-- The value of an object (R7) as stored. -/
def State.get (s : State) (k : Nat) : Int := storeRead (defaultOf s.variant k) s.obj k

/-- The value of an object that is never negative. -/
def State.getN (s : State) (k : Nat) : Nat := (s.get k).toNat

/-- A flag object. -/
def State.flag (s : State) (k : Nat) : Bool := s.get k ≠ 0

/-- Giving an object a value. -/
def State.put (s : State) (k : Nat) (v : Int) : State :=
  { s with obj := storeWrite (defaultOf s.variant k) s.obj k v }

/-- Giving several objects their values, in order. -/
def State.puts (s : State) (l : List (Nat × Int)) : State := l.foldl (fun s p => s.put p.1 p.2) s

/-- An object back to its default (R104). -/
def State.clear (s : State) (k : Nat) : State := s.put k (defaultOf s.variant k)

/-- Spokes served (R2, R6). -/
def State.spokeCount (s : State) : Nat := s.variant.spokes

/-- The spokes served, in order. -/
def State.spokeList (s : State) : List Nat := List.range s.variant.spokes

/-! ### Time (R10, R11, R30) -/

/-- CC wraps at 2^48 (R107). -/
def ccMod : Nat := 281474976710656

def State.cc (s : State) : Nat := s.getN k02CadenceCount

/-- The tick `n` ticks from now. -/
def State.after (s : State) (n : Nat) : Nat := (s.cc + n) % ccMod

/-- Ticks since tick `t`. -/
def State.since (s : State) (t : Nat) : Nat := (s.cc + ccMod - t % ccMod) % ccMod

/-- Has tick `t` been reached? (The nearer half of the CC circle counts as past, R31.) -/
def State.reached (s : State) (t : Nat) : Bool := s.since t < ccMod / 2

/-- The tick whose boundary comes next. The commands of boundary steps 1-4 (R44) stand before the TICK of their tick, so
they act on the state that the last frame left (log entry 5). -/
def State.nextTick (s : State) : Nat := (s.cc + 1) % ccMod

/-- An operation of boundary step `k` (1-4) at the coming tick: it acts in the order of R44, so not after a later step has
begun (log entry 5). -/
def State.atStep (s : State) (k : Nat) (f : State → State) : State :=
  if k < s.modes.step then s else let t := f s; { t with modes := { t.modes with step := k } }

/-- Is the coming boundary at or after tick `t`? -/
def State.dueNext (s : State) (t : Nat) : Bool := (s.nextTick + ccMod - t % ccMod) % ccMod < ccMod / 2

/-- Has a deadline been reached? `none` never is. -/
def State.reachedOpt (s : State) : Option Nat → Bool
  | some t => s.reached t
  | none => false

/-- Ticks of a number of milliseconds and of seconds (R11). -/
def msTicks (n : Nat) : Nat := 8 * n
def secTicks (n : Nat) : Nat := 8000 * n

/-- Nanoseconds of wall time that a tick adds: 125,000, or with a slew unabsorbed 1.001 or 0.999 of it (R169). -/
def State.tickNs (s : State) : Nat :=
  if s.billing.slewNs > 0 then 125125 else if s.billing.slewNs < 0 then 124875 else 125000

/-- Has a step been applied at the coming boundary (R170)? Wall time then stands at its target until that tick has passed. -/
def State.steppedNow (s : State) : Bool :=
  match s.billing.stepped with
  | some x => x.2.2 = s.nextTick
  | none => false

/-- Wall time at the coming boundary, for the commands of its steps (R44). -/
def State.wallNext (s : State) : Nat :=
  if s.steppedNow then s.getN k05WallTime else (s.getN k05WallTime * 1000000 + s.billing.ns + s.tickNs) / 1000000

def State.wall (s : State) : Nat := s.getN k05WallTime
def State.timeValid (s : State) : Bool := s.flag k05TimeValid

/-! ### Notices and counts (R106-R108, R401, R407) -/

/-- Sources of a notice beside a session's SID (R407). -/
def byDevice : Nat := 0
def byChainline : Nat := 33
def byKeypad : Nat := 34
def byTag : Nat := 35

/-- A notice is raised; it enters the ring at the tick boundary (R401). -/
def State.notice (s : State) (inst code value : Nat) : State :=
  { s with recorder := { s.recorder with raised := s.recorder.raised ++ [⟨code, inst, value⟩] } }

/-- The device-wide report that a count has reached its largest value (R108). -/
def State.saturated (s : State) (k : Nat) : State :=
  (s.put k00LastSaturatedCount k).notice byDevice 0x0120 k

/-- The largest value of an object by its type and range (R101, R107). -/
def objMax (k : Nat) : Int :=
  match findRow (keyClass k) (keyInst k) (keyMember k) with
  | some r => r.hi
  | none => u48Max

/-- Is an object one of the counts of R107: those that a write of 0 clears, and the histogram bins, the repeat counts of the
notice ring, the accepted tokens of 13h, the commits of 31h, the completions of a DMA channel and the rotation steps? -/
def isCounter (k : Nat) : Bool :=
  match findRow (keyClass k) (keyInst k) (keyMember k) with
  | some r =>
    r.kind = .count ||
      (match keyClass k with
        | 0x29 => keyInst k ≠ 254 && keyInst k ≠ 255 && keyMember k ≤ 33
        | 0x2B => keyMember k < 32 && keyMember k % 8 = 1
        | 0x13 => keyMember k = 9
        | 0x31 => 16 ≤ keyInst k && keyMember k = 5
        | 0x03 => (48 ≤ keyInst k && keyInst k ≤ 63 && keyMember k = 6) || (keyInst k = 0 && keyMember k = 6)
        | _ => false)
  | none => false

/-- One more of a count; it holds at its largest value, which is reported once (R107, R108). -/
def State.count (s : State) (k : Nat) : State :=
  let v := s.get k
  if v ≥ objMax k then s
  else
    let t := s.put k (v + 1)
    if v + 1 = objMax k then t.saturated k else t

/-- `n` more of a count at once, as `n` counts in a row. -/
def State.countBy (s : State) (k n : Nat) : State :=
  let v := s.get k
  if n = 0 || v ≥ objMax k then s
  else if v + n ≥ objMax k then (s.put k (objMax k)).saturated k
  else s.put k (v + n)

/-- A counter or sequence number of `n` bits that wraps silently (R107). -/
def State.bump (s : State) (k n : Nat) : State := s.put k ((s.get k + 1) % 2 ^ n)

/-- A counter of `n` bits that stays at its largest value without a report. -/
def State.ratchet (s : State) (k n : Nat) : State := if s.get k + 1 < 2 ^ n then s.put k (s.get k + 1) else s

/-! ### The lists of State -/

def State.spoke (s : State) (i : Nat) : Spoke := s.spokes.getD i {}
def State.modSpoke (s : State) (i : Nat) (f : Spoke → Spoke) : State := { s with spokes := s.spokes.modify i f }
def State.pedal (s : State) (i : Nat) : Pedal := (s.spoke i).pedal
def State.modPedal (s : State) (i : Nat) (f : Pedal → Pedal) : State :=
  s.modSpoke i fun p => { p with pedal := f p.pedal }
def State.modPilot (s : State) (i : Nat) (f : Pilot → Pilot) : State :=
  s.modSpoke i fun p => { p with pilot := f p.pilot }
def State.modGate (s : State) (i : Nat) (f : Gate → Gate) : State :=
  s.modSpoke i fun p => { p with gate := f p.gate }
def State.modVLink (s : State) (i : Nat) (f : VLink → VLink) : State :=
  s.modSpoke i fun p => { p with link := f p.link }
def State.modMeter (s : State) (i : Nat) (f : Meter → Meter) : State :=
  s.modSpoke i fun p => { p with meter := f p.meter }
def State.modResidual (s : State) (i : Nat) (f : Residual → Residual) : State :=
  s.modSpoke i fun p => { p with residual := f p.residual }
def State.modLock (s : State) (i : Nat) (f : Lock → Lock) : State :=
  s.modSpoke i fun p => { p with lock := f p.lock }
def State.switch (s : State) (n : Nat) : Switch := s.switches.getD n {}
def State.modSwitch (s : State) (n : Nat) (f : Switch → Switch) : State :=
  { s with switches := s.switches.modify n f }
def State.chan (s : State) (n : Nat) : Chan := s.chans.getD n {}
def State.modChan (s : State) (n : Nat) (f : Chan → Chan) : State := { s with chans := s.chans.modify n f }
def State.group (s : State) (g : Nat) : Group := s.groups.getD g {}
def State.modGroup (s : State) (g : Nat) (f : Group → Group) : State := { s with groups := s.groups.modify g f }

def State.pelo (s : State) (sp : Nat) : PeloSpoke := s.peloton.spokes.getD sp {}
def State.modPelo (s : State) (sp : Nat) (f : PeloSpoke → PeloSpoke) : State :=
  { s with peloton := { s.peloton with spokes := s.peloton.spokes.modify sp f } }

/-- The link of a die (R16). -/
def State.dieLink (s : State) : Die → SpokeLink
  | .a => s.linkA
  | .b => s.linkB

def State.modDie (s : State) (d : Die) (f : SpokeLink → SpokeLink) : State :=
  match d with
  | .a => { s with linkA := f s.linkA }
  | .b => { s with linkB := f s.linkB }

/-- The die of a spoke (R19). -/
def dieOf (sp : Nat) : Die := if sp < 12 then .a else .b

/-- First spoke of a die, and its number. -/
def dieBase : Die → Nat
  | .a => 0
  | .b => 12
def dieNum : Die → Nat
  | .a => 0
  | .b => 1

/-- Apply `f` for every element of a list, in order. -/
def State.each {α : Type} (s : State) (l : List α) (f : State → α → State) : State := l.foldl f s

/-- `f` when a condition holds. -/
def State.when (s : State) (c : Bool) (f : State → State) : State := if c then f s else s

/-- A free value (log entry 9): the counter advances, so no two draws are tied. -/
def State.drawn (s : State) : Nat := Config.free s.draw
def State.drew (s : State) : State := { s with draw := s.draw + 1 }

/-- A notice whose value no rule defines (R407): the value is free (log entry 21). -/
def State.noticeOpen (s : State) (inst code : Nat) : State := (s.notice inst code (s.drawn % 281474976710656)).drew

/-- A trigger of the billing journal falls on the running boundary (R160); the tick latches the record. -/
def State.journal (s : State) (trigger : Nat) : State :=
  { s with pf := { s.pf with due := s.pf.due ++ [trigger] } }

/-- A flash operation waits for the serial-memory controller (R430). -/
def State.flashOp (s : State) (o : FlashOp) : State :=
  if s.flash.ops.contains o then s else { s with flash := { s.flash with ops := s.flash.ops ++ [o] } }

/-- The wall time that a T48 member records: 0 while wall time is invalid (R167). -/
def State.stamp (s : State) : Nat := if s.timeValid then s.wall else 0

/-- The stamp of an event at the coming boundary (R167, R44). -/
def State.stampNext (s : State) : Nat := if s.timeValid then s.wallNext else 0

/-- The device sends. -/
def State.send (s : State) (o : Output) : State := { s with out := s.out ++ [o] }

/-- A free value between two bounds, both included. -/
def State.drawnIn (s : State) (lo hi : Nat) : Nat := lo + s.drawn % (hi - lo + 1)

/-! ### The key register (R394) -/

/-- The crypto engine serves a request in its turn: its key replaces the one before. -/
def State.useKey (s : State) (k : Nat) : State :=
  { s with vault := { s.vault with keyRegister := some k, requests := s.vault.requests ++ [k] } }

/-- The key of a tag or a record is loaded, where there is one (R86, R253, R394). -/
def State.forTag (s : State) : Option Nat → State
  | some k => s.useKey k
  | none => s

/-- A power-fail capture loads its key at once: the operation in progress ends with INTEGRITY, and the firmware will repeat
it. -/
def State.captureKey (s : State) (k : Nat) : State :=
  { s with vault := { s.vault with
      keyRegister := some k, requests := [], ended := s.vault.requests.getLast?.or s.vault.ended } }

/-- A frame leaves no operation running, and one that a capture ended is repeated with its key loaded again. -/
def State.cryptoTick (s : State) : State :=
  { s with vault := { s.vault with
      keyRegister := s.vault.ended.or s.vault.keyRegister, requests := [], ended := none } }

/-! ### The events of the pedal sequencers (R227) -/

/-- An event is raised for a sequencer; it is delivered in boundary step 6. -/
def State.raise (s : State) (sp flag : Nat) : State :=
  s.modPedal sp fun p => { p with raised := setBit p.raised flag true }

end Sys2Proof.Machine
end

