-- ==== Sys2Proof/Machine/Operands.lean ====
section
/-! DEFINITION. The operands of the dictionary's services: status codes (R98), object types and their wire form (R81,
R101), which objects exist (R5, R100), access entries and roles (R84, R90, R103), and ranges (R82). -/

namespace Sys2Proof.Machine

/-! ### Status codes (R98) -/

def stOk : Nat := 0x00
def stNoObject : Nat := 0x01
def stDenied : Nat := 0x02
def stBadType : Nat := 0x03
def stOutOfRange : Nat := 0x04
def stBusy : Nat := 0x05
def stSealed : Nat := 0x06
def stRegionBusy : Nat := 0x07
def stNotNow : Nat := 0x08
def stNotLoggedIn : Nat := 0x09
def stBadSequence : Nat := 0x0A
def stFull : Nat := 0x0B
def stIntegrity : Nat := 0x0C
def stNoFit : Nat := 0x0D
def stExpired : Nat := 0x0E
def stInternal : Nat := 0x0F

/-! ### Types (R101, R102, R81) -/

/-- The TYPE code of a type. -/
def ObjType.code : ObjType → Nat
  | .b1 => 1 | .u8 => 2 | .u16 => 3 | .u32 => 4 | .u48 => 5 | .s48 => 6 | .q48 => 7 | .e8 => 8 | .t48 => 9
  | .txt32 => 10 | .blk => 11

/-- The type of a TYPE code; 00h and 0Ch-FFh are reserved (R101). -/
def typeOfCode : Nat → Option ObjType
  | 1 => some .b1 | 2 => some .u8 | 3 => some .u16 | 4 => some .u32 | 5 => some .u48 | 6 => some .s48
  | 7 => some .q48 | 8 => some .e8 | 9 => some .t48 | 10 => some .txt32 | 11 => some .blk
  | _ => none

/-- Bytes of a value on the wire (R81); a BLK carries its own length. -/
def ObjType.wire : ObjType → Nat
  | .b1 | .u8 | .e8 => 1
  | .u16 => 2
  | .u32 => 4
  | .u48 | .s48 | .q48 | .t48 => 6
  | .txt32 => 32
  | .blk => 0

/-- A value whose raw encoding is a number (R91, R92). R92 asks for a numeric type without saying which types are: every type but
TXT32 and BLK is taken as one, so a deadband on a B1, an E8 or a T48 is accepted (DESIGN CHOICE, log entry 42). -/
def ObjType.numeric : ObjType → Bool
  | .txt32 | .blk => false
  | _ => true

/-- Bytes of a BLK value: a BLK is held as its bytes behind a leading byte 01h. -/
def blkBytes (v : Int) : List Nat :=
  let n := v.toNat
  let len := (Nat.log2 n) / 8
  if n = 0 then [] else bytesBE len (n % 256 ^ len)

/-- A byte string as a BLK value. -/
def blkOf (l : List Nat) : Int := (numBE (1 :: l) : Nat)

/-- A value in its wire form (R81, R101). -/
def encodeValue (t : ObjType) (v : Int) : List Nat :=
  match t with
  | .blk => let b := blkBytes v; bytesBE 2 b.length ++ b
  | _ => bytesBE t.wire (pattern (8 * t.wire) v)

/-- Reading a value of a type from the front of a body: the value and the rest. -/
def decodeValue (t : ObjType) (l : List Nat) : Option (Int × List Nat) :=
  match t with
  | .blk =>
    let n := numBE (l.take 2)
    if l.length < 2 + n then none else some (blkOf ((l.drop 2).take n), l.drop (2 + n))
  | .s48 | .q48 => if l.length < 6 then none else some (signed 48 (numBE (l.take 6)), l.drop 6)
  | _ => if l.length < t.wire then none else some ((numBE (l.take t.wire) : Nat), l.drop t.wire)

/-- The TXT32 rule of R101: bytes 20h-7Eh, then 00h to the end. -/
def txtOk (v : Int) : Bool :=
  let b := bytesBE 32 v.toNat
  let t := b.takeWhile (fun x => 0x20 ≤ x && x ≤ 0x7E)
  0 ≤ v && v ≤ txtMax && (b.drop t.length).all (· = 0)

/-- The characters of a TXT32 value. -/
def txtChars (v : Int) : List Nat := (bytesBE 32 v.toNat).takeWhile (· ≠ 0)

/-- Hexadecimal digits of a number as text characters (R359, R379, 1Ah/s/7). -/
def hexChar (n : Nat) : Nat := if n < 10 then 0x30 + n else 0x41 + n - 10
def hexText (l : List Nat) : List Nat := l.flatMap fun b => [hexChar (b / 16 % 16), hexChar (b % 16)]

/-- The Q48 pattern of a number (R101): value times 2^24. -/
def q48 (x : Rat) : Int := roundQ (x * 16777216)

/-! ### Existence (R5, R100 and the object tables) -/

/-- The spoke that an instance of a class belongs to, where it belongs to one. -/
def spokeOfInst (c i m : Nat) : Option Nat :=
  match c with
  | 0x08 | 0x0D => if i < 120 then some (i / 5) else none
  | 0x0A | 0x18 | 0x19 | 0x1A => if i < 24 then some i else none
  | 0x0B => if i < 576 then some (i / 24) else none
  | 0x09 => if 32 ≤ i && i ≤ 55 then some (i - 32) else none
  | 0x11 => if i % 32 < 24 then some (i % 32) else none
  | 0x1B | 0x1D => if 16 ≤ i && i ≤ 39 then some (i - 16) else none
  | 0x1C => if i < 96 then some (i / 4) else none
  | 0x30 => if 65 ≤ i && i ≤ 88 then some (i - 65) else none
  | 0x29 =>
    if 80 ≤ i && i ≤ 151 then some ((i - 80) % 24) else none
  | 0x2A =>
    if 32 ≤ i && i ≤ 79 then some ((i - 32) % 24) else if i = 81 && m ≤ 8 then some 12 else none
  | _ => none

/-- Instances and members that the tables name but the rules take away: spokes and energy registers that a TRT12 lacks
(R5), histograms 152-253 and pairs 82-255 (R403, R405), members of host-defined instances only (R413, R414), members of
LK and KH instances only (R297), key slots 22 and 23 (R399), members 32-34 of other ring instances (R415), instances
32p + 24 to 30 of class 11h (R198), and members 48-52 and 5-9 of it by period. -/
def instExists (v : Variant) (c i m : Nat) : Bool :=
  (match spokeOfInst c i m with
    | some sp => sp < v.spokes || (c = 0x2A && i = 81)
    | none => true) &&
  (match c with
    | 0x11 => i % 32 < 24 || (i % 32 = 31 && (m ≤ 4 || i = 31))
    | 0x1C => if 16 ≤ m && m ≤ 19 then i % 4 = 2 && i < 96 else if 20 ≤ m && m ≤ 22 then i % 4 = 0 && i < 96 else true
    | 0x28 => i ≠ 22 && i ≠ 23
    | 0x29 => (i < 152 || 254 ≤ i) && (!(38 ≤ m && m ≤ 41) || 256 ≤ i) && (!(i = 254 || i = 255) || m ≤ 23)
    | 0x2A => (i < 82 || 256 ≤ i) && (!(m = 7 || m = 8) || 256 ≤ i)
    | 0x2B => m < 32 || i = 0
    | 0x14 => m < 16 || (i = 0 && 32 ≤ m)
    | _ => true)

/-- What the loader in ROM serves: classes 00h and 31h and the FW region of class 0Fh (R442). -/
def romServes (c i : Nat) : Bool := c = 0x00 || c = 0x31 || (c = 0x0F && i = 0)

/-- The row of an existing object; none answers NO_OBJECT. -/
def State.object (s : State) (k : Nat) : Option ObjRow :=
  if k < 16777216 && instExists s.variant (keyClass k) (keyInst k) (keyMember k) &&
      (!s.modes.rom || romServes (keyClass k) (keyInst k)) then
    findRow (keyClass k) (keyInst k) (keyMember k)
  else none

/-! ### Roles (R80, R84, R90, R103) -/

/-- Is an access entry satisfied by a role number? -/
def Access.okFor : Access → Nat → Bool
  | .observer, r => r ≤ 5
  | .operator, r => 1 ≤ r && r ≤ 5
  | .installer, r => 2 ≤ r && r ≤ 5
  | .utility, r => r = 3
  | .metrology, r => r = 4
  | .nobody, _ => false

/-- State of session `sid` (04h): 0 free, 1 pending, 2 logged in. -/
def State.sessionState (s : State) (sid : Nat) : Nat := if sid = 0 || 32 < sid then 0 else s.getN (k04SessionState (15 + sid))
def State.loggedIn (s : State) (sid : Nat) : Bool := s.sessionState sid = 2
def State.roleOf (s : State) (sid : Nat) : Nat := s.getN (k04SessionRole (15 + sid))
def State.session (s : State) (sid : Nat) : KodSession := s.kod.sessions.getD (sid - 1) {}
def State.modSession (s : State) (sid : Nat) (f : KodSession → KodSession) : State :=
  { s with kod := { s.kod with sessions := s.kod.sessions.modify (sid - 1) f } }

/-- The opening role of a bulk-window region (R94). -/
def openingRole : Nat → Access
  | 2 => .utility
  | 3 | 5 => .operator
  | _ => .installer

/-- The write entry of an object with the parenthesised exceptions of the tables (R103). -/
def writeAccess (r : ObjRow) (c i m : Nat) : Access :=
  match c with
  | 0x0F => if m = 0 || (3 ≤ m && m ≤ 5) then openingRole i else r.wr
  | 0x03 => if 48 ≤ i && i ≤ 59 then .nobody else r.wr
  | 0x08 => if chanKind i = 1 && i < 152 && m ≤ 2 then .installer else r.wr
  | 0x0D => if chanKind i = 1 && i < 152 && m ≤ 2 then .installer else r.wr
  | 0x1C => if m = 0 && i < 96 then .nobody else r.wr
  | 0x1D => if m = 6 && i ≤ 1 then .nobody else r.wr
  | 0x28 =>
    if 8 ≤ i && i ≤ 15 && m = 1 then
      (if i = 8 then .metrology else if i = 9 || i = 12 then .utility else if i ≤ 12 then .installer else .nobody)
    else r.wr
  | 0x29 => if m = 37 && (i < 80 || (128 ≤ i && i ≤ 151)) then .metrology else r.wr
  | 0x2A => if m = 6 && i < 56 then .metrology else r.wr
  | _ => r.wr

/-- The read entry: the bulk-window members follow the table, so do the data windows. -/
def readAccess (r : ObjRow) : Access := r.rd

/-- The domain number that stands for the boot wrap key (R388). -/
def bootDomain : Nat := 0xFF

/-- The role table of R392: who may write a key slot, by what it holds. -/
def State.slotRoleOk (s : State) (sid k : Nat) : Bool :=
  let r := s.roleOf sid
  if s.getN (k28SlotState k) = 1 then
    (if k = 20 then r = 4 else if k = 19 || k = 24 || k = 25 then r = 3 else if k = 21 then r = 5 else Access.installer.okFor r)
  else Access.installer.okFor r

/-- Is an object the value of a key slot? -/
def isSlotValue (c i m : Nat) : Bool := c = 0x28 && 16 ≤ i && m = 1

/-- Does the write also need the open seal (R103, R124)? IX instances take the Installer role in its place, of the bump commands
only domain 0 needs it, and of the key slots the Metrology credential (R392). -/
def needsSeal (r : ObjRow) (c i m : Nat) : Bool :=
  (isSlotValue c i m && i = 20) || r.sealed &&
    (if (c = 0x08 || c = 0x0D) && i < 152 then chanKind i ≠ 1 || m = 3
     else if c = 0x28 && m = 1 then i = 8 else true)

/-- May a write marked "seal" pass? The filtered seal is open and the event counter has not reached its limit
(R107, R122). -/
def State.sealOpen (s : State) : Bool := s.flag k0DSealState && s.getN k0DMetrologyEventCounter < 65535

/-- The limits of a session logged in with the bootstrap credential (R393). -/
def State.bootstrapOk (s : State) (sid c i : Nat) (writing : Bool) : Bool :=
  !(s.session sid).bootstrap ||
    (if writing then c = 0x28 && 16 ≤ i && i ≤ 21 else c = 0x00 || c = 0x28)

/-- Is the value in the object's own range (R82, R101)? -/
def rangeOk (r : ObjRow) (v : Int) : Bool :=
  match r.ty with
  | .txt32 => txtOk v
  | .blk => 1 ≤ v && v < blkMax
  | _ => r.lo ≤ v && v ≤ r.hi

/-- While a CFG update is in RECEIVING, VERIFYING or STAGED a setting is not written (R105). -/
def State.cfgBusy (s : State) : Bool :=
  let x := s.getN (k0FState 1)
  x = 1 || x = 2 || x = 3

/-- What stands for the object's own type in a command row that names no TYPE: no TYPE byte has this value. -/
def ownType : Nat := 256

/-- The checks of R82 that every item takes, in order: existence, write role, seal, TYPE, range; then R105 for settings
and R106 for counts. -/
def State.checkCommon (s : State) (sid : Nat) (it : WItem) : Nat :=
  let c := keyClass it.addr
  let i := keyInst it.addr
  let m := keyMember it.addr
  match s.object it.addr with
  | none => stNoObject
  | some r =>
    if !((writeAccess r c i m).okFor (s.roleOf sid) ||
        (c = 0x0F && m = 0 && it.value = 4 && Access.installer.okFor (s.roleOf sid))) then stDenied
    else if isSlotValue c i m && !s.slotRoleOk sid i then stDenied
    else if !s.bootstrapOk sid c i true then stDenied
    else if needsSeal r c i m && !s.sealOpen then stSealed
    else if it.type ≠ ownType && it.type ≠ r.ty.code then stBadType
    else if r.kind = .count && it.value ≠ 0 then stOutOfRange
    else if !rangeOk r it.value then stOutOfRange
    else if r.kind = .setting && s.cfgBusy then stRegionBusy
    else stOk

/-- The checks of a write by a session (R82, R90). -/
def State.checkWrite (s : State) (sid : Nat) (it : WItem) : Nat :=
  if s.loggedIn sid then s.checkCommon sid it else stNotLoggedIn

/-- The checks of a read by a session (R81, R90, R393); members 00h/0/0-2 need no login (R6). -/
def State.checkRead (s : State) (sid k : Nat) : Nat :=
  if !s.loggedIn sid then (if k ≤ 2 then stOk else stNotLoggedIn)
  else
    match s.object k with
    | none => stNoObject
    | some r =>
      if (readAccess r).okFor (s.roleOf sid) && s.bootstrapOk sid (keyClass k) (keyInst k) false then stOk else stDenied

/-! ### The setting log (R105, R434) -/

/-- The bytes of a log entry before its tag: address, type, length and value, filled to a multiple of 8. -/
def entryHead (k : Nat) (v : Int) : List Nat :=
  let r := findRow (keyClass k) (keyInst k) (keyMember k)
  let b := match r with
    | some r => encodeValue r.ty v
    | none => bytesBE 6 (pattern 48 v)
  bytesBE 3 k ++ [(r.map fun r => r.ty.code).getD 0] ++ bytesBE 2 b.length ++ b ++ List.replicate ((8 - (6 + b.length) % 8) % 8) 0

/-- Bytes of a log entry: these, tag, CRC and commit word. -/
def entryBytes (k : Nat) (v : Int) : Nat :=
  let n := match findRow (keyClass k) (keyInst k) (keyMember k) with
    | some r => (encodeValue r.ty v).length
    | none => 6
  (6 + n + 7) / 8 * 8 + 16

def logArea : Nat := 131072

/-- Has the log room for entries of these settings behind those that wait? -/
def State.logFits (s : State) (l : List (Nat × Int)) : Bool :=
  s.getN k30SettingLogUse + ((s.flash.logDue ++ l).map fun x => entryBytes x.1 x.2).sum ≤ logArea

/-- A setting that took effect waits for its entry. -/
def State.logSetting (s : State) (k : Nat) (v : Int) : State :=
  { s with flash := { s.flash with logDue := s.flash.logDue ++ [(k, v)] } }

def isSetting (k : Nat) : Bool :=
  match findRow (keyClass k) (keyInst k) (keyMember k) with
  | some r => r.kind = .setting
  | none => false

/-- The status of a single-object write is answered. -/
def State.answer (s : State) (sid k st : Nat) : State := s.send (.writeStatus sid k st)

/-- The notices that a session's accepted write raised since `s` carry its SID (R407, log entry 40). -/
def State.attribute (s t : State) (sid : Nat) : State :=
  let n := s.recorder.raised.length
  { t with recorder := { t.recorder with
      raised := t.recorder.raised.take n ++
        (t.recorder.raised.drop n).map fun x => if x.inst = byDevice then { x with inst := sid } else x } }

/-- An accepted write takes effect: its effect, with the notices under the session's SID. -/
def State.effect (s : State) (sid : Nat) (eff : State → State) : State := s.attribute (eff s) sid

/-- A write of one object by a session, its checks passed: a setting needs room in the log and is logged (R105, R434). -/
def State.writeOne (s : State) (sid k : Nat) (v : Int) (eff : State → State) : State :=
  if !isSetting k then (s.effect sid eff).answer sid k stOk
  else if s.logFits [(k, v)] then ((s.effect sid eff).logSetting k v).answer sid k stOk
  else (s.noticeOpen byDevice 0x0F21).answer sid k stFull

/-- May a write row be applied as it comes? It stands at step 5 of the coming boundary (R44), so not before WRITEs that wait
and not once that step has ended (log entry 6). -/
def State.writesOpen (s : State) : Bool := s.kod.writes = [] && s.modes.step ≤ 5

/-- A write row as it waits. -/
def State.rowAsWrite (s : State) (sid : Nat) (it : WItem) : PendingWrite :=
  let c := s.session sid
  ⟨⟨c.ep.getD .nfc, false, 0, sid, c.last, none⟩, [it], true⟩

/-- A write row takes its place behind the WRITEs that wait (R28). -/
def State.queueRow (s : State) (sid : Nat) (it : WItem) : State :=
  { s with kod := { s.kod with writes := s.kod.writes ++ [s.rowAsWrite sid it] } }

/-- A write that the firmware could not complete is answered INTERNAL and recorded with its service number (R98). -/
def State.internalNotice (s : State) (st : Nat) : State :=
  if st = stInternal then s.notice byDevice 0x0308 2 else s

/-- Step 5 of the coming boundary has begun. -/
def State.atStep5 (s : State) : State := { s with modes := { s.modes with step := 5 } }

/-- A write row: applied in step 5 of the coming boundary, at once when nothing stands before it, else in its turn. -/
def State.inTurn (s : State) (sid : Nat) (it : WItem) (f : State → State) : State :=
  if s.writesOpen then (f s).atStep5 else s.queueRow sid it

/-- Does a write row act as it comes, its checks of R82 passed? -/
def State.rowPasses (s : State) (sid k : Nat) (v : Int) : Bool :=
  s.writesOpen && s.checkWrite sid ⟨k, ownType, v⟩ = stOk

/-- The write of one object by a session: the checks of R82, then the rule of its chapter `chk`; when both pass, its effect,
and in every case the status. -/
def State.rowEffect (s : State) (sid k : Nat) (v : Int) (chk : State → Nat) (eff : State → State) : State :=
  let st := s.checkWrite sid ⟨k, ownType, v⟩
  if st ≠ stOk then s.answer sid k st
  else if chk s ≠ stOk then (s.internalNotice (chk s)).answer sid k (chk s)
  else s.writeOne sid k v eff

/-- A command row that is a write of one object by a session (log entry 6). -/
def State.writeRow (s : State) (sid k : Nat) (v : Int) (chk : State → Nat) (eff : State → State) : State :=
  s.inTurn sid ⟨k, ownType, v⟩ fun s => s.rowEffect sid k v chk eff

end Sys2Proof.Machine
end

