-- ==== Sys2Proof/Machine/Flags.lean ====
section
/-! DEFINITION. Flags and status words: the event flags of the sequencers (R227), the cause word of a spoke and the safety
state derived from it (R299, R300), the device fault causes (R313), the status word of a spoke (R147). -/

namespace Sys2Proof.Machine

/-! ### Event flags (R227) -/

def fPilot : Nat := 0
def fAuth : Nat := 1
def fSess : Nat := 2
def fStop : Nat := 3
def fCredit : Nat := 4
def fAlloc : Nat := 5
def fLink : Nat := 6
def fVlim : Nat := 7
def fGate : Nat := 8
def fSafe : Nat := 9
def fLock : Nat := 10
def fBcast : Nat := 11
def fT0 : Nat := 12
/-- START, the seventeenth flag. -/
def fStart : Nat := 16

/-! ### Causes and safety state (R299, R313) -/

def cEarth : Nat := 5
def cTandem : Nat := 4
def cDevice : Nat := 6
def cResidual : Nat := 8
def cCross : Nat := 9
def cWinding : Nat := 10
def cWelded : Nat := 11
def cSwitch : Nat := 12

/-- Safety state from a cause word: 2 when a lockout bit (6, 8-12) is set, 1 when another bit is, else 0 (R299). -/
def safetyState (causes : Nat) : Nat :=
  if bit causes 6 || bit causes 8 || bit causes 9 || bit causes 10 || bit causes 11 || bit causes 12 then 2
  else if causes ≠ 0 then 1 else 0

def State.causes (s : State) (sp : Nat) : Nat := s.getN (k1DCauses (16 + sp))
def State.safety (s : State) (sp : Nat) : Nat := s.getN (k1DSafetyState (16 + sp))

/-- A source of the capture trigger is raised (R57); the tick acts on it once. -/
def State.trigger (s : State) (source : Nat) : State :=
  if s.pannier.triggers.contains source then s
  else { s with pannier := { s.pannier with triggers := s.pannier.triggers ++ [source] } }

/-- A spoke's cause word takes a value; a change of the safety state raises SAFE (R299), and one that leaves
state 0 is a safety fault for the capture ring (R57, log entry 16). -/
def State.setCauses (s : State) (sp w : Nat) : State :=
  let t := (s.put (k1DCauses (16 + sp)) w).put (k1DSafetyState (16 + sp)) (safetyState w)
  if safetyState w = s.safety sp then t
  else if s.safety sp = 0 then (t.raise sp fSafe).trigger 0 else t.raise sp fSafe

/-- One bit of the cause word of a spoke. -/
def State.setCause (s : State) (sp b : Nat) (on : Bool) : State := s.setCauses sp (setBit (s.causes sp) b on)

/-- The spokes a device fault cause names (R23, R313). -/
def faultSpokes (s : State) (cause : Nat) : List Nat :=
  if cause = 1 then s.spokeList.filter (12 ≤ ·) else s.spokeList

/-- A device safety fault (R313): its cause bit, notice 0A20h, and bit 6 on the spokes it names. -/
def State.deviceFault (s : State) (cause : Nat) : State :=
  let t := (s.put k1DDeviceFaultCauses (setBit (s.getN k1DDeviceFaultCauses) cause true)).notice byDevice 0x0A20 cause
  t.each (faultSpokes t cause) fun t sp => t.setCause sp cDevice true

/-- Does a device fault hold the outputs of a spoke off (R22, R25, R42)? -/
def State.faulted (s : State) (sp : Nat) : Bool := bit (s.causes sp) cDevice

/-! ### The status word of a spoke (R147) -/

/-- The 32 bits of 0Ah/s/26. -/
def statusWord (valid : Bool) (zx : Nat) (timeout noload subv : Bool) (sub clip clipv : List Bool) (export_ : Bool)
    (quad : Nat) (jf : Bool) : Nat :=
  let bits := fun (l : List Bool) => l.foldl (fun w b => w * 2 + (if b then 1 else 0)) 0
  bits [valid] * 2 ^ 31 + zx * 2 ^ 29 + bits [timeout] * 2 ^ 28 + bits [noload] * 2 ^ 27 + bits [subv] * 2 ^ 26 +
    bits sub * 2 ^ 21 + bits clip * 2 ^ 16 + bits clipv * 2 ^ 12 + bits [export_] * 2 ^ 11 + (quad - 1) * 2 ^ 9 +
    bits [jf] * 2 ^ 8

/-! ### Gate state (R233) -/

def State.gateState (s : State) (sp : Nat) : Nat := s.getN (k19GateState sp)

/-- The gate state takes a value; a change raises GATE (R227). -/
def State.setGate (s : State) (sp v : Nat) : State :=
  if s.gateState sp = v then s else (s.put (k19GateState sp) v).raise sp fGate

/-- The lock state of a spoke (R293, input 6); a change raises LOCK. -/
def State.lockState (s : State) (sp : Nat) : Nat := s.getN (k1CLockState (4 * sp + 2))
def State.setLockState (s : State) (sp v : Nat) : State :=
  if s.lockState sp = v then s else (s.put (k1CLockState (4 * sp + 2)) v).raise sp fLock

/-- The link state of a spoke (R242, input 10); a change raises LINK. -/
def State.linkState (s : State) (sp : Nat) : Nat := s.getN (k1ALinkState sp)
def State.setLinkState (s : State) (sp v : Nat) : State :=
  if s.linkState sp = v then s else (s.put (k1ALinkState sp) v).raise sp fLink

/-- The vehicle's maximum current (input 11); a change raises VLIM. -/
def State.setVehicleMax (s : State) (sp v : Nat) : State :=
  if s.getN (k1AVehicleMaximumCurrent sp) = v then s else (s.put (k1AVehicleMaximumCurrent sp) v).raise sp fVlim

/-! ### Modes (R451, R459) -/

def State.workstand (s : State) : Bool := s.flag k01Workstand

/-- Coast (R451). -/
def State.coasting (s : State) : Bool := s.getN k01Mode = 3

/-- Is every switch drive off: no plan has been admitted, or the device is in Coast (R29, R43)? -/
def State.driveOff (s : State) : Bool := s.plan.running = [] || s.coasting

/-- Exit latency in µs (R451). -/
def exitLatency (m : Nat) : Nat := if m = 1 then 60 else if m = 2 then 2 else 12000

/-- The device begins to return to Run (R454). -/
def State.startExit (s : State) : State :=
  if s.modes.exitEnd.isSome then s
  else { s with modes := { s.modes with exitEnd := some (s.after ((exitLatency (s.getN k01Mode) + 124) / 125)) } }

/-- The modes that a source ends (R457). -/
def wakeEnds : WakeSource → List Nat
  | .kodFrame | .pedalSink | .cardDetection | .keypadLine | .chainlineFrame | .causeChange => [2, 3]
  | .slacParm => [1, 2]
  | .pilotChange => [3]
  | .emulationField | .knownEvent => [1, 2, 3]

/-- A wake source ends the mode it names; the wake count of that mode grows, but for a known event (R454, R457). -/
def State.wakeBy (s : State) (src : WakeSource) : State :=
  let m := s.getN k01Mode
  if s.modes.powered && (wakeEnds src).contains m then
    (if src = WakeSource.knownEvent then s else s.count (k01Wakes (16 + m))).startExit
  else s

/-- Does the firmware run: no core-domain reset is in progress and the control cores are not halted (R15, R452)? -/
def State.firmwareUp (s : State) : Bool := s.lease.fwUp && s.getN k01Mode ≠ 2 && s.getN k01Mode ≠ 3

/-- What a reset of the engine discards (R15, R47): its queue, the frames it sends, what its receiver holds. -/
def Chainline.cleared (c : Chainline) : Chainline := { c with queue := [], sendEnd := none, phy := {}, ends := [], sending := [] }

end Sys2Proof.Machine
end

