-- ==== Sys2Proof/Machine/Plan.lean ====
section
/-! DEFINITION. The frame plan: its image (R35-R37), admission (R38, R39, R41), the switch (R40, R44 step 1), overruns
(R42). -/

namespace Sys2Proof.Machine

/-- Class, first and last cycle of the permitted span, and admission limit of engines 0-8 (R32). -/
def engineClass (e : Nat) : Nat := [1, 1, 0, 2, 2, 2, 2, 3, 3].getD e 3
def spanFirst (e : Nat) : Nat := [200, 200, 18200, 9600, 0, 0, 0, 0, 0].getD e 0
def spanLast (e : Nat) : Nat := [9599, 18199, 19799, 18199, 24999, 24999, 24999, 24999, 24999].getD e 0
def engineLimit (e : Nat) : Nat := [8930, 17100, 1520, 8170, 23750, 23750, 23750, 23750, 2000].getD e 0

/-- Fields of an engine entry (R36). -/
def entEngine (w : Nat) : Nat := field w 47 44
def entClass (w : Nat) : Nat := field w 43 42
def entStart (w : Nat) : Nat := field w 41 27
def entWorst (w : Nat) : Nat := field w 26 9

/-- Fields of a requester entry (R37). -/
def reqNum (w : Nat) : Nat := field w 47 42
def reqPort (w : Nat) : Nat := field w 41 40
def reqWords (w : Nat) : Nat := field w 39 24
def reqLockMax (w : Nat) : Nat := field w 23 10
def reqXfers (w : Nat) : Nat := field w 9 2

/-- Existing requesters (R34): 0-34, without 21 on the TRT12. -/
def requesters (v : Variant) : List Nat := (List.range 35).filter fun r => v = .trt24 || r ≠ 21

def planNeng : Nat := 9
def planNreq (v : Variant) : Nat := (requesters v).length

/-- Engine entries and requester entries of a plan image (R35). -/
def planEngines (p : List Nat) : List Nat := (p.drop 3).take planNeng
def planRequesters (v : Variant) (p : List Nat) : List Nat := (p.drop (3 + planNeng)).take (planNreq v)
def planSlice (p : List Nat) : Nat := field (p.getD 2 0) 47 32
def planWdog (p : List Nat) : Nat := field (p.getD 2 0) 31 24
def planId (p : List Nat) : Nat := field (p.getD 1 0) 47 16
def planSpokes (p : List Nat) : Nat := field (p.getD 1 0) 15 8

/-- Metering cost of a channel by its sensor type (R39). -/
def channelCost : Nat → Nat
  | 1 | 2 | 5 => 24
  | 3 => 32
  | 4 => 20
  | _ => 0

/-- The channels that exist (R110): those of the spokes served and the 32 voltage channels. -/
def Variant.channels (v : Variant) : List Nat := List.range (5 * v.spokes) ++ (List.range 32).map (120 + ·)

/-- Computed worst case of one metering lane (R39), from the sensor type of each channel. -/
def laneCost (v : Variant) (types : Nat → Nat) (lane : Nat) : Nat :=
  40 + ((v.channels.filter fun n => n % 4 = lane).map fun n => channelCost (types n)).sum +
    40 * ((List.range v.spokes).filter fun sp => sp % 4 = lane).length + 1920

/-- Computed worst case of engines 0-3 (R39). -/
def computedCost (v : Variant) (types : Nat → Nat) (e : Nat) : Nat :=
  match e with
  | 0 => 8880
  | 1 => (List.range 4).foldl (fun m l => max m (laneCost v types l)) 0
  | 2 => 250 + 50 * v.spokes
  | 3 => v.spokes * 16 * 16
  | _ => 0

/-- Engine budget B (R39). -/
def engineBudget (v : Variant) (types : Nat → Nat) (w : Nat) : Nat :=
  if entEngine w ≤ 3 then max (entWorst w) (computedCost v types (entEngine w)) else entWorst w

/-- Port 0 use per frame (R33). -/
def portZero (v : Variant) : Nat := if v = .trt24 then 6232 else 4020
def portLimit : Nat := 23750

/-- WORDS + XFERS of a port (R38). -/
def portDemand (v : Variant) (p : List Nat) (port : Nat) : Nat :=
  (((planRequesters v p).filter fun w => reqPort w = port).map fun w => reqWords w + reqXfers w).sum

/-- A refusal of admission: status, KIND, ITEM and the demand that failed (R38, R41). -/
structure PlanRefusal where
  status : Nat
  kind : Nat
  item : Nat
  demand : Nat
deriving DecidableEq, Repr

/-- The first element of a list of numbered words that fails, as a refusal naming its word. Checks 1 to 3 demand nothing in
cycles or slots: with them 02h/0/4 reads 0 (DESIGN CHOICE, log entry 47). -/
def badWord (st kind base : Nat) (bad : Nat → Bool) (l : List Nat) : Option PlanRefusal :=
  match l.findIdx? bad with
  | some n => some ⟨st, kind, base + n, 0⟩
  | none => none

/-- Position of the first entry whose number repeats an earlier one or lies outside the allowed numbers. -/
def repeated (allowed : List Nat) (num : Nat → Nat) (l : List Nat) : Option Nat :=
  (List.range l.length).find? fun n =>
    let x := num (l.getD n 0)
    !allowed.contains x || ((l.take n).map num).contains x

/-- Check 1: format (R38, R41). `len` is the section length by the CFG directory (R437). -/
def planCheck1 (v : Variant) (len : Nat) (p : List Nat) : Option PlanRefusal :=
  let h := p.getD 0 0
  let n := 3 + planNeng + planNreq v
  if field h 47 24 ≠ 0x504C4E || field h 23 16 ≠ 1 || field h 15 8 ≠ planNeng || field h 7 0 ≠ planNreq v then
    some ⟨stIntegrity, 1, 0, 0⟩
  else if len ≠ n + 1 || p.length ≠ n + 1 then some ⟨stIntegrity, 1, 0, 0⟩
  else if field (p.getD n 0) 31 0 ≠ crc32 ((p.take n).flatMap wordBytes) then some ⟨stIntegrity, 1, n, 0⟩
  else none

/-- Check 2: instances (R38). -/
def planCheck2 (v : Variant) (p : List Nat) : Option PlanRefusal :=
  if planSpokes p ≠ v.spokes then some ⟨stNoObject, 2, 1, 0⟩
  else badWord stNoObject 2 (3 + planNeng) (fun w => v = .trt12 && reqNum w = 21) (planRequesters v p)

/-- Check 3: ranges (R38), in the order in which the check names them. -/
def planCheck3 (v : Variant) (types : Nat → Nat) (p : List Nat) : Option PlanRefusal :=
  let es := planEngines p
  let rs := planRequesters v p
  let base := 3 + planNeng
  match repeated (List.range 9) entEngine es with
  | some n => some ⟨stOutOfRange, 3, 3 + n, 0⟩
  | none =>
  match repeated (requesters v) reqNum rs with
  | some n => some ⟨stOutOfRange, 3, base + n, 0⟩
  | none =>
  match badWord stOutOfRange 3 3 (fun w => entClass w ≠ engineClass (entEngine w)) es with
  | some r => some r
  | none =>
  match badWord stOutOfRange 3 base (fun w => reqPort w = 0) rs with
  | some r => some r
  | none =>
  if planSlice p < 400 || 2000 < planSlice p || planWdog p < 1 || 128 < planWdog p then some ⟨stOutOfRange, 3, 2, 0⟩
  else
  match badWord stOutOfRange 3 3 (fun w => entEngine w = 8 && entWorst w ≠ planSlice p) es with
  | some r => some r
  | none =>
    badWord stOutOfRange 3 3 (fun w =>
      let b := engineBudget v types w
      24999 < entStart w || entStart w < spanFirst (entEngine w) || spanLast (entEngine w) + 1 < entStart w + b) es

/-- Check 4: every budget within its limit (R38). Of several engines beyond their limits the first in image order is named
(DESIGN CHOICE, log entry 47). -/
def planCheck4 (v : Variant) (types : Nat → Nat) (p : List Nat) : Option PlanRefusal :=
  match (planEngines p).find? fun w => engineLimit (entEngine w) < engineBudget v types w with
  | some w => some ⟨stNoFit, 4, entEngine w, engineBudget v types w⟩
  | none => none

/-- Check 5: port loads (R38). -/
def planCheck5 (v : Variant) (p : List Nat) : Option PlanRefusal :=
  if portLimit < portZero v then some ⟨stNoFit, 5, 0, portZero v⟩
  else
    match [1, 2, 3].find? fun q => portLimit < portDemand v p q with
    | some q => some ⟨stNoFit, 5, q, portDemand v p q⟩
    | none => none

/-- Admission (R38): the first failing check decides; none = admitted. A C0 slot that ends at or after 100 us lies outside its
span, so check 3 refuses it before check 4 could answer the NO_FIT of R18: the order that R38 states decides (DESIGN CHOICE,
log entry 47). -/
def planRefusal (v : Variant) (types : Nat → Nat) (len : Nat) (p : List Nat) : Option PlanRefusal :=
  (planCheck1 v len p).orElse fun _ => (planCheck2 v p).orElse fun _ => (planCheck3 v types p).orElse fun _ =>
    (planCheck4 v types p).orElse fun _ => planCheck5 v p

/-- Reporting the last admission (R41). -/
def State.reportPlan (s : State) (r : Option PlanRefusal) : State :=
  match r with
  | some x => s.puts [(k02RefusalItem, (x.kind * 4096 + x.item : Nat)), (k02RefusalDemand, x.demand)]
  | none => s.puts [(k02RefusalItem, 0), (k02RefusalDemand, 0)]

/-- Sensor type of a channel in the running configuration. -/
def State.typeOf (s : State) (n : Nat) : Nat := s.getN (k08SensorType n)

/-- The budgets B of a plan (R39), engine entry by engine entry, computed with the sensor types that run at its admission. -/
def planBudgets (v : Variant) (types : Nat → Nat) (p : List Nat) : List Nat := (planEngines p).map (engineBudget v types)

/-- An admitted plan waits for the first tick boundary after its CFG region commits (R40), with the budgets of its admission. -/
def State.awaitPlan (s : State) (p : List Nat) (capture tick : Nat) (budgets : List Nat) : State :=
  { s.put k02PlanState 2 with plan :=
      { s.plan with waiting := some p, switchTick := tick, capture := capture, budgets := budgets } }

/-- The capture ring restarts empty at a new length; its region and the heap take their new sizes (R54, R55). -/
def State.setCapture (s : State) (len : Nat) : State :=
  let ring := ringWords s.variant len
  { s.puts [(k03CaptureLength, len), (k03CaptureState, 0), (k03RegionSize 32, ring), (k03RegionBase 33, (ringBase + ring : Nat)),
      (k03RegionSize 33, (storeWords - ringBase - ring : Nat))] with pannier := { s.pannier with ringSlot := 0 } }

/-- A plan starts to run (R40, R48): its identity, budgets, port loads, watchdog and BIST slice are in force. -/
def State.runPlan (s : State) (p budgets : List Nat) : State :=
  let t := s.puts [(k02PlanState, 1), (k02PlanIdentity, planId p), (k02C3Watchdog, planWdog p),
    (k38SliceInForce, planSlice p), (k02PortSlotsPlanned 16, portZero s.variant)]
  let t := t.each ((planEngines p).zip budgets) fun t w => t.put (k02EngineBudget (1 + entEngine w.1)) w.2
  let t := t.each [1, 2, 3] fun t q => t.put (k02PortSlotsPlanned (16 + q)) (portDemand s.variant p q)
  { t with plan := { t.plan with running := p, waiting := none } }

/-- A waiting plan governs from its switch tick; a new capture length restarts the ring (R55). At the switch of a committed CFG whose
capture length is the running one the ring is not restarted: nothing of it changes (DESIGN CHOICE, log entry 47). -/
def State.switchPlan (s : State) : State :=
  match s.plan.waiting with
  | some p =>
    if s.dueNext s.plan.switchTick then
      let t := s.runPlan p s.plan.budgets
      if s.getN k03CaptureLength ≠ s.plan.capture then t.setCapture s.plan.capture else t
    else s
  | none => s

/-- PLAN_SWITCH (R40, R44 step 1). -/
def planSwitch (s : State) : State := s.atStep 1 State.switchPlan

def execPlanSwitch (s : State) : Host.Outcome State Fault Refusal := .next (planSwitch s)

/-- Would the configuration with these sensor types exceed a budget in force (R39)? Without a running plan nothing is
refused. -/
def State.typesFit (s : State) (types : Nat → Nat) : Bool :=
  s.plan.running.isEmpty || [0, 1, 2, 3].all fun e =>
    computedCost s.variant types e ≤ s.getN (k02EngineBudget (1 + e))

/-- What the metering engine did not reach, by where its lanes stopped: on each lane (number mod 4) the channels in ascending
order come first and its spokes, numbered 152 + spoke, after them (R39), so what stands behind an unreached item of its lane is
unreached too (R42). -/
def State.unreachedItems (s : State) (l : List Nat) : List Nat :=
  (s.variant.channels ++ s.spokeList.map (152 + ·)).filter fun x => l.any fun y => y % 4 = x % 4 && y ≤ x

/-- OVERRUN (R42): the engine is stopped at the end of its slot. `unreached` lists what it did not reach: for engine 0
channels without a sample, for engine 1 channels below 152 and 152 + spoke for quantities, for engine 3 spokes. An overrun of the Chainline engine withholds its pulses
of the half-cycle (R333). The command
stands before the TICK whose frame it concerns (log entry 13). -/
def overrun (e : Nat) (unreached : List Nat) (s : State) : State :=
  if 8 < e then s
  else
  let t := (s.count (k02OverrunCount (1 + e)))
  let t := if t.getN (k02EngineWorstSeen (1 + e)) < t.getN (k02EngineBudget (1 + e)) then
    t.put (k02EngineWorstSeen (1 + e)) (t.get (k02EngineBudget (1 + e))) else t
  let t := t.notice byDevice (0x0201 + engineClass e) e
  let t := if e = 2 then t.deviceFault 2 else if e ≤ 1 then t.deviceFault 3 else t
  match e with
  | 0 => t.each unreached fun t n => t.modChan n fun c => { c with missing := true }
  | 1 => t.each (t.unreachedItems unreached) fun t n =>
      if n < 152 then t.modChan n fun c => { c with unreached := true }
      else t.modMeter (n - 152) fun m => { m with unreached := true }
  | 3 => t.each unreached fun t sp => t.modPedal sp fun p => { p with unreached := true }
  | 5 => { t with chainline := { t.chainline with phy := { t.chainline.phy with overran := some t.nextTick } } }
  | _ => t

def execOverrun (e : Nat) (unreached : List Nat) (s : State) : Host.Outcome State Fault Refusal :=
  .next (overrun e unreached s)

end Sys2Proof.Machine
end

