-- ==== Sys2Proof/Machine/Pannier.lean ====
section
/-! DEFINITION. The Pannier store (R49-R59): words by logical address, SECDED errors, regions, the capture ring and its
triggers, spare-bank rotation up to the end of the bank test (`Machine/Bist.lean` takes its outcome). -/

namespace Sys2Proof.Machine

/-- Words of a bank (R50). -/
def bankWords : Nat := 131072

/-- The word at a logical address (R49); a word that nothing has written reads 0 (log entry 11). -/
def State.word (s : State) (a : Nat) : Nat := storeRead 0 s.pannier.mem a

/-- A write replaces the word and clears its error (R53). -/
def State.setWord (s : State) (a w : Nat) : State :=
  { s with pannier := { s.pannier with mem := storeWrite 0 s.pannier.mem a (w % ccMod),
                                       poisoned := s.pannier.poisoned.filter (· ≠ a) } }

/-- Base and size of a region in force (R54, R55). -/
def State.regionBase (s : State) (r : Nat) : Nat := s.getN (k03RegionBase (20 + r))
def State.regionSize (s : State) (r : Nat) : Nat := s.getN (k03RegionSize (20 + r))

/-- The region of an address (R54). -/
def State.regionOf (s : State) (a : Nat) : Option Nat :=
  (List.range 14).find? fun r => s.regionBase r ≤ a && a < s.regionBase r + s.regionSize r

/-- Region numbers used below. -/
def rgMetering : Nat := 0
def rgIngest : Nat := 1
def rgRecorder : Nat := 2
def rgDescriptors : Nat := 4
def rgTls : Nat := 8
def rgHostArea : Nat := 10
def rgDisplay : Nat := 11
def rgRing : Nat := 12

/-- Physical bank of a logical address (R50). -/
def State.physical (s : State) (a : Nat) : Nat := s.pannier.map.getD (a / bankWords) 0

/-- Last error address (03h/0/3). -/
def State.lastError (s : State) (port a : Nat) : State := s.put k03LastErrorAddress ((port * 2097152 + a : Nat))

/-- A single-bit error (R51): corrected in the slot, counted, recorded, and queued for scrubbing while the bank's queue of
8 has room. -/
def State.corrected (s : State) (port a : Nat) : State :=
  let b := s.physical a
  let t := (((s.count k03CorrectedErrors).count (k03BankCorrectedErrors (1 + b))).notice byDevice 0x0210 a).lastError port a
  if (t.pannier.scrub.filter fun p => p.1 = b).length < 8 then
    { t with pannier := { t.pannier with scrub := t.pannier.scrub ++ [(b, a)] } }
  else t

/-- The other copy of a word of the metering and safety state, which is kept at offsets 0-32,767 and 32,768-65,535 (R52). -/
def mirrorOf (base a : Nat) : Nat := base + (a - base + 32768) % 65536

/-- A write of port 0: in the metering and safety state it updates both copies in the same slot (R52). -/
def State.setWord0 (s : State) (a w : Nat) : State :=
  let t := s.setWord a w
  if s.regionOf a = some rgMetering then t.setWord (mirrorOf (s.regionBase rgMetering) a) w else t

/-- An uncorrectable error on port 0 (R52), by what the word holds: with one copy of the metering and safety state bad the
other is used and the bad one rewritten from it. The word at offset o of the sample-ingest buffers is taken as a sample of the
channel at position o mod 152 of R56, since no rule lays the buffers out (log entry 15). -/
def State.uncorrectable0 (s : State) (a : Nat) (both : Bool) : State :=
  let t := (s.count k03UncorrectableErrors).lastError 0 a
  match s.regionOf a with
  | some 0 =>
    if both then t.deviceFault 4
    else (t.setWord0 a (t.word (mirrorOf (t.regionBase rgMetering) a))).notice byDevice 0x0211 a
  | some 1 =>
    let o := (a - s.regionBase rgIngest) % slotWords s.variant
    let n := if s.variant = .trt24 || o < 60 then o else o + 60
    t.modChan n fun c => { c with missing := true }
  | _ => t

/-- An error met by a read of port 0. -/
def State.error0 (s : State) (e : ReadError) : State :=
  match e.kind with
  | .single => s.corrected 0 e.addr
  | .double => s.uncorrectable0 e.addr false
  | .both => s.uncorrectable0 e.addr true

/-- An uncorrectable word read on ports 1-3 is delivered poisoned (R53); it stays so until a write replaces it. -/
def State.poisonedRead (s : State) (port a : Nat) : State :=
  let t := ((s.count k03UncorrectableErrors).lastError port a).notice byDevice 0x0212 a
  if t.pannier.poisoned.contains a then t
  else { t with pannier := { t.pannier with poisoned := t.pannier.poisoned ++ [a] } }

/-- The spare copier rewrites the queued words (R51). -/
def State.scrubbed (s : State) : State := { s with pannier := { s.pannier with scrub := [] } }

/-! ### The capture ring (R55-R57) -/

/-- The word of a channel in a capture slot (R56). -/
def captureWord (sample : Int) (clip subst : Bool) (cc : Nat) : Nat :=
  pattern 24 sample * 2 ^ 24 + (if clip then 2 ^ 23 else 0) + (if subst then 2 ^ 22 else 0) + cc % 2 ^ 22

/-- The frame's samples enter the ring as one slot, latched at tick `at_`; a frozen ring is not written. -/
def State.captureSlot (s : State) (at_ : Nat) : State :=
  if s.getN k03CaptureState = 2 then s
  else
    let len := s.getN k03CaptureLength
    let base := s.regionBase rgRing + s.pannier.ringSlot * slotWords s.variant
    let t := s.each s.variant.channels.zipIdx fun s p =>
      let c := s.chan p.1
      s.setWord0 (base + p.2) (captureWord c.latched (s.flag (k08Clipped p.1)) c.subst at_)
    { t with pannier := { t.pannier with ringSlot := (t.pannier.ringSlot + 1) % max 1 len } }

/-- An enabled trigger at tick `at_` (R57): the first one records its CC and starts the post-trigger time; later ones are
counted. -/
def State.captureTrigger (s : State) (source at_ : Nat) : State :=
  if !bit (s.getN k03TriggerMask) source then s
  else if s.getN k03CaptureState ≠ 0 then s.count k03IgnoredTriggers
  else
    { s.puts [(k03TriggerCC, at_), (k03CaptureState, 1)] with
        pannier := { s.pannier with ringStop := (at_ + s.getN k03PostTriggerTime) % ccMod } }

/-- The triggers raised since the last tick act, each source once (R57). -/
def State.runTriggers (s : State) : State :=
  let l := s.pannier.triggers
  ({ s with pannier := { s.pannier with triggers := [] } }).each l fun s b => s.captureTrigger b s.cc

/-- The inputs 6, 7 and 14 of a sequencer, and their events, as a decision of the running frame or a write of step 5 has changed them
since `was`: they stand at the coming tick, while what a row of a later evaluation changes waits for that one (R225, R227, log
entry 5). -/
def State.publishInputs (s was : State) (sp : Nat) : State :=
  let gate := was.gateState sp ≠ s.gateState sp
  let safe := was.safety sp ≠ s.safety sp
  let lock := was.lockState sp ≠ s.lockState sp
  let show_ := fun (c : Bool) (n v : Nat) (l : List Int) => if c then l.set n v else l
  let flags := maskOf ((if gate then [fGate] else []) ++ (if safe then [fSafe] else []) ++ (if lock then [fLock] else []))
  if flags = 0 then s
  else s.modPedal sp fun p =>
    { p with seen := p.seen.map fun l => show_ lock 6 (s.lockState sp) (show_ gate 7 (s.gateState sp) (show_ safe 14 (s.safety sp) l)),
             ready := Nat.lor p.ready (Nat.land p.raised flags), raised := p.raised - Nat.land p.raised flags }

/-- A decision of the running frame on a spoke, reported after its TICK: what it raises triggers the capture ring at this tick, and
what it changes stands at the next one. -/
def State.inFrame (s : State) (sp : Nat) (f : State → State) : State :=
  let t := f { s with pannier := { s.pannier with triggers := [] } }
  let l := t.pannier.triggers
  (({ t with pannier := { t.pannier with triggers := s.pannier.triggers } }).each l fun t b => t.captureTrigger b s.cc).publishInputs s sp

/-- MANUAL_TRIGGER (R57): a write of 1 to 03h/0/12 triggers, at the tick of its boundary (R28). -/
def applyManualTrigger (v : Int) (s : State) : State := if v = 1 then s.captureTrigger 3 s.nextTick else s

def execManualTrigger (sid : Nat) (v : Int) (s : State) : Host.Outcome State Fault Refusal :=
  .next (s.writeRow sid k03ManualTrigger v (fun _ => stOk) (applyManualTrigger v))

/-- RELEASE (R57): a write of 1 to 03h/0/13 releases a frozen ring. -/
def applyRelease (v : Int) (s : State) : State :=
  if v = 1 && s.getN k03CaptureState = 2 then s.put k03CaptureState 0 else s

def execRelease (sid : Nat) (v : Int) (s : State) : Host.Outcome State Fault Refusal :=
  .next (s.writeRow sid k03Release v (fun _ => stOk) (applyRelease v))

/-- POST_TRIGGER_END (R57): after the post-trigger time the ring is frozen. -/
def postTriggerEnd (s : State) : State :=
  if s.getN k03CaptureState = 1 && s.reached s.pannier.ringStop then s.put k03CaptureState 2 else s

def execPostTriggerEnd (s : State) : Host.Outcome State Fault Refusal := .next (postTriggerEnd s)

/-! ### Spare-bank rotation (R58) -/

/-- What the slice of a frame does for Pannier: two cycles a word of a copy, one cycle an operation of the March C- test
(R58, R472), and the scrub queues (R51). -/
def State.pannierSlice (s : State) (cycles : Nat) : State :=
  let t := s.scrubbed
  match s.getN k03RotationState with
  | 1 => { t with pannier := { t.pannier with copied := min bankWords (t.pannier.copied + cycles / 2) } }
  | 2 => { t with pannier := { t.pannier with tested := min (10 * bankWords) (t.pannier.tested + cycles) } }
  | _ => t

/-- DWELL_END (R58 step 5): the next rotation step begins its copy. -/
def dwellEnd (s : State) : State :=
  if s.getN k03RotationState = 0 && s.reached s.pannier.dwellEnd && s.pannier.spare.isSome then
    { s.put k03RotationState 1 with pannier := { s.pannier with copied := 0 } }
  else s

def execDwellEnd (s : State) : Host.Outcome State Fault Refusal := .next (dwellEnd s)

/-- MAP_SWITCH (R58 step 2): at the boundary after the last word is copied the map sends the logical bank to the spare,
and the bank it left is isolated for its test. -/
def mapSwitch (s : State) : State :=
  let b := s.getN k03RotationBank
  match s.pannier.spare with
  | some sp =>
    if s.getN k03RotationState = 1 && s.pannier.copied = bankWords then
      let p := s.pannier.map.getD b 0
      { s.puts [(k03RotationState, 2), (k03BankUse (1 + sp), b), (k03BankUse (1 + p), 17), (k38TargetState 1, 1)] with
          pannier := { s.pannier with map := s.pannier.map.set b sp, spare := none, testing := some p, tested := 0 } }
    else s
  | none => s

def execMapSwitch (s : State) : Host.Outcome State Fault Refusal := .next (mapSwitch s)

end Sys2Proof.Machine
end

