-- ==== Sys2Proof/Machine/Recorder.lean ====
section
/-! DEFINITION. The event recorder (R400-R415): histograms, extremes, event counts, the notice ring, freezing, clearing and
the saves to flash. Its data are the members of classes 29h, 2Ah and 2Bh. -/

namespace Sys2Proof.Machine

/-- A U16 sequence passes an odd value within the frame and is even after it (R409). -/
def State.stepSequence (s : State) (k : Nat) : State := s.put k ((s.get k + 2) % 65536)

/-! ### Histograms (R402-R404, R410) -/

/-- Histograms of the metrology class (R403). -/
def metrologyHist (h : Nat) : Bool := h < 80 || (128 ≤ h && h < 152)

/-- One more in a bin member (R402). -/
def State.addBin (s : State) (h m : Nat) : State :=
  let t := (s.count (k29Bin031 h m)).stepSequence (k29Sequence h)
  if t.get (k29Bin031 h m) = u48Max then t.put (k29Saturated h) 1 else t

/-- A bin member takes a sample, or the increment is held while the histogram is frozen. -/
def State.binSample (s : State) (h m : Nat) : State :=
  if metrologyHist h && s.recorder.freezeEnd.isSome then
    { s with recorder := { s.recorder with held := s.recorder.held ++ [(h, m)] } }
  else s.addBin h m

/-- The bin member of a sample (R402): 0-31, 32 underflow, 33 overflow. -/
def binOf (v lo width : Rat) : Nat :=
  if v < lo then 32
  else
    let k := ((v - lo) / width).floor.toNat
    if 32 ≤ k then 33 else k

def State.histogram (s : State) (h : Nat) (v lo width : Rat) : State := s.binSample h (binOf v lo width)

/-! ### Extremes (R405) -/

/-- A sample of an extreme pair. -/
def State.extreme (s : State) (x : Nat) (v : Int) : State :=
  let fl := s.getN (k2AFlags x)
  let empty := bit fl 0
  let untimed := !s.timeValid
  let lower := empty || v < s.get (k2AMinimum x)
  let upper := empty || s.get (k2AMaximum x) < v
  let fl := setBit fl 0 false
  let fl := if lower then setBit fl 1 untimed else fl
  let fl := if upper then setBit fl 2 untimed else fl
  let t := s.when lower fun t => t.puts [(k2AMinimum x, v), (k2AMinimumTime x, t.stamp)]
  let t := t.when upper fun t => t.puts [(k2AMaximum x, v), (k2AMaximumTime x, t.stamp)]
  if lower || upper then (t.put (k2AFlags x) fl).stepSequence (k2ASequence x) else t

/-! ### The notice ring (R407-R409) -/

/-- Key of a field of the ring record at position `p` (R415). -/
def ringKey (p f : Nat) : Nat := key 0x2B (p / 4) (8 * (p % 4) + f)

def ringSize : Nat := 4096

/-- A new record (R408). -/
def State.newRecord (s : State) (n : Notice) : State :=
  let wc := s.getN k2BWriteCount
  let p := wc % ringSize
  let t := s.puts [(ringKey p 0, n.code), (ringKey p 1, 0), (ringKey p 2, n.inst),
    (ringKey p 3, if s.timeValid then (s.wall : Nat) else (s.cc : Nat)), (ringKey p 4, b1 s.timeValid),
    (ringKey p 5, n.value), (ringKey p 6, wc), (k2BWriteCount, ((wc + 1) % 2 ^ 32 : Nat))]
  { t with recorder := { t.recorder with empty := false } }.stepSequence k2BRingSequence

/-- A notice enters the ring (R408): the newest record repeats, or a new one is made. A repeat count that reaches its largest
value is reported at once, so that the report is the newest record. -/
def State.enterNotice (s : State) (n : Notice) : State :=
  let p := (s.getN k2BWriteCount + 2 ^ 32 - 1) % 2 ^ 32 % ringSize
  let same := !s.recorder.empty && s.getN (ringKey p 0) = n.code && s.getN (ringKey p 2) = n.inst &&
    s.getN (ringKey p 5) = n.value
  if !same then s.newRecord n
  else
    let r := s.getN (ringKey p 1)
    if 65535 ≤ r then s
    else
      let t := (s.put (ringKey p 1) (r + 1 : Nat)).stepSequence k2BRingSequence
      if r + 1 = 65535 then
        (t.put k00LastSaturatedCount (ringKey p 1)).newRecord ⟨0x0120, byDevice, ringKey p 1⟩
      else t

/-- Order of the notices of one tick (R401). -/
def noticeLe (a b : Notice) : Bool := a.code < b.code || (a.code = b.code && a.value ≤ b.value)

/-- The ring is emptied; its write count stays (R411). -/
def State.emptyRing (s : State) : State :=
  let t := s.puts (((s.obj.map Prod.fst).filter fun k => keyClass k = 0x2B && keyMember k < 32).map fun k => (k, 0))
  { t with recorder := { t.recorder with empty := true } }.stepSequence k2BRingSequence

/-- The ring clears of the coming boundary (R411): the ring is emptied, then the record of each clear enters. -/
def State.clearRings (s : State) : State :=
  if s.recorder.clearing = [] then s
  else ({ s with recorder := { s.recorder with clearing := [] } }.emptyRing).each s.recorder.clearing fun t sid =>
    t.enterNotice ⟨0x0141, sid, k2BClearRing⟩

/-- Notices that a reset leaves for the boot that follows it (R140, R347, R410, R446): they wait for it, past another reset too. -/
def State.keptNotices (s : State) : List Notice :=
  if s.modes.booted then [] else s.recorder.raised.filter fun n => [0x0423, 0x0143, 0x0B13, 0x0F15].contains n.code

/-- The notices of a tick enter the ring at its boundary (R401, R411). -/
def State.flushNotices (s : State) : State :=
  let l := (s.recorder.raised.filter fun n => !s.keptNotices.contains n).mergeSort noticeLe
  let t := { s with recorder := { s.recorder with raised := s.keptNotices } }
  t.clearRings.each l State.enterNotice

/-! ### Saves (R412) -/

/-- The members that the recorder region holds: not the Frozen members, since a freeze does not outlive a reset (R410). -/
def State.recorderData (s : State) : List (Nat × Int) :=
  s.obj.filter fun p =>
    let c := keyClass p.1
    let m := keyMember p.1
    (c = 0x29 && !(38 ≤ m && m ≤ 41) && m ≠ 35 && keyInst p.1 ≠ 254) || (c = 0x2A && m ≤ 5) || c = 0x2B

/-- Offset in the region (R400) of the item that a member belongs to: its histogram, its extreme pair, its ring record. -/
def itemOffset (k : Nat) : Nat :=
  let c := keyClass k
  let i := keyInst k
  let m := keyMember k
  if c = 0x29 then (if i = 255 then 49152 + m else 34 * i)
  else if c = 0x2A then 34816 + 4 * i
  else if m < 32 then 36864 + 3 * (4 * i + m / 8)
  else 50006

/-- The items from one offset up to another. -/
def State.itemsIn (s : State) (lo hi : Nat) : List (Nat × Int) :=
  s.recorderData.filter fun p => lo ≤ itemOffset p.1 && itemOffset p.1 < hi

/-- Words of the region. -/
def recorderWords : Nat := 50176

/-- A save begins in a slot. -/
def State.startSave (s : State) (slot : Nat) : State :=
  { s with recorder := { s.recorder with saving := some slot, saveDue := false, saveStart := s.cc, saveBuf := [], saveAt := 0 } }

/-- A save falls due (R412); it waits while another runs, and while the firmware does not (R401). -/
def State.recorderSave (s : State) : State :=
  if s.recorder.saving.isSome || !s.firmwareUp then { s with recorder := { s.recorder with saveDue := true } }
  else s.startSave s.recorder.saveSlot

/-- The work of a save in a frame: it copies items in offset order, each within one frame; how many is free (log entry 50). A save
that waited for the firmware begins. -/
def State.saveTick (s : State) : State :=
  if !s.firmwareUp || s.pf.active then s
  else if s.recorder.saving.isSome then
    let hi := s.recorder.saveAt + s.drawn % recorderWords
    { s.drew with recorder := { s.recorder with saveBuf := s.recorder.saveBuf ++ s.itemsIn s.recorder.saveAt hi, saveAt := hi } }
  else if s.recorder.saveDue then s.startSave s.recorder.saveSlot
  else s

/-- SAVE_NOW (R412). -/
def applySaveNow (v : Int) (s : State) : State := if v = 1 then s.recorderSave else s

def execSaveNow (sid : Nat) (v : Int) (s : State) : Host.Outcome State Fault Refusal :=
  .next (s.writeRow sid k29SaveNow v (fun _ => stOk) (applySaveNow v))

/-! ### Freezing (R410) -/

/-- Metrology-class histograms that exist. -/
def metrologyHists (v : Variant) : List Nat := List.range 80 ++ (List.range v.spokes).map (128 + ·)

/-- The freeze ends: the held increments are added. -/
def State.endFreeze (s : State) : State :=
  let l := s.recorder.held
  let t := { s with recorder := { s.recorder with held := [], freezeEnd := none, freezeLast := some s.cc } }
  let t := t.each l fun t p => t.addBin p.1 p.2
  t.each (metrologyHists t.variant) fun t h => t.put (k29Frozen h) 0

def freezeGap : Nat := 8000

def checkFreeze (v : Int) (s : State) : Nat :=
  if v = 0 then stOk
  else if s.recorder.freezeEnd.isSome then stBusy
  else match s.recorder.freezeLast with
    | some t => if s.since t < freezeGap then stNotNow else stOk
    | none => stOk

/-- FREEZE (R410). -/
def applyFreeze (v : Int) (s : State) : State :=
  if v = 0 then (if s.recorder.freezeEnd.isSome then s.endFreeze else s)
  else
    let t := { s with recorder := { s.recorder with freezeEnd := some (s.after (msTicks v.toNat)) } }
    t.each (metrologyHists t.variant) fun t h => t.put (k29Frozen h) 1

def execFreeze (sid : Nat) (v : Int) (s : State) : Host.Outcome State Fault Refusal :=
  .next (s.writeRow sid k29Freeze v (checkFreeze v) (applyFreeze v))

/-- FREEZE_END (R410): the duration has run. -/
def freezeEnd (s : State) : State := if s.reachedOpt s.recorder.freezeEnd then s.endFreeze else s

def execFreezeEnd (s : State) : Host.Outcome State Fault Refusal := .next (freezeEnd s)

/-! ### Clearing and definitions (R404, R411) -/

/-- A histogram is emptied and recorded (R411). -/
def State.clearHist (s : State) (sid h : Nat) : State :=
  let t := s.each (List.range 34) fun t m => t.put (k29Bin031 h m) 0
  (((t.put (k29Saturated h) 0).stepSequence (k29Sequence h)).notice sid 0x0141 (k29Clear h)).recorderSave

/-- An extreme pair is emptied and recorded. -/
def State.clearPair (s : State) (sid x : Nat) : State :=
  (((s.puts [(k2AMinimum x, 0), (k2AMinimumTime x, 0), (k2AMaximum x, 0), (k2AMaximumTime x, 0),
    (k2AFlags x, 1)]).stepSequence (k2ASequence x)).notice sid 0x0141 (k2AClear x)).recorderSave

def checkClearHist (h : Nat) (v : Int) (s : State) : Nat :=
  if v = 1 && metrologyHist h && s.recorder.freezeEnd.isSome then stNotNow else stOk

/-- CLEAR_HISTOGRAM. -/
def applyClearHist (sid h : Nat) (v : Int) (s : State) : State := if v = 1 then s.clearHist sid h else s

def execClearHistogram (sid h : Nat) (v : Int) (s : State) : Host.Outcome State Fault Refusal :=
  .next (s.writeRow sid (k29Clear h) v (checkClearHist h v) (applyClearHist sid h v))

/-- CLEAR_EXTREME. -/
def applyClearPair (sid x : Nat) (v : Int) (s : State) : State := if v = 1 then s.clearPair sid x else s

def execClearExtreme (sid x : Nat) (v : Int) (s : State) : Host.Outcome State Fault Refusal :=
  .next (s.writeRow sid (k2AClear x) v (fun _ => stOk) (applyClearPair sid x v))

/-- CLEAR_RING: at the coming boundary the ring is emptied and the record of each clear enters first. -/
def applyClearRing (sid : Nat) (v : Int) (s : State) : State :=
  if v = 1 then { s with recorder := { s.recorder with clearing := s.recorder.clearing ++ [sid] } }.recorderSave else s

def execClearRing (sid : Nat) (v : Int) (s : State) : Host.Outcome State Fault Refusal :=
  .next (s.writeRow sid k2BClearRing v (fun _ => stOk) (applyClearRing sid v))

/-- The checks of a source object (R404), in the order of that rule. -/
def State.checkSource (s : State) (v : Int) : Nat :=
  let a := v.toNat % 16777216
  match s.object a with
  | none => stNoObject
  | some r =>
    if !r.rd.okFor 0 then stDenied
    else if !r.ty.numeric then stBadType
    else if keyClass a = 0x29 || keyClass a = 0x2A || keyClass a = 0x2B then stOutOfRange
    else stOk

/-- The chapter rules on writes of classes 29h, 2Ah and 2Bh. -/
def check29 (s : State) (i m : Nat) (v : Int) : Nat :=
  if i = 254 then (if m = 0 then checkFreeze v s else stOk)
  else if i = 255 then stOk
  else if m = 37 then checkClearHist i v s
  else if m = 38 then s.checkSource v
  else stOk

def check2A (s : State) (m : Nat) (v : Int) : Nat := if m = 7 then s.checkSource v else stOk

/-- The effect of a write of class 29h: an event count cleared is recorded, a changed definition clears (R404, R411). -/
def apply29 (sid : Nat) (s : State) (k i m : Nat) (v : Int) : State :=
  if i = 254 then (if m = 0 then applyFreeze v s else if m = 4 then applySaveNow v s else s.put k v)
  else if i = 255 then ((s.put k v).notice sid 0x0141 k).recorderSave
  else if m = 37 then applyClearHist sid i v s
  else if s.get k = v then s
  else (s.put k v).clearHist sid i

def apply2A (sid : Nat) (s : State) (k i m : Nat) (v : Int) : State :=
  if m = 6 then applyClearPair sid i v s else if s.get k = v then s else (s.put k v).clearPair sid i

def apply2B (sid : Nat) (s : State) (k m : Nat) (v : Int) : State :=
  if m = 34 then applyClearRing sid v s else s.put k v

/-- HISTOGRAM_DEFINITION (R404, R405): a write of a source, period, low or width. -/
def histogramDefinition (sid a : Nat) (v : Int) (s : State) : State :=
  let c := keyClass a
  let i := keyInst a
  let m := keyMember a
  if c = 0x29 && 256 ≤ i && 38 ≤ m && m ≤ 41 then
    s.writeRow sid a v (fun s => check29 s i m v) fun s => apply29 sid s a i m v
  else if c = 0x2A && 256 ≤ i && (m = 7 || m = 8) then
    s.writeRow sid a v (fun s => check2A s m v) fun s => apply2A sid s a i m v
  else s.answer sid a stNoObject

def execHistogramDefinition (sid a : Nat) (v : Int) (s : State) : Host.Outcome State Fault Refusal :=
  .next (histogramDefinition sid a v s)

/-! ### The recorder region as DMA reads it (R400, R407) -/

/-- Word at an offset of the recorder region. -/
def State.recorderWord (s : State) (o : Nat) : Nat :=
  if o < 34816 then (if s.object (k29Bin031 (o / 34) (o % 34)) |>.isSome then s.getN (k29Bin031 (o / 34) (o % 34)) else 0)
  else if o < 36864 then
    let x := (o - 34816) / 4
    pattern 48 (s.get (key 0x2A x ((o - 34816) % 4)))
  else if o < 49152 then
    let p := (o - 36864) / 3
    match (o - 36864) % 3 with
    | 0 => s.getN (ringKey p 0) * 2 ^ 32 + s.getN (ringKey p 1) * 2 ^ 16 + s.getN (ringKey p 2) * 2 ^ 10 +
        s.getN (ringKey p 4) * 2 ^ 9
    | 1 => s.getN (ringKey p 3)
    | _ => s.getN (ringKey p 5)
  else if o < 49408 then (if o - 49152 < 24 then s.getN (k29EventCount (o - 49152)) else 0)
  else if o < 49750 then
    (List.range 3).foldl (fun a j => a * 65536 + s.getN (k29Sequence (3 * (o - 49408) + j))) 0
  else if o < 50006 then
    (List.range 2).foldl (fun a j =>
      a * 2 ^ 24 + s.getN (k2ASequence (2 * (o - 49750) + j)) * 256 + s.getN (k2AFlags (2 * (o - 49750) + j))) 0
  else [s.getN k2BWriteCount, s.getN k2BRingSequence, s.getN k29SaveCount].getD (o - 50006) 0

/-! ### The display region as DMA sees it (R54, R416) -/

/-- What an unlisted word of A and B reads as: twelve pixels of grey 15. -/
def whiteWord : Nat := 281474976710655

/-- Words of the draw buffer B, and of the front buffer A. -/
def drawWords : Nat := 160000

/-- Words of a plane buffer. -/
def planeWords : Nat := 40800

/-- The words of a slot in a plane buffer. -/
def Slot.plane (x : Slot) (second : Bool) : List Nat := if second then x.p1 else x.p0

/-- Does word `j` of the plane buffers belong to a slot? -/
def Slot.holds (x : Slot) (j : Nat) : Bool := x.place ≤ j && j < x.place + x.p0.length

/-- Word at an offset of the display region. The rule lists B, A, P0 and P1: they stand in it in that order (DEDUCED, log entry 38). -/
def State.displayWord (s : State) (o : Nat) : Nat :=
  let d := s.display
  if o < drawWords then storeRead whiteWord d.draw o
  else if o < 2 * drawWords then storeRead whiteWord d.front (o - drawWords)
  else
    let j := (o - 2 * drawWords) % planeWords
    ((d.slots.find? fun x => x.holds j).map fun x => (x.plane (2 * drawWords + planeWords ≤ o)).getD (j - x.place) 0).getD 0

/-- A word of the display region is written. -/
def State.setDisplayWord (s : State) (o w : Nat) : State :=
  let d := s.display
  if o < drawWords then { s with display := { d with draw := storeWrite whiteWord d.draw o (w % ccMod) } }
  else if o < 2 * drawWords then { s with display := { d with front := storeWrite whiteWord d.front (o - drawWords) (w % ccMod) } }
  else
    let j := (o - 2 * drawWords) % planeWords
    let put := fun (x : Slot) => if 2 * drawWords + planeWords ≤ o then { x with p1 := x.p1.set (j - x.place) (w % ccMod) }
      else { x with p0 := x.p0.set (j - x.place) (w % ccMod) }
    { s with display := { d with slots := d.slots.map fun x => if x.holds j then put x else x } }

/-- Offset in a region of an address, when it lies there. -/
def State.offsetIn (s : State) (r a : Nat) : Option Nat :=
  let b := s.regionBase r
  if b ≤ a && a < b + s.regionSize r then some (a - b) else none

/-- A word of the store as a port reads it: the recorder region shows the recorder's data (R400), the display region the buffers of the
display (R416). -/
def State.loadWord (s : State) (a : Nat) : Nat :=
  match s.offsetIn rgRecorder a, s.offsetIn rgDisplay a with
  | some o, _ => s.recorderWord o
  | none, some o => s.displayWord o
  | none, none => s.word a

/-- A word of the store as a port writes it. -/
def State.storeWord (s : State) (a w : Nat) : State :=
  match s.offsetIn rgDisplay a with
  | some o => s.setDisplayWord o w
  | none => s.setWord a w

end Sys2Proof.Machine
end

