-- ==== Sys2Proof/Machine/Bist.lean ====
section
/-! DEFINITION. Built-in self-test (R471-R478) and the outcome of a bank test (R58 step 4, R59). What a test finds is the
operand of the command that ends it; the rules on what follows stand here. -/

namespace Sys2Proof.Machine

/-! ### The schedule (R472, R473) -/

/-- Shares of targets 2-6. -/
def State.shares (s : State) : List Nat := (List.range 5).map fun j => s.getN (k38Share (2 + j))

/-- The target whose position `p` of 16 is; none = Pannier. -/
def positionOwner (shares : List Nat) (p : Nat) : Option Nat :=
  ((List.range 5).find? fun j => p < (shares.take (j + 1)).sum).map (· + 2)

def State.passWanted (s : State) (t : Nat) : Bool := s.bist.due.getD (t - 1) false

/-- Ticks between the passes of a target (R473); a failed crypto engine is retried every 8,000 ticks (R476). -/
def State.bistInterval (s : State) (t : Nat) : Nat :=
  if t = 6 && s.bist.cryptoFailed then 8000 else secTicks (s.getN (k38TestInterval t))

/-- Is the function that a target tests stopped in the mode in force (R452, R473)? -/
def bistStopped (mode t : Nat) : Bool :=
  ((mode = 2 || mode = 3) && (t = 2 || t = 5 || t = 6)) || (mode = 3 && t = 4)

/-- BIST_PASS_DUE (R473): a pass is due once the interval since the last completed pass has run. -/
def bistPassDue (t : Nat) (s : State) : State :=
  if 1 ≤ t && t ≤ 6 && s.bistInterval t ≤ s.since (s.bist.lastPass.getD (t - 1) 0) && s.getN (k38TargetState t) ≠ 3
      && !s.passWanted t then
    let u := { s with bist := { s.bist with due := s.bist.due.set (t - 1) true } }
    if t = 1 then u else u.put (k38TargetState t) 1
  else s

def execBistPassDue (t : Nat) (s : State) : Host.Outcome State Fault Refusal := .next (bistPassDue t s)

/-- A failure is counted and recorded (R475, R476). -/
def State.bistFailure (s : State) (t code value : Nat) : State :=
  ((s.count (k38Failures t)).put (k38LastFailure t) value).notice byDevice code value

/-- A pass of a target completes: count, stamp, and the state it leaves. -/
def State.passDone (s : State) (t state : Nat) : State :=
  let u := ((s.count (k38Passes t)).puts [(k38LastPass t, s.stamp), (k38TargetState t, state)])
  { u with bist := { u.bist with due := u.bist.due.set (t - 1) false, lastPass := u.bist.lastPass.set (t - 1) s.cc } }

/-! ### Rows (R475, R477) -/

def spareRows : Nat := 4
def fuseMax : Nat := 32

/-- Value of the repair notices. -/
def repairValue (t block row : Nat) : Nat := t * 2 ^ 40 + block * 2 ^ 32 + row

/-- The bit cost of a row: rows of a block that are remapped. -/
def State.rowsUsed (s : State) (t block : Nat) : Nat :=
  (s.bist.repairs.filter fun r => r.1 = t && r.2.1 = block).length

/-- One failing row under the target's outcome; the flag tells whether the block can still be used. -/
def State.failingRow (s : State) (t block row : Nat) : State × Bool :=
  let o := s.getN (k38Outcome t)
  let u := s.bistFailure t 0x1010 (repairValue t block row)
  if o = 0 then (u, true)
  else if spareRows ≤ u.rowsUsed t block then (u, false)
  else
    let r := (t, block, row)
    let u := { u with bist := { u.bist with repairs := u.bist.repairs ++ [r] } }
    let u := (u.count (k38SoftRepairs t)).notice byDevice 0x1011 (repairValue t block row)
    if o = 1 then (u, true)
    else if fuseMax ≤ u.bist.fuseList.length then (u.noticeOpen byDevice 0x1013, true)
    else
      ({ u with bist := { u.bist with fuseList := u.bist.fuseList ++ [r] } }.put k38PendingFuseRepairs
        (u.bist.fuseList.length + 1 : Nat), true)

/-- The failing rows of a block, one after another. A row that is remapped no longer fails. -/
def State.failingRows (s : State) (t block : Nat) (rows : List Nat) : State × Bool :=
  rows.foldl (fun a row =>
    if s.bist.repairs.contains (t, block, row) then a
    else
      let r := a.1.failingRow t block row
      (r.1, a.2 && r.2)) (s, true)

/-! ### Target 1: the bank test (R58, R59, R475) -/

/-- NEW_SPARE (R58 step 4, R59): when the March C- test of the isolated bank has ended, the bank becomes the spare and the
dwell begins, whose end is fixed here with the dwell time then in force: a write of 03h/0/8 during a dwell does not move it (DESIGN
CHOICE, log entry 20); a bank that cannot be used is retired and rotation stops. -/
def newSpare (failRows : List Nat) (s : State) : State :=
  match s.pannier.testing with
  | some p =>
    if s.getN k03RotationState = 2 && 10 * bankWords ≤ s.pannier.tested then
      let r := s.failingRows 1 p failRows
      if r.2 then
        let t := (r.1.count k03RotationSteps).puts
          [(k03RotationState, 0), (k03BankUse (1 + p), 16), (k03RotationBank, (s.getN k03RotationBank + 1) % 16)]
        { t with pannier := { t.pannier with spare := some p, testing := none,
                                             dwellEnd := t.after (t.getN k03RotationDwell) } }.passDone 1 0
      else
        let t := (r.1.puts [(k03RotationState, 3), (k03BankUse (1 + p), 18)]).notice byDevice 0x0213 p
        { t with pannier := { t.pannier with testing := none, retired := t.pannier.retired ++ [p] } }.passDone 1 3
    else s
  | none => s

def execNewSpare (failRows : List Nat) (s : State) : Host.Outcome State Fault Refusal := .next (newSpare failRows s)

/-! ### Targets 2, 3, 5 and 6 -/

def segmentWords : Nat := 8192

/-- A segment's copy has ended: the map sends its logical segment to the spare. -/
def State.switchSegment (s : State) : State :=
  match (List.range 17).find? fun p => !s.bist.segMap.contains p with
  | some spare => { s with bist := { s.bist with segMap := s.bist.segMap.set (s.bist.segMap.idxOf s.bist.segment) spare } }
  | none => s

/-- A pass of target 2 on a segment ends (R471, R475); segments are taken in turn. One that cannot be used is retired. -/
def State.segmentPass (s : State) (rows : List Nat) : State :=
  let seg := s.bist.segment
  let r := s.failingRows 2 seg rows
  let t := { r.1 with bist := { r.1.bist with segCopied := 0, segTested := 0 } }
  if r.2 then
    { t with bist := { t.bist with segment := (seg + 1) % 17 } }.passDone 2 0
  else (t.noticeOpen byDevice 0x1012).passDone 2 3

/-- What a slice does for target 2, at the cost that R58 gives for Pannier: two cycles a word of the copy into the spare, then one cycle
an operation of March C-; the last one ends the pass (R471). -/
def State.segmentSlice (s : State) (cycles : Nat) (rows : List Nat) : State :=
  let b := s.bist
  if b.segCopied < segmentWords then
    let t := { s with bist := { b with segCopied := min segmentWords (b.segCopied + cycles / 2) } }
    t.when (t.bist.segCopied = segmentWords) State.switchSegment
  else
    let t := { s with bist := { b with segTested := min (10 * segmentWords) (b.segTested + cycles) } }
    t.when (t.bist.segTested = 10 * segmentWords) fun t => t.segmentPass rows

/-- A golden-vector pass of a lane ends (R471, R476). -/
def State.goldenPass (s : State) (fails : List Nat) : State :=
  let lane := s.bist.lane
  let next := fun (t : State) => { t with bist := { t.bist with lane := (lane + 1) % 4, laneFailed := false } }
  if fails.isEmpty then (next s).passDone 3 0
  else
    let t := s.bistFailure 3 0x1030 lane
    if s.bist.laneFailed then ((next t).deviceFault 3).passDone 3 2
    else { t with bist := { t.bist with laneFailed := true } }.put (k38TargetState 3) 2

/-- A loopback pass of the unpowered Green PHY stations ends (R471, R476): a station that fails is held in reset until a
later pass on it succeeds (log entry 22). -/
def State.loopbackPass (s : State) (unpowered fails : List Nat) : State :=
  let f := fails.filter unpowered.contains
  let t := s.each f fun t sp => t.bistFailure 5 0x1040 sp
  { t with bist := { t.bist with stationFailed := (t.bist.stationFailed.filter fun x => !unpowered.contains x) ++ f } }.passDone
    5 (if f.isEmpty then 0 else 2)

/-- A known-answer pass of the crypto engine ends (R476). -/
def State.cryptoPass (s : State) (fails : List Nat) : State :=
  let t := s.each fails fun t a => t.bistFailure 6 0x1050 a
  { t with bist := { t.bist with cryptoFailed := !fails.isEmpty } }.passDone 6 (if fails.isEmpty then 0 else 2)

/-- Stations that are unpowered under R240: link control 0, and no other spoke in link state 1. -/
def State.unpoweredStations (s : State) : List Nat :=
  s.spokeList.filter fun sp => s.getN (k1ALinkControlInForce sp) = 0 && !(s.spokeList.any fun x => x ≠ sp && s.linkState x = 1)

/-- The BIST slice of a frame (R472): the target whose position it is works, when a pass is due and its function runs; every
other frame is Pannier's. A pass of target 3 is one frame, that of target 2 ends when its segment is tested, and those of targets 5 and 6
when the TICK says so. The spare copier writes queued words back only in a slice that Pannier gets: R51 says "the next BIST slice",
and a slice serves one target (DESIGN CHOICE, log entry 22). -/
def State.bistSlice (s : State) (done : Bool) (fails : List Nat) : State :=
  let t := s.put k38SchedulePosition (s.cc % 16 : Nat)
  let run := match positionOwner t.shares (t.cc % 16) with
    | some n => if t.passWanted n && n ≠ 4 && !bistStopped (t.getN k01Mode) n then some n else none
    | none => none
  match run with
  | some 2 => t.segmentSlice (t.getN k38SliceInForce) fails
  | some 3 => t.goldenPass fails
  | some 5 => if done then t.loopbackPass t.unpoweredStations fails else t
  | some 6 => if done then t.cryptoPass fails else t
  | _ => t.pannierSlice (t.getN k38SliceInForce)

/-! ### Target 4: the ADC channels (R474, R476) -/

/-- The session of a spoke that is open, by slot (R187). -/
def State.openSlot (s : State) (sp : Nat) : Option Nat :=
  (List.range 48).find? fun j => s.getN (k12State j) = 1 && s.getN (k12Spoke j) = sp

/-- Is a spoke idle for target 4 (R474)? -/
def State.adcIdle (s : State) (sp : Nat) : Bool :=
  s.gateState sp = 0 && (s.openSlot sp).isNone && (s.getN (k18PilotState sp) = 0 || s.getN (k18PilotState sp) = 6)

/-- The next idle spoke at or after `n`. -/
def State.nextIdle (s : State) (n : Nat) : Option Nat := s.spokeList.find? fun sp => n ≤ sp && s.adcIdle sp

/-- ADC_TEST (R474): with a pass of target 4 due the test of the next idle spoke begins at the next tick. -/
def adcTest (sp : Nat) (s : State) : State :=
  if s.passWanted 4 && s.bist.adc.isNone && s.nextIdle s.bist.adcNext = some sp && !bistStopped (s.getN k01Mode) 4 then
    { s with bist := { s.bist with
        adc := some { spoke := sp, start := s.nextTick, samples := (List.range 5).map fun c => (5 * sp + c, []),
                      stopped := none } } }
  else s

def execAdcTest (sp : Nat) (s : State) : Host.Outcome State Fault Refusal := .next (adcTest sp s)

def adcTicks : Nat := 128
def adcSettle : Nat := 8

/-- Expected values of the three stages: half of the linear range of 2^23, its negative, and 0. -/
def adcExpected : List Int := [4194304, -4194304, 0]

/-- Does the mean of the last 24 samples of a stage lie within 0.5 % of the linear range of its expected value? -/
def stageOk (l : List Int) (expected : Int) : Bool :=
  let d := (l.sum - 24 * expected).natAbs
  l.length = 24 && d * 1000 ≤ 24 * 5 * 8388608

/-- Does a channel pass? `l` holds the samples latched at offsets 0, 1, 2, ... -/
def channelOk (l : List Int) : Bool :=
  (List.range 3).all fun i => stageOk ((l.drop (40 * i + 16)).take 24) (adcExpected.getD i 0)

/-- Is the running test over, with or without a result? -/
def State.adcOver (s : State) (a : AdcTest) : Bool :=
  match a.stopped with
  | some q => s.reached ((q + 1 + adcSettle) % ccMod)
  | none => s.reached ((a.start + adcTicks) % ccMod)

/-- The result of a completed test: failing channels stand failed, passing ones no longer do. -/
def State.adcResult (s : State) (a : AdcTest) : State :=
  let bad := (a.samples.filter fun p => !channelOk p.2).map Prod.fst
  let t := s.each bad fun t n => t.bistFailure 4 0x1020 n
  { t with bist := { t.bist with
      adcFailed := (t.bist.adcFailed.filter fun n => n / 5 ≠ a.spoke) ++ bad } }

/-- ADC_TEST_END (R474): at tick 128 the type-3 integrators of the spoke restart, the result is taken; a test that stopped
early is discarded and counted. After the last idle spoke the pass is complete. -/
def adcTestEnd (s : State) : State :=
  match s.bist.adc with
  | some a =>
    if !s.adcOver a then s
    else
      let t := s.each (a.samples.map Prod.fst) fun t n =>
        if t.getN (k08SensorType n) = 3 then t.modChan n fun c => { c with y := 0 } else t
      let t := if a.stopped.isSome then t.count (k38AbortedTests 4) else t.adcResult a
      let t := { t with bist := { t.bist with adc := none, adcNext := a.spoke + 1 } }
      if (t.nextIdle t.bist.adcNext).isSome then t
      else { t with bist := { t.bist with adcNext := 0 } }.passDone 4 (if t.bist.adcFailed.isEmpty then 0 else 2)
  | none => s

def execAdcTestEnd (s : State) : Host.Outcome State Fault Refusal := .next (adcTestEnd s)

/-- The work of a tick for a running test, before the frame's samples are used: `at_` is the tick that latched them, `raw`
their codes. A spoke that is no longer idle stops the injection at the next tick; the channels' samples are substituted in every
injected and settling tick. -/
def State.adcTick (s : State) (at_ : Nat) (raw : Nat → Option Int) : State :=
  match s.bist.adc with
  | some a =>
    let t := if a.stopped.isNone && !s.adcIdle a.spoke then
        { s with bist := { s.bist with adc := some { a with stopped := some s.cc } } } else s
    let stop := (t.bist.adc.bind fun b => b.stopped).map fun q => (q + 1 + ccMod - a.start) % ccMod + adcSettle
    if (at_ + ccMod - a.start) % ccMod < stop.getD adcTicks then
      let t := t.each (a.samples.map Prod.fst) fun t n => t.modChan n fun c => { c with missing := true }
      match t.bist.adc with
      | some b => { t with bist := { t.bist with
          adc := some { b with samples := b.samples.map fun p => (p.1, p.2 ++ (raw p.1).toList) } } }
      | none => t
    else t
  | none => s

/-! ### Fuses (R477) -/

def checkProgramFuses (s : State) : Nat :=
  if !s.workstand then stNotNow else if fuseMax ≤ s.bist.fused.length then stFull else stOk

/-- PROGRAM_FUSES (R477): every pending repair for which a fuse is free is programmed into OTP. -/
def applyProgramFuses (v : Int) (s : State) : State :=
  if v ≠ 1 then s
  else
    let now := s.bist.fuseList.take (fuseMax - s.bist.fused.length)
    let rest := s.bist.fuseList.drop now.length
    let t := s.each now fun t _ => t.noticeOpen byDevice 0x1014
    { t with bist := { t.bist with fused := t.bist.fused ++ now, fuseList := rest } }.puts
      [(k38PendingFuseRepairs, rest.length), (k38FusesUsed, (s.bist.fused.length + now.length : Nat))]

def execProgramFuses (sid : Nat) (v : Int) (s : State) : Host.Outcome State Fault Refusal :=
  .next (s.writeRow sid k38ProgramFuses v (fun s => if v = 1 then checkProgramFuses s else stOk) (applyProgramFuses v))

/-- Fuse repairs are applied before any memory is used; soft ones are lost (R475, R477). -/
def State.applyFuses (s : State) : State :=
  let t := { s with bist := { s.bist with repairs := s.bist.fused, fuseList := [] } }
  t.puts [(k38PendingFuseRepairs, 0), (k38FusesUsed, s.bist.fused.length),
    (k38SoftRepairs 1, 0), (k38SoftRepairs 2, 0)]

/-- The chapter rule on writes of class 38h (R472, R475, R477). -/
def check38 (s : State) (i m : Nat) (v : Int) : Nat :=
  if i = 0 then (if m = 3 && v = 1 then checkProgramFuses s else stOk)
  else if m = 1 then
    (if ((s.shares.set (i - 2) v.toNat).sum) ≤ 16 then stOk else stOutOfRange)
  else if m = 3 then (if i ≤ 2 || v = 0 then stOk else stOutOfRange)
  else stOk

def apply38 (s : State) (k i m : Nat) (v : Int) : State := if i = 0 && m = 3 then applyProgramFuses v s else s.put k v

end Sys2Proof.Machine
end

