-- ==== Sys2Proof/Machine/Link.lean ====
section
/-! DEFINITION. The spoke links (R16-R27): packing and CRC of the frames, discarding, failure, retraining. The upstream
frame that arrives in frame n is processed by the engines in frame n + 1 (R18): the command UPSTREAM_FRAME stores it, the
next TICK uses it. -/

namespace Sys2Proof.Machine

/-- Fields of a frame, most significant first, as one bit string: (width, value) pairs to (bits, number). -/
def packFields (l : List (Nat × Nat)) : Nat × Nat :=
  l.foldl (fun a f => (a.1 + f.1, a.2 * 2 ^ f.1 + f.2 % 2 ^ f.1)) (0, 0)

/-- The bytes of a packed frame in transmission order (R499). -/
def fieldBytes (l : List (Nat × Nat)) : List Nat := let p := packFields l; bytesBE (p.1 / 8) p.2

/-- Zero padding of the clip flags to a multiple of 32 (R19). -/
def clipPad : Die → Nat
  | .a => 96
  | .b => 64

/-- The fields of an upstream frame before its CRC, in the order of R19; die B has no voltage, fast-tap and HX fields. -/
def upFields (d : Die) (f : UpFrame) : List (Nat × Nat) :=
  let isA := d = Die.a
  [(16, f.sync), (8, f.ccLow), (8, f.idFlags)] ++
    f.current.map (fun x => (24, pattern 24 x)) ++
    (if isA then f.voltage.map (fun x => (24, pattern 24 x)) else []) ++
    (if isA then f.fastTap.map (fun x => (16, pattern 16 x)) else []) ++
    f.clip.map (fun b => (1, if b then 1 else 0)) ++ [(clipPad d - f.clip.length, 0)] ++
    (List.range 12).flatMap (fun i =>
      (f.pilot.getD i []).map (fun x => (12, x)) ++ [(12, f.prox.getD i 0), (12, f.weld.getD i 0)] ++
        (f.readback.getD i []).map (fun x => (16, x))) ++
    (if isA then f.hx.map (fun x => (16, x)) else []) ++
    [(16, f.temp), (16, f.supply)]

/-- The low byte of CC and the identity and flags byte that the upstream frame latched at the last tick edge bears (R19): the
die in bits 7-4, bits 3-1 zero, bit 0 set when the downstream frame for that edge had been discarded. -/
def State.upHeader (s : State) (d : Die) : Nat × Nat :=
  (s.cc % 256, dieNum d * 16 + (if (s.dieLink d).edgeDiscarded then 1 else 0))

/-- Does a frame bear the header of its die and tick? The sync field's value is not given and is not looked at. A good CRC
over another header is treated as a frame that failed its CRC (DESIGN CHOICE, log entry 45). -/
def State.headerOk (s : State) (d : Die) (f : UpFrame) : Bool := (f.ccLow, f.idFlags) = s.upHeader d

/-- The CRC of an upstream frame (R16, R499). -/
def upCrc (d : Die) (f : UpFrame) : Nat := crc32 (fieldBytes (upFields d f))

/-- The fields of a downstream frame before its CRC (R20). -/
def downFields (d : Die) (f : DownFrame) : List (Nat × Nat) :=
  [(32, f.header)] ++ f.words.map (fun w => (48, w)) ++ (if d = Die.a then [(32, f.hx)] else [])

/-- The CRC of a downstream frame. -/
def downCrc (d : Die) (f : DownFrame) : Nat := crc32 (fieldBytes (downFields d f))

/-- The objects of a die's link: its state and its error count (R27). -/
def kLinkState : Die → Nat
  | .a => k00LinkAState
  | .b => k00LinkBState
def kLinkErrors : Die → Nat
  | .a => k00LinkAErrorCount
  | .b => k00LinkBErrorCount

/-- The direction's number in the value of 0110h and 0111h: upstream 0, downstream 1. The rule names die and direction,
not their places: die in bits 15-8, direction in bits 7-0 (DEDUCED, log entry 12). -/
def dirNum : LinkDir → Nat
  | .up => 0
  | .down => 1
def linkValue (d : Die) (dir : LinkDir) : Nat := dieNum d * 256 + dirNum dir

/-- Channels whose samples an upstream frame of a die carries, in sample order (R19). -/
def dieChannels (d : Die) : List Nat :=
  (List.range 60).map (fun n => dieBase d * 5 + n) ++ (if d = Die.a then (List.range 32).map (120 + ·) else [])

/-- Does a decimated sample stand at a limit of the output (R117)? -/
def atLimit (x : Int) : Bool := pattern 24 x = 8388608 || pattern 24 x = 8388607

/-- Ticks for which a clip flag stays after the input returns (R117). -/
def clipTicks : Nat := 2

/-- A channel clips in a tick (R117): as its die's flag says, or its sample stands at a limit of the output, or one did within the two
ticks before. The flag, the count, and notice 0410h at the first tick of a run. -/
def State.clipFlag (s : State) (n : Nat) (x : Int) (flag : Bool) : State :=
  let was := s.flag (k08Clipped n)
  let tail := (s.chan n).clipTail
  let clips := flag || atLimit x || 0 < tail
  let t := (s.modChan n fun c => { c with clipTail := if atLimit x then clipTicks else tail - 1 }).put (k08Clipped n) (b1 clips)
  if clips then (t.count (k08ClipCount n)).when (!was) fun t => t.notice byDevice 0x0410 n else t

/-- Clip information of a good frame. -/
def State.clipFlags (s : State) (d : Die) (f : UpFrame) : State :=
  s.each ((dieChannels d).zip (((f.current ++ f.voltage).zip f.clip))) fun s p => s.clipFlag p.1 p.2.1 p.2.2

/-- The readback words of a good frame (R281): the last word, the current in 20 mA steps and HOT of every channel. -/
def State.readbacks (s : State) (l : List (Nat × Nat)) : State :=
  s.each l fun s p =>
    s.puts [(k1CReadback p.1, p.2), (k1CCurrent p.1, (20 * field p.2 7 0 : Nat)), (k1CHot p.1, b1 (bit p.2 12))]

/-- The readback words of a frame with their channel numbers (R276). -/
def frameReadbacks (d : Die) (f : UpFrame) : List (Nat × Nat) :=
  (List.range 12).flatMap (fun i =>
    (f.readback.getD i []).zipIdx.map fun x => (4 * (dieBase d + i) + x.2, x.1)) ++
    (if d = Die.a then f.hx.zipIdx.map (fun x => (96 + x.2, x.1)) else [])

/-- Is a link's die present (R26)? -/
def State.diePresent (s : State) (d : Die) : Bool := d = Die.a || s.variant = .trt24

/-- UPSTREAM_FRAME (R19, R21): a good frame is stored for the engines of the next frame; one that fails its CRC is
discarded whole, its samples are missing and counted as substituted. -/
def upstreamFrame (d : Die) (f : UpFrame) (crc : Nat) (s : State) : State :=
  if !s.diePresent d then s
  else if crc = upCrc d f && s.headerOk d f then
    ((s.modDie d fun l => { l with up := some f, upLost := false, upFails := 0 }).clipFlags d f).readbacks
      (frameReadbacks d f)
  else
    let t := (s.modDie d fun l => { l with up := none, upLost := true, upFails := l.upFails + 1 }).count (kLinkErrors d)
    (t.each (dieChannels d) fun t n => t.count (k08SubstitutionCount n)).notice byDevice 0x0110 (linkValue d .up)

def execUpstreamFrame (d : Die) (f : UpFrame) (crc : Nat) (s : State) : Host.Outcome State Fault Refusal :=
  .next (upstreamFrame d f crc s)

/-- DOWNSTREAM_FRAME (R20, R21): the spoke die holds the commands of a good frame for the next tick edge; one that fails
its CRC leaves the held commands, and no OPT bit acts (R279). -/
def downstreamFrame (d : Die) (f : DownFrame) (crc : Nat) (s : State) : State :=
  if !s.diePresent d then s
  else if crc = downCrc d f then
    s.modDie d fun l => { l with held := f.words, heldHx := if d = Die.a then f.hx else l.heldHx, fresh := true,
                                 discarded := false, downFails := 0, seen := true, cut := false }
  else
    ((s.modDie d fun l => { l with discarded := true, fresh := false, downFails := l.downFails + 1 }).count
      (kLinkErrors d)).notice byDevice 0x0110 (linkValue d .down)

def execDownstreamFrame (d : Die) (f : DownFrame) (crc : Nat) (s : State) : Host.Outcome State Fault Refusal :=
  .next (downstreamFrame d f crc s)

/-- The switch channels of a die's spokes. -/
def dieSwitches (s : State) (d : Die) : List Nat :=
  (List.range 48).filterMap fun n =>
    let c := 4 * dieBase d + n
    if c / 4 < s.spokeCount then some c else none


/-- A lease or a stop order that ends at once and unreclaimed (R24, R326). -/
def State.endLease (s : State) : State :=
  if s.getN k1DLeaseState = 0 then s
  else
    let t := { s with lease := { s.lease with startAt := none, unreclaimed := true } }
    let t := t.each t.spokeList fun t sp => t.modGate sp fun g => { g with stopOrder := false }
    if t.lease.fwUp then t.put k1DLeaseState 0 else t.put k1DLeaseState 3

/-- Consecutive failures that fail a link (R22). -/
def linkFailCount : Nat := 3

/-- LINK_RETRAINED (R25): a failed link runs again; the fault stays until it is cleared (R313). State 0, training, is never
shown: no rule says when a link that retrains reads 0, so it reads 2 until it is good again (DESIGN CHOICE, log entry 12). -/
def linkRetrained (d : Die) (s : State) : State :=
  if s.getN (kLinkState d) = 1 || !s.diePresent d then s
  else (s.put (kLinkState d) 1).modDie d fun l => { l with upFails := 0, downFails := 0 }

def execLinkRetrained (d : Die) (s : State) : Host.Outcome State Fault Refusal := .next (linkRetrained d s)

end Sys2Proof.Machine
end

