-- ==== Sys2Proof/Machine/Pilot.lean ====
section
/-! DEFINITION. The spoke pilot and proximity interface (R201-R217): what the die drives, plateau sampling, state and diode
detection, pilot condition, proximity, weld sensing. Times within a period are in 1/512 us: a tick is 64,000, a period
512,000, a MOD period 125, the duty step 256. -/

namespace Sys2Proof.Machine

/-! ### Duty encoding (R205) -/

/-- The current a DUTY encodes, in mA; 0 where the table gives none. -/
def decodedCurrent (d : Nat) : Nat :=
  if 160 ≤ d && d ≤ 199 then 6000
  else if 200 ≤ d && d ≤ 1700 then d * 30
  else if 1701 ≤ d && d ≤ 1920 then d * 125 - 160000
  else 0

/-- The DUTY that encodes a current limit in mA; none below 6,000 mA. -/
def encodeDuty (i : Int) : Option Nat :=
  if i < 6000 then none
  else if 80000 ≤ i then some 1920
  else if 52625 ≤ i then some ((i + 160000) / 125).toNat
  else if 51000 ≤ i then some 1700
  else some (i / 30).toNat

/-! ### What the die drives (R203, R204) -/

def State.pmode (s : State) (sp : Nat) : Nat := s.getN (k18PilotModeInForce sp)

/-- DUTY 0 and 2000 of the PWM modes are steady -12 V and +12 V (R203). -/
def effMode (mode duty : Nat) : Nat :=
  if mode = 2 || mode = 4 then (if duty = 0 then 3 else if 2000 ≤ duty then 1 else mode) else mode

def pwmMode (m : Nat) : Bool := m = 2 || m = 4

/-- The falling edge of a period, placed to the nearest MOD period (R204). -/
def fallAt (duty : Nat) : Nat := (256 * duty * 2 + 125) / 250 * 125

/-- The buffers on entry to a mode (R207): 000b and 011b empty both, 001b the low one. -/
def clearBuffers (mode : Nat) (p : Pilot) : Pilot :=
  if mode = 0 || mode = 3 then { p with high := [], low := [], skipHigh := 2, skipLow := 2 }
  else if mode = 1 then { p with low := [], skipLow := 2 } else p

/-- The driven mode and duty change; the mode is reported as R203 says, the decoded current follows (R205, 18h/s/6-7). -/
def State.drivePilot (s : State) (sp mode duty : Nat) : State :=
  let t := if (s.spoke sp).pilot.drivenMode = mode then s else s.modPilot sp (clearBuffers mode)
  (t.puts [(k18PilotModeInForce sp, effMode mode duty),
    (k18DecodedCurrent sp, if pwmMode mode then (decodedCurrent duty : Nat) else 0)]).modPilot
    sp fun p => { p with drivenMode := mode, drivenDuty := duty }

/-- The spoke die removes all drive by itself (R22): KH, KL, LK and AX off and every pilot of the die at steady -12 V, a
running period cut as a command to PMODE 011b cuts it (R204). -/
def State.dieCut (s : State) (d : Die) : State :=
  let t := (s.modDie d fun l => { l with cut := true, held := [] }).each (dieSwitches s d)
    fun t n => t.modSwitch n fun w => { w with applied := 0 }
  t.each (t.spokeList.filter fun sp => dieOf sp = d) fun t sp =>
    (t.modPilot sp fun p => { p with heldMode := 3 }).drivePilot sp 3 (t.spoke sp).pilot.heldDuty

/-- SPOKE_LINK_FAILED (R22-R24): after three consecutive frames of one direction that failed their CRC the link has
failed: a device safety fault (R313), notice 0111h, the end of a running lease; on downstream failures the die also cuts
its outputs by itself, be the link failed in the other direction already. -/
def spokeLinkFailed (d : Die) (dir : LinkDir) (s : State) : State :=
  let l := s.dieLink d
  let fails := match dir with | .up => l.upFails | .down => l.downFails
  if fails < linkFailCount || !s.diePresent d then s
  else
    let t := if dir = .down && !l.cut then s.dieCut d else s
    if s.getN (kLinkState d) = 2 then t
    else (((t.put (kLinkState d) 2).deviceFault (dieNum d)).notice byDevice 0x0111 (linkValue d dir)).endLease

def execSpokeLinkFailed (d : Die) (dir : LinkDir) (s : State) : Host.Outcome State Fault Refusal :=
  .next (spokeLinkFailed d dir s)

/-- The spoke die takes PMODE and DUTY of a downstream word (R20, R204): DUTY above 2000 is refused, modes 000b and 011b
are driven at once, any other change waits for the rising edge. The codes 101b-111b stand in no row of R20's table: the die
keeps the mode it holds, as it does for a DUTY it refuses (DESIGN CHOICE, log entry 46). -/
def State.holdPilot (s : State) (sp w : Nat) : State :=
  let duty := field w 47 37
  let mode := field w 36 34
  let old := (s.spoke sp).pilot
  let hd := if duty ≤ 2000 then duty else old.heldDuty
  let hm := if mode ≤ 4 then mode else old.heldMode
  let t := (s.modPilot sp fun p => { p with heldMode := hm, heldDuty := hd }).put (k18DutyInForce sp) hd
  if hm = 0 || hm = 3 then t.drivePilot sp hm hd else t

/-- PILOT_PERIOD_START (R204): at a tick with CC mod 8 = s mod 8 the held command starts the next period. -/
def pilotPeriodStart (sp : Nat) (s : State) : State :=
  if s.cc % 8 = sp % 8 && sp < s.spokeCount then
    let p := (s.spoke sp).pilot
    s.drivePilot sp p.heldMode p.heldDuty
  else s

def execPilotPeriodStart (sp : Nat) (s : State) : Host.Outcome State Fault Refusal := .next (pilotPeriodStart sp s)

/-! ### Sampling (R206, R207) -/

/-- Level at a time within the period: `some true` high, `some false` low, none in mode 000b. -/
def levelAt (mode duty t : Nat) : Option Bool :=
  match effMode mode duty with
  | 0 => none
  | 1 => some true
  | 3 => some false
  | _ => some (t < fallAt duty)

/-- Level at the end of a frame. -/
def Wave.endLevel (w : Wave) : Option Bool := levelAt w.mode w.duty (w.phase * 64000 + 63999)

/-- Time since the last edge at the end of a frame. -/
def Wave.endAge (w : Wave) : Nat :=
  let f := fallAt w.duty
  if pwmMode (effMode w.mode w.duty) && w.phase * 64000 ≤ f && f < (w.phase + 1) * 64000 then (w.phase + 1) * 64000 - f
  else min 1000000 (w.age + 64000)

/-- The waveform of the frame that just ended, from what is driven and the frame before it. -/
def nextWave (sp frame : Nat) (prev : Wave) (mode duty : Nat) : Wave :=
  let phase := (frame + 8 - sp % 8) % 8
  let start := levelAt mode duty (phase * 64000)
  { mode := mode, duty := duty, phase := phase, age := if start = prev.endLevel then prev.endAge else 0 }

/-- Class of sample `j` of a frame with a waveform (R206): at least 20 us after the last pilot edge and at least 2 us before
the next. -/
def sampleClass (w : Wave) (j : Nat) : Option Bool :=
  let off := (2 * j + 1) * 4000
  let t := w.phase * 64000 + off
  let f := fallAt w.duty
  let pwm := pwmMode (effMode w.mode w.duty)
  match levelAt w.mode w.duty t with
  | none => none
  | some h =>
    let fell := pwm && w.phase * 64000 ≤ f && f ≤ t
    let sinceEdge := if fell then t - f else w.age + off
    let untilEdge := if pwm && h then f - t else if pwm then 512000 - t else 64000 - off
    if 10240 ≤ sinceEdge && 1024 ≤ untilEdge then some h else none

/-- A sample enters a buffer of the last 8. -/
def enter8 (b : List Nat) (x : Nat) : List Nat := (x :: b).take 8

/-- The eight samples of a frame enter the plateau buffers; those taken before a buffer was emptied do not enter it. -/
def enterSamples (w : Wave) (codes : List Nat) (p : Pilot) : Pilot :=
  codes.zipIdx.foldl (fun p x =>
    match sampleClass w x.2 with
    | some true => if p.skipHigh = 0 then { p with high := enter8 p.high x.1 } else p
    | some false => if p.skipLow = 0 then { p with low := enter8 p.low x.1 } else p
    | none => p) p

/-- The median of a full buffer as the sum of its fourth and fifth values in ascending order (R207). -/
def medianSum (b : List Nat) : Option Nat :=
  if b.length < 8 then none
  else
    let l := b.mergeSort (fun x y => x ≤ y)
    some (l.getD 3 0 + l.getD 4 0)

/-- The plateau value in mV, rounded toward zero (R206, R207). -/
def plateau (b : List Nat) : Option Int := (medianSum b).map fun m => (((m : Int) - 4096) * 125).tdiv 32

/-! ### State and diode (R208-R211) -/

/-- Boundaries between the bands Invalid, A, B, C, D, E, Invalid in mV, from the top (R208). -/
def bandBounds : List Int := [13500, 10500, 7500, 4500, 1500, -1500]

/-- State code of a band. -/
def bandState (b : Nat) : Nat := [7, 0, 1, 2, 3, 4, 7].getD b 7

/-- Does a value lie above boundary `j` for filtered state `f` (R208, hysteresis and boundary rules)? -/
def aboveBound (f j : Nat) (v : Int) : Bool :=
  let b0 := bandBounds.getD j 0
  let up := bandState j
  let dn := bandState (j + 1)
  let b := if f = up then b0 - 250 else if f = dn then b0 + 250 else b0
  if v > b then true
  else if v < b then false
  else if up = 7 then false
  else if dn = 7 then true
  else f = up

/-- The band state of a high-plateau value. -/
def bandOf (f : Nat) (v : Int) : Nat :=
  match (List.range 6).find? fun j => aboveBound f j v with
  | some j => bandState j
  | none => 7

/-- Does the low plateau lie below the range of R210? Without a value it does not. -/
def below : Option Int → Bool
  | some v => v < -13500
  | none => false

/-- The candidate state (R208, R210): F and "not driven" follow the command, then in PWM the low-plateau override, then the
band of the high plateau; without a value the filtered state stands. -/
def pilotCandidate (f mode duty : Nat) (high low : Option Int) : Nat :=
  if mode = 0 then 6
  else if effMode mode duty = 3 then 5
  else if pwmMode (effMode mode duty) && below low then 7
  else match high with
    | some v => bandOf f v
    | none => f

/-- An entry into state B from a state other than C and D is the spoke's entry time and ends its attempts (R246); in a reset of the core
domain the count of attempts keeps its value until the restart (R244). -/
def State.newEntry (s : State) (sp old v : Nat) : State :=
  if v = 1 && old ≠ 2 && old ≠ 3 then
    (s.when s.lease.fwUp fun s => s.put (k1AFailedAttempts sp) 0).modVLink sp fun l =>
      { l with entry := some s.cc, entered := !s.lease.fwUp }
  else s

/-- The filtered state changes (R209). -/
def State.setPilotState (s : State) (sp v : Nat) : State :=
  let s := s.newEntry sp (s.getN (k18PilotState sp)) v
  let t := (((s.put (k18PilotState sp) v).count (k18StateChanges sp)).put (k18LastChangeTick sp) s.cc).raise sp fPilot
  if v = 4 then t.notice byDevice 0x0601 sp else if v = 7 then t.notice byDevice 0x0602 sp else t

def State.pilotState (s : State) (sp : Nat) : Nat := s.getN (k18PilotState sp)

/-- The filter of R209: unfiltered to and out of F and "not driven"; else FILT equal candidates in evaluations whose frame
was not discarded. -/
def State.filterPilot (s : State) (sp : Nat) (fresh : Bool) : State :=
  let p := (s.spoke sp).pilot
  let f := s.pilotState sp
  let c := pilotCandidate f (s.pmode sp) p.drivenDuty (plateau p.high) (plateau p.low)
  let driven := fun (x : Nat) => x = 5 || x = 6
  if c ≠ f && (driven c || driven f) then
    (s.setPilotState sp c).modPilot sp fun p => { p with cand := c, candRun := 0 }
  else if !fresh then s
  else
    let run := if c = p.cand then p.candRun + 1 else 1
    let t := s.modPilot sp fun p => { p with cand := c, candRun := run }
    if c ≠ f && s.getN (k18StateFilter sp) ≤ run then t.setPilotState sp c else t

/-- The diode status before its filter (R210); `cur` is the status in force. -/
def diodeCandidate (cur f mode duty : Nat) (low : Option Int) : Nat :=
  if !pwmMode (effMode mode duty) then 0
  else match low with
    | none => 0
    | some v =>
      if !(f = 1 || f = 2 || f = 3) || v < -13500 then 0
      else
        let b : Int := if cur = 1 then -10250 else if cur = 2 then -10750 else -10500
        if v ≤ b then 1 else 2

/-- The diode status (R210): the change between 1 and 2 is filtered as R209, any other is immediate. -/
def State.filterDiode (s : State) (sp : Nat) (fresh : Bool) : State :=
  let p := (s.spoke sp).pilot
  let cur := s.getN (k18DiodeStatus sp)
  let c := diodeCandidate cur (s.pilotState sp) (s.pmode sp) p.drivenDuty (plateau p.low)
  let set := fun (t : State) =>
    let t := (t.put (k18DiodeStatus sp) c).raise sp fPilot
    if c = 2 then (t.count (k18DiodeFaults sp)).notice byDevice 0x0603 sp else t
  if c = cur then s.modPilot sp fun p => { p with dioRun := 0 }
  else if cur = 0 || c = 0 then set (s.modPilot sp fun p => { p with dioRun := 0 })
  else if !fresh then s
  else
    let run := if c = p.dioCand then p.dioRun + 1 else 1
    let t := s.modPilot sp fun p => { p with dioCand := c, dioRun := run }
    if s.getN (k18StateFilter sp) ≤ run then set (t.modPilot sp fun p => { p with dioRun := 0 }) else t

/-- The pilot condition (R211). -/
def State.pilotCondition (s : State) (sp : Nat) : Bool :=
  let f := s.pilotState sp
  let d := (s.spoke sp).pilot.drivenDuty
  let l := s.linkState sp
  (f = 2 || f = 3) && s.getN (k18DiodeStatus sp) = 1 && pwmMode (s.pmode sp) &&
    ((160 ≤ d && d ≤ 1920) || (60 ≤ d && d ≤ 140 && (l = 3 || l = 4)))

/-! ### Proximity (R213-R215) -/

/-- Resistance from a code (R214), rounded down. -/
def ppOhms (c : Nat) : Nat := if 4096 ≤ c then 4095000 else 1000 * c / (4096 - c)

/-- Proximity state and cable rating of a resistance (R214). -/
def ppClass (r : Nat) : Nat × Nat :=
  if 4500 ≤ r then (0, 0)
  else if 1100 ≤ r && r ≤ 2459 then (1, 13000)
  else if 400 ≤ r && r ≤ 935 then (2, 20000)
  else if 164 ≤ r && r ≤ 307 then (3, 32000)
  else if 75 ≤ r && r ≤ 139 then (4, 63000)
  else if r < 75 then (6, 0)
  else (5, 0)

/-- Ticks for which a new classification must stand (R214). -/
def ppTicks : Nat := 80

/-- The reported classification changes (R214). -/
def State.setProximity (s : State) (sp v rating : Nat) : State :=
  let t := (s.puts [(k18ProximityState sp, v), (k18CableRating sp, rating)]).raise sp fPilot
  let t := if v = 5 || v = 6 then t.notice byDevice 0x0604 sp else t
  if s.getN (k1CCommand (4 * sp)) = 1 && s.getN (k1CCommand (4 * sp + 1)) = 1 then t.notice byDevice 0x0605 sp else t

/-- The proximity sample of a frame (R213-R215). -/
def State.proximity (s : State) (sp : Nat) (code : Option Nat) : State :=
  let s := match code with
    | some c => s.modPilot sp fun p => { p with pp := enter8 p.pp c }
    | none => s
  match medianSum (s.spoke sp).pilot.pp with
  | none => s
  | some m =>
    let r := ppOhms (m / 2)
    let t := s.put (k18ProximityResistance sp) r
    if t.getN (k18OutletKind sp) = 1 then t.modPilot sp fun p => { p with ppRun := 0 }
    else
      let c := ppClass r
      let p := (t.spoke sp).pilot
      let run := if c.1 = p.ppCand then p.ppRun + 1 else 1
      let t := t.modPilot sp fun p => { p with ppCand := c.1, ppRun := run }
      if c.1 ≠ t.getN (k18ProximityState sp) && ppTicks ≤ run then t.setProximity sp c.1 c.2 else t

/-- A tethered spoke reports state 7 and its own rating (R215). -/
def State.tethered (s : State) (sp : Nat) : State :=
  if s.getN (k18OutletKind sp) = 1 then
    let t := s.put (k18CableRating sp) (s.get (k18TetheredRating sp))
    if t.getN (k18ProximityState sp) = 7 then t else (t.put (k18ProximityState sp) 7).raise sp fPilot
  else s

/-! ### Weld sensing (R216, R217) -/

def weldTicks : Nat := 160

/-- The weld-sense state from the largest code, the thresholds and whether the window is full. -/
def weldState (wsmax dead live : Nat) (full : Bool) : Nat :=
  if wsmax < 82 then 3 else if wsmax < dead then (if full then 0 else 2) else if wsmax < live then 2 else 1

/-- The weld-sense sample of a tick; none = absent. -/
def State.weldSense (s : State) (sp : Nat) (code : Option Nat) : State :=
  let w := (code :: (s.spoke sp).pilot.weld).take weldTicks
  let present := w.filterMap id
  let mx := present.foldl max 0
  let st := weldState mx (s.getN (k18DeadThreshold sp)) (s.getN (k18LiveThreshold sp)) (present.length = weldTicks)
  let was := s.getN (k18WeldSenseState sp)
  let t := (s.modPilot sp fun p => { p with weld := w }).puts [(k18WeldSenseMaximum sp, mx), (k18WeldSenseState sp, st)]
  if st = 3 && was ≠ 3 then t.notice byDevice 0x0606 sp else t

/-! ### The work of a frame -/

/-- The frame that just ended joins the waveform history (before the die applies its commands). -/
def State.rememberWave (s : State) (sp : Nat) : State :=
  s.modPilot sp fun p =>
    { p with wave2 := p.wave1, wave1 := nextWave sp s.cc p.wave1 p.drivenMode p.drivenDuty,
             skipHigh := p.skipHigh - 1, skipLow := p.skipLow - 1 }

/-- Pilot samples, proximity and weld sense of a spoke from the last upstream frame of its die (R206, R207, R213, R217). -/
def State.senseSpoke (s : State) (sp : Nat) : State :=
  let i := sp - dieBase (dieOf sp)
  match (s.dieLink (dieOf sp)).up with
  | some f =>
    let t := s.modPilot sp fun p => enterSamples p.wave2 (f.pilot.getD i []) p
    ((t.proximity sp (f.prox[i]?)).tethered sp).weldSense sp (f.weld[i]?)
  | none => ((s.proximity sp none).tethered sp).weldSense sp none

/-- Published plateau values (18h/s/3-4). -/
def State.showPlateaus (s : State) (sp : Nat) : State :=
  let p := (s.spoke sp).pilot
  s.puts [(k18HighPlateau sp, (plateau p.high).getD 0), (k18LowPlateau sp, (plateau p.low).getD 0)]

/-- State detection in the safety evaluation of a frame (R208-R211). -/
def State.evalPilot (s : State) (sp : Nat) : State :=
  let fresh := (s.dieLink (dieOf sp)).up.isSome
  let t := ((s.showPlateaus sp).filterPilot sp fresh).filterDiode sp fresh
  t.put (k18PilotCondition sp) (b1 (t.pilotCondition sp))

/-- The chapter rule on writes of class 18h: the weld-sense thresholds (R217). -/
def check18 (s : State) (i m : Nat) (v : Int) : Nat :=
  if m = 15 then (if s.get (k18DeadThreshold i) + 82 ≤ v then stOk else stOutOfRange)
  else if m = 16 then (if 164 ≤ v && v + 82 ≤ s.get (k18LiveThreshold i) then stOk else stOutOfRange)
  else stOk

/-- The effect of a write of class 18h: a new FILT restarts the count of the running candidate (R209). -/
def apply18 (s : State) (k i m : Nat) (v : Int) : State :=
  if m = 17 then (s.put k v).modPilot i fun p => { p with candRun := 0, dioRun := 0 } else s.put k v

end Sys2Proof.Machine
end

