-- ==== Sys2Proof/Machine/Trig.lean ====
section
/-! DEFINITION. The trigonometry and the high-pass filter of the metering engine (R128 step 5, R133). A rule that states a
cosine, an argument or a corner frequency fixes the number but for the arithmetic of the engine, which no rule states: each
result is the exact one, computed here to better than 2^-40, with a free error of at most 2^-40 (log entry 10). -/

namespace Sys2Proof.Machine

/-- Pi to 20 digits. -/
def piQ : Rat := 314159265358979323846 / 100000000000000000000

/-- A free error held within 2^-40. -/
def slight (e : Rat) : Rat := max (-1 / 1099511627776) (min (1 / 1099511627776) e)

/-- The power series of degree `2 * n + p` whose terms are `x^(2k+p) * (-1)^k` over `f k`. -/
def altSeries (f : Nat → Nat) (p : Nat) (x : Rat) (n : Nat) : Rat :=
  (List.range n).foldl (fun a k => a + (if k % 2 = 0 then 1 else -1) * x ^ (2 * k + p) / (f k : Rat)) 0

/-- The fraction of a turn. -/
def fracTurn (t : Rat) : Rat := t - t.floor

/-- Cosine and sine of an angle in turns. -/
def cosTurn (t : Rat) : Rat :=
  altSeries (fun k => (2 * k).factorial) 0 (2 * piQ * fracTurn t) 24 + slight (Config.trigError 0 t)
def sinTurn (t : Rat) : Rat :=
  altSeries (fun k => (2 * k + 1).factorial) 1 (2 * piQ * fracTurn t) 24 + slight (Config.trigError 1 t)

/-- The arctangent of a number between 0 and 1, in radians: above 0.4 through atan x = pi/4 + atan ((x - 1) / (x + 1)). -/
def atan01 (x : Rat) : Rat :=
  if x ≤ 2 / 5 then altSeries (fun k => 2 * k + 1) 1 x 24
  else piQ / 4 + altSeries (fun k => 2 * k + 1) 1 ((x - 1) / (x + 1)) 24

/-- The argument of a phasor in degrees, above -180 and up to 180; that of 0 is stated by no rule and free. -/
def phaseAngle (re im : Rat) : Rat :=
  if re = 0 && im = 0 then max (-180) (min 180 Config.angleOfZero)
  else
    let a := |re|
    let b := |im|
    let first := if b ≤ a then atan01 (b / a) else piQ / 2 - atan01 (a / b)
    let upper := if 0 ≤ re then first else piQ - first
    (if 0 ≤ im then upper else -upper) * 180 / piQ + slight (Config.trigError 2 (re / (a + b)))

/-- The pole of a first-order high-pass filter with its corner at 0.25 Hz, at 8,000 samples a second: 1 - pi/16,000, and its
gain 1, each but for the form of the discrete filter, which no rule states and which moves the pole by less than 1/10^7 and the
gain by less than 2/10^4. -/
def highPassPole : Rat := 1 - piQ / 16000 + max (-1 / 10000000) (min (1 / 10000000) Config.poleError)
def highPassGain : Rat := 1 - max 0 (min (1 / 5000) Config.gainError)

/-- Step 5 of R128: previous input, previous output, input. -/
def highPass (xp yp x : Rat) : Rat := highPassPole * yp + highPassGain * (x - xp)

end Sys2Proof.Machine
end

