-- ==== Sys2Proof/Machine/Channels.lean ====
section
/-! DEFINITION. Measurement channels and the seal (R110-R127): samples and substitution, the channel pipeline (R115, R128,
R129), the settings of classes 08h, 09h and 0Dh, the seal and the calibration checksum. -/

namespace Sys2Proof.Machine

/-! ### Samples (R19, R21, R52, R117, R125) -/

/-- The die whose upstream frame carries a channel (R19). -/
def chanDie (n : Nat) : Die := if n < 60 || 120 ≤ n then .a else .b

/-- A sample as its 24 bits carry it (R111). -/
def sample24 (x : Int) : Int := signed 24 (pattern 24 x)

/-- The sample of a channel in the upstream frame of the last tick; none = missing. -/
def State.rawSample (s : State) (n : Nat) : Option Int :=
  Option.map sample24 <|
    if n < 60 then s.linkA.up.bind fun f => f.current[n]?
    else if n < 120 then s.linkB.up.bind fun f => f.current[n - 60]?
    else s.linkA.up.bind fun f => f.voltage[n - 120]?

/-- An exact mean rounded to the nearest code, halves away from zero (08h/n/7). -/
def awayMean (sum : Int) (n : Nat) : Int :=
  if n = 0 then 0
  else if sum ≥ 0 then (2 * sum + n) / (2 * n) else -((2 * (-sum) + n) / (2 * n))

/-- Samples of the raw mean. -/
def meanTicks : Nat := 8000

/-- A channel takes the sample of a tick: a missing one is substituted by the last valid sample (R21), flagged, and counted
unless the discarded frame has counted it. -/
def State.takeSample (s : State) (n : Nat) : State :=
  let c := s.chan n
  let raw := if c.missing then none else s.rawSample n
  let counted := (s.dieLink (chanDie n)).upLost
  let x := raw.getD c.lastValid
  let ring := (x :: c.ring).take meanTicks
  let t := s.modChan n fun c =>
    { c with lastValid := x, latched := x, subst := raw.isNone || c.unreached, missing := false, ring := ring }
  let t := t.put (k08RawMean n) (awayMean ring.sum ring.length)
  if raw.isNone && !counted then t.count (k08SubstitutionCount n) else t

/-! ### The pipeline (R115, R128, R129) -/

/-- A Q48 value as a number (R101). -/
def unQ48 (v : Int) : Rat := (v : Rat) / 16777216

/-- The voltage group of a channel: its spoke's, or its own. -/
def State.chanGroup (s : State) (n : Nat) : Nat := if n < 120 then s.getN (k09SpokeGroup (32 + n / 5)) else (n - 120) / 4

/-- The integrator gain in force as a Q48 pattern: the written one, or the default for the nominal frequency (R115). -/
def State.integratorGain (s : State) (n : Nat) : Int :=
  let v := s.get (k0DIntegratorGain n)
  if v ≠ noGain then v else if s.getN (k09NominalFrequency (s.chanGroup n)) = 0 then 658924 else 790754

/-- The integrator (R115). -/
def integrate (k : Nat) (ig y x xp : Rat) : Rat := (1 - 1 / 2 ^ k) * y + ig * (x + xp) / 2

/-- Coefficient `i` of the four-tap cubic Lagrange interpolator for a delay `d` (R128 step 3). -/
def lagrange (d : Rat) (i : Nat) : Rat :=
  ((List.range 4).filter (· ≠ i)).foldl (fun a j => a * (d - j) / ((i : Rat) - j)) 1

/-- The interpolated value of the last four samples, newest first. -/
def interpolate (d : Rat) (taps : List Rat) : Rat :=
  (List.range 4).foldl (fun a i => a + lagrange d i * taps.getD i 0) 0

/-- Steps 1-6 of R128 on the sample that the channel holds. -/
def State.pipeline (s : State) (n : Nat) : State :=
  let ty := s.typeOf n
  let c := s.chan n
  let x : Rat := c.lastValid
  let y := integrate (s.getN (k08LeakShift n)) (unQ48 (s.integratorGain n)) c.y x c.xPrev
  let v := if ty = 3 then y else x
  let gain := unQ48 (s.get (k0DGain n))
  let taps := (v * gain :: c.taps).take 4
  let delayed := interpolate (2 + unQ48 (s.get (k0DPhase n))) taps
  let clean := delayed - (s.get (k0DOffset n) : Rat) * gain
  let hp := highPass c.hpIn c.hpOut clean
  let code := if ty = 4 then clean else hp
  let scale : Rat := (s.getN (k08FullScale n) : Rat) / 8388608
  s.modChan n fun c =>
    { c with xPrev := c.lastValid, y := if ty = 3 then y else c.y, taps := taps, hpIn := clean, hpOut := hp,
             out := code * scale, dc := clean * scale }

/-- A channel that does not run reads 0 everywhere (R114). -/
def Chan.off (c : Chan) : Chan :=
  { c with out := 0, dc := 0, latched := 0, subst := false, missing := false, unreached := false }

/-- The work of the metering engine on a channel in a frame: a channel of type 0 is off; in Coast a current channel is stopped
(R125, R452) and keeps the samples of its raw mean; one that an overrun did not reach keeps its values (R42). -/
def State.runChannel (s : State) (n : Nat) : State :=
  if s.typeOf n = 0 then (s.modChan n fun c => { c.off with ring := [] }).puts [(k08RawMean n, 0), (k08ChannelState n, 0)]
  else if n < 120 && s.coasting then (s.modChan n Chan.off).put (k08ChannelState n) 2
  else
    let t := (s.put (k08ChannelState n) 1).takeSample n
    if (s.chan n).unreached then t else t.pipeline n

/-- The processed value of a channel: mA or mV. -/
def State.outOf (s : State) (n : Nat) : Rat := (s.chan n).out

/-- The computed residual of a spoke (R129): I1, I2, I3 and IN after step 4. -/
def State.computedResidual (s : State) (sp : Nat) : Rat :=
  (List.range 4).foldl (fun a c => a + (s.chan (5 * sp + c)).dc) 0

/-! ### Calibration (R124) -/

/-- The settings of the sealed calibration section in ascending order of class, instance and member. -/
def sealedKeys (v : Variant) : List Nat :=
  (v.channels.flatMap fun n => (if n < 120 && n % 5 = 4 then [3] else [0, 1, 2, 3]).map fun m => key 0x08 n m) ++
    ((List.range 8).flatMap fun g => [0, 1, 2].map fun m => key 0x09 g m) ++ [key 0x09 8 0] ++
    ((List.range v.spokes).map fun sp => key 0x09 (32 + sp) 0) ++
    ((List.range v.spokes).map fun sp => key 0x0A sp 28) ++
    ((List.range (24 * v.spokes)).map fun r => key 0x0B r 2) ++
    (v.channels.flatMap fun n => (if n < 120 && n % 5 = 4 then [3] else [0, 1, 2, 3]).map fun m => key 0x0D n m)

/-- The value of a sealed setting as it stands in force. -/
def State.sealedValue (s : State) (k : Nat) : Int :=
  if keyClass k = 0x0D && keyMember k = 3 then s.integratorGain (keyInst k) else s.get k

/-- The calibration checksum (R124). -/
def State.calChecksum (s : State) : Nat :=
  crc32 ((sealedKeys s.variant).flatMap fun k => wordBytes (pattern 48 (s.sealedValue k)))

/-- Is an object a setting of the sealed calibration section? -/
def isSealedSetting (c i m : Nat) : Bool :=
  (c = 0x08 || c = 0x0D) && i < 152 && m ≤ 3 && !(i < 120 && i % 5 = 4 && m ≤ 2) ||
    c = 0x09 && ((i < 8 && m ≤ 2) || (i = 8 && m = 0) || (32 ≤ i && i ≤ 55 && m = 0)) ||
    c = 0x0A && m = 28 || c = 0x0B && i < 576 && m = 2

/-- An accepted write to a setting of the sealed section: checksum, notice 0432h, time of the calibration. -/
def State.calibrated (s : State) (sid k : Nat) : State :=
  let t := (s.put k0DCalibrationChecksum s.calChecksum).notice sid 0x0432 k
  if t.timeValid then t.put k0DLastCalibrationTime t.wallNext else t

/-! ### Settings of classes 08h, 09h and 0Dh -/

/-- Is a sensor type permitted on a channel (R114)? -/
def typePermitted (n ty : Nat) : Bool :=
  match chanKind n with
  | 0 => ty ≤ 3
  | 1 => ty = 0 || ty = 4
  | _ => ty = 0 || ty = 5

/-- The chapter rule on writes of class 08h (R114, R116, R125); `types` are the sensor types that all the items of the
request together would leave. -/
def check08 (s : State) (types : Nat → Nat) (i m : Nat) (v : Int) : Nat :=
  if m = 0 then (if !typePermitted i v.toNat then stOutOfRange else if s.typesFit types then stOk else stNoFit)
  else if m = 1 && chanKind i = 2 then (if v = 0 then stOk else stOutOfRange)
  else stOk

/-- The sensor types with one channel changed. -/
def State.typesWith (s : State) (n ty : Nat) : Nat → Nat := fun j => if j = n then ty else s.typeOf j

/-- The effect of a write of class 08h: a new type or leak shift restarts the integrator (R115), a new type the raw mean. -/
def apply08 (sid : Nat) (s : State) (k i m : Nat) (v : Int) : State :=
  let changed := s.get k ≠ v
  let t := s.put k v
  let t := if (m = 0 || m = 3) && changed then t.modChan i fun c => { c with y := 0 } else t
  let t := if m = 0 && changed then
      (t.modChan i fun c => { c with ring := [] }).puts [(k08ChannelState i, if v = 0 then 0 else 1), (k08RawMean i, 0)]
    else t
  if isSealedSetting 0x08 i m then t.calibrated sid k else t

/-- Channels of a spoke. -/
def spokeChannels (sp : Nat) : List Nat := (List.range 5).map (5 * sp + ·)

/-- Is a group enabled? -/
def State.groupOn (s : State) (g : Nat) : Bool := g < 8 && s.flag (k09GroupEnable g)

/-- Does a spoke or the reference group setting refer to a group? -/
def State.groupUsed (s : State) (g : Nat) : Bool :=
  s.getN k09ReferenceGroup = g || s.spokeList.any fun sp => s.getN (k09SpokeGroup (32 + sp)) = g

/-- The chapter rule on writes of class 09h (R119). -/
def check09 (s : State) (i m : Nat) (v : Int) : Nat :=
  if i < 8 && m = 0 && v = 0 && s.groupUsed i then stOutOfRange
  else if (i = 8 || 32 ≤ i) && !s.groupOn v.toNat then stOutOfRange
  else stOk

/-- Assigned-spoke masks of the groups (09h/g/3). -/
def State.assignMasks (s : State) : State :=
  s.each (List.range 8) fun s g =>
    s.put (k09AssignedSpokes g) (maskOf (s.spokeList.filter fun sp => s.getN (k09SpokeGroup (32 + sp)) = g))

/-- The coil integrators of a spoke restart (R115, R119). -/
def State.restartIntegrators (s : State) (sp : Nat) : State :=
  s.each (spokeChannels sp) fun s n => if s.typeOf n = 3 then s.modChan n fun c => { c with y := 0 } else s

/-! ### The seal (R121-R123) -/

def sealTicks : Nat := 80

/-- The SEAL ball is sampled at a tick: `low` is the open level. -/
def State.sealSample (s : State) (low : Bool) : State :=
  let f := s.sealFilter
  { s with sealFilter := if low = f.level then { f with run := min sealTicks (f.run + 1) } else { f with level := low, run := 1 } }

/-- Seal state shown by 0Dh/256/0: locked once the counter stands at its largest value. -/
def State.showSeal (s : State) : State :=
  s.put k0DSealState (if s.getN k0DMetrologyEventCounter = 65535 then 2 else if s.sealFilter.opened then 1 else 0)

/-- A CFG image that VERIFYING judges no longer finds the seal open throughout (R124). -/
def State.sealWasClosed (s : State) : State :=
  { s with kod := { s.kod with regions := s.kod.regions.map fun x => { x with sealOpened := false } } }

/-- SEAL_OPENING (R122): the filtered level becomes open; the event counter advances, and at its largest value it locks. -/
def sealOpening (s : State) : State :=
  let f := s.sealFilter
  if f.level && sealTicks ≤ f.run && !f.opened && s.getN k0DMetrologyEventCounter < 65535 then
    let n := s.getN k0DMetrologyEventCounter + 1
    let t := ({ s with sealFilter := { f with opened := true } }.put k0DMetrologyEventCounter n).notice byDevice 0x0430 n
    let t := if n = 65535 && !t.vault.limitNoticed then
        ({ t with vault := { t.vault with limitNoticed := true } }.noticeOpen byDevice 0x0433).sealWasClosed else t
    t.showSeal
  else s

def execSealOpening (s : State) : Host.Outcome State Fault Refusal := .next (sealOpening s)

/-- SEAL_CLOSING (R122): the filtered level becomes closed. -/
def sealClosing (s : State) : State :=
  let f := s.sealFilter
  if !f.level && sealTicks ≤ f.run && f.opened then
    ({ s with sealFilter := { f with opened := false } }.noticeOpen byDevice 0x0431).sealWasClosed.showSeal
  else s

def execSealClosing (s : State) : Host.Outcome State Fault Refusal := .next (sealClosing s)

/-- The effect of a write of class 0Dh. -/
def apply0D (sid : Nat) (s : State) (k i m : Nat) (v : Int) : State :=
  let t := s.put k v
  if isSealedSetting 0x0D i m then t.calibrated sid k else t

/-- SENSOR_TYPE (R114, R116): one write of 08h/n/0. -/
def execSensorType (sid ch : Nat) (v : Int) (s : State) : Host.Outcome State Fault Refusal :=
  .next (s.writeRow sid (k08SensorType ch) v (fun s => check08 s (s.typesWith ch v.toNat) ch 0 v)
    (fun s => apply08 sid s (k08SensorType ch) ch 0 v))

end Sys2Proof.Machine
end

