-- ==== Sys2Proof/Machine/Metering.lean ====
section
/-! DEFINITION. The metering engine (R128-R149): zero crossings, windows, quantities, energy routing and registers, segments,
snapshots, pulse outputs. Instants are in ticks with fraction; the sample latched at tick k stands for (k - 1, k] (R132). -/

namespace Sys2Proof.Machine

/-! ### Registers (R136-R138) -/

/-- Is register `idx` of a spoke in absolute mode (R137)? -/
def State.absolute (s : State) (sp idx : Nat) : Bool := s.getN (key 0x0B (24 * sp + idx) 2) = 1

/-- Units of a fine accumulator: 2^24. -/
def fineOne : Nat := 16777216

/-- Energy enters the fine accumulator of a register (R138). -/
def State.addFine (s : State) (sp idx : Nat) (x : Rat) : State :=
  s.modMeter sp fun m => { m with fine := m.fine.modify idx fun f => f + (roundQ (x * 16777216)).toNat }

/-- Net active energy is routed to the total and the current rate registers (R137). -/
def State.routeActive (s : State) (sp : Nat) (e : Rat) : State :=
  let r := s.getN k10CurrentRate
  let mag := if e < 0 then -e else e
  let s := s.each [0, 8 + 2 * r] fun s idx =>
    if s.absolute sp idx then s.addFine sp idx mag else if 0 ≤ e then s.addFine sp idx e else s
  s.each [1, 9 + 2 * r] fun s idx =>
    if s.absolute sp idx then s.addFine sp idx mag else if e < 0 then s.addFine sp idx (-e) else s

/-- Apparent energy is routed the same way (R135, R137). -/
def State.routeApparent (s : State) (sp : Nat) (e : Rat) (importing : Bool) : State :=
  let s := if s.absolute sp 6 || importing then s.addFine sp 6 e else s
  if s.absolute sp 7 || !importing then s.addFine sp 7 e else s

/-- An energy register takes whole units; a wrap is counted and recorded (R107). -/
def State.addRegister (s : State) (inst n : Nat) : State :=
  let v := s.getN (k0BValue inst) + n
  if v < ccMod then s.put (k0BValue inst) v
  else ((s.put (k0BValue inst) (v % ccMod : Nat)).ratchet (k0BWrapCount inst) 8).notice byDevice 0x0420 inst

/-- The integer parts of a spoke's fine accumulators move into its registers (R138). -/
def State.moveFine (s : State) (sp : Nat) : State :=
  let fine := (s.spoke sp).meter.fine
  let t := s.modMeter sp fun m => { m with fine := m.fine.map (· % fineOne) }
  t.each fine.zipIdx fun t p =>
    let inst := 24 * sp + p.2
    let t := t.put (k0BFineFraction inst) (p.1 % fineOne : Nat)
    if p.1 < fineOne then t else t.addRegister inst (p.1 / fineOne)

/-- Direction of the last closed window of a spoke: export (R147 DIR). -/
def State.exporting (s : State) (sp : Nat) : Bool := bit (s.getN (k0AStatus sp)) 11

/-- Routing of new energy waits for the restoration of a boot and the journal latch that follows it (R163, R165). -/
def State.routingHeld (s : State) : Bool := !s.modes.booted || s.pf.due.contains 6

/-- A segment closes (R139). Before the first window of the spoke's group has closed every phase counts as loaded and the
direction as import. -/
def State.closeSegment (s : State) (sp : Nat) : State :=
  let m := (s.spoke sp).meter
  let closed := (s.group (s.getN (k09SpokeGroup (32 + sp)))).closed
  let loaded := (List.range 3).filter fun j => !(closed && m.noload.getD j false)
  let e := loaded.foldl (fun a j => a + m.openCycle.getD j 0) (0 : Rat)
  if !s.routingHeld && (e = 0 || decide (e < 0) = (closed && s.exporting sp)) then
    ((s.routeActive sp e).modMeter sp fun m =>
      { m with openCycle := m.openCycle.zipIdx.map fun p => if loaded.contains p.2 then 0 else p.1 }).moveFine sp
  else s

def State.closeSegments (s : State) : State := s.each s.spokeList State.closeSegment

/-! ### Windows (R132-R135) -/

/-- Weight of the sample latched at tick `k` in a window. -/
def weight (ta tb : Rat) (k : Nat) : Rat := max 0 (min (k : Rat) tb - max ((k : Rat) - 1) ta)

/-- A weighted sum over the rows of a window. -/
def wsum (rows : List Row) (ta tb : Rat) (f : Row → Rat) : Rat :=
  rows.foldl (fun a r => a + weight ta tb r.tick * f r) 0

def Row.val (r : Row) (j : Nat) : Rat := r.vals.getD j 0

/-- Does a flag stand in any row of the window? -/
def anyRow (rows : List Row) (ta tb : Rat) (f : Row → Bool) : Bool := rows.any fun r => 0 < weight ta tb r.tick && f r

/-- Ticks of the longest window, rounded up (R130: two half-periods, each within 15 % of at most 88.9 ticks). -/
def longestWindow : Nat := 205

/-- The rows that still have a part after `tb`. A spoke keeps the rows of one window more: after a change of its group the running
window of the new group may have begun before the last one of the old group ended. -/
def keepRows (tb : Rat) (rows : List Row) : List Row := rows.filter fun r => tb < (r.tick : Rat)

/-- Real and imaginary part of the fundamental phasor of column `j` (R133). -/
def phasor (rows : List Row) (ta tb : Rat) (j : Nat) : Rat × Rat :=
  let n := tb - ta
  let turn := fun (r : Row) => ((r.tick : Rat) - ta) / n
  (2 / n * wsum rows ta tb (fun r => r.val j * cosTurn (turn r)),
   -(2 / n) * wsum rows ta tb (fun r => r.val j * sinTurn (turn r)))

/-- Columns of a spoke's rows: currents 0-3, IX 4, computed residual 5, voltages 6-8. -/
def colV (j : Nat) : Nat := 6 + j

/-- Ticks per milliwatt hour: mV times mA summed over ticks, per mWh (R135). -/
def energyScale : Rat := 28800000000

/-- One phase of a window: square of the current rms in mA, active power, reactive power, apparent power, angle. -/
def phaseQuantities (rows : List Row) (ta tb : Rat) (j : Nat) : Rat × Int × Int × Nat × Int :=
  let n := tb - ta
  let i2 := wsum rows ta tb (fun r => r.val j * r.val j) / n
  let v2 := wsum rows ta tb (fun r => r.val (colV j) * r.val (colV j)) / n
  let p := roundQ (wsum rows ta tb (fun r => r.val (colV j) * r.val j) / n / 1000)
  let v1 := phasor rows ta tb (colV j)
  let i1 := phasor rows ta tb j
  let re := v1.1 * i1.1 + v1.2 * i1.2
  let im := v1.2 * i1.1 - v1.1 * i1.2
  (i2, p, roundQ (im / 2 / 1000), rootQ (v2 * i2 / 1000000), q48 (phaseAngle re im))

/-- Power factor of an active and an apparent power (R133, R134), within the range of R133: -1.0 to +1.0. -/
def powerFactor (p : Int) (a : Nat) : Int :=
  if a = 0 then 16777216 else max (-16777216) (min 16777216 (q48 ((p : Rat) / a)))

/-- Quadrant 1-4 of signed powers (R135). -/
def quadrant (p q : Int) : Nat := if 0 ≤ p then (if 0 ≤ q then 1 else 4) else if 0 ≤ q then 2 else 3

/-- Does a pulse output assigned to a spoke run jitter-free (R147 JF)? -/
def State.pulseJf (s : State) (sp : Nat) : Bool :=
  (List.range 4).any fun po => s.getN (k0CSpoke po) = sp && s.getN (k0CMode po) = 1

/-- A window of a spoke closes: its quantities are published and its energy is routed (R133-R135, R147). The close that an overrun
did not reach publishes and routes nothing: the open-cycle accumulators keep its active energy (R42), and its reactive and apparent
energy, which no accumulator holds (R135), is dropped (DESIGN CHOICE, log entry 13). A window in which IX clipped is left out of the
residual cross-check, whose run of windows stands: R117 has a clipped residual channel judged by the trip curve alone. -/
def State.spokeWindow (s : State) (g sp : Nat) (ta tb : Rat) (timeout : Bool) : State :=
  let m := (s.spoke sp).meter
  let n := tb - ta
  let kept := fun (m : Meter) => keepRows (tb - longestWindow) m.rows
  let drop := fun (t : State) => t.modMeter sp fun m => { m with rows := kept m }
  if n ≤ 0 || m.unreached then drop s
  else
    let rows := m.rows
    let ph := (List.range 3).map (phaseQuantities rows ta tb)
    let start : Rat := s.getN (k0AStartingCurrent sp)
    let idle := ph.map fun x => decide (x.1 * 1000000 < start * start)
    let on := fun (j : Nat) (v : Int) => if idle.getD j false then 0 else v
    let P := (List.range 3).map fun j => on j ((ph.getD j default).2.1)
    let Q := (List.range 3).map fun j => on j ((ph.getD j default).2.2.1)
    let S := (List.range 3).map fun j => (on j ((ph.getD j default).2.2.2.1 : Nat)).toNat
    let pt := P.sum
    let qt := Q.sum
    let st := S.sum
    let rms := fun (j : Nat) => rootQ (wsum rows ta tb (fun r => r.val j * r.val j) / n * 1000000)
    let mean := fun (j : Nat) => wsum rows ta tb (fun r => r.val j) / n
    let ac := fun (j : Nat) => rootQ ((wsum rows ta tb (fun r => r.val j * r.val j) / n - mean j * mean j) * 1000000)
    let quad := quadrant pt qt
    let expo := decide (pt < 0)
    let anyAt := fun (f : Row → List Bool) (j : Nat) => anyRow rows ta tb fun r => (f r).getD j false
    let word := statusWord (s.group g).valid (s.group g).state timeout (idle.all id) ((List.range 4).any fun j => anyAt Row.subst (5 + j))
      ((List.range 5).map (anyAt Row.subst)) ((List.range 5).map (anyAt Row.clip))
      ((List.range 4).map fun j => anyAt Row.clip (5 + j)) expo quad (s.pulseJf sp)
    let t := s.puts (((List.range 4).map fun j => (k0ACurrentRmsI1I2I3IN sp j, (rms j : Int))) ++
      [(k0AIXDCMean sp, roundQ (mean 4 * 1000)), (k0AIXACRms sp, ac 4), (k0AComputedResidualRms sp, ac 5)] ++
      ((List.range 3).flatMap fun j =>
        [(k0AActivePowerL1L2L3 sp j, P.getD j 0), (k0AReactivePowerL1L2L3 sp j, Q.getD j 0),
         (k0AApparentPowerL1L2L3 sp j, (S.getD j 0 : Nat)), (k0APowerFactorL1L2L3 sp j, powerFactor (P.getD j 0) (S.getD j 0)),
         (k0APhaseAngleL1L2L3 sp j, on j ((ph.getD j default).2.2.2.2))]) ++
      [(k0AActivePowerTotal sp, pt), (k0AReactivePowerTotal sp, qt), (k0AApparentPowerTotal sp, st),
       (k0APowerFactorTotal sp, powerFactor pt st), (k0AStatus sp, word), (k0AUpdateTick sp, s.after 1)])
    let e := (List.range 3).foldl (fun a j => if idle.getD j false then a else a + m.openCycle.getD j 0) (0 : Rat)
    let held := s.routingHeld
    let t := if held then t else t.routeActive sp e
    let perQ : Rat := (qt.natAbs : Rat) / energyScale
    let perS : Rat := (st : Rat) / energyScale
    let since := tb - max ta m.clearedAt
    let eq := perQ * since
    let es := perS * since
    let t := if held || idle.all id then t else (t.addFine sp (1 + quad) eq).routeApparent sp es (!expo)
    let t := t.modMeter sp fun m =>
      { m with openCycle := if held then m.openCycle else [0, 0, 0], noload := idle, perTickQ := perQ, perTickS := perS, rows := kept m }
    let t := t.extreme (32 + sp) pt
    let t := if t.getN (k30HighestApparentPower (65 + sp)) < st then t.put (k30HighestApparentPower (65 + sp)) st else t
    let top := (List.range 3).foldl (fun a j => max a (rms j)) 0
    let apart := decide (50 * (30000 : Int) + top < 50 * ((ac 5 : Int) - ac 4).natAbs)
    let t := t.modMeter sp fun m => { m with
      crossRun := if t.gateState sp ≠ 2 then 0 else if anyAt Row.clip 4 then m.crossRun else if apart then m.crossRun + 1 else 0 }
    if t.gateState sp = 2 then
      let full : Rat := (t.getN (k1BOutletMaximum (16 + sp)) : Rat) * 1000
      if full = 0 then t else t.histogram (80 + sp) ((top : Rat) * 100 / full) 0 4
    else t

/-- A phase voltage of a closed window in the recorder: histogram, extreme and the sag run (R403, R405). -/
def State.voltageSample (s : State) (g ph rms : Nat) : State :=
  let nominal : Rat := (s.getN (k09NominalVoltage g) : Rat) * 1000
  let pct : Rat := (rms : Rat) * 100 / nominal
  let t := (s.histogram (48 + 3 * g + ph) pct 80 (5 / 4)).extreme (3 * g + ph) rms
  let run := (t.group g).sags.getD ph {}
  let setRun := fun (t : State) (r : SagRun) => t.modGroup g fun x => { x with sags := x.sags.set ph r }
  if pct < 80 then setRun t { windows := run.windows + 1, lowest := if run.windows = 0 then pct else min run.lowest pct }
  else
    let t := if 3 ≤ run.windows then
        (((t.histogram (3 * g + ph) run.lowest 0 (5 / 2)).histogram (24 + 3 * g + ph) run.windows 3 1).count
          (k29EventCount (8 + g))).trigger 2
      else t
    setRun t {}

/-- The NP rms of a closed window against the earth limit (R311). -/
def State.earthWindow (s : State) (g np : Nat) : State :=
  let lim := s.getN k1DEarthLimit
  s.modGroup g fun x =>
    { x with earthHigh := if lim < np then x.earthHigh + 1 else 0,
             earthLow := if 10 * np ≤ 9 * lim then x.earthLow + 1 else 0 }

/-- Frequency of a group in mHz (R133): 8,000 over the mean of the last 8 full periods in ticks. -/
def frequencyOf (periods : List Rat) : Nat :=
  if periods.length < 8 then 0
  else (roundQ (64000000 / (periods.take 8).sum)).toNat

/-- MC has counted; at a frame boundary, when it becomes a multiple of 8, the back-offs of the queued messages count down
(R344). -/
def State.chlBoundary (s : State) : State :=
  if s.getN k20MC % 8 = 0 then
    { s with chainline := { s.chainline with
        queue := s.chainline.queue.map fun m => { m with backoff := m.backoff - 1 } } }
  else s

/-- MC counts a window of the reference group (R329). -/
def State.countMc (s : State) (g : Nat) (tb : Rat) : State :=
  let half : Rat := if s.getN (k09NominalFrequency g) = 0 then 80 else 200 / 3
  let near := match s.chainline.lastCount with
    | some x => s.chainline.refChanged && tb < x + half
    | none => false
  if s.getN k09ReferenceGroup ≠ g || near then s
  else
    { s.bump k20MC 48 with chainline := { s.chainline with lastCount := some tb, refChanged := false } }.chlBoundary

/-- Do only the SLAC listeners of the stations run (R240, R452)? -/
def State.listening (s : State) : Bool := s.getN k01Mode = 1 || s.getN k01Mode = 2

/-- Does a station transmit its beacon (R240, R241)? None does in a reset of its domain (R244), nor in Cruise or Freewheel, where the
stations listen only, nor in Coast, where they are off (R452). -/
def State.beaconOn (s : State) (sp : Nat) : Bool :=
  !s.modes.coreInReset && !s.listening && !s.coasting && s.getN (k1ALinkControlInForce sp) ≠ 0 && !s.bist.stationFailed.contains sp

/-- A beacon period starts: every station sends at its offset with the crossing as its start, and a new reference group is followed from here (R241). -/
def State.beaconPeriod (s : State) (tb : Rat) : State :=
  let t := { s with beacon := { group := s.getN k09ReferenceGroup, start := tb, half := false, relock := false } }
  t.each (t.spokeList.filter t.beaconOn) fun t sp => t.send (.beacon sp (200 + 150 * sp) tb)

/-- A window of the beacon's group ends (R241); `valid` says that it ended at a valid crossing. A group that falls free-running
again before its return is complete is followed as free-running. A group that has been disabled has no windows left: the reference group
set since (R119) is followed at once. -/
def State.beaconWindow (s : State) (g : Nat) (tb : Rat) (valid : Bool) : State :=
  let b := s.beacon
  if (if s.groupOn b.group then b.group else s.getN k09ReferenceGroup) ≠ g then s
  else if b.relock && (s.group g).state ≠ 2 then
    let least : Rat := if s.getN (k09NominalFrequency g) = 0 then 192 else 160
    if valid && b.start + least ≤ tb then (s.beaconPeriod tb).noticeOpen byDevice 0x0708 else s
  else if b.half then s.beaconPeriod tb
  else { s with beacon := { b with half := true } }

def jitterFreeTicks : Nat := 480000

/-- The pulse outputs of a group's spokes run jitter-free for 60 s (R143). -/
def State.jitterFree (s : State) (g : Nat) : State := s.modGroup g fun x => { x with jfUntil := s.after jitterFreeTicks }

/-- Spokes of a group (R118). -/
def State.groupSpokes (s : State) (g : Nat) : List Nat := s.spokeList.filter fun sp => s.getN (k09SpokeGroup (32 + sp)) = g

/-- A window of a group closes at `tb` (R131-R135). -/
def State.closeWindow (s : State) (g : Nat) (tb : Rat) (timeout valid : Bool) : State :=
  let x := s.group g
  let ta := x.winStart
  let n := tb - ta
  let rms := fun (j : Nat) => if n ≤ 0 then 0 else rootQ (wsum x.rows ta tb (fun r => r.val j * r.val j) / n)
  let freq := if x.state = 2 then 0 else frequencyOf x.periods
  let first := !x.valid && x.state = 0
  let t := s.modGroup g fun x => { x with valid := x.valid || x.state = 0, closed := true, timeout := false }
  let t := t.puts (((List.range 4).map fun j => (k09RMSL1L2L3NP g j, (rms j : Int))) ++ [(k09Frequency g, (freq : Int))])
  let t := t.each (List.range 3) fun t ph => t.voltageSample g ph (rms ph)
  let fnom : Rat := if t.getN (k09NominalFrequency g) = 0 then 50000 else 60000
  let t := if freq = 0 then t else (t.histogram (72 + g) freq (fnom - 1600) 100).extreme (24 + g) freq
  let t := t.each (t.groupSpokes g) fun t sp => t.spokeWindow g sp ta tb timeout
  let t := t.modGroup g fun x => { x with winStart := tb, rows := keepRows tb x.rows }
  let t := t.earthWindow g (rms 3)
  let t := if first then t.jitterFree g else t
  (t.countMc g tb).beaconWindow g tb valid

/-! ### Zero crossings (R130, R131) -/

def nominalHalf (f60 : Bool) : Rat := if f60 then 200 / 3 else 80

def State.nominalHalfOf (s : State) (g : Nat) : Rat := nominalHalf (s.getN (k09NominalFrequency g) ≠ 0)

/-- The expected half-period H (R130): the mean of the last 8, the nominal one standing for those not yet measured, limited to
60.6-88.9 ticks (log entry 23). -/
def expectedHalf (nom : Rat) (halves : List Rat) : Rat :=
  let l := (halves ++ List.replicate 8 nom).take 8
  max (303 / 5) (min (889 / 10) (l.sum / 8))

def State.halfOf (s : State) (g : Nat) : Rat := expectedHalf (s.nominalHalfOf g) (s.group g).halves

/-- Is a distance within 15 % of an expected one? -/
def within15 (d h : Rat) : Bool := h * 17 / 20 ≤ d && d ≤ h * 23 / 20

/-- A half-cycle of L1 of the reference group has closed (R331); the Chainline engine takes it in its next frame. -/
def State.halfEnds (s : State) (g : Nat) (t : Rat) (positive stands : Bool) : State :=
  if s.getN k09ReferenceGroup = g then
    { s with chainline := { s.chainline with
        ends := (s.chainline.ends ++ [({ instant := t, positive := positive, stands := stands, mc := s.getN k20MC } : ChlEnd)]).drop
          (s.chainline.ends.length - 15) } }
  else s

/-- Return to locked (R131). Where the positive one of the two crossings is the earlier one, it is no first valid positive crossing at
which a beacon period could start (R241): the next one is. -/
def State.relock (s : State) (g : Nat) (t0 t : Rat) (pol : Bool) : State :=
  let p := if pol then t else t0
  let u := (s.modGroup g fun x =>
    { x with state := 0, missing := 0, halves := [], periods := [], lastPos := if pol then some t else none,
             lastCross := some (t, pol), lastReal := true }).notice byDevice 0x0403 g
  let u := u.jitterFree g
  let u := if u.beacon.group = g then { u with beacon := { u.beacon with relock := true } } else u
  (if (u.group g).winStart < p then u.closeWindow g p true pol
    else u.modGroup g fun x => { x with timeout := true }).halfEnds g t pol true

/-- A valid crossing (R130): it enters H and the periods, and a positive one ends the window. -/
def State.validCrossing (s : State) (g : Nat) (t : Rat) (pol : Bool) : State :=
  let x := s.group g
  let halves := match x.lastCross with
    | some (t0, _) => if x.lastReal then ((t - t0) :: x.halves).take 8 else x.halves
    | none => x.halves
  let periods := match x.lastPos with
    | some p => if pol then ((t - p) :: x.periods).take 8 else x.periods
    | none => x.periods
  let u := s.modGroup g fun x =>
    { x with state := 0, missing := 0, halves := halves, periods := periods, lastCross := some (t, pol), lastReal := true,
             lastPos := if pol then some t else x.lastPos }
  (if pol then u.closeWindow g t x.timeout true else u).halfEnds g t pol true

/-- A crossing of the reference group is rejected or synthesised: the symbol of its half-cycle is an erasure (R29, R335). -/
def State.loseSymbol (s : State) (g : Nat) : State :=
  if s.getN k09ReferenceGroup = g then
    { s with chainline := { s.chainline with lost := (s.getN k20MC :: s.chainline.lost).take 1024 } }
  else s

/-- A crossing is detected at instant `t` (R130, R131). -/
def State.detected (s : State) (g : Nat) (t : Rat) (pol : Bool) : State :=
  let x := s.group g
  let u :=
    let inBand := match x.lastCross with
      | some (t0, _) => within15 (t - t0) (s.halfOf g)
      | none => true
    let rejected := ((s.count (k29EventCount g)).notice byDevice 0x0401 g).loseSymbol g
    if x.state = 2 then
      match x.lastSeen with
      | some (t0, p0) =>
        if p0 ≠ pol && within15 (t - t0) (s.nominalHalfOf g) then s.relock g t0 t pol else if inBand then s else rejected
      | none => if inBand then s else rejected
    else if inBand then s.validCrossing g t pol else rejected
  u.modGroup g fun x => { x with lastSeen := some (t, pol) }

/-- The interpolated instant of a crossing between two samples, to 1/64 tick (R130). -/
def crossingAt (k prev cur : Rat) : Rat := k - 1 + (roundQ (prev / (prev - cur) * 64) : Rat) / 64

/-- The zero-crossing work of a group in a frame. -/
def State.crossGroup (s : State) (g : Nat) : State :=
  let x := s.group g
  let cur := s.outOf (120 + 4 * g)
  let k : Rat := (s.cc : Rat) - 1
  let pos := x.prev < 0 && 0 ≤ cur && x.passedLow
  let neg := 0 < x.prev && cur ≤ 0 && x.passedHigh
  let t := if pos || neg then s.detected g (crossingAt k x.prev cur) pos else s
  let nom : Rat := s.getN (k09NominalVoltage g)
  let far := decide (20000 * nom * nom < cur * cur)
  t.modGroup g fun y =>
    { y with prev := cur,
             passedHigh := (if pos || neg then false else y.passedHigh) || (far && 0 < cur),
             passedLow := (if pos || neg then false else y.passedLow) || (far && cur < 0) }

/-- Length of a free-running window (R131). -/
def freeLength (f60 : Bool) (step : Nat) : Rat := if f60 then (if step % 3 = 2 then 134 else 133) else 160

/-- In free-running a window ends when its length has run; no half-cycle of it had a valid crossing (R29). -/
def State.freeWindow (s : State) (g : Nat) : State :=
  let x := s.group g
  let e := x.winStart + freeLength (s.getN (k09NominalFrequency g) ≠ 0) x.freeStep
  if x.state = 2 && e ≤ (s.cc : Rat) - 1 then
    let u := (s.loseSymbol g).halfEnds g ((x.winStart + e) / 2) false false
    ((u.closeWindow g e true false).halfEnds g e true false).modGroup g fun x => { x with freeStep := x.freeStep + 1 }
  else s

/-- MISSING_CROSSING (R131): no valid crossing within 1.15 H of the previous one; it is synthesised at exactly H. Before the
first crossing the previous one is taken at instant 0 of CC (log entry 23). -/
def missingCrossing (g : Nat) (s : State) : State :=
  let x := s.group g
  let prev := x.lastCross.getD (0, false)
  let h := s.halfOf g
  if s.groupOn g && x.state ≠ 2 && prev.1 + h * 23 / 20 ≤ (s.cc : Rat) - 1 then
    let t := prev.1 + h
    let u := (s.loseSymbol g).modGroup g fun x =>
      { x with missing := x.missing + 1, lastCross := some (t, !prev.2), lastReal := false,
               lastPos := if prev.2 then x.lastPos else none }
    if 8 ≤ x.missing + 1 then
      (((u.modGroup g fun x => { x with state := 2, periods := [], freeStep := 0 }).put (k09Frequency g) 0).count
        (k29EventCount (16 + g)) |>.notice byDevice 0x0402 g).halfEnds g t (!prev.2) false
    else
      let u := u.modGroup g fun x => { x with state := 1 }
      (if !prev.2 then u.closeWindow g t true false else u).halfEnds g t (!prev.2) false
  else s

def execMissingCrossing (g : Nat) (s : State) : Host.Outcome State Fault Refusal := .next (missingCrossing g s)

/-! ### The work of a frame -/

/-- The processed value of a channel in a row: one that was not reached adds nothing (R42). -/
def State.rowVal (s : State) (n : Nat) : Rat := if (s.chan n).unreached then 0 else s.outOf n

/-- The rows of a frame: group voltages, and each spoke's currents with its group's voltages. -/
def State.addRows (s : State) (g : Nat) : State :=
  let k := s.cc - 1
  let chans := (List.range 4).map (120 + 4 * g + ·)
  let sub := fun (t : State) (l : List Nat) => l.map fun n => (t.chan n).subst
  let clp := fun (t : State) (l : List Nat) => l.map fun n => t.flag (k08Clipped n)
  let t := s.modGroup g fun x =>
    { x with rows := x.rows ++ [{ tick := k, vals := chans.map s.rowVal, subst := sub s chans, clip := clp s chans }] }
  t.each (t.groupSpokes g) fun t sp =>
    let cs := spokeChannels sp
    t.modMeter sp fun m => { m with rows := m.rows ++ [{
      tick := k, vals := cs.map t.rowVal ++ [t.computedResidual sp] ++ (chans.take 3).map t.rowVal,
      subst := sub t (cs ++ chans), clip := clp t (cs ++ chans) }] }

/-- Active energy of a frame enters the open-cycle accumulators (R135); a phase of which a channel was not reached adds nothing
(R42). -/
def State.accrue (s : State) (sp : Nat) : State :=
  let g := s.getN (k09SpokeGroup (32 + sp))
  let e := (List.range 3).map fun j =>
    if (s.chan (5 * sp + j)).unreached || (s.chan (120 + 4 * g + j)).unreached then (0 : Rat)
    else s.outOf (5 * sp + j) * s.outOf (120 + 4 * g + j) / energyScale
  s.modMeter sp fun m =>
    { m with openCycle := m.openCycle.zipIdx.map fun p => p.1 + e.getD p.2 0,
             lastTick := (List.range 3).foldl (fun a j => if m.noload.getD j false then a else a + e.getD j 0) 0 }

/-- The flags of an overrun serve one frame. -/
def State.clearUnreached (s : State) : State :=
  let t := s.each (List.range 152) fun t n =>
    if (t.chan n).unreached then t.modChan n fun c => { c with unreached := false } else t
  t.each t.spokeList fun t sp => t.modMeter sp fun m => { m with unreached := false }

/-! ### Pulse outputs (R142-R144) -/

/-- The share of a quantity that a tick adds (R142). In absolute mode the sign is that of the last window's direction (log
entry 24). -/
def State.pulseShare (s : State) (sp q : Nat) : Rat :=
  let m := (s.spoke sp).meter
  let expo := s.exporting sp
  let quad := field (s.getN (k0AStatus sp)) 10 9
  let signed := if expo then -m.lastTick else m.lastTick
  match q with
  | 0 => if !expo || s.absolute sp 0 then signed else 0
  | 1 => if expo || s.absolute sp 1 then signed else 0
  | 6 => if !expo then m.perTickS else 0
  | 7 => if expo then m.perTickS else 0
  | _ => if quad = q - 2 then m.perTickQ else 0

/-- The pulse weight in 2^-24 units (R142). -/
def pulseWeight (q c : Nat) : Int :=
  nearest (((if q ≤ 1 then 1000000 else 1000) : Rat) * 16777216 / (max 1 c : Nat))

/-- Width of a pulse in us (R143, R144). -/
def pulseWidth (jf : Bool) (w : Nat) (edges : List Nat) : Nat :=
  let plain := if jf then w else (w + 124) / 125 * 125
  match edges with
  | a :: b :: _ =>
    if a - b < 2 * w then (if jf then max 10 ((a - b) / 2) else max 125 ((a - b) / 2 / 125 * 125)) else plain
  | _ => plain

/-- One tick of a pulse output. The tick it represents is the one whose sample was processed; the edge leaves three ticks
later. -/
def State.pulseTick (s : State) (po : Nat) : State :=
  let until_ := (s.group (s.getN (k09SpokeGroup (32 + s.getN (k0CSpoke po))))).jfUntil
  let jf := s.workstand || (until_ ≠ 0 && !s.reached until_) || s.flag (k0CForceJitterFree po)
  let rest := s.flag (k0CPolarity po)
  let t := { s.put (k0CMode po) (b1 jf) with
    pulses := s.pulses.modify po fun p => { p with jfUntil := until_, rest := rest } }
  if !t.flag (k0CEnable po) then t
  else
    let sp := t.getN (k0CSpoke po)
    let q := t.getN (k0CQuantity po)
    let w := pulseWeight q (t.getN (k0CMeterConstant po))
    let share := roundQ (t.pulseShare sp q * 16777216)
    let old := t.get (k0CResidue po)
    let r := old + share
    let p := t.pulses.getD po {}
    let k := t.cc - 1
    let one := r < 2 * w && old < w
    let us := if jf && one then
        (k - 1) * 125 + (nearest (((w - old : Int) : Rat) / share * 125)).toNat + 375
      else k * 125 + 375
    let free := match p.edges with
      | a :: _ => a + 250 ≤ us
      | [] => true
    let t :=
      if w ≤ r && free then
        let width := pulseWidth jf (t.getN (k0CWidth po)) p.edges
        let t := (t.put (k0CResidue po) (r - w)).count (k0CPulseCount po)
        ({ t with pulses := t.pulses.modify po fun p => { p with edges := (us :: p.edges).take 2 } }).send
          (.pulse po (us / 125) (us % 125) width !rest)
      else t.put (k0CResidue po) r
    let many := decide (16 * w < t.get (k0CResidue po))
    let t := if many && !p.flooded then t.notice byDevice 0x0440 po else t
    { t with pulses := t.pulses.modify po fun p => { p with flooded := many } }

/-- JITTER_FREE_END (R143): the 60 s of the group of an output's spoke have run. -/
def jitterFreeEnd (po : Nat) (s : State) : State :=
  let p := s.pulses.getD po {}
  if p.jfUntil ≠ 0 && s.reached p.jfUntil then
    let t := { s with pulses := s.pulses.modify po fun p => { p with jfUntil := 0 } }
    let t := t.modGroup (t.getN (k09SpokeGroup (32 + t.getN (k0CSpoke po)))) fun x =>
      if x.jfUntil = p.jfUntil then { x with jfUntil := 0 } else x
    t.put (k0CMode po) (b1 (t.workstand || t.flag (k0CForceJitterFree po)))
  else s

def execJitterFreeEnd (po : Nat) (s : State) : Host.Outcome State Fault Refusal := .next (jitterFreeEnd po s)

/-- The chapter rule on writes of class 0Ch (R149). -/
def check0C (s : State) (m : Nat) (v : Int) : Nat := if m = 1 && (s.spokeCount : Int) ≤ v then stOutOfRange else stOk

/-- The effect of a write of class 0Ch: a change of spoke, quantity or constant sets the residue to 0 (R144). -/
def apply0C (s : State) (k i m : Nat) (v : Int) : State :=
  let t := s.put k v
  if 1 ≤ m && m ≤ 3 then t.put (k0CResidue i) 0 else t

/-- PULSE_OUTPUT_CHANGE (R144, R149): a write of the spoke, the quantity or the constant of an output. -/
def pulseOutputChange (sid po m : Nat) (v : Int) (s : State) : State :=
  s.writeRow sid (key 0x0C po m) v (fun s => if 1 ≤ m && m ≤ 3 then check0C s m v else stNoObject)
    fun s => apply0C s (key 0x0C po m) po m v

def execPulseOutputChange (sid po m : Nat) (v : Int) (s : State) : Host.Outcome State Fault Refusal :=
  .next (pulseOutputChange sid po m v s)

/-! ### Snapshots and clearing (R140, R145) -/

/-- Is a snapshot request pending, from KOD or from Chainline? -/
def State.snapshotPending (s : State) : Bool :=
  s.billing.snap.isSome || s.chainline.events.any fun e => e.2 = .snapshot

/-- Is a target tick acceptable (R31)? -/
def State.targetOk (s : State) (t : Nat) : Bool :=
  let d := (t + ccMod - s.cc) % ccMod
  2 ≤ d && d < ccMod / 2

def checkSnapshotRequest (v : Int) (s : State) : Nat :=
  if !s.targetOk v.toNat then stOutOfRange else if s.snapshotPending then stBusy else stOk

/-- SNAPSHOT_REQUEST (R140). -/
def applySnapshotRequest (v : Int) (s : State) : State :=
  { s.put k0BSnapshotRequest v with billing := { s.billing with snap := some v.toNat } }

def execSnapshotRequest (sid : Nat) (v : Int) (s : State) : Host.Outcome State Fault Refusal :=
  .next (s.writeRow sid k0BSnapshotRequest v (checkSnapshotRequest v) (applySnapshotRequest v))

/-- Instances of the existing registers. -/
def registers (v : Variant) : List Nat := List.range (24 * v.spokes)

/-- The shadows are latched (R139, R140) at the coming boundary; the journal latches with trigger 5. -/
def State.latchSnapshot (s : State) (source : Nat) : State :=
  let t := s.closeSegments
  let t := t.each (registers t.variant) fun t r =>
    t.puts [(k0BSnapshotValue r, t.get (k0BValue r)), (k0BSnapshotWrapCount r, t.get (k0BWrapCount r))]
  let seq := (t.getN k0BSnapshotSequence + 1) % 65536
  ((t.puts [(k0BSnapshotTick, t.nextTick), (k0BSnapshotTime, t.stampNext), (k0BSnapshotMC, t.get k20MC),
    (k0BSnapshotSequence, seq), (k0BSnapshotSource, source)]).notice byDevice 0x0422 seq).journal 5

/-- SNAPSHOT_LATCH (R140, R44 step 2): at its target tick the pending snapshot is latched. -/
def State.latchDue (s : State) : State :=
  match s.billing.snap with
  | some t =>
    if s.dueNext t then
      ({ s.put k0BSnapshotRequest 0 with billing := { s.billing with snap := none } }).latchSnapshot 1
    else s
  | none => s

def snapshotLatch (s : State) : State := s.atStep 2 State.latchDue

def execSnapshotLatch (s : State) : Host.Outcome State Fault Refusal := .next (snapshotLatch s)

def checkClearRegisters (v : Int) (s : State) : Nat := if v = 1 && !s.workstand then stNotNow else stOk

/-- CLEAR_REGISTERS (R145): registers, wrap counts, the whole fine-accumulator state and the shadows. -/
def applyClearRegisters (sid : Nat) (v : Int) (s : State) : State :=
  if v ≠ 1 then s
  else
    let t := s.each (registers s.variant) fun t r =>
      t.puts [(k0BValue r, 0), (k0BWrapCount r, 0), (k0BSnapshotValue r, 0), (k0BSnapshotWrapCount r, 0),
        (k0BFineFraction r, 0)]
    let t := t.each t.spokeList fun t sp => t.modMeter sp fun m =>
      { m with openCycle := [0, 0, 0], fine := List.replicate 24 0, clearedAt := (s.cc : Rat) }
    let t := t.each t.spokeList fun t sp => t.put (k30HighestApparentPower (65 + sp)) 0
    let t := { t with billing := { t.billing with intervalBase := List.replicate 24 0 } }
    t.notice sid 0x0421 (t.getN k0DMetrologyEventCounter)

def execClearRegisters (sid : Nat) (v : Int) (s : State) : Host.Outcome State Fault Refusal :=
  .next (s.writeRow sid k0BClearRegisters v (checkClearRegisters v) (applyClearRegisters sid v))

/-! ### Settings of classes 09h, 0Ah and 0Bh -/

/-- The chapter rule on writes of class 0Bh (R31, R137, R140, R145). -/
def check0B (s : State) (i m : Nat) (v : Int) : Nat :=
  if i = 1000 then
    (if m = 0 then checkSnapshotRequest v s else if m = 6 then checkClearRegisters v s else stOk)
  else if m = 2 && 2 ≤ i % 24 && i % 24 ≤ 5 && v ≠ 0 then stOutOfRange
  else stOk

/-- The effect of a write of class 0Bh: a mode change closes a segment first (R137, R139). -/
def apply0B (sid : Nat) (s : State) (k i m : Nat) (v : Int) : State :=
  if i = 1000 then
    (if m = 0 then applySnapshotRequest v s else if m = 6 then applyClearRegisters sid v s else s.put k v)
  else if m = 2 then (((if s.get k = v then s else s.closeSegment (i / 24))).put k v).calibrated sid k
  else s.put k v

def apply0A (sid : Nat) (s : State) (k m : Nat) (v : Int) : State :=
  let t := s.put k v
  if m = 28 then t.calibrated sid k else t

/-- A group that is enabled starts as a free-running one at the coming boundary: it has no crossings, no window and no samples yet, and R131
takes it from there (DESIGN CHOICE, log entry 54). -/
def State.startGroup (s : State) (g : Nat) : State :=
  s.modGroup g fun x =>
    { x with state := 2, prev := 0, passedHigh := false, passedLow := false, lastCross := none, lastReal := false, lastSeen := none,
             halves := [], lastPos := none, periods := [], missing := 0, winStart := (s.cc : Rat), freeStep := 0, timeout := false,
             rows := [], sags := [{}, {}, {}], earthHigh := 0, earthLow := 0 }

/-- The effect of a write of class 09h (R119, R139, R329). -/
def apply09 (sid : Nat) (s : State) (k i m : Nat) (v : Int) : State :=
  let t :=
    if 32 ≤ i && i ≤ 55 && m = 0 && s.get k ≠ v then
      ((((s.closeSegment (i - 32)).put k v).restartIntegrators (i - 32)).assignMasks).setCause (i - 32) cEarth
        (s.group v.toNat).earth
    else if i = 8 && m = 0 && s.get k ≠ v then
      { s.put k v with chainline := { s.chainline with refChanged := true } }
    else if i < 8 && m = 0 && s.get k = 0 && v = 1 then (s.put k v).startGroup i
    else s.put k v
  if isSealedSetting 0x09 i m then t.calibrated sid k else t

/-- SPOKE_GROUP (R118, R119). -/
def execSpokeGroup (sid sp : Nat) (v : Int) (s : State) : Host.Outcome State Fault Refusal :=
  .next (s.writeRow sid (k09SpokeGroup (32 + sp)) v (fun s => check09 s (32 + sp) 0 v)
    fun s => apply09 sid s (k09SpokeGroup (32 + sp)) (32 + sp) 0 v)

/-- GROUP_ENABLE (R119). -/
def execGroupEnable (sid g : Nat) (v : Int) (s : State) : Host.Outcome State Fault Refusal :=
  .next (s.writeRow sid (k09GroupEnable g) v (fun s => check09 s g 0 v) fun s => apply09 sid s (k09GroupEnable g) g 0 v)

/-- REFERENCE_GROUP (R119, R120, R241, R329). -/
def execReferenceGroup (sid : Nat) (v : Int) (s : State) : Host.Outcome State Fault Refusal :=
  .next (s.writeRow sid k09ReferenceGroup v (fun s => check09 s 8 0 v) fun s => apply09 sid s k09ReferenceGroup 8 0 v)

/-- The metering work of a frame: channels, crossings, windows, energy, registers and pulses (R128-R144). -/
def State.meterFrame (s : State) : State :=
  let t := s.each s.variant.channels State.runChannel
  let t := t.each t.spokeList State.accrue
  let on := (List.range 8).filter t.groupOn
  let t := t.each on State.addRows
  let t := t.each on fun t g => (t.crossGroup g).freeWindow g
  let t := t.each t.spokeList State.moveFine
  let t := t.each (List.range 4) State.pulseTick
  let free := (t.group t.beacon.group).state = 2
  if t.lease.fwUp then t.clearUnreached.put k1ABeaconAlignment (b1 free) else t.clearUnreached

end Sys2Proof.Machine
end

