-- ==== Sys2Proof/Machine/SafetyFns.lean ====
section
/-! DEFINITION. Safety functions and supervision (R299-R311, R313): two-channel inputs, residual current, cross-check, earth,
and the clears of lockouts and device faults. The rows of the functions stand between the tick that latched the inputs and
the one that evaluates them (log entry 5). -/

namespace Sys2Proof.Machine

/-! ### Two-channel inputs (R302-R306) -/

def State.fn (s : State) (f : Nat) : SafetyFn := s.functions.getD f {}
def State.modFn (s : State) (f : Nat) (g : SafetyFn → SafetyFn) : State := { s with functions := s.functions.modify f g }
def State.fnState (s : State) (f : Nat) : Nat := s.getN (k1DFunctionState f)

/-- The OSSD filter of a function: functions 2 and 3 only (R305). -/
def State.ossd (s : State) (f : Nat) : Nat := if 2 ≤ f then s.getN (k1DOSSDFilter f) else 0

/-- Does a channel demand after the filter? -/
def State.demandA (s : State) (f : Nat) : Bool := s.ossd f < (s.fn f).runA
def State.demandB (s : State) (f : Nat) : Bool := s.ossd f < (s.fn f).runB
def State.demands (s : State) (f : Nat) : Bool := s.demandA f || s.demandB f

def clearTicks : Nat := 8

/-- What a function keeps of the levels of a tick edge, true = clear (R302-R305): a channel that the filter ignores counts as
clear, and a demand voids an accepted reset. -/
def SafetyFn.latch (filter : Nat) (a b : Bool) (x : SafetyFn) : SafetyFn :=
  let ra := if a then 0 else x.runA + 1
  let rb := if b then 0 else x.runB + 1
  let clear := decide (ra ≤ filter ∧ rb ≤ filter)
  { x with a := a, b := b, runA := ra, runB := rb, clearRun := if clear then x.clearRun + 1 else 0,
           disagree := if a = b then 0 else x.disagree + 1, resetOk := x.resetOk && clear }

/-- The shown levels of the two channels: bit 1 A, bit 0 B. -/
def channelBits (a b : Bool) : Int := (if a then 2 else 0) + (if b then 1 else 0)

/-- The cause bit of a function on the spokes of its zone (R303). -/
def State.zoneCause (s : State) (f : Nat) : State :=
  s.each (s.spokeList.filter (bit (s.getN (k1DZone f)))) fun s sp => s.setCause sp f true

/-- The cause bit of a function on the spokes of its zone and on no other, once the stored zone is known. -/
def State.zoneOnly (s : State) (f : Nat) : State :=
  s.each s.spokeList fun s sp => s.setCause sp f (bit (s.getN (k1DZone f)) sp)

/-- The levels of a tick edge are latched (R302); a discrepancy or a startup test is over once both channels have demanded at
one tick (R304, R306). A function whose startup test is pending is demanded. -/
def State.latchFn (s : State) (f : Nat) (a b : Bool) : State :=
  let t := (s.modFn f (SafetyFn.latch (s.ossd f) a b)).put (k1DChannelLevels f) (channelBits a b)
  let t := if t.fnState f = 3 then t.zoneCause f else t
  if (t.fnState f = 2 || t.fnState f = 3) && t.demandA f && t.demandB f then t.put (k1DFunctionState f) 1 else t

/-- The functions after a safety-domain reset, once the settings are known (R306): one with the startup-test attribute is
demanded until it has been interrupted. The stored zone is in force from here on. -/
def State.startFunctions (s : State) : State :=
  s.each (List.range 4) fun s f =>
    if s.flag (k1DStartupTest f) then (s.put (k1DFunctionState f) 3).zoneOnly f
    else if s.fnState f = 3 then
      let t := s.put (k1DFunctionState f) 0
      t.each t.spokeList fun t sp => t.setCause sp f false
    else if s.fnState f = 0 then s else s.zoneOnly f

/-- FUNCTION_DEMAND (R303): a clear function that a channel demands sets its causes, counts and records; a function awaiting
its reset falls back. -/
def functionDemand (f : Nat) (s : State) : State :=
  if 4 ≤ f || !s.demands f then s
  else if s.fnState f = 0 then
    ((((s.put (k1DFunctionState f) 1).count (k1DDemands f)).notice byDevice 0x0A01 f).zoneCause f)
  else if s.fnState f = 4 then s.put (k1DFunctionState f) 1
  else s

def execFunctionDemand (f : Nat) (s : State) : Host.Outcome State Fault Refusal := .next (functionDemand f s)

/-- DISCREPANCY (R304): the channels have disagreed for longer than the discrepancy time. -/
def discrepancy (f : Nat) (s : State) : State :=
  if f < 4 && s.fnState f ≠ 2 && msTicks (s.getN (k1DDiscrepancyTime f)) < (s.fn f).disagree then
    ((s.put (k1DFunctionState f) 2).noticeOpen byDevice 0x0A02).zoneCause f
  else s

def execDiscrepancy (f : Nat) (s : State) : Host.Outcome State Fault Refusal := .next (discrepancy f s)

/-- FUNCTION_CLEAR (R303): both channels clear for 8 ticks, no discrepancy, no pending startup test; under manual restart a
reset must have been accepted, else the function awaits it. -/
def functionClear (f : Nat) (s : State) : State :=
  if 4 ≤ f || (s.fn f).clearRun < clearTicks || !(s.fnState f = 1 || s.fnState f = 4) then s
  else if s.getN (k1DRestartMode f) = 1 && !(s.fn f).resetOk then s.put (k1DFunctionState f) 4
  else
    let t := (s.put (k1DFunctionState f) 0).modFn f fun x => { x with resetOk := false }
    t.each t.spokeList fun t sp => t.setCause sp f false

def execFunctionClear (f : Nat) (s : State) : Host.Outcome State Fault Refusal := .next (functionClear f s)

def checkFunctionReset (f : Nat) (v : Int) (s : State) : Nat :=
  if v = 1 && !((s.fn f).a && (s.fn f).b) then stNotNow else stOk

/-- FUNCTION_RESET (R303). -/
def applyFunctionReset (f : Nat) (v : Int) (s : State) : State :=
  if v = 1 then s.modFn f fun x => { x with resetOk := true } else s

def execFunctionReset (sid f : Nat) (v : Int) (s : State) : Host.Outcome State Fault Refusal :=
  .next (s.writeRow sid (k1DReset f) v (checkFunctionReset f v) (applyFunctionReset f v))

/-! ### Residual current (R307, R308) -/

/-- Length of the residual window in ticks (R307). -/
def State.residualWindow (s : State) (sp : Nat) : Nat :=
  if s.getN (k09NominalFrequency (s.getN (k09SpokeGroup (32 + sp)))) = 0 then 160 else 133

def State.resid (s : State) (sp : Nat) : Residual := (s.spoke sp).residual

/-- Level of a point in uA and its time in ms (R308): points 0-2 DC, 3-4 AC. -/
def State.pointLevel (s : State) (pt : Nat) : Nat := if pt < 3 then s.getN (k1DDCLevels pt) else s.getN (k1DACLevels (pt - 3))
def State.pointTime (s : State) (pt : Nat) : Nat := if pt < 3 then s.getN (k1DDCTimes pt) else s.getN (k1DACTimes (pt - 3))

/-- Timer count at which a point trips. -/
def State.tripCount (s : State) (sp pt : Nat) : Nat := msTicks (s.pointTime pt) - s.residualWindow sp

/-- Is the estimate of a point's kind at or above its level, at full precision (R308)? -/
def State.aboveLevel (s : State) (sp pt : Nat) : Bool :=
  let r := s.resid sp
  let lv : Rat := s.pointLevel pt
  if pt < 3 then lv ≤ r.dc * 1000 else lv * lv ≤ r.acSq * 1000000

/-- The estimates of a tick and the timers of the trip curve (R307, R308); Coast has no residual supervision (R452). -/
def State.evalResidual (s : State) (sp : Nat) : State :=
  let n := 5 * sp + 4
  if s.typeOf n = 0 || s.coasting then s.modResidual sp fun _ => {}
  else
    let w := s.residualWindow sp
    let t := s.modResidual sp fun r => { r with ix := (s.outOf n :: r.ix).take w }
    let ix := (t.resid sp).ix
    let len : Rat := ix.length
    let mean := ix.sum / len
    let sq := (ix.map fun x => x * x).sum / len - mean * mean
    let t := t.modResidual sp fun r => { r with dc := if mean < 0 then -mean else mean, acSq := sq }
    let t := t.puts [(k1DResidualDCEstimate (16 + sp), roundQ ((t.resid sp).dc * 1000)),
      (k1DResidualACEstimate (16 + sp), rootQ (sq * 1000000))]
    let up := (List.range 5).map (t.aboveLevel sp)
    t.modResidual sp fun r =>
      { r with timers := r.timers.zipIdx.map fun p => if up.getD p.2 false then p.1 + 1 else 0,
               tripped := r.tripped.zipIdx.map fun p => p.1 && up.getD p.2 false }

/-- Has a point of the curve reached its time? -/
def State.pointDue (s : State) (sp pt : Nat) : Bool :=
  s.typeOf (5 * sp + 4) ≠ 0 && s.aboveLevel sp pt && s.tripCount sp pt ≤ (s.resid sp).timers.getD pt 0

/-- RESIDUAL_TRIP (R308): a decision of the running frame, at whose tick it triggers the capture ring (R57). -/
def residualTrip (sp pt : Nat) (s : State) : State :=
  if s.spokeCount ≤ sp || 5 ≤ pt || !s.pointDue sp pt || (s.resid sp).tripped.getD pt false then s
  else
    s.inFrame sp fun s =>
      ((((s.modResidual sp fun r => { r with tripped := r.tripped.set pt true }).setCause sp cResidual true).notice byDevice
        0x0A10 (sp * 256 + pt)).count (k1DResidualTrips (16 + sp))).trigger 1

def execResidualTrip (sp pt : Nat) (s : State) : Host.Outcome State Fault Refusal := .next (residualTrip sp pt s)

/-- Does the condition "residual current within limits" hold (R307, R474)? A point or a cross-check that is due counts at
once, so that the gate acts in the same evaluation (R300, log entry 5). -/
def State.residualOk (s : State) (sp : Nat) : Bool :=
  let w := s.causes sp
  s.typeOf (5 * sp + 4) ≠ 0 && !s.bist.adcFailed.contains (5 * sp + 4) &&
    !bit w cResidual && !bit w cCross && !bit w cWinding &&
    !((List.range 5).any (s.pointDue sp)) && (s.spoke sp).meter.crossRun < 8

/-- CROSS_CHECK_FAILURE (R309): eight windows in a row have failed the comparison. -/
def crossCheckFailure (sp : Nat) (s : State) : State :=
  if (s.spoke sp).meter.crossRun < 8 then s
  else
    s.inFrame sp fun s =>
      (((s.modMeter sp fun m => { m with crossRun := 0 }).setCause sp cCross true).count
        (k1DCrossCheckFailures (16 + sp))).notice byDevice 0x0A11 sp

def execCrossCheckFailure (sp : Nat) (s : State) : Host.Outcome State Fault Refusal := .next (crossCheckFailure sp s)

/-! ### Earth (R311) -/

/-- EARTH_FAULT (R311). -/
def earthFault (g : Nat) (s : State) : State :=
  let x := s.group g
  if x.earth || x.earthHigh < 8 || !s.groupOn g then s
  else
    let t := (s.modGroup g fun x => { x with earth := true }).notice byDevice 0x0A13 g
    t.each (t.groupSpokes g) fun t sp => t.inFrame sp fun t => t.setCause sp cEarth true

def execEarthFault (g : Nat) (s : State) : Host.Outcome State Fault Refusal := .next (earthFault g s)

/-- EARTH_CLEAR (R311). -/
def earthClear (g : Nat) (s : State) : State :=
  let x := s.group g
  if !x.earth || x.earthLow < 8 then s
  else
    let t := s.modGroup g fun x => { x with earth := false }
    t.each (t.groupSpokes g) fun t sp => t.inFrame sp fun t => t.setCause sp cEarth false

def execEarthClear (g : Nat) (s : State) : Host.Outcome State Fault Refusal := .next (earthClear g s)

/-! ### What an evaluation has formed (R300) -/

/-- Bit 5 of a spoke as the windows of its group leave it, whether or not EARTH_FAULT and EARTH_CLEAR have reported it. -/
def State.earthNow (s : State) (sp : Nat) : Bool :=
  let g := s.getN (k09SpokeGroup (32 + sp))
  let x := s.group g
  if x.earth then bit (s.causes sp) cEarth && x.earthLow < 8
  else bit (s.causes sp) cEarth || (8 ≤ x.earthHigh && s.groupOn g)

/-- The cause word that the evaluation of this frame has formed: the decisions that the rows after the TICK report (RESIDUAL_TRIP,
CROSS_CHECK_FAILURE, EARTH_FAULT, EARTH_CLEAR) count at once, so that the gate acts on them in the same evaluation (R300, log
entry 5). -/
def State.causesNow (s : State) (sp : Nat) : Nat :=
  let w := setBit (s.causes sp) cEarth (s.earthNow sp)
  let w := if (List.range 5).any (s.pointDue sp) then setBit w cResidual true else w
  if 8 ≤ (s.spoke sp).meter.crossRun then setBit w cCross true else w

/-- The safety state of that cause word. -/
def State.safetyNow (s : State) (sp : Nat) : Nat := safetyState (s.causesNow sp)

/-! ### Clears (R301, R313) -/

def checkClearLockout (sp : Nat) (v : Int) (s : State) : Nat :=
  if v = 1 && (s.resid sp).timers.any (0 < ·) then stNotNow else stOk

/-- CLEAR_LOCKOUT (R301): bits 8-10 of the spoke. -/
def applyClearLockout (sid sp : Nat) (v : Int) (s : State) : State :=
  if v ≠ 1 then s
  else
    let w := setBit (setBit (setBit (s.causes sp) cResidual false) cCross false) cWinding false
    (s.inFrame sp fun s => s.setCauses sp w).notice sid 0x0A22 sp

def execClearLockout (sid sp : Nat) (v : Int) (s : State) : Host.Outcome State Fault Refusal :=
  .next (s.writeRow sid (k1DClearLockout (16 + sp)) v (checkClearLockout sp v) (applyClearLockout sid sp v))

def checkClearDeviceFault (v : Int) (s : State) : Nat :=
  if v = 1 && (s.getN k00LinkAState = 2 || s.getN k00LinkBState = 2) then stNotNow else stOk

/-- CLEAR_DEVICE_FAULT (R313). -/
def applyClearDeviceFault (sid : Nat) (v : Int) (s : State) : State :=
  if v ≠ 1 then s
  else
    let t := (s.put k1DDeviceFaultCauses 0).noticeOpen sid 0x0A21
    t.each t.spokeList fun t sp => t.inFrame sp fun t => t.setCause sp cDevice false

def execClearDeviceFault (sid : Nat) (v : Int) (s : State) : Host.Outcome State Fault Refusal :=
  .next (s.writeRow sid k1DClearDeviceFault v (checkClearDeviceFault v) (applyClearDeviceFault sid v))

/-! ### Settings of class 1Dh (R308, R327) -/

/-- Do levels ascend and times descend strictly? -/
def ascends (l : List Nat) : Bool := (l.zip (l.drop 1)).all fun p => p.1 < p.2
def descends (l : List Nat) : Bool := (l.zip (l.drop 1)).all fun p => p.2 < p.1

/-- The curve as ten values (1Dh/257/0-9). -/
def State.curve (s : State) : List Nat := (List.range 10).map fun j => s.getN (key 0x1D 257 j)

def curveOk (c : List Nat) : Bool :=
  ascends (c.take 3) && descends ((c.drop 3).take 3) && ascends ((c.drop 6).take 2) && descends ((c.drop 8).take 2) &&
    ((c.take 3) ++ ((c.drop 6).take 2)).all (fun l => 1000 ≤ l && l ≤ 1000000) &&
    (((c.drop 3).take 3) ++ ((c.drop 8).take 2)).all (fun t => 21 ≤ t && t ≤ 10000)

/-- The chapter rule on writes of class 1Dh. -/
def check1D (s : State) (i m : Nat) (v : Int) : Nat :=
  if i = 257 then (if curveOk (s.curve.set m v.toNat) then stOk else stOutOfRange)
  else if i ≤ 3 && m = 7 then checkFunctionReset i v s
  else if 16 ≤ i && i ≤ 39 && m = 7 then checkClearLockout (i - 16) v s
  else if i = 256 && m = 1 then checkClearDeviceFault v s
  else stOk

/-- The timers of the trip curve restart (R308). -/
def State.restartCurve (s : State) : State :=
  s.each s.spokeList fun t sp => t.modResidual sp fun r =>
    { r with timers := [0, 0, 0, 0, 0], tripped := List.replicate 5 false }

/-- The effect of a write of class 1Dh: a new curve restarts the timers; a demanded function acts on the spokes a new zone
adds. -/
def apply1D (sid : Nat) (s : State) (k i m : Nat) (v : Int) : State :=
  if i = 257 then (s.put k v).restartCurve
  else if i ≤ 3 && m = 7 then applyFunctionReset i v s
  else if i ≤ 3 && m = 2 then
    (let t := s.put k v
     if t.fnState i = 0 then t else t.each t.spokeList fun t sp => t.inFrame sp fun t =>
       if bit (t.getN (k1DZone i)) sp then t.setCause sp i true else t)
  else if 16 ≤ i && i ≤ 39 && m = 7 then applyClearLockout sid (i - 16) v s
  else if i = 256 && m = 1 then applyClearDeviceFault sid v s
  else s.put k v

end Sys2Proof.Machine
end

