-- ==== Sys2Proof/Machine/Switches.lean ====
section
/-! DEFINITION. Protected switch channels (R276-R298): what the spoke die applies, profiles, under-voltage, latches and
restarts, the off-pulse test, readback supervision, the contactor pair, the lock actuator and the weld check. -/

namespace Sys2Proof.Machine

/-! ### Channels (R276, R277) -/

/-- The spoke of a channel below 96. -/
def chSpoke (n : Nat) : Nat := n / 4

/-- Does a channel exist? -/
def State.hasSwitch (s : State) (n : Nat) : Bool := n < 104 && (96 ≤ n || n / 4 < s.spokeCount)

/-- The bank that supplies a channel (R276): 2d VSW1, 2d + 1 VSW2 of die d. KL is judged on VSW1. -/
def bankOf (n : Nat) : Nat := if 96 ≤ n then 1 else 2 * (n / 48) + (if n % 4 ≤ 1 then 0 else 1)

/-- Current limit in mA (R277) and rated current. -/
def currentLimit (n : Nat) : Nat := [2500, 2500, 3500, 1500, 5000].getD (switchKind n) 0
def ratedCurrent (n : Nat) : Nat := [1000, 1000, 1500, 500, 2000].getD (switchKind n) 0

def State.cmd (s : State) (n : Nat) : Nat := s.getN (k1CCommand n)
def State.latchCause (s : State) (n : Nat) : Nat := s.getN (k1CLatchCause n)
def State.latched (s : State) (n : Nat) : Bool := s.latchCause n ≠ 0

/-- Fields of the last readback word (R281). -/
def State.rbOut (s : State) (n : Nat) : Bool := bit (s.getN (k1CReadback n)) 15
def State.rbUv (s : State) (n : Nat) : Bool := bit (s.getN (k1CReadback n)) 14
def State.rbFb (s : State) (n : Nat) : Bool := bit (s.getN (k1CReadback n)) 9

/-- The existing channels. -/
def State.switchList (s : State) : List Nat := (List.range (4 * s.spokeCount)) ++ (List.range 8).map (96 + ·)

/-- The die of a channel, and whether its upstream frame of the last tick arrived. -/
def chDie (n : Nat) : Die := if 96 ≤ n then .a else dieOf (n / 4)
def State.rbFresh (s : State) (n : Nat) : Bool := (s.dieLink (chDie n)).up.isSome

/-! ### Commands and profiles (R279, R282, R292) -/

/-- One operation of a channel (R292), with the warning at 95 % of the rated count (R107). -/
def State.operation (s : State) (n : Nat) : State :=
  let t := s.count (k1COperations n)
  if 95 * t.getN (k1CRatedOperations n) ≤ 100 * t.getN (k1COperations n) && !(t.switch n).warned then
    (t.modSwitch n fun w => { w with warned := true }).notice byDevice 0x0920 n
  else t

/-- The profile of a channel starts at the tick at which the die applies its command, with the type and current then set
(R282). While the die does not drive the channel yet, the tick moves on with it (`applyCode`). -/
def State.startProfile (s : State) (n at_ : Nat) : State :=
  s.modSwitch n fun w =>
    { w with profileAt := at_, profType := s.getN (k1CLoadType n), profNom := s.getN (k1CNominalCurrent n),
             overRun := 0 }

/-- The command of a channel changes in the frame of a tick: the die applies it at the next (R17). -/
def State.commandAt (s : State) (n code frame : Nat) : State :=
  if s.cmd n = code then s
  else
    let on := s.cmd n = 0 && code ≠ 0
    let t := (s.put (k1CCommand n) code).modSwitch n fun w =>
      { w with changedAt := frame, stuckRun := 0, lostRun := 0,
               onSince := if code = 0 then none else if on then some ((frame + 1) % ccMod) else w.onSince }
    let t := if on then t.startProfile n ((frame + 1) % ccMod) else t
    if on && n < 96 && n % 4 ≤ 1 then t.operation n else t

/-- A command of the running frame. -/
def State.command (s : State) (n code : Nat) : State := s.commandAt n code s.cc

/-- Stages of a profile (R282): multiple in tenths and end in ms; the steady multiple in tenths. -/
def stages : Nat → List (Nat × Nat)
  | 0 => [(15, 20)]
  | 1 => [(100, 10), (30, 1000)]
  | 2 => [(60, 50), (30, 500)]
  | 3 => [(20, 100)]
  | 4 => [(20, 50)]
  | _ => [(40, 200), (20, 2000)]
def steady : Nat → Nat
  | 0 => 12 | 1 => 12 | 2 => 13 | 3 => 11 | 4 => 12 | _ => 13

/-- The profile limit in tenths of a mA at a profile time in ticks. -/
def profileLimit (n type nom t : Nat) : Nat :=
  let mult := match (stages type).find? fun st => t ≤ msTicks st.2 with
    | some st => st.1
    | none => steady type
  min (mult * nom) (10 * currentLimit n)

/-- Load types permitted on a channel (R282). -/
def loadPermitted (n type : Nat) : Bool :=
  match switchKind n with
  | 0 | 1 => type = 0
  | 2 => type = 2 || type = 4
  | _ => type ≤ 5

/-! ### Latches (R291) -/

/-- Channel state (1Ch/n/1). -/
def State.showSwitch (s : State) (n : Nat) : State :=
  s.put (k1CChannelState n)
    (if s.latched n then 3 else if (s.switch n).uvSeen then 2 else if s.cmd n ≠ 0 then 1 else 0)

/-- The lock stroke of a spoke is interrupted (R293). -/
def State.interruptLock (s : State) (sp : Nat) : State :=
  match (s.spoke sp).lock.phase with
  | .idle => s
  | _ =>
    let t := (s.modLock sp fun l => { l with phase := .idle, endedAt := some s.cc }).command (4 * sp + 2) 0
    t.setLockState sp 3

/-- A channel is latched with a cause; a latched contactor switch locks the spoke out (R291). -/
def State.latchSwitch (s : State) (n cause : Nat) : State :=
  let t := (s.put (k1CLatchCause n) cause).showSwitch n
  if 96 ≤ n then t
  else if n % 4 ≤ 1 then
    let was := bit (t.causes (chSpoke n)) cSwitch
    let t := t.setCause (chSpoke n) cSwitch true
    if was then t else t.notice byDevice 0x0933 (chSpoke n)
  else if n % 4 = 2 then t.interruptLock (chSpoke n)
  else t

/-! ### The contactor pair (R291, R292, R295) -/

/-- Does the last published window of a spoke show more than 1,000 mA rms on any phase (R292)? -/
def State.underLoad (s : State) (sp : Nat) : Bool := (List.range 3).any fun j => 1000000 < s.getN (k0ACurrentRmsI1I2I3IN sp j)

/-- Are the contacts commanded on? -/
def State.contactsOn (s : State) (sp : Nat) : Bool := s.cmd (4 * sp) ≠ 0 || s.cmd (4 * sp + 1) ≠ 0

/-- Once every stop order has ended and the firmware has restarted, the lease state reads 0 (R326). -/
def State.showLease (s : State) : State :=
  if s.getN k1DLeaseState = 3 && s.lease.fwUp && s.spokeList.all (fun sp => !(s.spoke sp).gate.stopOrder) then
    s.put k1DLeaseState 0
  else s

/-- KH and KL change from on to off in the frame of a tick: an opening, with its weld check from the tick at which the die
applies it and its counts (R292, R295, R325). -/
def State.openContactsAt (s : State) (sp gate frame : Nat) : State :=
  if !s.contactsOn sp then s.setGate sp gate
  else
    let t := (s.commandAt (4 * sp) 0 frame).commandAt (4 * sp + 1) 0 frame
    let t := if t.underLoad sp then t.count (k1COpeningsUnderLoad (4 * sp)) else t
    let t := if (t.spoke sp).gate.stopOrder && t.underLoad sp then t.notice byDevice 0x0A43 sp else t
    let t := t.modGate sp fun g =>
      { g with weldFrom := some ((frame + 1) % ccMod), softPilot := none, softGrant := none, softOrder := none, stopOrder := false,
               armed := false }
    ((t.put (k1CWeldCheck (4 * sp)) 1).setGate sp gate).showLease

/-- An opening in the running frame. -/
def State.openContacts (s : State) (sp gate : Nat) : State := s.openContactsAt sp gate s.cc

/-- KH and KL are commanded on together (R291). -/
def State.closeContacts (s : State) (sp : Nat) : State :=
  (((s.command (4 * sp) 1).command (4 * sp + 1) 1).setGate sp 2).modGate sp fun g => { g with softPilot := none, softGrant := none, softOrder := none }

/-! ### What the spoke die applies (R279, R280, R294) -/

/-- Is a code listed for a channel's kind? -/
def codeListed (n code : Nat) : Bool :=
  match switchKind n with
  | 2 => code ≤ 4
  | 4 => code ≤ 3
  | _ => code = 0 || code = 1 || code = 3

def overtimeTicks : Nat := 4000

/-- The die applies a code to a channel at a tick edge (R279, R280, R294). Only a code 0h that it has received ends the hold after an
under-voltage. A profile that was to start here starts a tick later while the channel is not driven. -/
def State.applyCode (s : State) (n code : Nat) : State :=
  let hot := s.flag (k1CHot n)
  let received := (s.dieLink (chDie n)).edgeFresh
  s.modSwitch n fun w =>
    let c := if codeListed n code then code else w.applied
    let tl := w.tlatch && !(c = 3 && !hot)
    let uv := w.uvOff && !(received && code = 0)
    let ov := w.ovt && c ≠ 3
    let c := if c = 3 || tl || uv || ov then 0 else if switchKind n = 4 && c = 2 then 1 else c
    let drives := switchKind n = 2 && (c = 1 || c = 2)
    let run := if drives then (if w.applied = c then w.driveRun + 1 else 1) else 0
    let at_ := if w.profileAt = s.cc && c = 0 then s.nextTick else w.profileAt
    let w := { w with profileAt := at_ }
    if overtimeTicks < run then { w with applied := 0, ovt := true, driveRun := 0, tlatch := tl, uvOff := uv }
    else { w with applied := c, driveRun := run, tlatch := tl, uvOff := uv, ovt := ov }

/-- The SW code of a channel in the words a die holds; none when it holds none. -/
def State.heldCode (s : State) (n : Nat) : Option Nat :=
  if 96 ≤ n then some (field s.linkA.heldHx (31 - 4 * (n - 96)) (28 - 4 * (n - 96)))
  else
    let l := s.dieLink (chDie n)
    (l.held[chSpoke n - dieBase (chDie n)]?).map fun w => field w (33 - 4 * (n % 4)) (30 - 4 * (n % 4))

/-- The weld check starts at the tick at which the die applies the off command (R295): it waits while a discarded frame leaves KH or KL
driven. -/
def State.weldWaits (s : State) (sp : Nat) : State :=
  if (s.spoke sp).gate.weldFrom = some s.cc && ((s.switch (4 * sp)).applied ≠ 0 || (s.switch (4 * sp + 1)).applied ≠ 0) then
    s.modGate sp fun g => { g with weldFrom := some s.nextTick }
  else s

/-- Every channel applies its held command at the tick edge (R17). -/
def State.applySwitches (s : State) : State :=
  (s.each s.switchList fun s n =>
    match s.heldCode n with
    | some c => s.applyCode n c
    | none => if (s.dieLink (chDie n)).cut then s.modSwitch n fun w => { w with applied := 0, driveRun := 0 } else s).each
    s.spokeList State.weldWaits

/-- LK_OVERTIME_STOP (R294): the die has stopped LK; safety evaluation latches it with cause 6. -/
def lkOvertimeStop (sp : Nat) (s : State) : State :=
  let n := 4 * sp + 2
  if sp < s.spokeCount && (s.switch n).ovt && s.latchCause n ≠ 6 then (s.latchSwitch n 6).noticeOpen byDevice 0x0952 else s

def execLkOvertimeStop (sp : Nat) (s : State) : Host.Outcome State Fault Refusal := .next (lkOvertimeStop sp s)

/-! ### Under-voltage, restarts and the thermal latch (R283-R287) -/

/-- Safety evaluation sees a channel in under-voltage, in the frame of a tick (R283): the contactor drops, a stroke is interrupted, and
a channel whose command is on is recorded (`on`; log entry 26). A thermally latched channel is not concerned (R286). -/
def State.seeUv (s : State) (on : Bool) (n frame : Nat) : State :=
  if (s.switch n).tlatch then s
  else if (s.switch n).uvSeen then s.modSwitch n fun w => { w with uvClear := 0 }
  else
    let t := s.modSwitch n fun w => { w with uvSeen := true, uvClear := 0 }
    let t := if on then t.notice byDevice 0x0901 n else t
    let t := if n < 96 && n % 4 = 0 && t.gateState (chSpoke n) = 2 then t.openContactsAt (chSpoke n) 3 frame
      else if n < 96 && n % 4 = 2 then t.interruptLock (chSpoke n) else t
    t.showSwitch n

/-- UNDER_VOLTAGE (R283): the die turns off every channel of the bank, and safety evaluation sees it. -/
def underVoltage (b : Nat) (s : State) : State :=
  if 4 ≤ b || s.getN (k1CBankState b) = 2 then s
  else
    let t := s.put (k1CBankState b) 1
    t.each (t.switchList.filter fun n => bankOf n = b) fun t n =>
      (t.modSwitch n fun w => { w with uvOff := true, applied := 0, driveRun := 0 }).seeUv (s.cmd n ≠ 0) n t.nextTick

def execUnderVoltage (b : Nat) (s : State) : Host.Outcome State Fault Refusal := .next (underVoltage b s)

def restartMax : Nat := 7
def restartWindow : Nat := 480000

/-- May an AX or HX channel restart (R284, R286)? -/
def State.restartDue (s : State) (n : Nat) : Bool :=
  let w := s.switch n
  (96 ≤ n || n % 4 = 3) && w.uvSeen && 8 ≤ w.uvClear && s.cmd n ≠ 0 && !s.latched n && !w.tlatch

/-- The code of a channel is replaced in a frame that has not been sent. -/
def frameWith (f : DownFrame) (n code : Nat) : DownFrame :=
  if 96 ≤ n then { f with hx := putField f.hx (28 - 4 * (n - 96)) 4 code }
  else { f with words := f.words.modify (chSpoke n - dieBase (chDie n)) fun w => putField w (30 - 4 * (n % 4)) 4 code }

/-- The frame that carries a command decided in safety evaluation by a row after the TICK: that of the running tick while it has not
been sent, else the next. -/
def State.frameOpen (s : State) (n : Nat) : Nat := if (s.dieLink (chDie n)).outgoing.isSome then s.cc else s.nextTick
def State.resend (s : State) (n code : Nat) : State :=
  s.modDie (chDie n) fun l => { l with outgoing := l.outgoing.map fun f => frameWith f n code }

/-- CHANNEL_RESTART (R284): the tick whose evaluation saw the eighth readback sends code 1h. -/
def channelRestart (n : Nat) (s : State) : State :=
  if !s.hasSwitch n || !s.restartDue n then s
  else
    let used := (s.switch n).restarts.filter fun t => s.since t < restartWindow
    if restartMax ≤ used.length then
      ((s.modSwitch n fun w => { w with uvSeen := false }).latchSwitch n 5).noticeOpen byDevice 0x0903
    else
      let at_ := (s.frameOpen n + 1) % ccMod
      let t := s.modSwitch n fun w => { w with uvSeen := false, restarts := s.cc :: used, changedAt := s.frameOpen n,
                                               onSince := some at_ }
      let t := if s.driveOff then t else t.resend n (s.cmd n)
      (((t.put (k1CRestartsAvailable n) (restartMax - used.length - 1 : Nat)).operation n).startProfile n at_).showSwitch n
        |>.noticeOpen byDevice 0x0902

def execChannelRestart (n : Nat) (s : State) : Host.Outcome State Fault Refusal := .next (channelRestart n s)

/-- A channel whose under-voltage fell on this tick is handled as thermally latched: the notice and the wait are taken back (R286). -/
def State.notUv (s : State) (n : Nat) : State :=
  if s.recorder.raised.contains ⟨0x0901, byDevice, n⟩ then
    { s.modSwitch n fun w => { w with uvSeen := false } with
      recorder := { s.recorder with raised := s.recorder.raised.filter (· ≠ ⟨0x0901, byDevice, n⟩) } }
  else s

/-- THERMAL_LATCH (R285, R286): the die sets the latch and turns the channel off; safety evaluation latches it with cause 2. -/
def thermalLatch (n : Nat) (s : State) : State :=
  if !s.hasSwitch n || (s.switch n).tlatch then s
  else (((s.notUv n).modSwitch n fun w => { w with tlatch := true, applied := 0, driveRun := 0 }).latchSwitch n 2).noticeOpen
    byDevice 0x0911

def execThermalLatch (n : Nat) (s : State) : Host.Outcome State Fault Refusal := .next (thermalLatch n s)

/-- The clear of a latch (R287). A latched channel is sent code 0h, so a stuck one that still conducts is one commanded off. -/
def checkClearLatch (n : Nat) (v : Int) (s : State) : Nat :=
  if v ≠ 1 then stOk
  else if s.latchCause n = 2 && s.flag (k1CHot n) then stNotNow
  else if s.latchCause n = 3 && s.rbOut n then stNotNow
  else stOk

/-- CLEAR_LATCH (R286, R287): the coming frame carries code 3h, the one after it the command in force; LK serves the latest
lock sink value. -/
def applyClearLatch (n : Nat) (v : Int) (s : State) : State :=
  if v ≠ 1 || !s.latched n then s
  else
    let t := (s.puts [(k1CLatchCause n, 0), (k1CRestartsAvailable n, restartMax)]).modSwitch n fun w =>
      { w with clearing := true, restarts := [], overRun := 0, stuckRun := 0, lostRun := 0,
               changedAt := s.after 2, onSince := w.onSince.map fun _ => s.after 3 }
    let t := (t.startProfile n (s.after 3)).noticeOpen byDevice 0x0912
    let t := if n < 96 && n % 4 = 2 then t.modLock (chSpoke n) fun l => { l with served := 0 } else t
    let t := if n < 96 && n % 4 ≤ 1 && !t.latched (n / 4 * 4) && !t.latched (n / 4 * 4 + 1) then
        t.setCause (chSpoke n) cSwitch false else t
    t.showSwitch n

def execClearLatch (sid n : Nat) (v : Int) (s : State) : Host.Outcome State Fault Refusal :=
  .next (s.writeRow sid (k1CClearLatch n) v (checkClearLatch n v) (applyClearLatch n v))

/-- HX_COMMAND (R297). -/
def checkHxCommand (v : Int) : Nat := if v = 0 || v = 1 then stOk else stOutOfRange
def applyHxCommand (n : Nat) (v : Int) (s : State) : State := (s.commandAt n v.toNat s.nextTick).showSwitch n

def execHxCommand (sid h : Nat) (v : Int) (s : State) : Host.Outcome State Fault Refusal :=
  .next (s.writeRow sid (k1CCommand (96 + h)) v (fun _ => checkHxCommand v) (applyHxCommand (96 + h) v))

/-! ### The off-pulse test (R288, R289) -/

/-- The pulse offset of a channel. -/
def pulseOffset (n : Nat) : Nat :=
  if 96 ≤ n then 7500 + 16 * (n - 96) else 16 * (n / 4) + [0, 4000, 2000, 6000].getD (n % 4) 0

/-- Is a pulse requested in this frame for the next tick (R288)? -/
def State.pulseWanted (s : State) (n : Nat) : Bool :=
  let w := s.switch n
  s.after 1 % 8000 = pulseOffset n && s.cmd n ≠ 0 && !w.uvSeen && !s.latched n &&
    (match w.onSince with
      | some t => s.reached t && 80 ≤ (s.after 1 + ccMod - t) % ccMod
      | none => false)

/-- Does the frame that the die applied at this tick carry the pulse? -/
def State.pulseApplied (s : State) (n : Nat) : Bool :=
  let l := s.dieLink (chDie n)
  l.edgeFresh &&
    (if 96 ≤ n then s.heldCode n = some 2
     else
       let w := l.held.getD (chSpoke n - dieBase (chDie n)) 0
       bit w (15 - n % 4) && !(bit w 15 && bit w 14 && n % 4 ≤ 1))

/-- OFF_PULSE (R288): at its tick the die pulses the switch off; the judgement follows. -/
def offPulse (n : Nat) (s : State) : State :=
  if s.hasSwitch n && (s.switch n).pulseReq && s.cc % 8000 = pulseOffset n && s.pulseApplied n then
    s.modSwitch n fun w => { w with pulseAt := some s.cc, lastPulse := some s.cc, pulseFirst := false, pulseReq := false }
  else s

def execOffPulse (n : Nat) (s : State) : Host.Outcome State Fault Refusal := .next (offPulse n s)

/-- A pulse yields no result; the third in a row is recorded (R289). -/
def State.pulseLost (s : State) (n : Nat) : State :=
  let k := (s.switch n).noResult + 1
  let t := s.modSwitch n fun w => { w with pulseAt := none, pulseReq := false, noResult := k }
  if k = 3 then t.noticeOpen byDevice 0x0932 else t

/-- A pulse fails. -/
def State.pulseFailed (s : State) (n cause code : Nat) : State :=
  (((s.modSwitch n fun w => { w with pulseAt := none, noResult := 0 }).count (k1COffPulseFailures n)).latchSwitch n
    cause).noticeOpen byDevice code

/-- The judgement of a pulse in a frame (R289): the readbacks latched at P + 1 and P + 2. -/
def State.judgePulse (s : State) (n : Nat) : State :=
  let w := s.switch n
  if w.pulseReq then (if s.cc % 8000 = pulseOffset n then s else s.pulseLost n)
  else match w.pulseAt with
    | some p =>
      let d := s.since p
      if d < 2 then s
      else if !s.rbFresh n then s.pulseLost n
      else if d = 2 then
        if s.rbOut n then s.pulseFailed n 3 0x0930 else s.modSwitch n fun w => { w with pulseFirst := true }
      else if !w.pulseFirst then s.pulseLost n
      else if s.rbOut n then
        (s.modSwitch n fun w => { w with pulseAt := none, noResult := 0 }).put (k1CLastOffPulse n) p
      else s.pulseFailed n 4 0x0931
    | none => s

/-! ### Readback supervision (R282, R283, R290) -/

/-- Is a readback of the last tick left out of the comparison (R290)? The change of a frame is applied at the tick after it, and
the readbacks of the two ticks that follow are judged up to four frames later. Those of P + 1 and P + 2 are judged two and three frames
after P. -/
def State.rbExcluded (s : State) (n : Nat) : Bool :=
  let w := s.switch n
  !s.reached ((w.changedAt + 5) % ccMod) || (match w.lastPulse with | some p => s.since p = 2 || s.since p = 3 | none => false) ||
    s.rbUv n || w.uvSeen || s.latched n

/-- The work of safety evaluation on a channel whose readback of the last tick arrived; `on`: its command stood as the frame began. -/
def State.superviseSwitch (s : State) (on : Bool) (n : Nat) : State :=
  if !s.rbFresh n then s
  else
    let w := s.switch n
    -- the profile (R282)
    let above := decide (profileLimit n w.profType w.profNom ((s.cc - 1 + ccMod - w.profileAt) % ccMod) <
      10 * s.getN (k1CCurrent n))
    let watch := s.cmd n ≠ 0 && !s.latched n && s.reached ((w.profileAt + 1) % ccMod)
    let t := s.modSwitch n fun w => { w with overRun := if watch && above then w.overRun + 1 else 0 }
    let t := if watch && 8 ≤ (t.switch n).overRun then (t.latchSwitch n 1).notice byDevice 0x0910 n else t
    -- stuck on and output lost (R290)
    let ex := t.rbExcluded n
    let out := t.rbOut n
    let t := t.modSwitch n fun w =>
      { w with stuckRun := if !ex && out && s.cmd n = 0 then w.stuckRun + 1 else 0,
               lostRun := if !ex && !out && s.cmd n ≠ 0 && !s.driveOff then w.lostRun + 1 else 0 }
    let t := if 8 ≤ (t.switch n).stuckRun then (t.latchSwitch n 3).noticeOpen byDevice 0x0930
      else if 8 ≤ (t.switch n).lostRun then (t.latchSwitch n 4).noticeOpen byDevice 0x0931 else t
    -- recovery from under-voltage (R284, R286)
    let t := if s.rbUv n then t.seeUv on n s.cc else t.modSwitch n fun w => { w with uvClear := w.uvClear + 1 }
    let w := t.switch n
    if w.uvSeen && 8 ≤ w.uvClear && (t.cmd n = 0 || t.latched n || !(96 ≤ n || n % 4 = 3)) then
      t.modSwitch n fun w => { w with uvSeen := false }
    else t

/-- Bank states from the UV bits of the last readbacks (R283, R298). -/
def State.showBanks (s : State) : State :=
  s.each (List.range 4) fun s b =>
    if s.getN (k1CBankState b) = 2 then s
    else
      let l := s.switchList.filter fun n => bankOf n = b && s.rbFresh n
      if l.isEmpty then s else s.put (k1CBankState b) (b1 (l.any s.rbUv))

/-- Switch work of a frame in safety evaluation. -/
def State.evalSwitches (s : State) : State :=
  let t := s.each s.switchList fun t n => (t.superviseSwitch (s.cmd n ≠ 0) n).judgePulse n
  let t := t.showBanks
  t.each t.switchList fun t n =>
    let used := (t.switch n).restarts.filter fun x => t.since x < restartWindow
    ((t.modSwitch n fun w => { w with restarts := used }).put (k1CRestartsAvailable n) (restartMax - used.length : Nat)).showSwitch n

/-! ### The lock actuator (R293) -/

/-- Does FB show the engaged level? -/
def State.fbEngaged (s : State) (sp : Nat) : Bool :=
  s.rbFb (4 * sp + 2) = s.flag (k1CFeedbackPolarity (4 * sp + 2))

/-- A stroke starts (R293 step 1); it supersedes the check of the feedback after a reset. -/
def State.startStroke (s : State) (sp sink : Nat) : State :=
  let n := 4 * sp + 2
  let forward := decide (sink = 1) != (s.flag (k1CEngageDirection n))
  let t := (s.modLock sp fun l => { l with phase := .stroke sink s.cc, served := sink, received := 0, good := 0, bootSeen := 80 }).command n
    (if forward then 1 else 2)
  ((t.startProfile n (s.after 1)).operation n).setLockState sp 2

/-- The lock sink is served: a change to 1 or 2 starts a stroke once the last one has been over for 80 ticks, and after
the frame that clears a latch. -/
def State.serveLock (s : State) (sp : Nat) : State :=
  let l := (s.spoke sp).lock
  let sink := (s.pedal sp).lock
  let n := 4 * sp + 2
  match l.phase with
  | .idle =>
    if sink = l.served then s
    else if sink = 0 then s.modLock sp fun l => { l with served := 0 }
    else
      let rested := match l.endedAt with
        | some t => 80 ≤ s.since t
        | none => true
      if rested && !s.latched n && !(s.switch n).clearing && !(s.switch n).uvSeen && !s.faulted sp then s.startStroke sp sink else s
  | _ => s

/-- Ticks of the brake period, each with its readback. -/
def brakeTicks : Nat := 80

/-- Lock feedback of a tick: brake readbacks, the loss of the engaged level, the first 80 ticks after a reset (R293). The frame
that ends the brake period carries off (step 3). -/
def State.watchLock (s : State) (sp : Nat) : State :=
  let n := 4 * sp + 2
  let l := (s.spoke sp).lock
  let fresh := s.rbFresh n
  let eng := s.fbEngaged sp
  let s := if s.faulted sp then s.interruptLock sp else s
  let t := match l.phase with
    | .brake sink start =>
      let s := if s.reached ((start + brakeTicks) % ccMod) then s.command n 0 else s
      if fresh && s.reached ((start + 2) % ccMod) then s.modLock sp fun l =>
        { l with received := l.received + 1, good := if eng = (sink = 1) then l.good + 1 else l.good } else s
    | _ => s
  let run := if fresh && s.lockState sp = 1 && !eng then l.lostRun + 1 else if fresh then 0 else l.lostRun
  let t := t.modLock sp fun l => { l with lostRun := run }
  let t := if 8 ≤ run && t.lockState sp = 1 then (t.setLockState sp 3).notice byDevice 0x0951 n else t
  if 80 ≤ l.bootSeen then t
  else
    let t := t.modLock sp fun l =>
      { l with bootSeen := l.bootSeen + 1, bootEngaged := if fresh && eng then l.bootEngaged + 1 else l.bootEngaged,
               bootReleased := if fresh && !eng then l.bootReleased + 1 else l.bootReleased }
    let l := (t.spoke sp).lock
    if l.bootSeen = 80 && l.phase = .idle && 8 ≤ l.bootEngaged + l.bootReleased then
      (if l.bootReleased = 0 then t.setLockState sp 1 else if l.bootEngaged = 0 then t.setLockState sp 0 else t)
    else t

/-- STROKE_END (R293 step 2, R294): the frame that ends the stroke time brakes LK, so that it is driven for exactly that time. -/
def strokeEnd (sp : Nat) (s : State) : State :=
  match (s.spoke sp).lock.phase with
  | .stroke sink start =>
    if s.dueNext ((start + msTicks (s.getN (k1CStrokeTime (4 * sp + 2)))) % ccMod) then
      (s.modLock sp fun l => { l with phase := .brake sink s.nextTick }).commandAt (4 * sp + 2) 4 s.nextTick
    else s
  | _ => s

def execStrokeEnd (sp : Nat) (s : State) : Host.Outcome State Fault Refusal := .next (strokeEnd sp s)

/-- BRAKE_END (R293 step 3): the die has turned LK off after 80 ticks, the last brake readback has been judged, and the feedback
decides the lock state. -/
def brakeEnd (sp : Nat) (s : State) : State :=
  let l := (s.spoke sp).lock
  match l.phase with
  | .brake sink start =>
    if s.reached ((start + brakeTicks + 1) % ccMod) then
      let t := (s.modLock sp fun l => { l with phase := .idle, endedAt := some s.cc, lostRun := 0 }).command (4 * sp + 2) 0
      if 8 ≤ l.received && l.good = l.received then t.inFrame sp fun t => t.setLockState sp (if sink = 1 then 1 else 0)
      else (t.inFrame sp fun t => t.setLockState sp 3).notice byDevice 0x0950 (4 * sp + 2)
    else s
  | _ => s

def execBrakeEnd (sp : Nat) (s : State) : Host.Outcome State Fault Refusal := .next (brakeEnd sp s)

/-! ### The weld check (R295, R296) -/

def weldLimit : Nat := 800

/-- The weld check of a frame: a dead outlet from samples latched no later than W + 800 passes it (R295). -/
def State.weldStep (s : State) (sp : Nat) : State :=
  match (s.spoke sp).gate.weldFrom with
  | some w =>
    if s.getN (k1CWeldCheck (4 * sp)) = 1 && s.getN (k18WeldSenseState sp) = 0 && s.since w ≤ weldLimit + 1 then
      let t := (s.put (k1CWeldCheck (4 * sp)) 0).modGate sp fun g => { g with weldFrom := none }
      if t.gateState sp = 4 then t.setGate sp 0 else t
    else s
  | none => s

/-- WELD_LOCKOUT (R296): the check has not passed by W + 800. -/
def weldLockout (sp : Nat) (s : State) : State :=
  match (s.spoke sp).gate.weldFrom with
  | some w =>
    if sp < s.spokeCount && s.getN (k1CWeldCheck (4 * sp)) = 1 && weldLimit + 1 ≤ s.since w && s.reached w then
      let t := (s.put (k1CWeldCheck (4 * sp)) 2).modGate sp fun g => { g with weldFrom := none }
      ((t.inFrame sp fun t => (t.setCause sp cWelded true).setGate sp 5).notice byDevice 0x0940 sp).count k1CWeldedLockouts
    else s
  | none => s

def execWeldLockout (sp : Nat) (s : State) : Host.Outcome State Fault Refusal := .next (weldLockout sp s)

def checkClearWeld (sp : Nat) (v : Int) (s : State) : Nat :=
  if v = 1 && s.getN (k1CWeldCheck (4 * sp)) = 2 && s.getN (k18WeldSenseState sp) ≠ 0 then stNotNow else stOk

/-- CLEAR_WELD_LOCKOUT (R296). -/
def applyClearWeld (sid sp : Nat) (v : Int) (s : State) : State :=
  if v = 1 && s.getN (k1CWeldCheck (4 * sp)) = 2 then
    ((s.put (k1CWeldCheck (4 * sp)) 0).inFrame sp fun s => s.setCause sp cWelded false).noticeOpen sid 0x0941
  else s

def execClearWeldLockout (sid sp : Nat) (v : Int) (s : State) : Host.Outcome State Fault Refusal :=
  .next (s.writeRow sid (k1CClearWeldLockout (4 * sp)) v (checkClearWeld sp v) (applyClearWeld sid sp v))

/-! ### Settings of class 1Ch -/

/-- The chapter rule on writes of class 1Ch (R282, R287, R296, R297). -/
def check1C (s : State) (i m : Nat) (v : Int) : Nat :=
  match m with
  | 0 => checkHxCommand v
  | 3 => checkClearLatch i v s
  | 4 => if loadPermitted i v.toNat then stOk else stOutOfRange
  | 5 => if v ≤ ratedCurrent i then stOk else stOutOfRange
  | 22 => checkClearWeld (chSpoke i) v s
  | _ => stOk

/-- The effect of a write of class 1Ch. -/
def apply1C (sid : Nat) (s : State) (k i m : Nat) (v : Int) : State :=
  if i = 256 then s.put k v
  else match m with
    | 0 => applyHxCommand i v s
    | 3 => applyClearLatch i v s
    | 9 => (s.put k v).modSwitch i fun w => { w with warned := false }
    | 22 => applyClearWeld sid (chSpoke i) v s
    | _ => s.put k v

/-! ### The downstream frame (R20, R22, R42) -/

/-- The code that a frame sends to a channel: a clear sends 3h; a latch, an under-voltage not yet recovered and a device
fault send 0h; HX channels hold their command under a fault. -/
def State.sendCode (s : State) (n : Nat) : Nat :=
  let w := s.switch n
  if w.clearing then 3
  else if s.latched n || w.uvSeen then 0
  else if n < 96 && s.faulted (chSpoke n) then 0
  else if switchKind n = 4 && w.pulseReq && s.cmd n = 1 then 2
  else s.cmd n

end Sys2Proof.Machine
end

