-- ==== Sys2Proof/Machine/Pedal.lean ====
section
/-! DEFINITION. The pedal sequencers (R219-R238): instructions, inputs and sinks, timers and events, programs and their
image, offers, and the built-in default program at the level at which R236 describes it. -/

namespace Sys2Proof.Machine

/-! ### Program state (R219, R222, R223) -/

def State.runState (s : State) (sp : Nat) : Nat := s.getN (k19RunState sp)

/-- Does a sequencer execute? Halted and held ones do not (R224). -/
def State.executes (s : State) (sp : Nat) : Bool := sp < s.spokeCount && (s.runState sp = 1 || s.runState sp = 2)

/-- A 48-bit pattern, and a word read as signed. -/
def toW (v : Int) : Word48 := BitVec.ofInt 48 v

def Pedal.work (p : Pedal) (n : Nat) : Word48 := p.w.getD n 0
def Pedal.setWork (p : Pedal) (n : Nat) (v : Word48) : Pedal := { p with w := p.w.set n v }

/-- A program starts (R222): flags already pending are cleared, START is raised. -/
def State.startProgram (s : State) (sp cause : Nat) : State :=
  let params := (List.range 4).map fun j => toW (s.get (k19ParametersP0P3 sp j))
  ((s.modPedal sp fun p =>
    { p with pc := 0, w := [0, 0, 0, 0] ++ params, timers := [0, 0, 0, 0], flags := 0, startCause := cause }).raise sp
      fStart).put (k19RunState sp) 1

/-- The pending program becomes the running one (R223). -/
def State.loadNext (s : State) (sp : Nat) : State :=
  match (s.pedal sp).next with
  | some (prog, ident, num) =>
    let t := s.modPedal sp fun p => { p with prog := prog, builtin := false, next := none }
    (t.puts [(k19ImageIdentity0 sp, ident), (k19ProgramNumber sp, num)]).put k19SwitchPending
      (setBit (t.getN k19SwitchPending) sp false)
  | none => s

/-- PROGRAM_SWITCH (R223): at the first boundary with no open session and gate state 0 the pending program starts. A held
sequencer keeps its state (R15), and only a restart leaves halted (R234): in both it goes on waiting (log entry 28). -/
def programSwitch (sp : Nat) (s : State) : State :=
  if s.executes sp && (s.pedal sp).next.isSome && (s.openSlot sp).isNone && s.gateState sp = 0 then
    ((s.loadNext sp).startProgram sp 1).notice byDevice 0x0621 sp
  else s

def execProgramSwitch (sp : Nat) (s : State) : Host.Outcome State Fault Refusal := .next (programSwitch sp s)

def checkPedalRestart (sp : Nat) (v : Int) (s : State) : Nat := if v = 1 && s.gateState sp ≠ 0 then stNotNow else stOk

/-- PEDAL_RESTART (R223): the pending program starts if one waits, else the running one. -/
def applyPedalRestart (sp : Nat) (v : Int) (s : State) : State :=
  if v = 1 then (s.loadNext sp).startProgram sp 1 else s

def execPedalRestart (sid sp : Nat) (v : Int) (s : State) : Host.Outcome State Fault Refusal :=
  .next (s.writeRow sid (k19Restart sp) v (checkPedalRestart sp v) (applyPedalRestart sp v))

/-- BROADCAST (R238). -/
def applyBroadcast (v : Int) (s : State) : State :=
  let t := s.put k19LastBroadcast v
  t.each t.spokeList fun t sp => t.raise sp fBcast

def execBroadcast (sid : Nat) (v : Int) (s : State) : Host.Outcome State Fault Refusal :=
  .next (s.writeRow sid k19Broadcast v (fun _ => stOk) (applyBroadcast v))

/-! ### Timers and events (R226, R227) -/

/-- TIMER_EXPIRY (R226): at the coming boundary a timer of count 1 reaches 0 and raises its flag, unless step 6 of that boundary is
done (log entry 29). -/
def timerExpiry (sp n : Nat) (s : State) : State :=
  if s.modes.step < 6 && sp < s.spokeCount && n < 4 && (s.runState sp ≠ 4 || (s.pedal sp).resume.isSome) && (s.pedal sp).timers.getD n 0 = 1 then
    (s.modPedal sp fun p => { p with timers := p.timers.set n 0 }).raise sp (fT0 + n)
  else s

def execTimerExpiry (sp n : Nat) (s : State) : Host.Outcome State Fault Refusal := .next (timerExpiry sp n s)

/-- The flags of the timers that reach 0 at a boundary (R226, R227). -/
def Pedal.expiring (p : Pedal) : Nat := maskOf (((List.range 4).filter fun n => p.timers.getD n 0 = 1).map (fT0 + ·))

/-- The flags that safety evaluation forms: PILOT, GATE, SAFE and LOCK. -/
def evalFlags : Nat := 2 ^ fPilot + 2 ^ fGate + 2 ^ fSafe + 2 ^ fLock

/-- The events that the coming boundary delivers: those of an evaluation once its frame is over (log entry 5). -/
def Pedal.due (p : Pedal) : Nat := Nat.lor p.ready (p.raised - Nat.land p.raised evalFlags)

/-- A boundary passes for a running sequencer: its timers count down, what is due becomes pending. -/
def Pedal.boundary (p : Pedal) : Pedal :=
  { p with timers := p.timers.map (· - 1), flags := Nat.lor (Nat.lor p.flags p.due) p.expiring,
           raised := Nat.land p.raised evalFlags, ready := 0 }

/-- Boundary step 6 for a sequencer: a resumption takes effect, timers count down, raised events are delivered; a held
sequencer does none of these (R226, R227, R234). -/
def State.deliver (s : State) (sp : Nat) : State :=
  let t := match (s.pedal sp).resume with
    | some cause =>
      ((s.modPedal sp fun p => { p with resume := none, startCause := cause }).raise sp fStart).put (k19RunState sp) 1
    | none => s
  if t.runState sp = 4 then t else t.modPedal sp Pedal.boundary

/-- The sequencers are held by a core-domain reset (R234); a halted one stays halted. -/
def State.holdPedals (s : State) : State :=
  s.each s.spokeList fun s sp =>
    let t := s.modPedal sp fun p => { p with resume := none }
    if t.runState sp = 3 then t else t.put (k19RunState sp) 4

/-- Held sequencers that do not yet resume do so at the next tick (R234). -/
def State.resumePedals (s : State) (cause : Nat) : State :=
  s.each s.spokeList fun s sp =>
    if s.runState sp = 4 then s.modPedal sp fun p => { p with resume := some (p.resume.getD cause) } else s

/-! ### Inputs and sinks (R230, R231) -/

/-- Session state of a spoke (input 9). -/
def State.sessionInput (s : State) (sp : Nat) : Nat :=
  match s.openSlot sp with
  | some j => if s.getN (k12Purse0 j) = 65535 then 1 else 2
  | none => 0

/-- Does an offer stand (R235)? -/
def State.offerStands (s : State) (sp : Nat) : Bool :=
  match (s.pedal sp).offer with
  | some o => !s.reached o.until_
  | none => false

/-- The values behind the inputs of R230. -/
def State.source (s : State) (sp src : Nat) : Int :=
  match src with
  | 0 => s.get (k18PilotState sp)
  | 1 => s.get (k18DiodeStatus sp)
  | 2 => s.get (k18PilotCondition sp)
  | 3 => s.get (k18ProximityState sp)
  | 4 => s.get (k18CableRating sp)
  | 5 => s.get (k18WeldSenseState sp)
  | 6 => s.lockState sp
  | 7 => s.gateState sp
  | 8 => s.get (k1BGrantedCurrent (16 + sp))
  | 9 => s.sessionInput sp
  | 10 => s.linkState sp
  | 11 => s.get (k1AVehicleMaximumCurrent sp)
  | 12 => b1 (s.offerStands sp)
  | 13 => s.cc
  | 14 => s.safety sp
  | 15 => s.get k19LastBroadcast
  | 16 => (s.pedal sp).startCause
  | 17 => s.get (k19GateBlockers sp)
  | _ => 0

/-- The inputs that safety evaluation forms: pilot, proximity, weld sense, lock, gate, safety state, blockers. -/
def evaluated (src : Nat) : Bool := src ≤ 7 || src = 14 || src = 17

/-- The inputs of R230 as frame n reads them (R225): what safety evaluation forms as it left it in frame n - 1. -/
def State.input (s : State) (sp src : Nat) : Int :=
  match (s.pedal sp).seen with
  | some l => if evaluated src then l.getD src 0 else s.source sp src
  | none => s.source sp src

/-- The end of a safety evaluation for a sequencer: its results and events stand for the next frame (R225). -/
def State.latchSeen (s : State) (sp : Nat) : State :=
  let l := (List.range 18).map (s.source sp)
  s.modPedal sp fun p =>
    { p with seen := some l, ready := Nat.lor p.ready (Nat.land p.raised evalFlags),
             raised := p.raised - Nat.land p.raised evalFlags }

/-- A sink refuses a value (R231). -/
def State.sinkError (s : State) (sp sink : Nat) : State :=
  (s.count (k19SinkErrors sp)).notice byDevice 0x0610 (sp * 256 + sink)

/-- A value is written to a sink (R231, R232, R235). -/
def State.writeSink (s : State) (sp sink : Nat) (v : Int) : State :=
  if v < 0 || !sinkOk sink v.toNat then s.sinkError sp sink
  else
    let n := v.toNat
    match sink with
    | 0 => s.modPedal sp fun p => { p with pmode := n }
    | 1 => s.modPedal sp fun p => { p with duty := n }
    | 2 => s.modPedal sp fun p => { p with request := n = 1 }
    | 3 =>
      let gate := s.input sp 7
      if n = 2 && (gate = 1 || gate = 2 || gate = 4) then s.notice byDevice 0x0613 sp
      else s.modPedal sp fun p => { p with lock := n }
    | 4 => s.modPedal sp fun p => { p with aux := n }
    | 5 => s.modPedal sp fun p => { p with linkCtl := n }
    | 6 =>
      if s.offerStands sp then s.modPedal sp fun p => { p with replacing := true } else s.sinkError sp sink
    | _ => s.modPedal sp fun p => { p with user := n }

/-- HALT (R234); a fetch beyond the program acts as it. -/
def State.haltPedal (s : State) (sp pc : Nat) : State :=
  ((s.modPedal sp fun p => { p with request := false, pmode := 3, pc := pc, count := p.count + 1 }).puts
    [(k19RunState sp, 3), (k19HaltAddress sp, (pc % 256 : Nat))]).notice byDevice 0x0611 (sp * 256 + pc % 256)

/-! ### Instructions (R229) -/

/-- Bits of the pending flags that a mask and the S bit reach. -/
def flagsIn (flags mask : Nat) (start : Bool) : Nat :=
  Nat.land flags (mask % 65536) + (if start && bit flags 16 then 65536 else 0)

/-- An instruction that only changes the sequencer runs; the program counter advances (R224). -/
def State.pedalOp (s : State) (sp : Nat) (f : Pedal → Pedal) : State :=
  if s.executes sp then
    (s.modPedal sp fun p => { f p with pc := p.pc + 1, count := p.count + 1 }).put (k19RunState sp) 1
  else s

/-- An instruction with an effect beyond the sequencer. -/
def State.pedalEffect (s : State) (sp : Nat) (f : State → State) : State :=
  if s.executes sp then
    (f ((s.modPedal sp fun p => { p with pc := p.pc + 1, count := p.count + 1 }).put (k19RunState sp) 1))
  else s

/-- A branch. -/
def State.pedalBranch (s : State) (sp : Nat) (taken : Bool) (target : Nat) : State :=
  if s.executes sp then
    (s.modPedal sp fun p => { p with pc := if taken then target else p.pc + 1, count := p.count + 1 }).put (k19RunState sp) 1
  else s

/-- The condition of BR. -/
def branchTaken (p : Pedal) (cond a b : Nat) : Bool :=
  let x := p.work a
  let y := p.work b
  match cond with
  | 0 => true
  | 1 => x = y
  | 2 => x ≠ y
  | 3 => x.slt y
  | 4 => !x.slt y
  | 5 => x = 0
  | 6 => x ≠ 0
  | _ => x.slt 0

def pedNop (sp : Nat) (s : State) : State := s.pedalOp sp id
def pedLdi (sp d : Nat) (imm : Int) (s : State) : State := s.pedalOp sp fun p => p.setWork d (toW imm)
def pedLdu (sp d imm : Nat) (s : State) : State :=
  s.pedalOp sp fun p => p.setWork d (p.work d * 1048576 + BitVec.ofNat 48 imm)
def pedMov (sp d a : Nat) (s : State) : State := s.pedalOp sp fun p => p.setWork d (p.work a)
def pedAdd (sp d a b : Nat) (s : State) : State := s.pedalOp sp fun p => p.setWork d (p.work a + p.work b)
def pedSub (sp d a b : Nat) (s : State) : State := s.pedalOp sp fun p => p.setWork d (p.work a - p.work b)
def pedAddi (sp d a : Nat) (imm : Int) (s : State) : State := s.pedalOp sp fun p => p.setWork d (p.work a + toW imm)
def pedAnd (sp d a b : Nat) (s : State) : State := s.pedalOp sp fun p => p.setWork d (p.work a &&& p.work b)
def pedOr (sp d a b : Nat) (s : State) : State := s.pedalOp sp fun p => p.setWork d (p.work a ||| p.work b)
def pedMin (sp d a b : Nat) (s : State) : State :=
  s.pedalOp sp fun p => p.setWork d (if (p.work a).slt (p.work b) then p.work a else p.work b)
def pedMax (sp d a b : Nat) (s : State) : State :=
  s.pedalOp sp fun p => p.setWork d (if (p.work a).slt (p.work b) then p.work b else p.work a)
def pedEnc (sp d a : Nat) (s : State) : State :=
  s.pedalOp sp fun p => p.setWork d (BitVec.ofNat 48 ((encodeDuty (p.work a).toInt).getD 0))
def pedBr (sp cond a b target : Nat) (s : State) : State := s.pedalBranch sp (branchTaken (s.pedal sp) cond a b) target
def pedBf (sp mask target : Nat) (s : State) : State := s.pedalBranch sp (flagsIn (s.pedal sp).flags mask false ≠ 0) target

/-- Does a WAIT continue? -/
def State.waitMet (s : State) (sp : Nat) (start : Bool) (mask : Nat) : Bool := flagsIn (s.pedal sp).flags mask start ≠ 0

/-- WAIT continues, or ends the turn to be executed again. -/
def pedWait (sp : Nat) (start : Bool) (mask : Nat) (s : State) : State :=
  if !s.executes sp then s
  else if s.waitMet sp start mask then s.pedalOp sp id
  else (s.modPedal sp fun p => { p with count := p.count + 1 }).put (k19RunState sp) 2

def pedYield (sp : Nat) (s : State) : State := s.pedalOp sp id
def pedTake (sp d : Nat) (start : Bool) (mask : Nat) (s : State) : State :=
  s.pedalOp sp fun p =>
    let got := flagsIn p.flags mask start
    { p.setWork d (BitVec.ofNat 48 got) with flags := p.flags - got }
def pedIn (sp d src : Nat) (s : State) : State :=
  let v := toW (s.input sp src)
  s.pedalOp sp fun p => p.setWork d v
def pedOut (sp a sink : Nat) (s : State) : State :=
  let v := ((s.pedal sp).work a).toInt
  s.pedalEffect sp fun t => t.writeSink sp sink v
def pedOuti (sp imm sink : Nat) (s : State) : State := s.pedalEffect sp fun t => t.writeSink sp sink imm
def pedTset (sp n a : Nat) (s : State) : State :=
  s.pedalOp sp fun p => { p with timers := p.timers.set n (min 16777215 (p.work a).toInt.toNat) }
def pedTseti (sp n imm : Nat) (s : State) : State := s.pedalOp sp fun p => { p with timers := p.timers.set n imm }
def pedNote (sp a code : Nat) (s : State) : State :=
  let v := ((s.pedal sp).work a).toNat % 2 ^ 40
  s.pedalEffect sp fun t => t.notice byDevice (0x0680 + code) (sp * 2 ^ 40 + v)
def pedHalt (sp : Nat) (s : State) : State := if s.executes sp then s.haltPedal sp (s.pedal sp).pc else s

def execPedNop (sp : Nat) (s : State) : Host.Outcome State Fault Refusal := .next (pedNop sp s)
def execPedLdi (sp d : Nat) (imm : Int) (s : State) : Host.Outcome State Fault Refusal := .next (pedLdi sp d imm s)
def execPedLdu (sp d imm : Nat) (s : State) : Host.Outcome State Fault Refusal := .next (pedLdu sp d imm s)
def execPedMov (sp d a : Nat) (s : State) : Host.Outcome State Fault Refusal := .next (pedMov sp d a s)
def execPedAdd (sp d a b : Nat) (s : State) : Host.Outcome State Fault Refusal := .next (pedAdd sp d a b s)
def execPedSub (sp d a b : Nat) (s : State) : Host.Outcome State Fault Refusal := .next (pedSub sp d a b s)
def execPedAddi (sp d a : Nat) (imm : Int) (s : State) : Host.Outcome State Fault Refusal := .next (pedAddi sp d a imm s)
def execPedAnd (sp d a b : Nat) (s : State) : Host.Outcome State Fault Refusal := .next (pedAnd sp d a b s)
def execPedOr (sp d a b : Nat) (s : State) : Host.Outcome State Fault Refusal := .next (pedOr sp d a b s)
def execPedMin (sp d a b : Nat) (s : State) : Host.Outcome State Fault Refusal := .next (pedMin sp d a b s)
def execPedMax (sp d a b : Nat) (s : State) : Host.Outcome State Fault Refusal := .next (pedMax sp d a b s)
def execPedEnc (sp d a : Nat) (s : State) : Host.Outcome State Fault Refusal := .next (pedEnc sp d a s)
def execPedBr (sp cond a b target : Nat) (s : State) : Host.Outcome State Fault Refusal := .next (pedBr sp cond a b target s)
def execPedBf (sp mask target : Nat) (s : State) : Host.Outcome State Fault Refusal := .next (pedBf sp mask target s)
def execPedWait (sp : Nat) (start : Bool) (mask : Nat) (s : State) : Host.Outcome State Fault Refusal :=
  .next (pedWait sp start mask s)
def execPedYield (sp : Nat) (s : State) : Host.Outcome State Fault Refusal := .next (pedYield sp s)
def execPedTake (sp d : Nat) (start : Bool) (mask : Nat) (s : State) : Host.Outcome State Fault Refusal :=
  .next (pedTake sp d start mask s)
def execPedIn (sp d src : Nat) (s : State) : Host.Outcome State Fault Refusal := .next (pedIn sp d src s)
def execPedOut (sp a sink : Nat) (s : State) : Host.Outcome State Fault Refusal := .next (pedOut sp a sink s)
def execPedOuti (sp imm sink : Nat) (s : State) : Host.Outcome State Fault Refusal := .next (pedOuti sp imm sink s)
def execPedTset (sp n a : Nat) (s : State) : Host.Outcome State Fault Refusal := .next (pedTset sp n a s)
def execPedTseti (sp n imm : Nat) (s : State) : Host.Outcome State Fault Refusal := .next (pedTseti sp n imm s)
def execPedNote (sp a code : Nat) (s : State) : Host.Outcome State Fault Refusal := .next (pedNote sp a code s)
def execPedHalt (sp : Nat) (s : State) : Host.Outcome State Fault Refusal := .next (pedHalt sp s)

/-! ### The turn (R224, R225) -/

/-- A decoded instruction runs; the flag says that the turn goes on. -/
def State.runInstr (s : State) (i : Instr) : State × Bool :=
  match i with
  | .pedNop sp => (pedNop sp s, true)
  | .pedLdi sp d imm => (pedLdi sp d imm s, true)
  | .pedLdu sp d imm => (pedLdu sp d imm s, true)
  | .pedMov sp d a => (pedMov sp d a s, true)
  | .pedAdd sp d a b => (pedAdd sp d a b s, true)
  | .pedSub sp d a b => (pedSub sp d a b s, true)
  | .pedAddi sp d a imm => (pedAddi sp d a imm s, true)
  | .pedAnd sp d a b => (pedAnd sp d a b s, true)
  | .pedOr sp d a b => (pedOr sp d a b s, true)
  | .pedMin sp d a b => (pedMin sp d a b s, true)
  | .pedMax sp d a b => (pedMax sp d a b s, true)
  | .pedEnc sp d a => (pedEnc sp d a s, true)
  | .pedBr sp c a b t => (pedBr sp c a b t s, true)
  | .pedBf sp m t => (pedBf sp m t s, true)
  | .pedWait sp st m => (pedWait sp st m s, s.waitMet sp st m)
  | .pedYield sp => (pedYield sp s, false)
  | .pedTake sp d st m => (pedTake sp d st m s, true)
  | .pedIn sp d src => (pedIn sp d src s, true)
  | .pedOut sp a k => (pedOut sp a k s, true)
  | .pedOuti sp v k => (pedOuti sp v k s, true)
  | .pedTset sp n a => (pedTset sp n a s, true)
  | .pedTseti sp n v => (pedTseti sp n v s, true)
  | .pedNote sp a c => (pedNote sp a c s, true)
  | .pedHalt sp => (pedHalt sp s, false)
  | _ => (s, false)

def turnLength : Nat := 16

/-- A turn of at most `n` instructions; a fetch at or beyond the program's length acts as HALT. -/
def State.turn (s : State) (sp : Nat) : Nat → State
  | 0 => s
  | n + 1 =>
    let p := s.pedal sp
    match p.prog[p.pc]? with
    | none => s.haltPedal sp p.prog.length
    | some w =>
      match decodePedal sp w with
      | none => s.haltPedal sp p.pc
      | some i =>
        let r := s.runInstr i
        if r.2 then r.1.turn sp n else r.1

/-! ### The built-in default program (R236) -/

/-- Flags are taken. -/
def State.takeFlags (s : State) (sp mask : Nat) : State :=
  s.modPedal sp fun p => { p with flags := p.flags - flagsIn p.flags mask true }

def State.flagSet (s : State) (sp flag : Nat) : Bool := bit (s.pedal sp).flags flag

/-- The program enters a state: flags and timers of the entry (R236). -/
def State.enterDefault (s : State) (sp : Nat) (d : DefaultState) : State :=
  let t := s.modPedal sp fun p => { p with dflt := d, dfltSince := s.cc }
  let stale := 2 ^ fStop + 2 ^ fCredit
  let timer := fun (t : State) (n j : Nat) =>
    (t.takeFlags sp (2 ^ (fT0 + n))).modPedal sp fun p =>
      { p with timers := p.timers.set n (min 16777215 (p.work (4 + j)).toInt.toNat) }
  match d with
  | .idle => (t.takeFlags sp stale).modPedal sp fun p => { p with request := false }
  | .authorised => (timer (t.takeFlags sp stale) 0 1).modPedal sp fun p => { p with lock := 1, regate := false }
  | .paused => timer t 1 2
  | .stopping => timer t 1 2
  | .fault => t.modPedal sp fun p => { p with request := false }
  | _ => t

/-- PMODE and DUTY of Ready and Charging. -/
def State.chargePilot (s : State) (sp : Nat) : Nat × Nat :=
  if s.linkState sp = 3 || s.linkState sp = 4 then (4, 100)
  else match encodeDuty (s.get (k1BGrantedCurrent (16 + sp))) with
    | some d => (4, d)
    | none => (1, (s.pedal sp).duty)

/-- PMODE and DUTY of Connected and Authorised. -/
def State.connectPilot (s : State) (sp : Nat) (hlc : Bool) : Nat × Nat :=
  if hlc && s.linkState sp ≠ 5 then (4, 100) else (1, (s.pedal sp).duty)

def faultPilotTicks : Nat := 8000

/-- The sinks that a state holds. -/
def State.defaultSinks (s : State) (sp : Nat) : State :=
  let p := s.pedal sp
  let hlc := decide (p.work 4 = 1)
  let ctl := if hlc then 1 else 0
  let set := fun (m : Nat × Nat) (c : Nat) => s.modPedal sp fun p => { p with pmode := m.1, duty := m.2, linkCtl := c }
  match p.dflt with
  | .idle => set (1, p.duty) 0
  | .connected | .authorised => set (s.connectPilot sp hlc) ctl
  | .ready | .charging => set (s.chargePilot sp) ctl
  | .paused => set (1, p.duty) ctl
  | .stopping => set (1, p.duty) (if hlc then 2 else 0)
  | .fault => set (if s.since p.dfltSince < faultPilotTicks then 3 else 1, p.duty) 0

/-- What a state does and where it leaves to. -/
def State.defaultActs (s : State) (sp : Nat) : State :=
  let pilot := s.input sp 0
  let cd := decide (pilot = 2 ∨ pilot = 3)
  let gate := s.input sp 7
  let grant := s.getN (k1BGrantedCurrent (16 + sp))
  let req := fun (t : State) (b : Bool) => t.modPedal sp fun p => { p with request := b }
  let dropped := fun (t : State) => t.modPedal sp fun p => { p with request := false, regate := true }
  let unlock := fun (t : State) => t.modPedal sp fun p => { p with lock := 2 }
  match (s.pedal sp).dflt with
  | .idle =>
    let t := if gate = 0 then unlock s else s
    if pilot = 1 then t.enterDefault sp .connected else t
  | .connected =>
    if s.flagSet sp fAuth && s.sessionInput sp ≠ 0 then (s.takeFlags sp (2 ^ fAuth)).enterDefault sp .authorised else s
  | .authorised =>
    if s.input sp 6 = 1 then s.enterDefault sp .ready
    else if s.flagSet sp fT0 then
      (s.notice byDevice (0x0680 + 0x14) (sp * 2 ^ 40 + (s.input sp 6).toNat)).enterDefault sp .fault
    else s
  | .ready =>
    if gate = 2 then s.enterDefault sp .charging
    else if gate = 3 then dropped s
    else
      let t := if gate = 0 then s.modPedal sp fun p => { p with regate := false } else s
      if cd && !(t.pedal sp).regate then req t true else t
  | .charging =>
    if s.flagSet sp fStop || s.flagSet sp fCredit then
      (s.takeFlags sp (2 ^ fStop + 2 ^ fCredit)).enterDefault sp .stopping
    else if gate = 3 then (dropped s).enterDefault sp .ready
    else if pilot = 1 then (req s false).enterDefault sp .ready
    else if grant = 0 then s.enterDefault sp .paused
    else s
  | .paused =>
    if 0 < grant then s.enterDefault sp .ready
    else if pilot = 1 || s.flagSet sp (fT0 + 1) then req s false else s
  | .stopping =>
    let t := if pilot = 1 || pilot = 0 || s.flagSet sp (fT0 + 1) then req s false else s
    if gate = 0 then unlock t else t
  | .fault => if s.input sp 14 = 0 && pilot = 0 then s.enterDefault sp .idle else s

/-- A turn of the built-in program: one transition a tick (log entry 28). A SAFE that comes with a START waits for the next. -/
def State.builtinTurn (s : State) (sp : Nat) : State :=
  let start := s.flagSet sp fStart
  let cause := (s.pedal sp).startCause
  let fresh := start && cause ≠ 2
  let safe := s.flagSet sp fSafe
  let t := if fresh then s else s.takeFlags sp (2 ^ fSafe)
  let pilot := t.input sp 0
  let d := (t.pedal sp).dflt
  let mid := decide (d = .authorised ∨ d = .ready ∨ d = .charging ∨ d = .paused)
  let bad := decide (pilot = 4 ∨ pilot = 5 ∨ pilot = 7) || t.input sp 1 = 2
  let t :=
    if fresh then t.enterDefault sp .idle
    else if safe && t.input sp 14 ≠ 0 && d ≠ .fault then t.enterDefault sp .fault
    else if mid && bad then t.enterDefault sp .fault
    else if pilot = 0 && d ≠ .idle && d ≠ .fault then t.enterDefault sp .idle
    else t.defaultActs sp
  let t := t.defaultSinks sp
  t.modPedal sp fun p => { p with pc := Config.builtinPc sp s.cc % 256, count := Config.builtinCount sp s.cc % 17 }

/-- The pedal slot of a frame for one sequencer: one that an overrun did not reach executes nothing (R42), nor does any before
its program has started at BOOT (R222). -/
def State.pedalTurn (s : State) (sp : Nat) : State :=
  let p := s.pedal sp
  let t := s.modPedal sp fun p => { p with count := 0, unreached := false, late := p.unreached }
  if p.unreached || !s.executes sp || !s.modes.booted then t
  else if p.builtin then t.builtinTurn sp
  else t.turn sp turnLength

/-! ### Offers (R235) -/

def offerTicks : Nat := 8000

/-- An authorisation refused because a session is open becomes the spoke's offer. -/
def State.offer (s : State) (sp : Nat) (identity : Int) (purse : Nat) : State :=
  (s.modPedal sp fun p => { p with offer := some ⟨identity, purse, s.after offerTicks⟩ }).raise sp fAuth

/-- OFFER_LAPSE (R235): at the boundary of the tick that ends an offer which no replace has taken. -/
def offerLapse (sp : Nat) (s : State) : State :=
  match (s.pedal sp).offer with
  | some o =>
    if s.dueNext o.until_ && !(s.pedal sp).replacing then
      ((s.modPedal sp fun p => { p with offer := none }).raise sp fSess).notice byDevice 0x0616 sp
    else s
  | none => s

def execOfferLapse (sp : Nat) (s : State) : Host.Outcome State Fault Refusal := .next (offerLapse sp s)

/-! ### The pedal image (R220, R221) -/

def pedNprog (p : List Nat) : Nat := field (p.getD 0 0) 15 8
def pedLength (p : List Nat) (n : Nat) : Nat := field (p.getD (4 + n) 0) 47 39
def pedOffset (p : List Nat) (n : Nat) : Nat := field (p.getD (4 + n) 0) 38 16

/-- ASSIGN value of a spoke. -/
def pedAssign (p : List Nat) (sp : Nat) : Nat :=
  field (p.getD (2 + sp / 12) 0) (47 - 3 * (sp % 12)) (45 - 3 * (sp % 12))

/-- The words of program `n`. -/
def pedProgram (p : List Nat) (n : Nat) : List Nat := (p.drop (pedOffset p n)).take (pedLength p n)

/-- Bits that an opcode does not use; none for an undefined opcode (R228, R229). -/
def pedUnused : Nat → Option (List Nat)
  | 0x00 | 0x14 | 0x3F => some (List.range 26)
  | 0x01 => some []
  | 0x02 => some [20, 21, 22]
  | 0x03 | 0x0B => some (List.range 20)
  | 0x04 | 0x05 | 0x07 | 0x08 | 0x09 | 0x0A => some (List.range 17)
  | 0x06 => some [17, 18, 19]
  | 0x10 => some ((List.range 9).map (· + 8))
  | 0x11 => some [24, 25]
  | 0x13 => some ((List.range 9).map (· + 17))
  | 0x15 => some ((List.range 6).map (· + 17))
  | 0x16 => some ((List.range 15).map (· + 8))
  | 0x17 => some ([23, 24, 25] ++ (List.range 12).map (· + 8))
  | 0x18 => some ((List.range 6).map (· + 20))
  | 0x19 => some (23 :: List.range 20)
  | 0x1A => some [20, 21, 22, 23]
  | 0x1B => some ([23, 24, 25] ++ (List.range 13).map (· + 7))
  | _ => none

/-- Is a word an instruction with a defined opcode and reserved bits 0? -/
def pedDefined (w : Nat) : Bool :=
  match pedUnused (field w 31 26) with
  | some l => l.all fun n => !bit w n
  | none => false

/-- The branch target of an instruction word, if it branches. -/
def pedTarget (w : Nat) : Option Nat := if field w 31 26 = 0x10 || field w 31 26 = 0x11 then some (field w 7 0) else none

/-- Every instruction word of an image with its index and its program's length, in ascending order of programs. -/
def pedWords (p : List Nat) : List (Nat × Nat × Nat) :=
  (List.range (pedNprog p)).flatMap fun n =>
    (List.range (pedLength p n)).map fun a => (pedOffset p n + a, p.getD (pedOffset p n + a) 0, pedLength p n)

/-- The checks of R221 in order: the word index of the first failure, or none. -/
def pedalImageCheck (v : Variant) (p : List Nat) : Option Nat :=
  let h := p.getD 0 0
  let n := pedNprog p
  let last := p.length - 1
  let idx := fun (bad : Nat → Bool) => (List.range n).find? bad |>.map (4 + ·)
  let words := pedWords p
  let first := fun (bad : Nat × Nat × Nat → Bool) => (words.find? bad).map Prod.fst
  -- 1 MAGIC, VERSION, length, CRC
  if field h 47 24 ≠ 0x504544 || field h 23 16 ≠ 1 || n = 0 || 8 < n || p.length < 5 + n then some 0
  else if field (p.getD last 0) 31 0 ≠ crc32 ((p.take last).flatMap wordBytes) then some last
  -- 2 SPOKES
  else if field (p.getD 1 0) 15 8 ≠ v.spokes then some 1
  -- 3 ASSIGN
  else match (List.range v.spokes).find? fun sp => n ≤ pedAssign p sp with
  | some sp => some (2 + sp / 12)
  | none =>
  -- 4 programs inside the image and apart
  match idx fun i =>
    pedOffset p i < 4 + n || last < pedOffset p i + pedLength p i ||
      (List.range i).any fun j =>
        pedOffset p i < pedOffset p j + pedLength p j && pedOffset p j < pedOffset p i + pedLength p i with
  | some i => some i
  | none =>
  -- 5 defined opcodes, reserved bits
  match first fun x => !pedDefined (x.2.1 % 2 ^ 32) with
  | some i => some i
  | none =>
  -- 6 ranges
  if field h 7 0 ≠ 0 then some 0
  else if field (p.getD 1 0) 47 16 = 0 || field (p.getD 1 0) 7 0 ≠ 0 then some 1
  else if field (p.getD 2 0) 11 0 ≠ 0 then some 2
  else if field (p.getD 3 0) 11 0 ≠ 0 || (v = .trt12 && p.getD 3 0 ≠ 0) then some 3
  else
  match idx fun i => pedLength p i = 0 || 256 < pedLength p i || field (p.getD (4 + i) 0) 15 0 ≠ 0 with
  | some i => some i
  | none =>
  match first fun x => 2 ^ 32 ≤ x.2.1 || (decodePedal 0 (BitVec.ofNat 32 x.2.1)).isNone with
  | some i => some i
  | none =>
  if field (p.getD last 0) 47 32 ≠ 0 then some last
  else
  -- 7 branch targets
  first fun x => match pedTarget x.2.1 with
    | some t => x.2.2 ≤ t
    | none => false

/-- A committed image gives every spoke its pending program (R223). -/
def State.pedalCommit (s : State) (p : List Nat) : State :=
  let ident := field (p.getD 1 0) 47 16
  let t := s.each s.spokeList fun s sp =>
    let n := pedAssign p sp
    s.modPedal sp fun q => { q with next := some ((pedProgram p n).map (BitVec.ofNat 32), ident, n) }
  t.puts [(k19ImageIdentity256, ident), (k19SwitchPending, maskOf t.spokeList)]

/-- At boot the program of the active PEDAL image, or the built-in one, starts (R219, R222). -/
def State.pedalBoot (s : State) (image : Option (List Nat)) : State :=
  let t := match image with
    | some p => let u := s.pedalCommit p; u.each u.spokeList State.loadNext
    | none => s
  t.each t.spokeList fun t sp => t.startProgram sp 0

/-- The effect of a write of class 19h. -/
def apply19 (s : State) (k i m : Nat) (v : Int) : State :=
  if i = 256 then (if m = 0 then applyBroadcast v s else s.put k v)
  else if m = 28 then applyPedalRestart i v s
  else s.put k v

def check19 (s : State) (i m : Nat) (v : Int) : Nat := if i < 24 && m = 28 then checkPedalRestart i v s else stOk

end Sys2Proof.Machine
end

