-- ==== Sys2Proof/Machine/Gate.lean ====
section
/-! DEFINITION. The safety gate (R232, R233, R300, R310, R312): blockers, the test winding before a closure, opening by hard
and soft conditions; the hold lease while it runs (R323-R325). -/

namespace Sys2Proof.Machine

/-! ### Blockers (R232, R233, R296) -/

def State.gate (s : State) (sp : Nat) : Gate := (s.spoke sp).gate

/-- The missing conditions of a closure, as bits of input 17. The weld condition is judged only before a closure (R312). -/
def State.blockers (s : State) (sp : Nat) : Nat :=
  maskOf ((if s.flag (k18PilotCondition sp) then [] else [0]) ++ (if s.residualOk sp then [] else [1]) ++
    (if s.gateState sp = 2 || (s.getN (k1CWeldCheck (4 * sp)) = 0 && s.getN (k18WeldSenseState sp) = 0) then [] else [2]) ++
    (if s.lockState sp = 1 then [] else [3]) ++ (if s.safetyNow sp = 1 then [4] else []) ++
    (if s.getN (k1BGrantedCurrent (16 + sp)) = 0 then [5] else []) ++ (if s.safetyNow sp = 2 then [6] else []))

/-- The diode status has not left 1 by itself (R312). A status of 0 that follows from PMODE or DUTY leaving the PWM (R210) is part of the
soft fall of the pilot condition, and so it is until the diode has been checked again once the PWM is back (log entry 53). -/
def State.diodeOk (s : State) (sp : Nat) : Bool :=
  let d := s.getN (k18DiodeStatus sp)
  let duty := (s.spoke sp).pilot.drivenDuty
  d = 1 || (d = 0 && (!pwmMode (s.pmode sp) || duty = 0 || duty = 2000 || (s.gate sp).softPilot.isSome))

/-- The hard conditions of R312 hold: filtered state C or D, the diode, residual, lock, safety state 0. -/
def State.hardOk (s : State) (sp : Nat) : Bool :=
  (s.getN (k18PilotState sp) = 2 || s.getN (k18PilotState sp) = 3) && s.diodeOk sp && s.residualOk sp &&
    s.lockState sp = 1 && s.safetyNow sp = 0

/-- The tick at which a condition fell: from now on, still that of its fall, or none while it holds. -/
def State.fellAt (s : State) (missing : Bool) (was : Option Nat) : Option Nat := if missing then some (was.getD s.cc) else none

/-- The soft conditions of R312, each with the tick of its own fall: the pilot condition, a granted current, the request under a stop
order. -/
def State.watchSoft (s : State) (sp : Nat) : State :=
  s.modGate sp fun g =>
    { g with softPilot := s.fellAt (!s.flag (k18PilotCondition sp)) g.softPilot,
             softGrant := s.fellAt (s.getN (k1BGrantedCurrent (16 + sp)) = 0) g.softGrant,
             softOrder := s.fellAt g.stopOrder g.softOrder }

/-- The falls from which a grace runs. -/
def Gate.graces (g : Gate) : List Nat := [g.softPilot, g.softGrant, g.softOrder].filterMap id

/-- Does a hold lease run (R323)? -/
def State.leaseRuns (s : State) : Bool := s.lease.startAt.isSome

/-! ### The test winding (R310) -/

/-- Ticks of a stage, and the samples of it that are judged. -/
def twStage : Nat := 40
def twJudged : Nat := 24

/-- The TW field sent in the running frame: 01b, 10b and 00b for 40 ticks each. -/
def State.twField (s : State) (sp : Nat) : Nat :=
  match (s.gate sp).stage with
  | .running start =>
    if !s.reached start then 0
    else if s.since start < twStage then 1 else if s.since start < 2 * twStage then 2 else 0
  | .none => 0

/-- A test is discarded; TW returns to 00b at once. -/
def State.discardTest (s : State) (sp : Nat) : State :=
  match (s.gate sp).stage with
  | .running _ => s.modGate sp fun g => { g with stage := .none, samples := [] }
  | .none => s

/-- The IX sample of a frame joins a running test; it was latched at the tick before (R18). -/
def State.twSample (s : State) (sp : Nat) : State :=
  match (s.gate sp).stage with
  | .running _ => s.modGate sp fun g => { g with samples := ((s.cc + ccMod - 1) % ccMod, s.outOf (5 * sp + 4)) :: g.samples }
  | .none => s

/-- The samples of stage `j` that are judged: those of the last 24 edges at which the ball showed the stage, which is one tick
behind the field sent. -/
def stageSamples (start j : Nat) (l : List (Nat × Rat)) : List Rat :=
  (l.filter fun p =>
    let d := (p.1 + ccMod - start) % ccMod
    twStage * j + (twStage - twJudged) < d && d ≤ twStage * (j + 1)).map Prod.snd

/-- Does a mean of the samples of a stage lie within `tol` of `want`? -/
def meanWithin (l : List Rat) (want tol : Rat) : Bool :=
  let m := l.sum / l.length
  l ≠ [] && want - tol ≤ m && m ≤ want + tol

/-- Do the three stages meet the expected value E and the tolerance T? -/
def State.twPasses (s : State) (sp start : Nat) : Bool :=
  let e : Rat := s.getN (k1DTestExpected (16 + sp))
  let tol := e * s.getN (k1DTestTolerance (16 + sp)) / 100
  let l := (s.gate sp).samples
  meanWithin (stageSamples start 0 l) e tol && meanWithin (stageSamples start 1 l) (-e) tol &&
    meanWithin (stageSamples start 2 l) 0 tol

/-- TEST_WINDING (R310, R323): with a close request waiting and every condition met the test starts. -/
def testWinding (sp : Nat) (s : State) : State :=
  let g := s.gate sp
  if sp < s.spokeCount && s.gateState sp = 1 && g.armed && s.blockers sp = 0 && !s.leaseRuns && g.stage = .none &&
      !g.passed then
    (s.modGate sp fun g => { g with stage := .running s.nextTick, samples := [] }).put (k1DTestWindingResult (16 + sp)) 0
  else s

def execTestWinding (sp : Nat) (s : State) : Host.Outcome State Fault Refusal := .next (testWinding sp s)

/-- TEST_WINDING_RESULT (R310): the last sample of the third stage has reached safety evaluation. -/
def testWindingResult (sp : Nat) (s : State) : State :=
  match (s.gate sp).stage with
  | .running start =>
    if s.reached start && 3 * twStage < s.since start then
      let ok := s.twPasses sp start
      let t := s.modGate sp fun g => { g with stage := .none, samples := [], passed := ok }
      if ok then t.put (k1DTestWindingResult (16 + sp)) 1
      else t.inFrame sp fun t =>
        ((t.put (k1DTestWindingResult (16 + sp)) 2).setCause sp cWinding true).notice byDevice 0x0A12 sp
    else s
  | .none => s

def execTestWindingResult (sp : Nat) (s : State) : Host.Outcome State Fault Refusal := .next (testWindingResult sp s)

/-! ### The gate in safety evaluation (R232, R233, R300, R312) -/

/-- The gate state of open contacts. -/
def State.openState (s : State) (sp : Nat) : Nat :=
  if s.safetyNow sp = 2 then 5
  else if (s.pedal sp).request then (if (s.gate sp).armed then 1 else 3)
  else if s.getN (k1CWeldCheck (4 * sp)) = 1 then 4 else 0

/-- The gate state after an opening: locked out, withdrawn or dropped. -/
def State.droppedState (s : State) (sp : Nat) : Nat :=
  if s.safetyNow sp = 2 then 5 else if (s.pedal sp).request then 3 else 4

/-- The close request is read: a rising edge waits for its grant, a withdrawal ends the waiting and voids a passed test. -/
def State.readRequest (s : State) (sp : Nat) : State :=
  let req := (s.pedal sp).request
  s.modGate sp fun g =>
    { g with lastReq := req, armed := req && (g.armed || !g.lastReq), passed := g.passed && req }

/-- The gate with its contacts closed (R312). -/
def State.gateClosed (s : State) (sp : Nat) : State :=
  if !s.hardOk sp then s.openContacts sp (s.droppedState sp)
  else if !(s.pedal sp).request && !(s.gate sp).stopOrder then s.openContacts sp 4
  else s.watchSoft sp

/-- The gate with its contacts open (R232): it grants once every condition holds after a passed test, outside a lease. -/
def State.gateOpen (s : State) (sp : Nat) : State :=
  let ready := s.blockers sp = 0 && (s.gate sp).armed
  let t := if ready && !s.leaseRuns then s else s.discardTest sp
  if ready && (t.gate sp).passed && !t.leaseRuns then
    (t.closeContacts sp).modGate sp fun g => { g with armed := false, passed := false }
  else t.setGate sp (t.openState sp)

/-- The gate of a spoke in safety evaluation, after every cause has been formed (R300). -/
def State.evalGate (s : State) (sp : Nat) : State :=
  let t := (s.twSample sp).readRequest sp
  let t := if t.gateState sp = 2 then t.gateClosed sp else t.gateOpen sp
  t.put (k19GateBlockers sp) (t.blockers sp)

def graceTicks : Nat := 24000

/-- SOFT_GRACE_END (R312, R325): 24,000 ticks after a soft condition fell the frame carries KH and KL off; the die applies it
one tick later, where the weld check starts. -/
def softGraceEnd (sp : Nat) (s : State) : State :=
  if s.gateState sp = 2 && (s.gate sp).graces.any fun t => s.dueNext ((t + graceTicks) % ccMod) then
    s.openContactsAt sp (s.droppedState sp) s.nextTick
  else s

def execSoftGraceEnd (sp : Nat) (s : State) : Host.Outcome State Fault Refusal := .next (softGraceEnd sp s)

/-! ### The hold lease (R323-R325) -/

/-- A stop order of some spoke runs. -/
def State.stopOrders (s : State) : Bool := s.spokeList.any fun sp => (s.gate sp).stopOrder

/-- A core-domain reset starts the hold lease at its tick, unless one runs or a stop order does (R323-R325). -/
def State.startLease (s : State) : State :=
  if s.leaseRuns || s.stopOrders then s
  else
    let t := { s with lease := { s.lease with startAt := some s.cc, endAt := s.after (msTicks (s.getN k1DHoldLease)),
                                              unreclaimed := false } }
    ((t.each t.spokeList State.discardTest).put k1DLeaseState 1).noticeOpen byDevice 0x0A40

/-- LEASE_RECLAIM (R324): restarted firmware reclaims a running lease; the sequencers resume with start cause 2. -/
def leaseReclaim (s : State) : State :=
  if s.leaseRuns && !s.lease.fwUp then
    let t := { s with lease := { s.lease with startAt := none } }
    ((t.put k1DLeaseState 0).resumePedals 2).noticeOpen byDevice 0x0A41
  else s

def execLeaseReclaim (s : State) : Host.Outcome State Fault Refusal := .next (leaseReclaim s)

/-- LEASE_EXPIRY (R325): at the expiry tick every sequencer's PMODE sink is 1 and its request 0; each closed spoke enters the
stop order. -/
def leaseExpiry (s : State) : State :=
  if s.leaseRuns && s.dueNext s.lease.endAt then
    let t := { s with lease := { s.lease with startAt := none, unreclaimed := true } }
    let t := ((t.put k1DLeaseState 3).count k1DLeaseExpiries).noticeOpen byDevice 0x0A42
    t.each t.spokeList fun t sp =>
      let t := t.modPedal sp fun p => { p with pmode := 1, request := false }
      if t.gateState sp = 2 then
        t.modGate sp fun g => { g with stopOrder := true, softOrder := some s.nextTick }
      else t
  else s

def execLeaseExpiry (s : State) : Host.Outcome State Fault Refusal := .next (leaseExpiry s)

end Sys2Proof.Machine
end

