-- ==== Sys2Proof/Machine/Calendar.lean ====
section
/-! DEFINITION. The tariff image and the calendar it defines (R10, R174-R180, R182, R184): local time, rate selection, ends of
demand intervals, scheduled billing closes. Days count from 2000-01-01, a Saturday; wall times are in ms. -/

namespace Sys2Proof.Machine

/-! ### Civil dates -/

def dayMs : Int := 86400000

/-- Year, month and day of a day number. -/
def civil (day : Int) : Int × Nat × Nat :=
  let z := day + 730425
  let era := z / 146097
  let doe := z % 146097
  let yoe := (doe - doe / 1460 + doe / 36524 - doe / 146096) / 365
  let doy := doe - (365 * yoe + yoe / 4 - yoe / 100)
  let mp := (5 * doy + 2) / 153
  let d := doy - (153 * mp + 2) / 5 + 1
  let m := if mp < 10 then mp + 3 else mp - 9
  (yoe + era * 400 + (if m ≤ 2 then 1 else 0), m.toNat, d.toNat)

/-- Day number of a date. -/
def dayNumber (y : Int) (m d : Nat) : Int :=
  let y := if m ≤ 2 then y - 1 else y
  let era := y / 400
  let yoe := y % 400
  let doy := (153 * ((m : Int) + (if 2 < m then -3 else 9)) + 2) / 5 + d - 1
  era * 146097 + (yoe * 365 + yoe / 4 - yoe / 100 + doy) - 730425

/-- Day of the week, 0 = Monday. -/
def weekday (day : Int) : Nat := ((day + 5) % 7).toNat

def leapYear (y : Int) : Bool := y % 4 = 0 && (y % 100 ≠ 0 || y % 400 = 0)

def monthLength (y : Int) (m : Nat) : Nat :=
  match m with
  | 2 => if leapYear y then 29 else 28
  | 4 | 6 | 9 | 11 => 30
  | _ => 31

/-! ### Fields of a tariff image (R175-R177) -/

def tw (p : List Nat) (n : Nat) : Nat := p.getD n 0
def tNspec (p : List Nat) : Nat := field (tw p 0) 15 0
def tId (p : List Nat) : Nat := field (tw p 1) 47 16
def tNseas (p : List Nat) : Nat := field (tw p 1) 15 12
def tNweek (p : List Nat) : Nat := field (tw p 1) 11 8
def tNday (p : List Nat) : Nat := field (tw p 1) 7 2
def tActivate (p : List Nat) : Nat := tw p 2
/-- Standard and daylight-saving offsets in ms. -/
def tStd (p : List Nat) : Int := signed 12 (field (tw p 3) 47 36) * 60000
def tDst (p : List Nat) : Int := (field (tw p 3) 35 29 : Nat) * 60000
def tDstEn (p : List Nat) : Bool := bit (tw p 3) 28
def tDlen (p : List Nat) : Nat := if p = [] then 15 else [5, 10, 15, 30, 60].getD (field (tw p 5) 47 45) 15
def tMonthly (p : List Nat) : Bool := bit (tw p 5) 44
def tBday (p : List Nat) : Nat := field (tw p 5) 43 39
def tBmin (p : List Nat) : Nat := field (tw p 5) 38 28
def tDefRate (p : List Nat) : Nat := field (tw p 5) 27 25
def tImport (p : List Nat) (r : Nat) : Nat := field (tw p (6 + r)) 47 24
def tExport (p : List Nat) (r : Nat) : Nat := field (tw p (6 + r)) 23 0
def tFee (p : List Nat) : Nat := tw p 14
def tPrice (p : List Nat) : Nat := tw p 15
def tSeason (p : List Nat) (i : Nat) : Nat := tw p (16 + i)
def tWeek (p : List Nat) (i : Nat) : Nat := tw p (16 + tNseas p + i)
/-- First word of day profile `i`, and special-day word `i`. -/
def tDay (p : List Nat) (i : Nat) : Nat := 16 + tNseas p + tNweek p + 5 * i
def tSpecial (p : List Nat) (i : Nat) : Nat := tw p (16 + tNseas p + tNweek p + 5 * tNday p + i)

/-- The fourteen bits of switch point `j` of a day profile whose first word is `at_` (R177). -/
def pointBits (p : List Nat) (at_ j : Nat) : Nat :=
  field (tw p (at_ + 1 + j / 3)) (47 - 14 * (j % 3)) (34 - 14 * (j % 3))

/-- The switch points of a day profile: minute and rate. -/
def dayPoints (p : List Nat) (i : Nat) : List (Nat × Nat) :=
  (List.range (field (tw p (tDay p i)) 47 44)).map fun j => let b := pointBits p (tDay p i) j; (b / 8, b % 8)

/-! ### Local time (R174) -/

/-- A daylight-saving instant of a year in local standard time. -/
def dstInstant (y : Int) (spec : Nat) : Int :=
  let m := field spec 20 17
  let week := field spec 16 14
  let wd := field spec 13 11
  let first := dayNumber y m 1
  let d := (wd + 7 - weekday first) % 7
  let d := if week = 5 then (if d + 28 < monthLength y m then d + 28 else d + 21) else d + 7 * (week - 1)
  (first + d) * dayMs + (field spec 10 0 : Nat) * 60000

def dstStart (p : List Nat) (y : Int) : Int := dstInstant y (field (tw p 4) 47 27)
def dstEnd (p : List Nat) (y : Int) : Int := dstInstant y (field (tw p 4) 26 6)

/-- Is daylight saving active at a local standard time? -/
def dstActive (p : List Nat) (std : Int) : Bool :=
  let y := (civil (std / dayMs)).1
  let a := dstStart p y
  let b := dstEnd p y
  tDstEn p && (if b < a then !(b ≤ std && std < a) else (a ≤ std && std < b))

/-- Local civil time of a wall time, in ms. -/
def localOf (p : List Nat) (w : Int) : Int :=
  let std := w + tStd p
  if dstActive p std then std + tDst p else std

/-- The offset in force in minutes. -/
def localOffset (p : List Nat) (w : Int) : Int := (localOf p w - w) / 60000

/-- The next change of daylight saving after a wall time. -/
def nextDst (p : List Nat) (w : Int) : Option Int :=
  let y := (civil ((w + tStd p) / dayMs)).1
  if !tDstEn p then none
  else
    let l := [dstStart p y, dstEnd p y, dstStart p (y + 1), dstEnd p (y + 1)].map (· - tStd p)
    (l.filter fun x => w < x).min?

/-- The first wall time at which local time has reached `l` of its own day: a skipped instant counts at the change, a repeated
one once (log entry 30). -/
def reachLocal (p : List Nat) (l : Int) : Int :=
  let a := l - tStd p - tDst p
  let b := l - tStd p
  if localOf p a = l then a
  else if localOf p b = l then b
  else (nextDst p (a - 1)).getD b

/-! ### Rate selection (R180) -/

/-- Day profile of a local date. -/
def profileOf (p : List Nat) (day : Int) : Nat :=
  let c := civil day
  let sp := (List.range (tNspec p)).map (tSpecial p)
  let same := fun (w : Nat) => decide (field w 35 32 = c.2.1 ∧ field w 31 27 = c.2.2)
  let prof := fun (w : Nat) => field w 26 22
  match sp.find? fun w => same w && decide ((field w 47 36 : Int) = c.1) && field w 47 36 ≠ 0 with
  | some w => prof w
  | none =>
    match sp.find? fun w => same w && field w 47 36 = 0 with
    | some w => prof w
    | none =>
      let seas := (List.range (tNseas p)).map (tSeason p)
      let before := seas.filter fun w =>
        field w 47 44 < c.2.1 || (field w 47 44 = c.2.1 && field w 43 39 ≤ c.2.2)
      let s := (before.getLast?).getD (seas.getLast?.getD 0)
      let wk := tWeek p (field s 38 36)
      field wk (47 - 5 * weekday day) (43 - 5 * weekday day)

/-- The rate at a local time. -/
def rateAtLocal (p : List Nat) (l : Int) : Nat :=
  let minute := (l % dayMs / 60000).toNat
  (((dayPoints p (profileOf p (l / dayMs))).filter fun x => x.1 ≤ minute).getLast?.map Prod.snd).getD 0

/-- The rate at a wall time; none = wall time is invalid. Without an image DEFRATE 0 applies (R197). -/
def rateAt (p : List Nat) : Option Nat → Nat
  | some w => if p = [] then 0 else rateAtLocal p (localOf p w)
  | none => tDefRate p

/-- Wall times at which the points of a local day may take effect, with the daylight-saving changes of that day. -/
def dayInstants (p : List Nat) (day : Int) : List Int :=
  let y := (civil day).1
  let pts := (dayPoints p (profileOf p day)).flatMap fun x =>
    let l := day * dayMs + (x.1 : Int) * 60000
    ([l - tStd p, l - tStd p - tDst p]).filter fun w => localOf p w = l
  let trs := ([dstStart p y, dstEnd p y].filter fun t => t / dayMs = day).map (· - tStd p)
  pts ++ (if tDstEn p then trs else [])

/-- Days that the search for a change of rate covers: past the last special year and the 400 years of the calendar. -/
def searchDays : Nat := 912000

/-- The first instant after `w` at which another rate than `cur` is selected, searching `n` days from `day` (R180). -/
def nextRateFrom (p : List Nat) (w : Int) (cur : Nat) : Nat → Int → Option Int
  | 0, _ => none
  | n + 1, day =>
    match ((dayInstants p day ++ dayInstants p (day + 1)).filter fun x => w < x && rateAt p (some x.toNat) ≠ cur).min? with
    | some x => some x
    | none => nextRateFrom p w cur n (day + 1)

/-- The next switch instant that the evaluation predicts. -/
def nextSwitch (p : List Nat) (w cur : Nat) : Option Int :=
  if p = [] then none else nextRateFrom p w cur searchDays (localOf p w / dayMs - 1)

/-! ### Demand intervals and billing closes (R182, R184) -/

/-- The first aligned end of a demand interval after a wall time. -/
def nextAligned (p : List Nat) (w : Int) : Int :=
  let len : Int := tDlen p * 60000
  let up := fun (x : Int) => x + (len - localOf p x % len)
  let e := up w
  match nextDst p w with
  | some t => if t < e || (t = e && localOf p t % len ≠ 0) then (if localOf p t % len = 0 then t else up t) else e
  | none => e

/-- The first scheduled billing close after a wall time. -/
def nextClose (p : List Nat) (w : Int) : Option Int :=
  if p = [] || !tMonthly p then none
  else
    let c := civil (localOf p w / dayMs)
    let inst := fun (k : Nat) =>
      let m := c.2.1 - 1 + k
      reachLocal p (dayNumber (c.1 + (m / 12 : Nat)) (m % 12 + 1) (tBday p) * dayMs + (tBmin p : Int) * 60000)
    (([0, 1, 2].map inst).filter fun x => w < x).min?

/-! ### The checks of an image (R178) -/

/-- Is a 21-bit daylight-saving rule in range? -/
def dstRuleOk (x : Nat) : Bool :=
  1 ≤ field x 20 17 && field x 20 17 ≤ 12 && 1 ≤ field x 16 14 && field x 16 14 ≤ 5 && field x 13 11 ≤ 6 && field x 10 0 ≤ 1439

/-- Ranges of the fixed part, by word. -/
def fixedOk (p : List Nat) (i : Nat) : Bool :=
  let w := tw p i
  match i with
  | 0 => tNspec p ≤ 128
  | 1 => 1 ≤ tId p && 1 ≤ tNseas p && tNseas p ≤ 8 && 1 ≤ tNweek p && tNweek p ≤ 8 && 1 ≤ tNday p && tNday p ≤ 32 &&
      field w 1 0 = 0
  | 3 => let o := signed 12 (field w 47 36); -720 ≤ o && o ≤ 840 && field w 35 29 ≤ 120 && field w 27 0 = 0
  | 4 => dstRuleOk (field w 47 27) && dstRuleOk (field w 26 6) && field w 5 0 = 0
  | 5 => field w 47 45 ≤ 4 && 1 ≤ tBday p && tBday p ≤ 28 && tBmin p ≤ 1439 && field w 24 15 ≤ 999 && field w 14 12 ≤ 3 &&
      field w 11 0 = 0
  | _ => true

def seasonOk (p : List Nat) (w : Nat) : Bool :=
  1 ≤ field w 47 44 && field w 47 44 ≤ 12 && 1 ≤ field w 43 39 && field w 38 36 < tNweek p && field w 35 0 = 0

def weekOk (p : List Nat) (w : Nat) : Bool :=
  (List.range 7).all (fun d => field w (47 - 5 * d) (43 - 5 * d) < tNday p) && field w 12 0 = 0

/-- Ranges of the five words of a day profile: the first word at fault. -/
def dayBad (p : List Nat) (i : Nat) : Option Nat :=
  let b := tDay p i
  let n := field (tw p b) 47 44
  if n = 0 || 12 < n || field (tw p b) 43 0 ≠ 0 then some b
  else
    ((List.range 4).find? fun k =>
      field (tw p (b + 1 + k)) 5 0 ≠ 0 || (List.range 3).any fun j =>
        let x := pointBits p b (3 * k + j)
        if 3 * k + j < n then 1440 ≤ x / 8 else x ≠ 0).map fun k => b + 1 + k

def specialRange (p : List Nat) (w : Nat) : Bool :=
  (field w 47 36 = 0 || 2000 ≤ field w 47 36) && 1 ≤ field w 35 32 && field w 35 32 ≤ 12 && 1 ≤ field w 31 27 &&
    field w 26 22 < tNday p && field w 21 0 = 0

/-- Does a special date exist? 29 February needs YEAR 0 or a leap year. -/
def specialDate (w : Nat) : Bool :=
  let y := field w 47 36
  field w 31 27 ≤ monthLength (if y = 0 then 2000 else y) (field w 35 32)

/-- A date as one number, for the ascending order of seasons. -/
def seasonDate (w : Nat) : Nat := 32 * field w 47 44 + field w 43 39

/-- The checks of R178: the word index of the first failure, or none. -/
def tariffCheck (p : List Nat) : Option Nat :=
  let last := p.length - 1
  let first := fun (n : Nat) (base : Nat) (bad : Nat → Bool) => ((List.range n).find? bad).map (base + ·)
  let sBase := 16
  let wBase := 16 + tNseas p
  let dBase := wBase + tNweek p
  let xBase := dBase + 5 * tNday p
  if field (tw p 0) 47 24 ≠ 0x544152 || field (tw p 0) 23 16 ≠ 1 then some 0
  else if p.length ≠ xBase + tNspec p + 1 then some 1
  else if tw p last ≠ crc32 ((p.take last).flatMap wordBytes) then some last
  else match first 16 0 (fun i => !fixedOk p i) with
  | some i => some i
  | none => match first (tNseas p) sBase (fun i => !seasonOk p (tSeason p i)) with
  | some i => some i
  | none => match first (tNweek p) wBase (fun i => !weekOk p (tWeek p i)) with
  | some i => some i
  | none => match (List.range (tNday p)).findSome? (dayBad p) with
  | some i => some i
  | none => match first (tNspec p) xBase (fun i => !specialRange p (tSpecial p i)) with
  | some i => some i
  | none => match first (tNseas p) sBase (fun i => 0 < i && seasonDate (tSeason p i) ≤ seasonDate (tSeason p (i - 1))) with
  | some i => some i
  | none => match first (tNspec p) xBase (fun i => !specialDate (tSpecial p i) ||
      (List.range i).any fun j => field (tSpecial p j) 47 27 = field (tSpecial p i) 47 27) with
  | some i => some i
  | none => first (tNday p) dBase (fun i =>
      let l := (dayPoints p i).map Prod.fst
      !(l.headD 1 = 0 && ascends l)) |>.map fun i => dBase + 5 * (i - dBase)

end Sys2Proof.Machine
end

