-- ==== Sys2Proof/Machine/Billing.lean ====
section
/-! DEFINITION. Wall time and who moves it (R167-R173), activation of a tariff and the rate (R179-R181), demand intervals
(R182, R183), billing periods (R184, R185). The rows of boundary steps 3 and 4 stand before the TICK of their tick, so the
wall time they see is that of the coming boundary (log entry 5). -/

namespace Sys2Proof.Machine

/-! ### The rate (R180, R139, R160) -/

def State.tariff (s : State) : List Nat := s.billing.active

/-- Wall time at the coming boundary; none while it is invalid. -/
def State.boundaryWall (s : State) : Option Nat := if s.timeValid then some s.wallNext else none

/-- A rate that becomes current is noted with the journal records in play (R157). -/
def JRecord.noteRate (j : JRecord) (r : Nat) : JRecord := { j with rates := j.rates ++ [r] }

def State.noteRate (s : State) (r : Nat) : State :=
  { s with pf := { s.pf with base := s.pf.base.map (·.noteRate r), newBase := s.pf.newBase.map (·.noteRate r),
                             latched := s.pf.latched.map (·.noteRate r) } }

/-- The rate that a wall time selects becomes current: a switch closes the segments and latches the journal. -/
def State.selectRate (s : State) (w : Option Nat) : State :=
  let r := rateAt s.tariff w
  if r = s.getN k10CurrentRate then s
  else ((s.closeSegments.put k10CurrentRate r).noteRate r).journal 1

/-- RATE_SWITCH (R180, R44 step 4). -/
def rateSwitch (s : State) : State :=
  s.atStep 4 fun s => if s.billing.stepped.isSome then s else s.selectRate s.boundaryWall

def execRateSwitch (s : State) : Host.Outcome State Fault Refusal := .next (rateSwitch s)

/-! ### Demand intervals (R182, R183) -/

/-- Total of a register in 2^-24 units with its wraps. -/
def State.total (s : State) (inst : Nat) : Nat :=
  (s.getN (k0BWrapCount inst) * ccMod + s.getN (k0BValue inst)) * fineOne + s.getN (k0BFineFraction inst)

/-- +A totals of every spoke. -/
def State.importTotals (s : State) : List Nat := (List.range 24).map fun sp => s.total (24 * sp)

/-- +A energy of the running interval in mWh. -/
def State.intervalEnergy (s : State) (sp : Nat) : Nat :=
  let all := 256 * ccMod * fineOne
  (s.total (24 * sp) + all - s.billing.intervalBase.getD sp 0) % all / fineOne

/-- Demand in mW of an energy in mWh over a length in minutes (R182, R183). -/
def demandOf (e len : Nat) : Nat := min (e * 60 / max 1 len) 4294967295

/-- Instance of the hub record of period `p` (R198). -/
def hubPeriod (p : Nat) : Nat := 32 * p + 31

/-- A flag of the open billing period (11h/31/4), kept with the next demand record (log entry 33). -/
def State.periodFlag (s : State) (b : Nat) : State :=
  (s.put (k11Flags 31) (setBit (s.getN (k11Flags 31)) b true)).flashOp .demand

/-- The effect of a closed interval on the open period of a spoke (R183). -/
def State.intervalOf (s : State) (sp : Nat) (full : Bool) (e stamp : Nat) : State :=
  if full then
    let d := demandOf e (s.getN k10DemandLength)
    let t := s.ratchet (k11Intervals sp) 16
    if s.getN (k11MaximumDemand sp) < d then t.puts [(k11MaximumDemand sp, d), (k11TimeOfMaximum sp, stamp)] else t
  else s.ratchet (k11ShortIntervals sp) 16

/-- The running interval closes with an end time; `flagged` says that a rule flags it, `energy` replaces the measured energy of
each spoke. One that is shorter than its length is short. -/
def State.closeIntervalWith (s : State) (stamp : Nat) (flagged : Bool) (energy : Nat → Nat) : State :=
  let b := s.billing
  let full := !(flagged || b.short || b.adjusted || b.outage || stamp < s.getN k05HighWaterTime ||
    stamp ≠ s.getN k11IntervalStart + s.getN k10DemandLength * 60000)
  let t := s.each s.spokeList fun t sp => t.intervalOf sp full (energy sp) stamp
  let t := if full then t else t.notice byDevice 0x0503 (Config.shortCloseValue % ccMod)
  let t := (t.put k11IntervalStart stamp).flashOp .demand
  { t with billing := { t.billing with intervalBase := t.importTotals, short := false, adjusted := false, outage := false } }

def State.closeInterval (s : State) (stamp : Nat) (flagged : Bool) : State :=
  let t := s.closeSegments
  t.closeIntervalWith stamp flagged t.intervalEnergy

/-- An interval starts without one before it. -/
def State.startInterval (s : State) (w : Nat) (short outage : Bool) : State :=
  let t := s.put k11IntervalStart w
  { t with billing := { t.billing with intervalBase := t.importTotals, short := short, adjusted := false, outage := outage } }

/-- The aligned end of the running interval. -/
def State.intervalEnd (s : State) : Nat := (nextAligned s.tariff (s.getN k11IntervalStart)).toNat

/-- DEMAND_INTERVAL_CLOSE (R182, R44 step 3): the aligned end has been reached; R181 holds it back while time is invalid. -/
def State.intervalDue (s : State) : State :=
  match s.boundaryWall with
  | some w => if s.billing.stepped.isNone && s.intervalEnd ≤ w then s.closeInterval s.intervalEnd false else s
  | none => s

def demandIntervalClose (s : State) : State := s.atStep 3 State.intervalDue

def execDemandIntervalClose (s : State) : Host.Outcome State Fault Refusal := .next (demandIntervalClose s)

/-! ### Billing periods (R184, R185) -/

/-- The members of period `p` become those of period `p + 1`. -/
def State.agePeriod (s : State) (p : Nat) : State :=
  let t := s.each s.spokeList fun t sp => t.each (List.range 52) fun t m =>
    t.put (key 0x11 (32 * (p + 1) + sp) m) (t.get (key 0x11 (32 * p + sp) m))
  t.each (List.range 5) fun t m => t.put (key 0x11 (hubPeriod (p + 1)) m) (t.get (key 0x11 (hubPeriod p) m))

/-- Register values and wrap counts as they stand enter the open period. -/
def State.latchPeriod (s : State) : State :=
  s.each s.spokeList fun t sp => t.each (List.range 24) fun t j =>
    t.puts [(k11RegisterValue sp j, t.get (k0BValue (24 * sp + j))), (k11WrapCount sp j, t.get (k0BWrapCount (24 * sp + j)))]

/-- The members of period `p` as flash keeps them. -/
def State.periodData (s : State) (p : Nat) : List (Nat × Int) :=
  s.obj.filter fun x => keyClass x.1 = 0x11 && keyInst x.1 / 32 = p && keyMember x.1 < 52

/-- A billing close with its cause and time stamp (R185). The open period starts anew, so a demand record of it follows (log entry
33). -/
def State.billingClose (s : State) (cause stamp : Nat) : State :=
  let t := s.closeSegments
  let gap := t.spokeList.any fun sp => t.getN (k30GapBound (65 + sp)) ≠ 0
  let t := if gap then t.periodFlag 1 else t
  let start := (List.range 13).reverse.foldl (fun t p => t.agePeriod p) t.latchPeriod
  let t := start.puts [(k11End (hubPeriod 1), stamp), (k11Cause (hubPeriod 1), cause)]
  let t := t.each t.spokeList fun t sp =>
    t.puts [(k11MaximumDemand sp, 0), (k11TimeOfMaximum sp, 0), (k11Intervals sp, 0), (k11ShortIntervals sp, 0)]
  let seq := t.getN (k11Sequence (hubPeriod 1))
  let t := t.puts [(k11Start 31, stamp), (k11End 31, 0), (k11Sequence 31, ((seq + 1) % 4294967296 : Nat)), (k11Cause 31, 0),
    (k11Flags 31, 0)]
  ((((t.notice byDevice 0x0504 seq).flashOp (.billing seq)).flashOp .demand).journal 2)

/-- The next scheduled close that HW does not gate (R171, R184). -/
def State.scheduledClose (s : State) : Option Nat :=
  (nextClose s.tariff (s.getN k05HighWaterTime)).map Int.toNat

/-- A scheduled close: its instant enters HW, so that it is never processed again (R171). -/
def State.closeAt (s : State) (cause x : Nat) : State :=
  (s.billingClose cause x).put k05HighWaterTime (max x (s.getN k05HighWaterTime))

/-- BILLING_PERIOD_CLOSE (R184, R44 step 3, after the demand-interval close): a close that was asked for, or the scheduled
one. -/
def State.periodDue (s : State) : State :=
  match s.billing.closeCauses with
  | (c, t) :: rest =>
    if s.dueNext t then
      let w := match s.boundaryWall with
        | some w => w
        | none => 0
      { s with billing := { s.billing with closeCauses := rest } }.billingClose c w
    else s
  | [] =>
    match s.boundaryWall, s.scheduledClose with
    | some w, some x => if s.billing.stepped.isNone && x ≤ w then s.closeAt 0 x else s
    | _, _ => s

def billingPeriodClose (s : State) : State := s.atStep 3 State.periodDue

def execBillingPeriodClose (s : State) : Host.Outcome State Fault Refusal := .next (billingPeriodClose s)

/-- CLOSE_NOW (R184): processed in the tick after the one at which it takes effect. -/
def applyCloseNow (v : Int) (s : State) : State :=
  if v = 1 then
    { s with billing := { s.billing with closeCauses := s.billing.closeCauses ++ [(1, (s.nextTick + 1) % ccMod)] } }
  else s

def execCloseNow (sid : Nat) (v : Int) (s : State) : Host.Outcome State Fault Refusal :=
  .next (s.writeRow sid k11CloseNow v (fun _ => stOk) (applyCloseNow v))

/-! ### The tariff image (R179, R197) -/

/-- Class 10h shows the active image. -/
def State.showTariff (s : State) : State :=
  let p := s.tariff
  let t := s.puts [(k10ActiveTariff, if p = [] then 0 else (tId p : Nat)), (k10DemandLength, tDlen p)]
  t.each (List.range 8) fun t r => t.puts [(k10ImportPrice (1 + r), tImport p r), (k10ExportCredit (1 + r), tExport p r)]

/-- A committed image is pending; a later one replaces it (R179, R445). -/
def State.tariffCommit (s : State) (p : List Nat) : State :=
  { s.puts [(k10PendingTariff, tId p), (k10PendingActivation, tActivate p)] with
    billing := { s.billing with pendingImage := p } }

/-- The pending image becomes active at a boundary with wall time `w`. -/
def State.activateTariff (s : State) (w : Nat) : State :=
  let p := s.billing.pendingImage
  let t := if tDlen p = s.getN k10DemandLength then s else s.closeInterval w true
  let t := ({ t with billing := { t.billing with active := p, pendingImage := [] } }).showTariff
  let t := (t.puts [(k10PendingTariff, 0), (k10PendingActivation, 0)]).notice byDevice 0x0506 (tId p)
  (t.periodFlag 4).selectRate (some w)

/-- TARIFF_ACTIVATION (R179, R44 step 4). -/
def State.tariffDue (s : State) : State :=
  match s.boundaryWall with
  | some w => if s.billing.pendingImage ≠ [] && tActivate s.billing.pendingImage ≤ w then s.activateTariff w else s
  | none => s

def tariffActivation (s : State) : State := s.atStep 4 State.tariffDue

def execTariffActivation (s : State) : Host.Outcome State Fault Refusal := .next (tariffActivation s)

/-! ### Slew and step (R168-R170) -/

/-- The limit of a slew and of a step in ms. -/
def slewLimit : Int := 2000
def stepLimit : Nat := 3600000

def checkSlew (v : Int) (s : State) : Nat :=
  if v < -slewLimit || slewLimit < v then stOutOfRange else if !s.timeValid then stNotNow else stOk

/-- SLEW (R169): it replaces what is left of the last one. -/
def applySlew (v : Int) (s : State) : State :=
  { s.put k05Slew v with billing := { s.billing with slewNs := v * 1000000 } }

def execSlew (sid : Nat) (v : Int) (s : State) : Host.Outcome State Fault Refusal :=
  .next (s.writeRow sid k05Slew v (checkSlew v) (applySlew v))

/-- Step limits by role (R168): the Utility any target, others one hour while wall time is valid. -/
def checkStep (sid : Nat) (v : Int) (s : State) : Nat :=
  if s.timeValid && s.roleOf sid ≠ 3 && stepLimit < (v - s.wallNext).natAbs then stDenied else stOk

/-- Wall time just before a step at the coming boundary: 0 while it is invalid. -/
def State.wallBefore (s : State) : Nat := if s.timeValid then s.wallNext else 0

/-- The high-water time at the coming boundary (R171): a step that has not had its effect does not raise it. -/
def State.hwNext (s : State) : Nat :=
  if s.timeValid && s.billing.stepped.isNone then max s.wallNext (s.getN k05HighWaterTime) else s.getN k05HighWaterTime

/-- A step is applied at the coming boundary (R170): HW takes the time reached there (R171), wall time and the RTC take the target
and are valid, the slew ends; notice 0501h has the signed step. -/
def State.stepTo (s : State) (inst : Nat) (v : Nat) : State :=
  let old := s.wallBefore
  let t := (s.puts [(k05HighWaterTime, (s.hwNext : Nat)), (k05WallTime, v), (k05TimeValid, 1), (k05Slew, 0)]).notice inst 0x0501
    (pattern 48 ((v : Int) - old))
  { t with vault := { t.vault with rtc := some v },
           billing := { t.billing with ns := 0, slewNs := 0,
                                       stepped := some (match s.billing.stepped with
                                         | some x => (x.1, x.2.1, s.nextTick)
                                         | none => (old, s.timeValid, s.nextTick)) } }

def applyStep (sid : Nat) (v : Int) (s : State) : State := s.stepTo sid v.toNat

/-- STEP (R168, R170). -/
def execStep (sid : Nat) (v : Int) (s : State) : Host.Outcome State Fault Refusal :=
  .next (s.writeRow sid k05StepTarget v (checkStep sid v) (applyStep sid v))

/-- The scheduled closes between two wall times after HW, in time order, at most `n` of them (R173). -/
def State.closesUpTo (s : State) (cause w : Nat) : Nat → State
  | 0 => s
  | n + 1 =>
    match s.scheduledClose with
    | some x => if x ≤ w then (s.closeAt cause x).closesUpTo cause w n else s
    | none => s

/-- More closes than any step can pass: one a month over the whole T48 range. -/
def maxCloses : Nat := 120000

/-- A regression (R172): notice, both times, the flag of the open period. -/
def State.regression (s : State) (old new : Nat) : State :=
  ((s.notice byDevice 0x0502 (old - new)).puts [(k05RegressionFrom, old), (k05RegressionTo, new)]).periodFlag 2

/-- STEP_EFFECT (R170, R172, R173, R181): steps 3 and 4 of the tick after a step, with the new wall time. -/
def State.stepDue (s : State) : State :=
  match s.billing.stepped with
  | some (old, valid, tick) =>
    if !s.dueNext ((tick + 1) % ccMod) then s
    else
      let w := s.wallNext
      let hw := s.getN k05HighWaterTime
      let t := ({ s with billing := { s.billing with stepped := none } }).periodFlag 3
      let t :=
        if !valid then
          let t := if w < hw then t.regression hw w else t
          (t.startInterval w true false).closesUpTo 0 w maxCloses
        else if w < old then
          let t := if w < hw then t.regression old w else t
          t.closeInterval w true
        else (t.closeInterval w true).closesUpTo 0 w maxCloses
      t.selectRate (some w)
  | none => s

def stepEffect (s : State) : State := s.atStep 3 State.stepDue

def execStepEffect (s : State) : Host.Outcome State Fault Refusal := .next (stepEffect s)

/-! ### Wall time in a tick (R167, R169, R171) -/

/-- Wall time and the RTC advance by a tick, a slew absorbs its share, HW follows. At the tick of a step they stand at the
target (R170), and HW waits until the step has had its effect (R173). -/
def State.advanceWall (s : State) : State :=
  if !s.timeValid || s.steppedNow then s
  else
    let ns := s.billing.ns + s.tickNs
    let sl := s.billing.slewNs
    let rest := if sl > 0 then max 0 (sl - 125) else if sl < 0 then min 0 (sl + 125) else 0
    let w := s.wall + ns / 1000000
    let t := { s.puts [(k05WallTime, w), (k05Slew, rest.tdiv 1000000)] with
               billing := { s.billing with ns := ns % 1000000, slewNs := rest }, vault := { s.vault with rtc := some w } }
    if s.billing.stepped.isSome then t else t.put k05HighWaterTime (max w (t.getN k05HighWaterTime) : Nat)

/-- Wall time becomes invalid (R167). -/
def State.invalidateTime (s : State) : State :=
  { s.puts [(k05WallTime, 0), (k05TimeValid, 0), (k05Slew, 0)] with
    billing := { s.billing with ns := 0, slewNs := 0, stepped := none }, vault := { s.vault with rtc := none } }

/-- The chapter rules on writes of class 05h, and their effects. -/
def check05 (sid : Nat) (s : State) (m : Nat) (v : Int) : Nat := if m = 2 then checkStep sid v s else if m = 3 then checkSlew v s else stOk
def apply05 (sid : Nat) (s : State) (k m : Nat) (v : Int) : State :=
  if m = 2 then applyStep sid v s else if m = 3 then applySlew v s else s.put k v

end Sys2Proof.Machine
end

