-- ==== Sys2Proof/Machine/Dma.lean ====
section
/-! DEFINITION. The DMA channels (R60-R68), their windows (R69) and the derailleur (R45-R47). -/

namespace Sys2Proof.Machine

/-! ### Descriptors (R61, R62, R65) -/

def dOp (d : List Nat) : Nat := field (d.getD 0 0) 47 44
def dLast (d : List Nat) : Bool := bit (d.getD 0 0) 43
def dEvt (d : List Nat) : Bool := bit (d.getD 0 0) 42
def dLock (d : List Nat) : Bool := bit (d.getD 0 0) 41
def dBurst (d : List Nat) : Nat := field (d.getD 0 0) 40 38
def dCount (d : List Nat) : Nat := field (d.getD 0 0) 37 17
def dParam (d : List Nat) : Nat := field (d.getD 0 0) 16 9
def dPace (d : List Nat) : Nat := field (d.getD 0 0) 3 0
def dNext (d : List Nat) : Nat := field (d.getD 3 0) 47 27

/-- Space, stride and address of an operand word (R61). -/
def opSpace (w : Nat) : Nat := field w 47 45
def opStride (w : Nat) : Int := signed 24 (field w 44 21)
def opAddr (w : Nat) : Nat := field w 20 0
def dSrc (d : List Nat) : Nat := d.getD 1 0
def dDst (d : List Nat) : Nat := d.getD 2 0

/-- Words a descriptor writes (R61, R65). -/
def dWords (d : List Nat) : Nat := if dOp d = 4 then (dCount d + 47) / 48 else dCount d

/-- The offset from the base at which word `i` stands on the source or the destination side (R62). Words are taken group by
group; the rule leaves their order open (log entry 17). -/
def srcOffset (d : List Nat) (i : Nat) : Int :=
  let k := dParam d
  let st := opStride (dSrc d)
  match dOp d with
  | 0 => i * st
  | 2 => ((i % k : Nat) : Int) * st + ((i / k : Nat) : Int)
  | 3 => ((i / k : Nat) : Int) * st + ((i % k : Nat) : Int)
  | _ => 0

def dstOffset (d : List Nat) (i : Nat) : Int :=
  let k := dParam d
  let st := opStride (dDst d)
  match dOp d with
  | 2 => ((i / k : Nat) : Int) * st + ((i % k : Nat) : Int)
  | 3 => ((i % k : Nat) : Int) * st + ((i / k : Nat) : Int)
  | 4 => i
  | _ => i * st

/-- The address of an operand's word: a ring operand wraps modulo the ring, any other must lie in the store (R62). -/
def State.dmaAddr (s : State) (base : Nat) (off : Int) : Option Nat :=
  let rb := s.regionBase rgRing
  let rs := s.regionSize rgRing
  let a : Int := base + off
  if rb ≤ base && base < rb + rs then some (rb + ((a - rb) % (rs : Int)).toNat)
  else if 0 ≤ a && a < storeWords then some a.toNat else none

/-- Source addresses of the words of a descriptor: for OP 4 the pixel words, for OP 1 none (R62, R65). -/
def State.dmaSources (s : State) (d : List Nat) : List (Option Nat) :=
  match dOp d with
  | 1 => []
  | 4 =>
    let ph := field (dParam d) 5 2
    (List.range ((ph + dCount d + 11) / 12)).map fun j => s.dmaAddr (opAddr (dSrc d)) j
  | _ => if opSpace (dSrc d) = 1 then []
         else (List.range (dWords d)).map fun i => s.dmaAddr (opAddr (dSrc d)) (srcOffset d i)

def State.dmaTargets (s : State) (d : List Nat) : List (Option Nat) :=
  if opSpace (dDst d) = 1 then [] else (List.range (dWords d)).map fun i => s.dmaAddr (opAddr (dDst d)) (dstOffset d i)

/-- Field checks of a descriptor (R61, R62). -/
def dmaFieldsOk (d : List Nat) : Bool :=
  let op := dOp d
  let src := dSrc d
  let dst := dDst d
  let w0 := d.getD 0 0
  let queueOk := fun (w : Nat) => opSpace w ≤ 1 && (opSpace w = 0 || opStride w = 0)
  op ≤ 4 && dBurst d ≠ 7 && 1 ≤ dCount d && field w0 8 4 = 0 && (dPace d ≤ 7 || dPace d = 15) &&
    field (d.getD 3 0) 26 0 = 0 && (dLast d || dNext d % 4 = 0) &&
    (if op = 2 || op = 3 then 2 ≤ dParam d && dCount d % dParam d = 0
     else if op = 4 then field (dParam d) 5 2 ≤ 11 && field (dParam d) 1 0 = 0 else dParam d = 0) &&
    (op = 1 || queueOk src) && queueOk dst &&
    (op < 2 || (opSpace src = 0 && opSpace dst = 0)) &&
    (op ≠ 4 || (opStride src = 1 && opStride dst = 1))

/-- May a channel read, and write, a region (R54, R63)? -/
def mayRead (host : Bool) (r : Nat) : Bool :=
  if host then r = rgIngest || r = rgRecorder || r = rgHostArea || r = rgRing else r ≠ rgMetering
def mayWrite (host : Bool) (r : Nat) : Bool :=
  if host then r = rgHostArea else r ≠ rgMetering && r ≠ rgIngest && r ≠ rgRing

/-- The entry of a requester in the running plan (R37). -/
def State.requesterEntry (s : State) (req : Nat) : Option Nat :=
  (planRequesters s.variant s.plan.running).find? fun w => reqNum w = req

/-- LOCKMAX of a requester in the running plan (R37). While no plan runs there is no entry to compare with, and the field's
largest value stands for it (DESIGN CHOICE, log entry 18). -/
def State.lockMax (s : State) (req : Nat) : Nat :=
  match s.requesterEntry req with
  | some w => reqLockMax w
  | none => 16383

/-- The port a requester's accesses take; while no plan runs port 1 (log entry 18). -/
def State.requesterPort (s : State) (req : Nat) : Nat :=
  match s.requesterEntry req with
  | some w => reqPort w
  | none => 1

/-- The checks of R63 on a descriptor: 0 or the cause code. -/
def State.dmaCheck (s : State) (ch : Nat) (d : List Nat) : Nat :=
  let host := 12 ≤ ch
  let allowed := fun (may : Nat → Bool) (a : Option Nat) =>
    match a with
    | some x => match s.regionOf x with
      | some r => may r
      | none => false
    | none => false
  let src := s.dmaSources d
  let dst := s.dmaTargets d
  if !dmaFieldsOk d then stOutOfRange
  else if (src ++ dst).any (·.isNone) then stOutOfRange
  else if !(src.all (allowed (mayRead host)) && dst.all (allowed (mayWrite host))) then stDenied
  else if dLock d && s.lockMax (4 + ch) < 2 ^ dBurst d then stOutOfRange
  else stOk

/-! ### Channel state (R64, R66-R68) -/

def State.chanState (s : State) (ch : Nat) : Nat := s.getN (k03ChannelState (48 + ch))
def State.modDma (s : State) (ch : Nat) (f : DmaChan → DmaChan) : State := { s with dma := s.dma.modify ch f }
def State.dmaChan (s : State) (ch : Nat) : DmaChan := s.dma.getD ch {}

/-- The channel stops in a state; its queue is no longer bound (R68). -/
def State.dmaStop (s : State) (ch st : Nat) : State :=
  (s.put (k03ChannelState (48 + ch)) st).modDma ch fun d => { d with queue := none, aborting := false }

/-- The channel stops with an error and its cause (R63, R68). -/
def State.dmaError (s : State) (ch cause : Nat) : State := (s.put (k03Cause (48 + ch)) cause).dmaStop ch 4

/-- A poisoned word stops the channel: its address stands in 03h/ch/5, and notice 0214h bears channel and cause (R66). -/
def State.dmaPoisoned (s : State) (ch addr : Nat) : State :=
  ((s.put (k03ErrorAddress (48 + ch)) addr).notice byDevice 0x0214 (ch * 256 + stIntegrity)).dmaError ch stIntegrity

/-- Feeding queues (R67). -/
def queueFeeds (q : Nat) : Bool := q ≠ 2 && q ≠ 6

/-- Does the fill of a queue stop a channel (R67)? -/
def State.queueStops (s : State) (q : Nat) : Bool :=
  let f := s.get (k03Fill (64 + q))
  if queueFeeds q then s.get (k03STOP (64 + q)) ≤ f else f ≤ s.get (k03STOP (64 + q))

/-- Has the fill reached the point at which a waiting channel resumes? -/
def State.queueResumes (s : State) (q : Nat) : Bool :=
  let f := s.get (k03Fill (64 + q))
  if queueFeeds q then f ≤ s.get (k03START (64 + q)) else s.get (k03START (64 + q)) ≤ f

/-- Is a queue bound to another channel that runs or waits (R68)? -/
def State.queueBound (s : State) (ch q : Nat) : Bool :=
  (List.range 16).any fun c => c ≠ ch && (s.dmaChan c).queue = some q && (s.chanState c = 1 || s.chanState c = 2)

/-- A descriptor is fetched, checked and starts (R63, R68). The queue that it names is that of PACE: one that stands only as an operand
(SSPACE or DSPACE = 1) is not bound and does not pace it (DESIGN CHOICE, log entry 17). -/
def State.dmaLoad (s : State) (ch addr : Nat) : State :=
  let t := s.put (k03CurrentDescriptor (48 + ch)) addr
  let base := s.regionBase rgDescriptors
  if addr % 4 ≠ 0 || addr < base || base + s.regionSize rgDescriptors ≤ addr then t.dmaError ch stOutOfRange
  else
    let ws := (List.range 4).map fun i => addr + i
    let d := ws.map s.word
    let st := s.dmaCheck ch d
    match ws.find? fun a => s.pannier.poisoned.contains a with
    | some a => (t.poisonedRead (t.requesterPort (4 + ch)) a).dmaPoisoned ch a
    | none =>
    if st ≠ stOk then t.dmaError ch st
    else if dPace d ≠ 15 && s.queueBound ch (dPace d) then t.dmaError ch stBusy
    else
      (t.put (k03ChannelState (48 + ch)) 1).modDma ch fun c =>
        { c with desc := d, index := 0, queue := if dPace d = 15 then none else some (dPace d) }

/-- Does a channel run or wait? -/
def State.dmaBusy (s : State) (ch : Nat) : Bool := s.chanState ch = 1 || s.chanState ch = 2

/-- DMA_START (R63, R66): a write of 1 to 03h/48+ch/1. -/
def checkDmaStart (ch : Nat) (s : State) : Nat := if s.dmaBusy ch then stBusy else stOk
def applyDmaStart (ch : Nat) (s : State) : State :=
  (s.modDma ch fun c => { c with aborting := false }).dmaLoad ch (s.getN (k03ListHead (48 + ch)))

def execDmaStart (sid ch : Nat) (s : State) : Host.Outcome State Fault Refusal :=
  .next (s.writeRow sid (k03Control (48 + ch)) 1 (checkDmaStart ch) (applyDmaStart ch))

/-- DMA_ABORT (R66): a write of 2 stops the channel after the current word, with LOCK = 1 after the current burst. -/
def applyDmaAbort (ch : Nat) (s : State) : State :=
  let c := s.dmaChan ch
  if !s.dmaBusy ch then s
  else if dLock c.desc && c.index % 2 ^ dBurst c.desc ≠ 0 then s.modDma ch fun c => { c with aborting := true }
  else s.dmaStop ch 5

def execDmaAbort (sid ch : Nat) (s : State) : Host.Outcome State Fault Refusal :=
  .next (s.writeRow sid (k03Control (48 + ch)) 2 (fun _ => stOk) (applyDmaAbort ch))

/-- The word at an offset from an operand's base, wrapped where the operand is a ring operand (R62). -/
def State.operandWord (s : State) (base : Nat) (off : Int) : Nat :=
  match s.dmaAddr base off with
  | some a => s.loadWord a
  | none => 0

/-- The bit-plane word `w` of a descriptor (R65). -/
def State.planeWord (s : State) (d : List Nat) (w : Nat) : Nat :=
  let plane := field (dParam d) 7 6
  let ph := field (dParam d) 5 2
  (List.range 48).foldl (fun acc k =>
    let j := 48 * w + k
    let b := if j < dCount d then
        let px := ph + j
        bit (s.operandWord (opAddr (dSrc d)) (px / 12 : Nat)) (44 - 4 * (px % 12) + plane)
      else false
    acc * 2 + (if b then 1 else 0)) 0

/-- The source addresses that word `i` of a descriptor reads. -/
def State.wordSources (s : State) (d : List Nat) (i : Nat) : List Nat :=
  match dOp d with
  | 1 => []
  | 4 =>
    let ph := field (dParam d) 5 2
    let a := (ph + 48 * i) / 12
    let b := (ph + min (48 * i + 47) (dCount d - 1)) / 12
    (List.range (b + 1 - a)).filterMap fun j => s.dmaAddr (opAddr (dSrc d)) (a + j : Nat)
  | _ => if opSpace (dSrc d) = 1 then [] else (s.dmaAddr (opAddr (dSrc d)) (srcOffset d i)).toList

/-- The value word `i` writes; `q` is the word a queue source delivers. -/
def State.wordValue (s : State) (d : List Nat) (i q : Nat) : Nat :=
  match dOp d with
  | 1 => dSrc d
  | 4 => s.planeWord d i
  | _ => match s.wordSources d i with
    | a :: _ => s.loadWord a
    | [] => q

/-- Is a requester assigned to a port by the running plan (R34, R37)? Without one every port serves it (log entry 18). -/
def State.assigned (s : State) (p req : Nat) : Bool :=
  match s.requesterEntry req with
  | some w => reqPort w = p
  | none => s.plan.running.isEmpty

/-- Does a channel hold the port after the word of this grant: its bursts are locked and the burst goes on (R64)? One that its queue
has stopped lets the port go after the word of the grant decided before (R67). -/
def State.dmaLocks (s : State) (ch : Nat) : Bool :=
  let c := s.dmaChan ch
  s.chanState ch = 1 && dLock c.desc && (c.index + 1) % 2 ^ dBurst c.desc ≠ 0 && c.index + 1 < dWords c.desc

/-- Does a requester request: a DMA channel that waits for its queue does not (R67)? -/
def State.mayRequest (s : State) (port q : Nat) : Bool :=
  s.assigned port q && !(4 ≤ q && q ≤ 19 && s.chanState (q - 4) = 2)

/-- Does the granted requester assert LOCK: a DMA channel as its descriptor says (R64), any other as it shows (R46)? -/
def State.locks (s : State) (q : Nat) (r : RoundIn) : Bool :=
  if 4 ≤ q && q ≤ 19 then s.dmaLocks (q - 4) else r.locks.contains q

/-- One grant of a channel moves one word (R64); one that was decided before its queue stopped it still moves its word (R67). A
poisoned source word stops it before the write (R66). -/
def State.dmaMove (s : State) (port ch : Nat) (r : RoundIn) : State :=
  let c := s.dmaChan ch
  let i := c.index
  if !s.dmaBusy ch || dWords c.desc ≤ i then s
  else
    let bad := (s.wordSources c.desc i).filter fun a =>
      s.pannier.poisoned.contains a || r.error = some .double || r.error = some .both
    match bad with
    | a :: _ => (s.poisonedRead port a).dmaPoisoned ch a
    | [] =>
      let t := match r.error, s.wordSources c.desc i with
        | some .single, a :: _ => s.corrected port a
        | _, _ => s
      let v := t.wordValue c.desc i (r.write.getD 0)
      let t := if opSpace (dDst c.desc) = 1 then t.send (.dataWord 0 (opAddr (dDst c.desc) % 8) v)
        else match t.dmaAddr (opAddr (dDst c.desc)) (dstOffset c.desc i) with
          | some a => t.storeWord a v
          | none => t
      let t := t.modDma ch fun c => { c with index := i + 1 }
      if c.aborting && (i + 1) % 2 ^ dBurst c.desc = 0 then t.dmaStop ch 5 else t

/-- DESCRIPTOR_COMPLETE (R61, R64): after its last word a descriptor with EVT counts, one with LAST ends the list, any
other is followed by its NEXT. -/
def descriptorComplete (ch : Nat) (s : State) : State :=
  let c := s.dmaChan ch
  if !s.dmaBusy ch || c.index < dWords c.desc then s
  else
    let t := if dEvt c.desc then s.count (k03Completions (48 + ch)) else s
    if c.aborting then t.dmaStop ch 5
    else if dLast c.desc then t.dmaStop ch 3
    else (t.modDma ch fun c => { c with queue := none }).dmaLoad ch (dNext c.desc)

def execDescriptorComplete (ch : Nat) (s : State) : Host.Outcome State Fault Refusal := .next (descriptorComplete ch s)

/-- QUEUE_RESUME (R67): a waiting channel resumes when the fill reaches its threshold or a drained peripheral marks the end
of its transfer. -/
def queueResume (ch fill : Nat) (ended : Bool) (s : State) : State :=
  match (s.dmaChan ch).queue with
  | some q =>
    let t := s.put (k03Fill (64 + q)) fill
    if s.chanState ch = 2 && (t.queueResumes q || (ended && !queueFeeds q)) then t.put (k03ChannelState (48 + ch)) 1 else t
  | none => s

def execQueueResume (ch fill : Nat) (ended : Bool) (s : State) : Host.Outcome State Fault Refusal :=
  .next (queueResume ch fill ended s)

/-- Ranges of the thresholds (R67): feeding queues START + 8 ≤ STOP ≤ depth - 1, draining ones STOP + 8 ≤ START ≤ depth;
queue 7 permits STOP up to 15. -/
def queueDepth (q : Nat) : Nat := [256, 128, 128, 64, 64, 256, 256, 16].getD q 0
def thresholdsOk (q : Nat) (start stop : Int) : Bool :=
  if queueFeeds q then start + 8 ≤ stop && stop ≤ queueDepth q - 1 else stop + 8 ≤ start && start ≤ queueDepth q

/-- The chapter rule on writes of class 03h: queue thresholds (R67), post-trigger time (R57), DMA control (R66). -/
def check03 (s : State) (i m : Nat) (v : Int) : Nat :=
  if 64 ≤ i && i ≤ 71 && m = 0 then
    (if thresholdsOk (i - 64) v (s.get (k03STOP i)) then stOk else stOutOfRange)
  else if 64 ≤ i && i ≤ 71 && m = 1 then
    (if thresholdsOk (i - 64) (s.get (k03START i)) v then stOk else stOutOfRange)
  else if i = 0 && m = 14 then (if v ≤ s.get k03CaptureLength then stOk else stOutOfRange)
  else if 60 ≤ i && i ≤ 63 && m = 1 && v = 1 then checkDmaStart (i - 48) s
  else stOk

/-- The effect of a write of class 03h. -/
def apply03 (s : State) (k i m : Nat) (v : Int) : State :=
  if i = 0 && m = 12 then applyManualTrigger v s
  else if i = 0 && m = 13 then applyRelease v s
  else if 48 ≤ i && i ≤ 63 && m = 1 then (if v = 1 then applyDmaStart (i - 48) s else applyDmaAbort (i - 48) s)
  else s.put k v

/-! ### The windows of class 03h (R69) -/

def windowEnd : Nat := 16383
def hostAreaEnd : Nat := 32767

/-- A word that a control core reads for a window (R53): an uncorrectable one is recorded, and what it shows is free (log
entry 15). Of the control cores, requesters 0-3, the first one's port is taken. -/
def State.coreRead (s : State) (a : Nat) : Nat × State :=
  if s.pannier.poisoned.contains a then (s.drawn % ccMod, s.drew.poisonedRead (s.requesterPort 0) a) else (s.word a, s)

/-- Writing or reading the descriptor word at the window offset, which then advances. -/
def State.descriptorWindow (s : State) (w : Option Nat) : Nat × Nat × State :=
  let o := s.getN k03DescriptorWindowOffset
  let a := s.regionBase rgDescriptors + o
  if windowEnd < o then (stOutOfRange, 0, s)
  else match w with
    | some x => (stOk, 0, (s.setWord a x).put k03DescriptorWindowOffset (o + 1))
    | none => let r := s.coreRead a; (stOk, r.1, r.2.put k03DescriptorWindowOffset (o + 1))

/-- Reading the host extraction area at its offset, which then advances. Past 32,767 the rule names no answer; it is the one
that the descriptor window gives beyond its end (DESIGN CHOICE, log entry 15). -/
def State.hostWindow (s : State) : Nat × Nat × State :=
  let o := s.getN k03HostAreaOffset
  if hostAreaEnd < o then (stOutOfRange, 0, s)
  else let r := s.coreRead (s.regionBase rgHostArea + o); (stOk, r.1, r.2.put k03HostAreaOffset (o + 1))

/-- A data window is read by a session: the word, or the status that refuses it. -/
def State.windowRow (s : State) (sid k : Nat) (r : Nat × Nat × State) : State :=
  if r.1 = stOk then r.2.2.send (.dataWord sid k r.2.1) else s.answer sid k r.1

/-- The write of a word through the descriptor window (R69). -/
def checkDescriptorData (s : State) : Nat := (s.descriptorWindow none).1
def applyDescriptorData (v : Int) (s : State) : State := (s.descriptorWindow (some (pattern 48 v))).2.2

/-- DESCRIPTOR_WINDOW_DATA (R69). -/
def descriptorWindowData (sid : Nat) (w : Option Nat) (s : State) : State :=
  match w with
  | some x => s.writeRow sid k03DescriptorWindowData x checkDescriptorData (applyDescriptorData x)
  | none =>
    let st := s.checkRead sid k03DescriptorWindowData
    if st ≠ stOk then s.answer sid k03DescriptorWindowData st
    else s.windowRow sid k03DescriptorWindowData (s.descriptorWindow none)

def execDescriptorWindowData (sid : Nat) (w : Option Nat) (s : State) : Host.Outcome State Fault Refusal :=
  .next (descriptorWindowData sid w s)

/-- HOST_AREA_DATA (R69). -/
def hostAreaData (sid : Nat) (s : State) : State :=
  let st := s.checkRead sid k03HostAreaData
  if st ≠ stOk then s.answer sid k03HostAreaData st else s.windowRow sid k03HostAreaData s.hostWindow

def execHostAreaData (sid : Nat) (s : State) : Host.Outcome State Fault Refusal := .next (hostAreaData sid s)

/-! ### The derailleur (R45-R47) -/

def State.port (s : State) (p : Nat) : Port := s.ports.getD (p - 1) {}
def State.modPort (s : State) (p : Nat) (f : Port → Port) : State := { s with ports := s.ports.modify (p - 1) f }


/-- Requester numbers in cyclic order starting after `last` (R45). -/
def cyclicFrom (last : Nat) : List Nat := (List.range 40).map fun i => (last + 1 + i) % 40

/-- The winner of a round: the highest age, a tie going to the first in cyclic order (R45). -/
def roundWinner (p : Port) (reqs : List Nat) : Option Nat :=
  let top := reqs.foldl (fun m r => max m (p.ages.getD r 0)) 0
  (cyclicFrom p.last).find? fun r => reqs.contains r && p.ages.getD r 0 = top

/-- A round (R45): the winner's age becomes 0, losers that requested age by 1 up to 15, the others keep their age. -/
def holdRound (p : Port) (reqs : List Nat) : Port :=
  match roundWinner p reqs with
  | some w =>
    { p with grant := some w, last := w,
             ages := p.ages.zipIdx.map fun x =>
               if x.2 = w then 0 else if reqs.contains x.2 then min 15 (x.1 + 1) else x.1 }
  | none => { p with grant := none }

/-- The access of a granted requester: a DMA channel moves a word, any other reads or writes (R51, R53). -/
def State.portAccess (s : State) (port q : Nat) (r : RoundIn) : State :=
  if 4 ≤ q && q ≤ 19 then s.dmaMove port (q - 4) r
  else
    match r.write with
    | some w => s.setWord r.addr w
    | none =>
      match r.error with
      | some .single => s.corrected port r.addr
      | some _ => s.poisonedRead port r.addr
      | none => if s.pannier.poisoned.contains r.addr then s.poisonedRead port r.addr else s

/-- The queue fills sampled in the cycle; a paced channel whose queue has reached STOP waits (R67). -/
def State.sampleFills (s : State) (fills : List (Nat × Nat)) : State :=
  let t := s.each fills fun t f => t.put (k03Fill (64 + f.1)) f.2
  t.each (List.range 16) fun t ch =>
    match (t.dmaChan ch).queue with
    | some q => if t.chanState ch = 1 && t.queueStops q then t.put (k03ChannelState (48 + ch)) 2 else t
    | none => t

/-- DERAILLEUR_ROUND (R45, R46): one CORE cycle of a port. The granted requester moves its word, or its grant is empty
when it has withdrawn; while it asserts LOCK the port stays with it and no round is held, else a round decides the next
cycle. -/
def derailleurRound (port : Nat) (r : RoundIn) (s : State) : State :=
  if port = 0 || 3 < port then s
  else
    let p := s.port port
    let u := s.sampleFills r.fills
    let t := match p.grant with
      | some q =>
        let t := u.modPort port fun p => { p with used := p.used + 1 }
        if r.withdrawn then t.count (k02EmptyGrants (16 + port)) else t.portAccess port q r
      | none => u
    match p.grant with
    | some q =>
      if u.locks q r && !r.withdrawn then
        t.modPort port fun p => { p with lock := some q, lockCycles := p.lockCycles + 1 }
      else
        t.modPort port fun p =>
          holdRound { p with lock := none, lockCycles := 0 } (r.requests.filter (t.mayRequest port))
    | none =>
      t.modPort port fun p => holdRound { p with lock := none, lockCycles := 0 } (r.requests.filter (t.mayRequest port))

def execDerailleurRound (port : Nat) (r : RoundIn) (s : State) : Host.Outcome State Fault Refusal :=
  .next (derailleurRound port r s)

/-- CORE cycles of a frame (R11). -/
def frameCycles : Nat := 25000

/-- The watchdog limit in cycles (R47). -/
def State.wdogLimit (s : State) : Nat := s.getN k02C3Watchdog * frameCycles

/-- Requesters of the core domain (R13, R34): all but the pedal sequencers, the allocator and the BIST controller. -/
def coreRequester (q : Nat) : Bool := q ≠ 24 && q ≠ 25 && q ≠ 34

/-- A core-domain reset releases the locks of core-domain requesters and leaves every DMA channel idle (R46, R66). -/
def State.coreResetPorts (s : State) : State :=
  let t := s.each [1, 2, 3] fun t p => t.modPort p fun x =>
    match x.lock with
    | some q => if coreRequester q then { x with lock := none, lockCycles := 0, grant := none } else x
    | none => x
  t.each (List.range 16) fun t ch => (t.dmaStop ch 0).modDma ch fun _ => {}

end Sys2Proof.Machine
end

