-- ==== Sys2Proof/Machine/KeyVault.lean ====
section
/-! DEFINITION. The derivation tree (R387), the key slots and their orphaning (R388-R390, R392), random numbers (R395). Keys
are numbers; what the primitives compute is opaque (log entry 7). -/

namespace Sys2Proof.Machine

/-- Bytes of the labels of R387. -/
def lblTrtd : List Nat := [0x54, 0x52, 0x54, 0x44]
def lblChl : List Nat := [0x43, 0x48, 0x4C]
def lblTok : List Nat := [0x54, 0x4F, 0x4B]
def lblJrn : List Nat := [0x4A, 0x52, 0x4E]
def lblCal : List Nat := [0x43, 0x41, 0x4C]

def State.generation (s : State) (i : Nat) : Nat := s.getN (k28DomainGeneration (8 + i))

/-- Domain key `i` (R387); none without a root. -/
def State.domainKey (s : State) (i : Nat) : Option Nat :=
  s.vault.root.map fun r =>
    Config.hmacSha256 r (lblTrtd ++ [i] ++ bytesBE 2 (s.getN k28RootGeneration) ++ bytesBE 2 (s.generation i))

/-- The calibration tag key and the journal key. -/
def State.calKey (s : State) : Option Nat := (s.domainKey 0).map fun d => Config.hmacSha256 d lblCal
def State.journalKey (s : State) : Option Nat := (s.domainKey 5).map fun d => Config.hmacSha256 d lblJrn

/-! ### Wrapped keys (R388, R389) -/

/-- The secret from which the key of a wrapping comes: the root, or the boot wrap key. -/
def State.wrapSecret (s : State) (domain : Nat) : Option Nat := if domain = bootDomain then s.vault.bootKey else s.vault.root

/-- The wrapping key of a domain. -/
def State.wrapKey (s : State) (domain : Nat) : Option Nat := if domain = bootDomain then s.vault.bootKey else s.domainKey domain

/-- Gi of a domain; the boot wrap key has none and takes 0. -/
def State.wrapGen (s : State) (domain : Nat) : Nat := if domain = bootDomain then 0 else s.generation domain

/-- A key of `len` bytes is wrapped, with a nonce from the generator (R388). -/
def State.wrap (s : State) (domain kind len key : Nat) : Blob :=
  { domain := domain, kind := kind, gen := s.wrapGen domain, groot := s.getN k28RootGeneration, nonce := s.drawn % 2 ^ 96, len := len,
    key := key, under := s.wrapSecret domain }

/-- Unwrapping (R389): refused where GEN or GROOT differs from the counter in force, and where the tag fails. A tag verifies under the
secret that made it and under no other (log entry 7). -/
def State.unwrap (s : State) (b : Blob) : Option Nat :=
  if b.gen = s.wrapGen b.domain && b.groot = s.getN k28RootGeneration && b.under.isSome && b.under = s.wrapSecret b.domain then some b.key
  else none

/-- Bytes 0-5 of a blob, which the tag covers as additional data. -/
def Blob.head (b : Blob) : List Nat := [b.domain, b.kind] ++ bytesBE 2 b.gen ++ bytesBE 2 b.groot

/-- A blob as it stands in Pannier and in the key store (R388): its head, its nonce, the encrypted key, the tag. -/
def State.blobBytes (s : State) (b : Blob) : List Nat :=
  let k := (s.wrapKey b.domain).getD 0
  b.head ++ bytesBE 12 b.nonce ++ bytesBE b.len (Config.gcmSeal k b.nonce b.head b.key) ++ bytesBE 16 (Config.gcmTag k b.nonce b.head b.key)

/-- Its words, six bytes each, the last filled with 00h. -/
def State.blobWords (s : State) (b : Blob) : List Nat :=
  let l := s.blobBytes b
  (List.range ((l.length + 5) / 6)).map fun i => numBE (((l.drop (6 * i)).take 6 ++ List.replicate 6 0).take 6)

/-- Domain of a slot, by instance (R392). -/
def slotDomain (k : Nat) : Nat := if k ≤ 21 then 2 else if k = 24 then 1 else if k = 25 then 4 else 3

/-- The key slots. -/
def keySlots : List Nat := [16, 17, 18, 19, 20, 21, 24, 25, 26, 27]

/-- The blob of a slot by instance. -/
def State.slotBlob (s : State) (k : Nat) : Option Blob := s.vault.slots.getD (k - 16) none

/-- The key of a slot by instance; none while it is not installed or its blob cannot be unwrapped (R389). -/
def State.slotKey (s : State) (k : Nat) : Option Nat :=
  if s.getN (k28SlotState k) = 1 then (s.slotBlob k).bind s.unwrap else none

/-- An unwrap that R389 refuses: notice 0D05h with domain and kind, unless the slot is empty and there is nothing to unwrap. -/
def State.unwrapFailed (s : State) (k : Nat) : State :=
  if s.getN (k28SlotState k) = 0 then s else s.notice byDevice 0x0D05 (slotDomain k * 256 + k)

/-- The working key of a purse and of Chainline (R387). -/
def State.purseKey (s : State) (purse : Nat) : Option Nat :=
  (s.slotKey 25).map fun t =>
    Config.hmacSha256 t (lblTok ++ [purse] ++ bytesBE 32 (s.getN (k13CustomerIdentifier purse)))

/-- The node address (20h/0/0): the one in OTP until the setting is written. -/
def State.nodeAddr (s : State) : Nat :=
  if s.getN k20NodeAddress = 0 then Config.nodeAddress % 1099511627776 else s.getN k20NodeAddress % 1099511627776

def State.chainlineKey (s : State) : Option Nat :=
  (s.slotKey 24).map fun u => Config.hmacSha256 u (lblChl ++ bytesBE 5 s.nodeAddr)

/-- Every installed key of a domain is orphaned (R390). -/
def State.orphan (s : State) (domain : Nat) : State :=
  s.each (keySlots.filter fun k => slotDomain k = domain) fun s k =>
    if s.getN (k28SlotState k) = 1 then s.put (k28SlotState k) 2 else s

/-- Do random numbers come (R395)? -/
def State.rngOk (s : State) : Bool := s.getN k28RandomGeneratorState = 0

/-- The crypto engine refuses its work: it has failed its test (R476) or the generator has failed (R395). -/
def State.cryptoOk (s : State) : Bool := !s.bist.cryptoFailed

end Sys2Proof.Machine
end

