-- ==== Sys2Proof/Machine/Images.lean ====
section
/-! DEFINITION. Region images (R435-R438, R444) and the authorisation list (R367, R368). Regions are FW, CFG, TARIFF, AUTH,
PEDAL and ASSETS in the order of R94. -/

namespace Sys2Proof.Machine

/-! ### Slots of the flash -/

def State.region (s : State) (r : Nat) : Region := s.kod.regions.getD r {}
def State.modRegion (s : State) (r : Nat) (f : Region → Region) : State :=
  { s with kod := { s.kod with regions := s.kod.regions.modify r f } }

/-- The words of a slot: 0 = A, 1 = B. -/
def Region.words (x : Region) (slot : Nat) : List Nat :=
  let l := if slot = 0 then x.slotA else x.slotB
  (List.range (if slot = 0 then x.sizeA else x.sizeB)).map (storeRead 0 l)

/-- Words of the container before the payload (R435). -/
def headWords : Nat := 37

/-- Payload of the active image of a region; empty when the region is. -/
def State.payload (s : State) (r : Nat) : List Nat :=
  let a := s.getN (k31ActiveSlot (16 + r))
  if a = 2 || s.getN (k31ActiveImage (16 + r)) = 0 then [] else ((s.region r).words a).drop headWords

/-- The slot that an update of a region writes. -/
def State.otherSlot (s : State) (r : Nat) : Nat := if s.getN (k31ActiveSlot (16 + r)) = 0 then 1 else 0

def imageId (w : List Nat) : Nat := field (w.getD 1 0) 47 16
def imageSvn (w : List Nat) : Nat := field (w.getD 1 0) 15 8

/-- Largest declared size of a region (R438). -/
def State.regionLimit (s : State) (r : Nat) : Nat :=
  match r with
  | 0 => 699050 | 1 => 65536 | 2 => 10922 | 3 => 43690 | 4 => 10922
  | _ => 349525 * (s.getN k30FlashSize / 8) / 32

/-! ### The authorisation list (R367, R368) -/

def authCount (p : List Nat) : Nat := field (p.getD 1 0) 15 3

/-- Identity of entry `e` as a TXT32 value: 30 bytes and two of 00h. -/
def authIdent (p : List Nat) (e : Nat) : Nat := numBE (((p.drop (2 + 7 * e)).take 5).flatMap wordBytes) * 65536

def authValid (p : List Nat) (e : Nat) : Nat := p.getD (7 + 7 * e) 0
def authPurse (p : List Nat) (e : Nat) : Nat := field (p.getD (8 + 7 * e) 0) 47 32
def authBlocked (p : List Nat) (e : Nat) : Bool := bit (p.getD (8 + 7 * e) 0) 24

/-- The entry with an identity. -/
def authEntry (p : List Nat) (ident : Int) : Option Nat :=
  (List.range (authCount p)).find? fun e => (authIdent p e : Int) = ident

/-- Does an identity begin "A:", "B:" or "E:", as text of R101? -/
def identOk (v : Nat) : Bool :=
  let c := v / 2 ^ 240
  txtOk v && (c = 0x413A || c = 0x423A || c = 0x453A)

/-- The checks of R368: the word index of the first failure, or none. -/
def authCheck (p : List Nat) : Option Nat :=
  let n := authCount p
  let last := p.length - 1
  let es := List.range n
  if field (p.getD 0 0) 47 24 ≠ 0x415554 || field (p.getD 0 0) 23 16 ≠ 1 then some 0
  else if p.length ≠ 3 + 7 * n then some 1
  else if p.getD last 0 ≠ crc32 ((p.take last).flatMap wordBytes) then some last
  else if field (p.getD 0 0) 15 0 ≠ 0 then some 0
  else if field (p.getD 1 0) 47 16 = 0 || 4096 < n || field (p.getD 1 0) 2 0 ≠ 0 then some 1
  else match es.find? fun e =>
      let w := p.getD (8 + 7 * e) 0
      !(authPurse p e < 256 || authPurse p e = 65535) || 1 < field w 31 24 || field w 23 0 ≠ 0 with
  | some e => some (8 + 7 * e)
  | none => match es.find? fun e => !identOk (authIdent p e) with
  | some e => some (2 + 7 * e)
  | none => (es.find? fun e => (List.range e).any fun j => authIdent p j = authIdent p e).map (2 + 7 * ·)

/-- Is a listed identity usable now (R361): not blocked, without a limit or before it? -/
def State.authUsable (s : State) (e : Nat) : Bool :=
  let p := s.payload 3
  !authBlocked p e && (authValid p e = 0 || (s.timeValid && s.wall < authValid p e))

end Sys2Proof.Machine
end

