-- ==== Sys2Proof/Machine/Sessions.lean ====
section
/-! DEFINITION. Charging sessions (R187-R190, R199, R235), purses and credit tokens (R191-R195, R200). -/

namespace Sys2Proof.Machine

/-! ### Slots -/

def State.slot (s : State) (j : Nat) : Session := s.sessions.getD j {}
def State.modSlot (s : State) (j : Nat) (f : Session → Session) : State := { s with sessions := s.sessions.modify j f }

def noPurse : Nat := 65535

/-- Open sessions of a purse. -/
def State.openOn (s : State) (purse : Nat) : List Nat :=
  (List.range 48).filter fun j => s.getN (k12State j) = 1 && s.getN (k12Purse0 j) = purse

/-- Running costs of the open sessions on a purse, but for one. -/
def State.runningCosts (s : State) (purse : Nat) (but : Option Nat) : Int :=
  (((s.openOn purse).filter fun j => some j ≠ but).map fun j => s.get (k12Cost j)).sum

/-- Available credit on a purse for the session in slot `but` (R190). -/
def State.credit (s : State) (purse : Nat) (but : Option Nat) : Int :=
  s.get (k13Balance purse) - s.runningCosts purse but

/-- The low-credit notice of a purse, once each time it falls below its threshold (R190). -/
def State.lowCredit (s : State) (purse : Nat) : State :=
  if purse = noPurse then s
  else
    let low := decide (s.credit purse none < s.get (k13LowCreditThreshold purse))
    let was := s.lowPurses.contains purse
    if low && !was then ({ s with lowPurses := purse :: s.lowPurses }).notice byDevice 0x0515 purse
    else if !low && was then { s with lowPurses := s.lowPurses.filter (· ≠ purse) }
    else s

/-- A purse record waits for its programming (R194, R195). -/
def State.savePurse (s : State) (purse sid : Nat) : State := if purse = noPurse then s else s.flashOp (.purse purse sid)

/-- The slot that a new session takes (R187): the first free or collected one, else the closed one with the oldest number. -/
def State.freeSlot (s : State) : Option Nat :=
  match (List.range 48).find? fun j => s.getN (k12State j) = 0 || s.getN (k12State j) = 3 with
  | some j => some j
  | none =>
    let age := fun (j : Nat) => (s.sessionSeq + 4294967296 - s.getN (k12SessionNumber j)) % 4294967296
    ((List.range 48).filter fun j => s.getN (k12State j) = 2).foldl (fun b j =>
      match b with
      | some x => if age x < age j then some j else b
      | none => some j) none

/-- Registers that a session follows: +A, -A and the rate registers (R189). -/
def sessionRegs (sp : Nat) : List Nat := (24 * sp) :: (24 * sp + 1) :: (List.range 16).map fun j => 24 * sp + 8 + j

/-- Energy between a start reading and now (R109). -/
def State.since109 (s : State) (inst : Nat) (start : Nat × Nat) : Nat :=
  let m := 256 * ccMod
  ((s.getN (k0BWrapCount inst) * ccMod + s.getN (k0BValue inst)) + m - (start.2 * ccMod + start.1) % m) % m

/-! ### Cost (R189) -/

def minuteTicks : Nat := 480000

/-- A product in money units: mWh times price units, rounded half up. -/
def money (e price : Nat) : Int := ((2 * (e * price) + 10000) / 20000 : Nat)

/-- Energy, minutes and cost of a slot as they stand at tick `at_`. -/
def State.priceSlot (s : State) (j at_ : Nat) : State :=
  let x := s.slot j
  let sp := s.getN (k12Spoke j)
  let e := ((sessionRegs sp).zip x.startRegs).map fun p => s.since109 p.1 p.2
  let im := fun (r : Nat) => e.getD (2 + 2 * r) 0
  let ex := fun (r : Nat) => e.getD (3 + 2 * r) 0
  let ticks := (at_ + ccMod - x.startCc) % ccMod
  let mins := (ticks + minuteTicks - 1) / minuteTicks
  let cost := (x.fee : Int) + (x.tprice * mins : Nat) +
    ((List.range 8).map fun r => money (im r) (x.prices.getD r (0, 0)).1 - money (ex r) (x.prices.getD r (0, 0)).2).sum
  (s.puts [(k12ImportExport j 0, e.getD 0 0), (k12ImportExport j 1, e.getD 1 0), (k12Minutes j, mins), (k12Cost j, cost)]).puts
    ((List.range 8).flatMap fun r => [(k12ByRate j r, (im r : Int)), (k12ByRate j (8 + r), (ex r : Int))])

/-! ### Opening (R187, R190, R235) -/

/-- A session opens on a spoke with an identity and a purse. -/
def State.openSession (s : State) (sp : Nat) (ident : Int) (purse : Nat) : State :=
  match s.freeSlot with
  | none => s
  | some j =>
    let t := if s.getN (k12State j) = 2 then s.notice byDevice 0x0521 (s.getN (k12SessionNumber j)) else s
    let num := (s.sessionSeq + 1) % 4294967296
    let p := t.tariff
    let t := { t with sessionSeq := num }
    let t := t.each (List.range 29) fun t m => t.put (key 0x12 j m) 0
    let t := t.puts [(k12State j, 1), (k12SessionNumber j, num), (k12Spoke j, sp), (k12Purse0 j, purse), (k12Identity0 j, ident),
      (k12StartEnd j 0, t.stampNext), (k12Tariff j, t.get k10ActiveTariff)]
    let t := t.modSlot j fun _ =>
      { startCc := t.nextTick, startRegs := (sessionRegs sp).map fun i => (t.getN (k0BValue i), t.getN (k0BWrapCount i)),
        prices := (List.range 8).map fun r => (tImport p r, tExport p r), fee := tFee p, tprice := tPrice p,
        costAt := (t.nextTick + secTicks 1) % ccMod }
    let t := t.priceSlot j t.nextTick
    (((t.raise sp fAuth).journal 3).lowCredit purse)

/-- The status of an authorisation (R187, R190, R459); `others` of a spoke with an open session are offers. -/
def State.authStatus (s : State) (sp purse : Nat) : Nat :=
  if s.spokeCount ≤ sp then stOutOfRange
  else if s.workstand || (s.openSlot sp).isSome then stNotNow
  else if purse ≠ noPurse && s.credit purse none ≤ 0 then stNotNow
  else stOk

/-- Does a refused authorisation become the spoke's offer (R235)? -/
def State.becomesOffer (s : State) (sp : Nat) : Bool := sp < s.spokeCount && !s.workstand && (s.openSlot sp).isSome

/-- An authorisation (R187): 1 the session opens, 2 it becomes an offer, 9 it is refused (R361). -/
def State.authorise (s : State) (sp : Nat) (ident : Int) (purse : Nat) : State × Nat :=
  if s.authStatus sp purse = stOk then (s.openSession sp ident purse, 1)
  else if s.becomesOffer sp then (s.offer sp ident purse, 2)
  else (s, 9)

def checkAuthorise (v : Int) (s : State) : Nat := s.authStatus v.toNat (s.getN k12Purse64)

/-- The effect of an accepted write of 12h/64/0. -/
def applyAuthorise (v : Int) (s : State) : State := s.openSession v.toNat (s.get k12Identity64) (s.getN k12Purse64)

/-- A write of 12h/64/0 that its chapter refuses may leave an offer (R235). -/
def State.refusedAuthorise (s : State) (v : Int) : State :=
  if s.becomesOffer v.toNat then s.offer v.toNat (s.get k12Identity64) (s.getN k12Purse64) else s

/-- AUTHORISE_SPOKE (R187, R199, R235). -/
def authoriseSpoke (sid : Nat) (v : Int) (s : State) : State :=
  let t := s.writeRow sid k12AuthoriseSpoke v (checkAuthorise v) (applyAuthorise v)
  if s.rowPasses sid k12AuthoriseSpoke v && checkAuthorise v s ≠ stOk then t.refusedAuthorise v else t

def execAuthoriseSpoke (sid : Nat) (v : Int) (s : State) : Host.Outcome State Fault Refusal := .next (authoriseSpoke sid v s)

/-! ### Ends (R188, R190) -/

/-- The session of a slot ends at tick `at_`; its import energy is a sample of the spoke's session histogram (R403). -/
def State.endSlot (s : State) (j reason at_ : Nat) (stamp : Nat) : State :=
  let sp := s.getN (k12Spoke j)
  let purse := s.getN (k12Purse0 j)
  let t := s.priceSlot j at_
  let t := t.puts [(k12State j, 2), (k12StartEnd j 1, stamp), (k12EndReason j, reason)]
  let t := if purse = noPurse then t else t.put (k13Balance purse) (t.get (k13Balance purse) - t.get (k12Cost j))
  let t := t.modPelo sp fun p => { p with stopped := false }
  let t := t.histogram (128 + sp) ((t.get (k12ImportExport j 0) : Rat) / 1000) 0 2500
  (((t.raise sp fSess).journal 4).lowCredit purse).savePurse purse 0

/-- The open session of a spoke ends with a reason, at a tick and its time stamp. -/
def State.endSession (s : State) (sp reason at_ stamp : Nat) : State :=
  match s.openSlot sp with
  | some j => s.endSlot j reason at_ stamp
  | none => s

/-- The ends that a frame finds on a spoke: the pilot has reached state A, the spoke has become locked out. -/
def State.sessionEnd (s : State) (sp : Nat) : State :=
  let a := decide (s.pilotState sp = 0)
  let out := decide (s.safety sp = 2)
  let g := (s.spoke sp).gate
  let t := if out && !g.wasOut then s.endSession sp 1 s.cc s.stamp
    else if a && !g.wasA then s.endSession sp 0 s.cc s.stamp else s
  t.modGate sp fun g => { g with wasA := a, wasOut := out }

def State.sessionEnds (s : State) : State := s.each s.spokeList State.sessionEnd

/-- A replace in boundary step 5 (R235). -/
def State.replaceSessions (s : State) : State :=
  s.each s.spokeList fun s sp =>
    if !(s.pedal sp).replacing then s
    else
      let t := s.modPedal sp fun p => { p with replacing := false, offer := none }
      match (s.pedal sp).offer with
      | some o =>
        let t := t.endSession sp 2 s.nextTick s.stampNext
        if t.authStatus sp o.purse = stOk then t.openSession sp o.identity o.purse else t
      | none => t

/-- STOP (R188): a write of 1 asks the program of the spoke to end the transfer. -/
def applyStop (j : Nat) (v : Int) (s : State) : State :=
  if v = 1 && s.getN (k12State j) = 1 then s.raise (s.getN (k12Spoke j)) fStop else s

def execStop (sid slot : Nat) (v : Int) (s : State) : Host.Outcome State Fault Refusal :=
  .next (s.writeRow sid (k12Stop slot) v (fun _ => stOk) (applyStop slot v))

/-- COLLECT (R199): a closed slot is collected. -/
def applyCollect (j : Nat) (v : Int) (s : State) : State :=
  if v = 1 && s.getN (k12State j) = 2 then s.put (k12State j) 3 else s

def execCollect (sid slot : Nat) (v : Int) (s : State) : Host.Outcome State Fault Refusal :=
  .next (s.writeRow sid (k12Collect slot) v (fun _ => stOk) (applyCollect slot v))

/-- Credit of the session in a slot against its running cost (R190). -/
def State.checkCredit (s : State) (j : Nat) : State :=
  let purse := s.getN (k12Purse0 j)
  if purse = noPurse then s
  else
    let out := decide (s.credit purse (some j) ≤ s.get (k12Cost j))
    if out && !(s.slot j).exhausted then
      (((s.modSlot j fun x => { x with exhausted := true }).raise (s.getN (k12Spoke j)) fCredit).notice byDevice 0x0516 j)
    else s.modSlot j fun x => { x with exhausted := out }

/-- COST_RECOMPUTATION (R189, R190): the costs that are due, then the credit of every session on a purse. -/
def costRecomputation (s : State) : State :=
  let due := (List.range 48).filter fun j => s.getN (k12State j) = 1 && s.reached (s.slot j).costAt
  if due = [] then s
  else
    let t := s.each due fun s j =>
      (s.priceSlot j s.cc).modSlot j fun x => { x with costAt := (x.costAt + secTicks 1) % ccMod }
    let open_ := (List.range 48).filter fun j => t.getN (k12State j) = 1
    let t := t.each open_ State.checkCredit
    t.each open_ fun t j => t.lowCredit (t.getN (k12Purse0 j))

def execCostRecomputation (s : State) : Host.Outcome State Fault Refusal := .next (costRecomputation s)

/-! ### Tokens (R191-R195) -/

/-- The value of 20 decimal digits given as characters; none for anything else. -/
def tokenValue (l : List Nat) : Option Nat :=
  if l.length = 20 && l.all (fun c => 0x30 ≤ c && c ≤ 0x39) then
    let v := l.foldl (fun a c => a * 10 + (c - 0x30)) 0
    if v < 2 ^ 66 then some v else none
  else none

def tokClass (v : Nat) : Nat := field v 65 63
def tokPurse (v : Nat) : Nat := field v 62 55
def tokTid (v : Nat) : Nat := field v 54 39
def tokAmount (v : Nat) : Nat := field v 38 24
def tokMac (v : Nat) : Nat := field v 23 0

/-- The first 24 bits of the CMAC over bits 65-24 in 6 bytes (R191). -/
def tokenMac (k v : Nat) : Nat := Config.cmac k (bytesBE 6 (v / 16777216)) / 2 ^ 104

/-- Floor and window of a purse (R193): bit i marks TID F + i as used. -/
def State.purseWindow (s : State) (p : Nat) : Nat := s.getN (k13WindowHigh p) * 2 ^ 48 + s.getN (k13WindowLow p)

def floorMax : Nat := 65472

/-- Is a TID usable (R193)? -/
def State.tidUsable (s : State) (p tid : Nat) : Bool :=
  let f := s.getN (k13Floor p)
  if tid < f then false else if tid ≤ f + 63 then !bit (s.purseWindow p) (tid - f) else true

/-- The balance that a token leaves. -/
def State.tokenBalance (s : State) (v : Nat) : Int :=
  let p := tokPurse v
  let x : Int := (tokAmount v * s.getN (k13UnitValue p) : Nat)
  if tokClass v = 0 then s.get (k13Balance p) + x
  else if tokClass v = 1 then s.get (k13Balance p) - x else s.get (k13Balance p)

/-- Is the token entry locked (R195)? -/
def State.tokenLocked (s : State) : Bool := s.tokenLock ≠ 0

/-- The checks of R192 on the characters entered. -/
def State.tokenStatus (s : State) (l : List Nat) : Nat :=
  match tokenValue l with
  | none => stOutOfRange
  | some v =>
    let p := tokPurse v
    if s.tokenLocked then stNotNow
    else if s.getN (k13PurseState p) = 0 then stNoObject
    else match s.purseKey p with
    | none => stIntegrity
    | some k =>
      if tokenMac k v ≠ tokMac v then stIntegrity
      else if s.getN (k13PurseState p) = 2 then stNotNow
      else if 2 < tokClass v || (tokAmount v = 0 && tokClass v ≠ 2) then stOutOfRange
      else if !s.tidUsable p (tokTid v) then stExpired
      else if s.get (k13MaximumBalance p) < s.tokenBalance v then stOutOfRange
      else stOk

/-- The state of a purse from its identifier and its floor (R193, R200). -/
def State.showPurse (s : State) (p : Nat) : State :=
  s.put (k13PurseState p) (if s.get (k13CustomerIdentifier p) = 0 then 0 else if floorMax ≤ s.getN (k13Floor p) then 2 else 1)

def State.showPurses (s : State) : State := s.each (List.range 256) State.showPurse

/-- A TID is marked as used; one above the window raises the floor and voids what falls below it (R193). -/
def State.useTid (s : State) (p tid : Nat) : State :=
  let f := s.getN (k13Floor p)
  let put := fun (s : State) (f w : Nat) =>
    s.puts [(k13Floor p, f), (k13WindowHigh p, (w / 2 ^ 48 : Nat)), (k13WindowLow p, (w % 2 ^ 48 : Nat))]
  if tid ≤ f + 63 then put s f (setBit (s.purseWindow p) (tid - f) true)
  else
    let g := tid - 63
    let w := s.purseWindow p
    let shift := g - f
    let used := ((List.range 64).filter fun i => i < shift && bit w i).length
    let t := put s g (setBit (w / 2 ^ shift % 2 ^ 64) 63 true)
    let t := t.notice byDevice 0x0512 (shift - used)
    if floorMax ≤ g then t.put (k13PurseState p) 2 else t

/-- An accepted token takes effect (R194); a test token uses no TID and moves no balance. -/
def State.acceptToken (s : State) (inst v : Nat) : State :=
  let p := tokPurse v
  let t := if tokClass v = 2 then s
    else ((s.useTid p (tokTid v)).put (k13Balance p) (s.tokenBalance v))
  let t := (t.count (k13AcceptedTokens p)).savePurse p inst
  ((t.notice inst 0x0510 p).put k13LastResult stOk).lowCredit p

def lockTicks : Nat := 4800000

/-- A refusal (R192, R195): the fifth with INTEGRITY within 600 s locks token entry. The purse that the notice names is open
for an entry that has no value (log entry 21). -/
def State.refuseToken (s : State) (inst : Nat) (l : List Nat) (st : Nat) : State :=
  let p := match tokenValue l with
    | some v => tokPurse v
    | none => s.drawn % 256
  let t := ((s.put k13LastResult st).notice inst 0x0511 (p * 256 + st)).drew
  if st ≠ stIntegrity then t
  else
    let t := if (s.purseKey p).isNone then t.unwrapFailed 25 else t
    let fails := s.cc :: (s.tokenFails.filter fun x => s.since x < lockTicks)
    if 5 ≤ fails.length then
      ({ t with tokenFails := [], tokenLock := s.after lockTicks }).noticeOpen byDevice 0x0514
    else { t with tokenFails := fails }

/-- The purse's key is loaded for the tag of a token whose checks come so far (R192, R394). -/
def State.loadTokenKey (s : State) (v : Nat) : State :=
  if s.tokenLocked || s.getN (k13PurseState (tokPurse v)) = 0 then s else s.forTag (s.purseKey (tokPurse v))

/-- A token is entered; the status is the answer (R192). -/
def State.enterToken (s : State) (inst : Nat) (l : List Nat) : State :=
  let st := s.tokenStatus l
  match tokenValue l with
  | some v => if st = stOk then (s.loadTokenKey v).acceptToken inst v else (s.loadTokenKey v).refuseToken inst l st
  | none => s.refuseToken inst l st

/-- The answer to an accepted token waits until its purse record is programmed (R194). -/
def State.holdAnswer (s : State) (w : PendingWrite) : State :=
  { s with kod := { s.kod with held := s.kod.held ++ [w] } }

/-- A token by a write row: its status is the answer, at once when it is refused. -/
def State.tokenRow (s : State) (sid : Nat) (v : Int) : State :=
  let st := s.checkWrite sid ⟨k13TokenEntry, ownType, v⟩
  if st ≠ stOk then s.answer sid k13TokenEntry st
  else
    let l := txtChars v
    let t := s.enterToken sid l
    if s.tokenStatus l = stOk then t.holdAnswer (s.rowAsWrite sid ⟨k13TokenEntry, ownType, v⟩)
    else t.answer sid k13TokenEntry (s.tokenStatus l)

/-- TOKEN_LOCKOUT_END (R195). -/
def tokenLockoutEnd (s : State) : State :=
  if s.tokenLock ≠ 0 && s.reached s.tokenLock then { s with tokenLock := 0 } else s

def execTokenLockoutEnd (s : State) : Host.Outcome State Fault Refusal := .next (tokenLockoutEnd s)

/-! ### Settings of classes 12h and 13h -/

def check12 (s : State) (i m : Nat) (v : Int) : Nat :=
  if i = 64 && m = 0 then checkAuthorise v s
  else if i = 64 && m = 2 then (if v ≤ 255 || v = 65535 then stOk else stOutOfRange)
  else stOk

def apply12 (s : State) (k i m : Nat) (v : Int) : State :=
  if i = 64 then (if m = 0 then applyAuthorise v s else s.put k v)
  else if m = 29 then applyCollect i v s
  else if m = 30 then applyStop i v s
  else s.put k v

def check13 (s : State) (i m : Nat) (v : Int) : Nat :=
  if i = 256 then (if m = 0 then s.tokenStatus (txtChars v) else stOk)
  else if m = 0 && v ≠ s.get (k13CustomerIdentifier i) && s.openOn i ≠ [] then stNotNow
  else stOk

def apply13 (sid : Nat) (s : State) (k i m : Nat) (v : Int) : State :=
  if i = 256 then (if m = 0 then s.enterToken sid (txtChars v) else s.put k v)
  else if m = 0 then (s.put k v).showPurse i
  else if m = 4 then (s.put k v).lowCredit i
  else s.put k v

end Sys2Proof.Machine
end

