-- ==== Sys2Proof/Machine/Nfc.lean ====
section
/-! DEFINITION. Contactless readers (R355-R366): pings, polling, from a tap to a session, host exchanges, card emulation.
Anticollision with the cards themselves stands outside: a polling brings the cards it enumerated. -/

namespace Sys2Proof.Machine

/-! ### Aerials and front ends (R355-R357) -/

def State.aerial (s : State) (a : Nat) : Aerial := s.aerials.getD a {}
def State.modAerial (s : State) (a : Nat) (f : Aerial → Aerial) : State := { s with aerials := s.aerials.modify a f }
def State.frontEnd (s : State) (f : Nat) : FrontEnd := s.frontEnds.getD f {}
def State.modFrontEnd (s : State) (f : Nat) (g : FrontEnd → FrontEnd) : State :=
  { s with frontEnds := s.frontEnds.modify f g }

/-- Front end of an aerial. -/
def feOf (a : Nat) : Nat := a / 6
def State.aerialState (s : State) (a : Nat) : Nat := s.getN (k21AerialState (16 + a))
def State.setAerial (s : State) (a v : Nat) : State := s.put (k21AerialState (16 + a)) v

/-- Is the front end silenced by an external field (R366)? -/
def State.silenced (s : State) (f : Nat) : Bool := f = 0 && s.emulation.field

/-- Is a mode in which emulation works: Run and all that runs as Run? -/
def State.runsFully (s : State) : Bool := s.lease.fwUp && (s.getN k01Mode = 0 || s.getN k01Mode = 5)

/-- The front-end states as the members show them. -/
def State.showFront (s : State) (f : Nat) : State :=
  s.put (k21FrontEndState f)
    (if s.silenced f && s.flag k21EmulationEnable && s.runsFully then 2 else if (s.frontEnd f).busy.isSome then 1 else 0)

/-- An exchange ends with a status (R362, R363). -/
def State.endExchange (s : State) (a st : Nat) : State :=
  (((s.put (k21APDUStatus (16 + a)) st).modAerial a fun x => { x with exchangeEnd := none }).modFrontEnd (feOf a) fun x =>
    { x with busy := none }).showFront (feOf a)

/-- The frame waiting time index that the emulated card declares: 38.7 ms (R365). -/
def emulationFwi : Nat := 7

/-- EXTERNAL_FIELD (R366): NF0 falls silent; an exchange in progress ends. In Run the emulated card then declares its FWI (R365). -/
def externalField (s : State) : State :=
  if s.emulation.field then s
  else
    let t := { s with emulation := { s.emulation with field := true } }
    let t := match (s.frontEnd 0).busy with
      | some a => t.endExchange a stNotNow
      | none => t
    let t := t.showFront 0
    if t.flag k21EmulationEnable && t.runsFully then t.send (.emulationAts emulationFwi) else t

def execExternalField (s : State) : Host.Outcome State Fault Refusal := .next (externalField s)

/-- FIELD_ABSENT (R366): the field has been absent for 200 ms. -/
def fieldAbsent (s : State) : State := ({ s with emulation := {} }).showFront 0

def execFieldAbsent (s : State) : Host.Outcome State Fault Refusal := .next (fieldAbsent s)

/-- Ticks of an aerial's pings (R357). -/
def pingPhase (a : Nat) : Nat := 200 * (a % 6) + 25 * (a / 6)

/-- Deviation of a response in thousandths; against a baseline of 0 no rule states one. -/
def State.deviation (s : State) (a response : Nat) : Nat :=
  let b := s.getN (k21Baseline (16 + a))
  if b = 0 then s.drawn % 65536 else min 65535 (1000 * ((response : Int) - b).natAbs / b)

/-- Is the deviation below half the threshold (R357)? -/
def State.belowHalf (s : State) (a response : Nat) : Bool :=
  let b := s.getN (k21Baseline (16 + a))
  let th := s.getN (k21Threshold (16 + a))
  if b = 0 then 2 * s.deviation a response < th else 2000 * ((response : Int) - b).natAbs < th * b

/-- Is the polling of an aerial due or in progress: card detected, and its tick reached (R357)? -/
def State.pollDue (s : State) (a : Nat) : Bool := s.aerialState a = 1 && s.reachedOpt (s.aerial a).pollAt

/-- The aerial whose transaction holds a front end (R356): a host exchange, else the polling that is served. -/
def State.holder (s : State) (f : Nat) : Option Nat :=
  (s.frontEnd f).busy.or ((List.range' (6 * f) 6).find? s.pollDue)

/-- Do the front ends detect: in every mode but Kickstand, and not while the core domain is in reset (R357, R452)? -/
def State.detects (s : State) : Bool := s.modes.powered && s.lease.fwUp

/-- PING (R357). While another aerial's transaction holds the front end the ping waits for its next slot (R356). -/
def ping (a response : Nat) (field : Bool) (s : State) : State :=
  if !(a < 24 && s.cc % 1600 = pingPhase a && s.aerialState a ≠ 3 && s.detects) then s
  else if field && a = s.getN k21EmulationAerial then externalField s
  else if s.silenced (feOf a) || ((s.holder (feOf a)).isSome && s.holder (feOf a) ≠ some a) then s
  else
    let b := s.getN (k21Baseline (16 + a))
    let dev := s.deviation a response
    let th := s.getN (k21Threshold (16 + a))
    let t := (if b = 0 then s.drew else s).put (k21Deviation (16 + a)) dev
    let t := t.modAerial a fun x => { x with response := response }
    match s.aerialState a with
    | 0 =>
      if dev < th then t.put (k21Baseline (16 + a)) (roundQ ((b : Rat) + ((response : Rat) - b) / 16))
      else (t.setAerial a 1).modAerial a fun x => { x with pollAt := some (s.after 1) }
    | 2 =>
      if s.belowHalf a response then
        (if (s.aerial a).low = 0 then t.modAerial a fun x => { x with low := 1 }
        else (t.setAerial a 0).modAerial a fun x => { x with low := 0, card := none })
      else t.modAerial a fun x => { x with low := 0 }
    | _ => t

def execPing (a response : Nat) (field : Bool) (s : State) : Host.Outcome State Fault Refusal := .next (ping a response field s)

/-! ### Polling (R358-R360) -/

/-- The identity text of a card (R359) as a TXT32 value. -/
def textOf (chars : List Nat) : Int := (numBE ((chars ++ List.replicate (32 - chars.length) 0).take 32) : Nat)
def cardText (c : Card) : Int :=
  textOf ((if c.typeB then [0x42, 0x3A] else [0x41, 0x3A]) ++ hexText (natBytes c.uid))

/-- A random identifier is never matched (R359). -/
def cardRandom (c : Card) : Bool := !c.typeB && c.uid.length = 4 && c.uid.head? = some 0x08

/-- The bits that a Type A card sends at the cascade levels, the first one foremost: each byte least significant bit first, a level
that is not the last with the cascade tag 88h before its three bytes (ISO/IEC 14443-3). -/
def cardBits (c : Card) : List Bool :=
  let u := natBytes c.uid
  let tagged := if c.uid.length ≤ 4 then u
    else if c.uid.length ≤ 7 then 0x88 :: u
    else 0x88 :: u.take 3 ++ 0x88 :: u.drop 3
  tagged.flatMap fun b => (List.range 8).map (bit b)

/-- Where two cards send different bits, the branch of the 1 is followed first (R358). -/
def bitsBefore : List Bool → List Bool → Bool
  | true :: _, false :: _ => true
  | false :: _, true :: _ => false
  | _ :: a, _ :: b => bitsBefore a b
  | [], _ => true
  | _, [] => false

/-- The order in which a polling enumerates the cards in the field: Type A as the anticollision finds them, then Type B. -/
def enumerated (cards : List Card) : List Card :=
  (cards.filter fun c => !c.typeB).mergeSort (fun a b => bitsBefore (cardBits a) (cardBits b)) ++ cards.filter fun c => c.typeB

/-! ### What a polling sends (R358) -/

/-- Numbers of a list of bits, the first one lowest, eight to a byte. -/
def bitBytes : Nat → List Bool → List Byte
  | 0, _ => []
  | n + 1, l => BitVec.ofNat 8 (((l.take 8).zipIdx.map fun p => if p.1 then 2 ^ p.2 else 0).sum) :: bitBytes n (l.drop 8)

/-- The bits of a cascade level with its check byte: 40 of them. -/
def levelOf (c : Card) (level : Nat) : List Bool :=
  let l := ((cardBits c).drop (32 * level)).take 32
  let byte := fun (j : Nat) => (l.drop (8 * j)).take 8
  l ++ (List.range 8).map fun i => (List.range 4).foldl (fun x j => x != (byte j).getD i false) false

def cascadeSel (level : Nat) : Byte := ([0x93, 0x95, 0x97] : List Byte).getD level 0x97

/-- The bits that all of some cards send alike, up to the first collision. -/
def commonBits : List (List Bool) → List Bool
  | [] => []
  | [l] => l
  | l :: t => ((l.zip (commonBits t)).takeWhile fun p => p.1 == p.2).map Prod.fst

/-- The anticollision of a level: the commands, and the cards that stay in it. On a collision the branch of the 1 is taken. -/
def anticollide (level : Nat) : Nat → List Card → List (List Byte × Nat) × List Card
  | 0, cs => ([], cs)
  | fuel + 1, cs =>
    let common := commonBits (cs.map (levelOf · level))
    if 40 ≤ common.length then ([(cascadeSel level :: 0x70 :: bitBytes 5 common, 40)], cs)
    else
      let known := common ++ [true]
      let n := known.length
      let nvb : Byte := BitVec.ofNat 8 ((2 + n / 8) * 16 + n % 8)
      let r := anticollide level fuel (cs.filter fun c => (levelOf c level).getD common.length false)
      ((cascadeSel level :: nvb :: bitBytes ((n + 7) / 8) known, n) :: r.1, r.2)

/-- Levels of a card: one for each four bytes that it sends. -/
def cascadeLevels (c : Card) : Nat := (cardBits c).length / 32

/-- The levels of a round from `level` on, until a card is selected. -/
def cascade (level : Nat) : Nat → List Card → List (List Byte × Nat) × List Card
  | 0, cs => ([], cs)
  | fuel + 1, cs =>
    let a := anticollide level 41 cs
    let first : List (List Byte × Nat) := [([cascadeSel level, 0x20], 0)]
    if a.2.any fun c => level + 1 < cascadeLevels c then
      (let r := cascade (level + 1) fuel a.2; (first ++ a.1 ++ r.1, r.2))
    else (first ++ a.1, a.2)

/-- Type A: REQA, the rounds of the levels, HLTA, until a REQA meets no answer. -/
def pollA : Nat → List Card → List (List Byte × Nat)
  | 0, _ => []
  | fuel + 1, cs =>
    ([0x26], 7) :: (if cs = [] then [] else
      let r := cascade 0 3 cs
      r.1 ++ [([0x50, 0x00], 0)] ++ pollA fuel (cs.filter fun c => !r.2.contains c))

/-- Type B: REQB with AFI 00h and N slots, the slot markers, HLTB for every card alone in its slot; N doubles up to 16 while a slot
collides, and a round without answer ends it. Which slot a card takes is the card's own choice: a free value. -/
def pollB : Nat → Nat → Nat → List Card → List (List Byte × Nat)
  | 0, _, _, _ => []
  | fuel + 1, n, d, cs =>
    let slots := cs.zipIdx.map fun p => (p.1, Config.free (d + p.2) % 2 ^ n)
    let alone := slots.filter fun p => (slots.filter fun q => q.2 = p.2).length = 1
    let req : List (List Byte × Nat) := [([0x05, 0x00, BitVec.ofNat 8 n], 0)]
    let marks := (List.range' 1 (2 ^ n - 1)).map fun j => (([BitVec.ofNat 8 (16 * j + 5)] : List Byte), 0)
    let halts := alone.map fun p => (0x50 :: p.1.uid, 0)
    req ++ marks ++ halts ++
      (if cs = [] then [] else
        pollB fuel (if alone.length = cs.length then n else min 4 (n + 1)) (d + cs.length)
          (cs.filter fun c => !(alone.map Prod.fst).contains c))

/-- The commands of a polling, Type A first. -/
def State.pollFrames (s : State) (cards : List Card) : List (List Byte × Nat) :=
  pollA (cards.length + 1) (cards.filter fun c => !c.typeB) ++ pollB 64 0 s.draw (cards.filter fun c => c.typeB)

/-- Taps on two aerials with one identity are void (R360). The notice names both aerials, the lower one in bits 15-8 (log entry
21). -/
def State.ambiguous (s : State) (a : Nat) (cards : List Card) : State :=
  let ids := (cards.filter fun c => !cardRandom c).map cardText
  let other := (List.range 24).find? fun b =>
    b ≠ a && (s.aerial b).settleEnd.isSome && (s.aerial b).cards.any fun c => !cardRandom c && ids.contains (cardText c)
  match other with
  | some b => ((s.modAerial a fun x => { x with void := true }).modAerial b fun x => { x with void := true }).notice byDevice 0x0C05 (min a b * 256 + max a b)
  | none => s

/-- The limit of a polling in ticks (R358). -/
def pollLimit : Nat := msTicks 300

/-- POLLING (R358): the enumeration of an aerial that holds its front end ends, with the cards it found; detections that wait are
served in ascending order of aerials (R356). `limit` says that it was cut short; one that comes 300 ms after the polling was due has
been. -/
def polling (a : Nat) (cards : List Card) (limit : Bool) (s : State) : State :=
  let f := feOf a
  if !(a < 24 && s.pollDue a && s.runsFully && !s.silenced f && s.holder f = some a) then s
  else
    let long := match (s.aerial a).pollAt with
      | some p => decide (pollLimit < s.since p)
      | none => false
    let t := ((s.count (k21Transactions f)).put (k21CardsInField (16 + a)) (min 255 cards.length : Nat)).when (limit || long) fun t =>
      t.noticeOpen byDevice 0x0C07
    let t := (t.each (t.pollFrames cards) fun t x => t.send (.reader a x.1 x.2)).drew
    let cards := enumerated cards
    let t := t.modAerial a fun x => { x with pollAt := none, cards := cards, void := false }
    if cards = [] then
      let t := (t.setAerial a 0).notice byDevice 0x0C01 a
      if (s.aerial a).empty + 1 < 4 then t.modAerial a fun x => { x with empty := x.empty + 1 }
      else ((t.put (k21Baseline (16 + a)) ((s.aerial a).response : Nat)).noticeOpen byDevice 0x0C02).modAerial a fun x =>
        { x with empty := 0 }
    else
      (t.modAerial a fun x => { x with empty := 0, settleEnd := some (s.after (msTicks (s.getN k21SettleTime))) }).ambiguous a cards

def execPolling (a : Nat) (cards : List Card) (limit : Bool) (s : State) : Host.Outcome State Fault Refusal :=
  .next (polling a cards limit s)

/-! ### From a tap to a session (R360, R361) -/

/-- A result is reported; all but 1 and 2 are noticed. -/
def State.tapResult (s : State) (a r : Nat) : State :=
  let t := s.put (k21LastResult (16 + a)) r
  if r = 1 || r = 2 then t else t.notice byDevice 0x0C03 (a * 256 + r)

/-- The spoke an aerial is bound to; 255 = none. -/
def State.boundSpoke (s : State) (a : Nat) : Nat := s.getN (k21BoundSpoke (16 + a))

/-- An identity of the bound spoke is looked up (R361). -/
def State.lookUp (s : State) (a : Nat) (ident : Int) : State :=
  let sp := s.boundSpoke a
  let p := s.payload 3
  if sp = 255 then s.tapResult a 8
  else match authEntry p ident with
    | some e =>
      if s.authUsable e then (let r := s.authorise sp ident (authPurse p e); r.1.tapResult a r.2) else s.tapResult a 4
    | none =>
      if s.getN k21UnlistedPolicy = 0 then s.tapResult a 3
      else
        (s.tapResult a 6).modAerial a fun x => { x with decisionEnd := some (s.after (secTicks (s.getN k21DecisionTime))) }

/-- The card a tap uses (R360): the one listed identity, else the first; none when several are listed. -/
def State.usedCard (s : State) (cards : List Card) : Option Card :=
  let p := s.payload 3
  let listed := cards.filter fun c => !cardRandom c && (authEntry p (cardText c)).isSome
  match (listed.map cardText).eraseDups with
  | [] => cards.head?
  | [i] => listed.find? fun c => cardText c = i
  | _ => none

/-- SETTLE_END (R360, R361). -/
def settleEnd (a : Nat) (s : State) : State :=
  let x := s.aerial a
  if !(a < 24 && s.reachedOpt x.settleEnd && s.firmwareUp) then s
  else
    let t := (s.setAerial a 2).modAerial a fun x => { x with settleEnd := none, void := false, cards := [], low := 0, card := x.cards.head? }
    let first : Int := match x.cards.head? with
      | some c => cardText c
      | none => 0
    if x.void then (t.put (k21LastIdentity (16 + a)) first).tapResult a 5
    else match s.usedCard x.cards with
      | none => ((t.put (k21LastIdentity (16 + a)) first).noticeOpen byDevice 0x0C04).tapResult a 5
      | some c =>
        let t := (t.put (k21LastIdentity (16 + a)) (cardText c)).modAerial a fun x => { x with card := some c }
        if cardRandom c then t.tapResult a 7 else t.lookUp a (cardText c)

def execSettleEnd (a : Nat) (s : State) : Host.Outcome State Fault Refusal := .next (settleEnd a s)

def checkDecision (a : Nat) (s : State) : Nat := if s.getN (k21LastResult (16 + a)) = 6 then stOk else stNotNow

/-- DECISION (R361): 1 authorises without a purse, 2 refuses. -/
def applyDecision (a : Nat) (v : Int) (s : State) : State :=
  let t := s.modAerial a fun x => { x with decisionEnd := none }
  if v = 1 && s.boundSpoke a = 255 then t.tapResult a 8
  else if v = 1 then (let r := t.authorise (s.boundSpoke a) (s.get (k21LastIdentity (16 + a))) noPurse; r.1.tapResult a r.2)
  else t.tapResult a 3

def execDecision (sid a : Nat) (v : Int) (s : State) : Host.Outcome State Fault Refusal :=
  .next (s.writeRow sid (k21Decision (16 + a)) v (checkDecision a) (applyDecision a v))

/-- DECISION_TIMEOUT (R361). -/
def decisionTimeout (a : Nat) (s : State) : State :=
  if a < 24 && s.getN (k21LastResult (16 + a)) = 6 && s.reachedOpt (s.aerial a).decisionEnd then
    (s.modAerial a fun x => { x with decisionEnd := none }).tapResult a 3
  else s

def execDecisionTimeout (a : Nat) (s : State) : Host.Outcome State Fault Refusal := .next (decisionTimeout a s)

/-! ### Host exchanges (R362, R363) -/

/-- S(DESELECT) of ISO/IEC 14443-4. -/
def deselect : Byte := 0xC2

def checkApdu (a : Nat) (v : Int) (s : State) : Nat :=
  if 261 < (blkBytes v).length || (blkBytes v).length = 0 then stOutOfRange
  else if s.aerialState a ≠ 2 || (s.frontEnd (feOf a)).busy.isSome || s.silenced (feOf a) then stNotNow
  else stOk

/-- The rate of an exchange: the highest that the card and 21h/256/1 both allow. -/
def State.cardRate (s : State) (c : Card) : Nat := min c.rate (s.getN k21MaximumRate)

/-- Ticks of the frame waiting time of an FWI, 4096 / 13.56 MHz times 2^FWI (ISO/IEC 14443-4). -/
def frameWait (fwi : Nat) : Nat := (2 ^ min 14 fwi * 32768 + 13559) / 13560

/-- APDU_COMMAND (R362): the card is woken and selected; one that speaks ISO/IEC 14443-4 is activated and the APDU sent. -/
def applyApdu (a : Nat) (v : Int) (s : State) : State :=
  let t := s.count (k21Transactions (feOf a))
  match (s.aerial a).card with
  | none => t.put (k21APDUStatus (16 + a)) stNoObject
  | some c =>
    let b := toBytes (blkBytes v)
    let t := (((t.modAerial a fun x =>
        { x with apdu := b, exchangeEnd := some (s.after (msTicks (s.getN k21WaitingTimeCap))), waitEnd := s.after (frameWait c.fwi) }).modFrontEnd
          (feOf a) fun x =>
      { x with busy := some a }).showFront (feOf a)).send (.activate a c.typeB c.uid (if c.iso4 then some (s.cardRate c) else none))
    if c.iso4 then t.send (.card a b) else t

def execApduCommand (sid a : Nat) (apdu : List Byte) (s : State) : Host.Outcome State Fault Refusal :=
  .next (s.writeRow sid (k21APDUCommand (16 + a)) (blkOf (natBytes apdu)) (checkApdu a (blkOf (natBytes apdu)))
    (applyApdu a (blkOf (natBytes apdu))))

/-- Does the card of a running exchange speak ISO/IEC 14443-4? -/
def State.speaksIso4 (s : State) (a : Nat) : Bool :=
  match (s.aerial a).card with
  | some c => c.iso4
  | none => true

/-- Is an answer awaited on an aerial: its exchange runs, and neither the cap nor the frame waiting time has passed (R363)? -/
def State.awaits (s : State) (a : Nat) : Bool :=
  (s.aerial a).exchangeEnd.isSome && !s.reachedOpt (s.aerial a).exchangeEnd &&
    ((s.aerial a).waitEnd = s.cc || !s.reached (s.aerial a).waitEnd)

/-- APDU_RESPONSE (R362, R363): an S(WTX) request is acknowledged with its WTXM, which extends the frame waiting time while the cap
stays; a response ends the exchange; an empty one says that the card did not answer its selection. A card that has answered its
selection and does not speak ISO/IEC 14443-4 ends it with BAD_TYPE. An answer after the frame waiting time is not awaited: the
exchange goes on to its cap. -/
def apduResponse (a : Nat) (wtx : Option Nat) (resp : List Byte) (s : State) : State :=
  if !(a < 24 && s.awaits a) then s
  else if !s.speaksIso4 a then s.endExchange a (if resp = [] && wtx.isNone then stNoObject else stBadType)
  else match wtx with
    | some m =>
      let fwi := ((s.aerial a).card.map Card.fwi).getD 4
      (s.modAerial a fun x => { x with waitEnd := s.after (max 1 m * frameWait fwi) }).send (.card a [0xF2, BitVec.ofNat 8 m])
    | none =>
      if resp = [] then s.endExchange a stNoObject
      else ((s.put (k21APDUResponse (16 + a)) (blkOf ((natBytes resp).take 258))).endExchange a stOk).send (.card a [deselect])

def execApduResponse (a : Nat) (wtx : Option Nat) (resp : List Byte) (s : State) : Host.Outcome State Fault Refusal :=
  .next (apduResponse a wtx resp s)

/-- WAITING_TIME_CAP (R363). -/
def waitingTimeCap (a : Nat) (s : State) : State :=
  if a < 24 && s.reachedOpt (s.aerial a).exchangeEnd then
    ((s.endExchange a stExpired).notice byDevice 0x0C10 a).send (.card a [deselect])
  else s

def execWaitingTimeCap (a : Nat) (s : State) : Host.Outcome State Fault Refusal := .next (waitingTimeCap a s)

/-! ### Card emulation (R364, R365) -/

/-- The identity payload (R371): part code, MAC and node addresses, commissioning state, applied SEQ, CRC-16. -/
def State.identityPayload (s : State) : List Nat :=
  let b := (bytesBE 32 (s.getN k00PartCode)).take 8 ++ bytesBE 6 (Config.deviceMac % ccMod) ++ bytesBE 5 s.nodeAddr ++
    [s.getN k22CommissioningState % 256] ++ bytesBE 2 (s.getN k22AppliedSEQ)
  b ++ bytesBE 2 (crc16 b)

/-- The type name of the external record. -/
def recordType : List Nat := [0x62, 0x72, 0x6F, 0x78, 0x61, 0x6E, 0x69, 0x6C, 0x3A, 0x74, 0x72, 0x74]

/-- The NDEF message: one short external record (NFC Forum record layout, log entry 35). -/
def State.ndef (s : State) : List Nat :=
  [0xD4, recordType.length, s.identityPayload.length] ++ recordType ++ s.identityPayload

def ndefAid : List Nat := [0xD2, 0x76, 0x00, 0x00, 0x85, 0x01, 0x01]
def kodAid : List Nat := [0xF0, 0x54, 0x52, 0x54, 0x4B, 0x4F, 0x44]

def State.emulates (s : State) : Bool := s.emulation.field && s.flag k21EmulationEnable && s.runsFully

/-- The bytes of the selected file. -/
def State.emulatedFile (s : State) : List Nat :=
  if s.emulation.file = 0xE103 then natBytes Config.ccFile
  else if s.emulation.file = 0xE104 then bytesBE 2 s.ndef.length ++ s.ndef
  else []

def State.emulationReply (s : State) (l : List Nat) : State := s.send (.emulation (toBytes l))

def swOk : List Nat := [0x90, 0x00]
def swNotFound : List Nat := [0x6A, 0x82]
def swWrong : List Nat := [0x6D, 0x00]

/-- A SELECT by application identifier. -/
def State.selectAid (s : State) (aid : List Nat) : State :=
  let app := if aid = ndefAid then 1 else if aid = kodAid then 2 else 0
  ({ s with emulation := { s.emulation with app := if app = 0 then s.emulation.app else app, file := 0 } }).emulationReply
    (if app = 0 then swNotFound else swOk)

/-- EMULATION_APDU (R365): SELECT and READ BINARY of the Type 4 Tag, and the KOD command, whose PDU goes to the
firmware. R365 does not say how the SERVICE number travels; the service row that follows names it (log entry 42). -/
def emulationApdu (apdu : List Byte) (s : State) : State :=
  let b := natBytes apdu
  if !s.emulates then s
  else
    let b4 := b.getD 4 0
    if b.take 4 = [0x00, 0xA4, 0x04, 0x00] then s.selectAid ((b.drop 5).take b4)
    else if s.emulation.app = 1 && b.take 4 = [0x00, 0xA4, 0x00, 0x0C] then
      let f := numBE ((b.drop 5).take 2)
      if f = 0xE103 || f = 0xE104 then ({ s with emulation := { s.emulation with file := f } }).emulationReply swOk
      else s.emulationReply swNotFound
    else if s.emulation.app = 1 && b.take 2 = [0x00, 0xB0] then
      s.emulationReply ((s.emulatedFile.drop (numBE ((b.drop 2).take 2))).take b4 ++ swOk)
    else if s.emulation.app = 2 && b.take 2 = [0x80, 0x10] && b4 = 0 && numBE ((b.drop 5).take 2) ≤ 1024 &&
        (b.length = 7 + numBE ((b.drop 5).take 2) || b.length = 9 + numBE ((b.drop 5).take 2)) then
      let n := numBE ((b.drop 5).take 2)
      let pdu := (b.drop 7).take n
      { s with
        emulation := { s.emulation with waiting := some s.cc, wtx := 0 }
        kod := { s.kod with rx := s.kod.rx ++ [{ ep := .nfc, broadcast := false, prio := 0, service := 0, data := toBytes pdu }] } }
    else s.emulationReply swWrong

def execEmulationApdu (apdu : List Byte) (s : State) : Host.Outcome State Fault Refusal := .next (emulationApdu apdu s)

/-- EMULATION_WTX (R365): 5 ms before each 38.7 ms frame waiting time has passed without a response; after 5 s in all 6F00h. -/
def emulationWtx (s : State) : State :=
  match s.emulation.waiting with
  | none => s
  | some t =>
    if secTicks 5 ≤ s.since t then
      (({ s with emulation := { s.emulation with waiting := none, wtx := 0 } }).emulationReply [0x6F, 0x00]).noticeOpen byDevice 0x0C20
    else if 2696 * (s.emulation.wtx + 1) ≤ 10 * s.since t then
      ({ s with emulation := { s.emulation with wtx := s.emulation.wtx + 1 } }).send .wtx
    else s

def execEmulationWtx (s : State) : Host.Outcome State Fault Refusal := .next (emulationWtx s)

/-! ### Settings of class 21h -/

/-- A disabled aerial stands in state 3 without pings; an enabled one leaves it (R378). -/
def State.showAerial (s : State) (a : Nat) : State :=
  if s.getN (k21Enable (16 + a)) = 0 then
    (s.setAerial a 3).modAerial a fun x => { x with pollAt := none, settleEnd := none, cards := [], card := none }
  else if s.aerialState a = 3 then s.setAerial a 0 else s

def check21 (s : State) (i m : Nat) (v : Int) : Nat :=
  if 16 ≤ i && i ≤ 39 then
    (if m = 12 then (if v = 255 || v < s.spokeCount then stOk else stOutOfRange)
    else if m = 7 then checkDecision (i - 16) s
    else if m = 8 then checkApdu (i - 16) v s
    else stOk)
  else stOk

def apply21 (s : State) (k i m : Nat) (v : Int) : State :=
  if 16 ≤ i && i ≤ 39 then
    let a := i - 16
    if m = 7 then applyDecision a v s
    else if m = 8 then applyApdu a v s
    else if m = 1 then
      let t := s.put k v
      t.showAerial a
    else s.put k v
  else s.put k v

end Sys2Proof.Machine
end

