-- ==== Sys2Proof/Machine/PowerLoss.lean ====
section
/-! DEFINITION. Keeping energy across power loss (R150-R166): the criteria, the capture and its record, flash power-fail
records, the billing journal, restoration at power-up. A record is kept as its fields with its CRC, tag and commit word; its
layout in words is what CRC and tag are formed over, and the image in Pannier holds those words (log entry 32). -/

namespace Sys2Proof.Machine

/-! ### The criteria (R150) -/

/-- Squares of the line voltages of the reference group over 80 ticks, and for how long every one of type 5 has been below 60 %
(R150 cause 3). -/
def State.watchSag (s : State) : State :=
  let g := s.getN k09ReferenceGroup
  let lines := (List.range 3).filter fun j => s.typeOf (120 + 4 * g + j) = 5
  let sq := (List.range 3).map fun j => s.outOf (120 + 4 * g + j) * s.outOf (120 + 4 * g + j)
  let win := (sq :: s.pf.window).take 80
  let lim : Rat := s.getN (k09NominalVoltage g) * 600
  let low := fun (j : Nat) => decide (((win.map fun l => l.getD j 0).sum) / 80 < lim * lim)
  { s with pf := { s.pf with window := win, sagTicks := if lines ≠ [] && lines.all low then s.pf.sagTicks + 1 else 0 } }

/-- Tick edges in a row at which PFW_N is low, the coming one among them. -/
def State.lowEdges (s : State) : Nat := if s.pf.pfwNext then 0 else s.pf.pfwLow + 1

/-- The cause code of the criterion met at the coming boundary, 0 = none: PFW_N with the level at its tick edge, the
others as formed in the frame before. -/
def State.criterion (s : State) : Nat :=
  if 2 ≤ s.lowEdges then 1
  else if 2 ≤ (s.group (s.getN k09ReferenceGroup)).missing then 2
  else if 80 ≤ s.pf.sagTicks then 3
  else 0

/-- At a tick edge PFW_N is latched, and a tick without a criterion counts towards the end of a decision (R152); `next` is the level of
PFW_N at the edge after it. -/
def State.latchCriteria (s : State) (next : Bool) : State :=
  let c := s.criterion
  let locked := decide ((s.group (s.getN k09ReferenceGroup)).state = 0)
  { s with pf := { s.pf with pfwLow := s.lowEdges, pfwNext := next, crit := c,
                             goodTicks := if s.pf.active && c = 0 && locked then s.pf.goodTicks + 1 else 0 } }

/-! ### The capture (R154-R157) -/

/-- The base of the deltas (R162). -/
def State.journalBase (s : State) : Option JRecord := s.pf.base

/-- Registers of the twelve items of a spoke (R157). -/
def itemRegs (ra rb : Nat) : List Nat := [0, 1, 2, 3, 4, 5, 6, 7, 8 + 2 * ra, 9 + 2 * ra, 8 + 2 * rb, 9 + 2 * rb]

/-- The block of a spoke. Without a base no delta is usable. -/
def State.pfSpoke (s : State) (sp : Nat) : PfSpoke :=
  let rb := s.getN k10CurrentRate
  let rates := (s.journalBase.map fun j => j.rates).getD [rb]
  let ra := rates.headD rb
  let same := decide (ra = rb)
  let val := fun (i idx : Nat) =>
    if same && 10 ≤ i then 0
    else match s.journalBase with
      | some j => s.since109 (24 * sp + idx) (j.values.getD (24 * sp + idx) 0, j.wraps.getD (24 * sp + idx) 0)
      | none => 0
  let d := (itemRegs ra rb).zipIdx.map fun p => val p.2 p.1
  let third := (rates.eraseDups).length > 2
  let open_ := s.openSlot sp
  { delta := d, frac := (itemRegs ra rb).zipIdx.map fun p => if same && 10 ≤ p.2 then 0 else s.getN (k0BFineFraction (24 * sp + p.1)),
    slot := open_.getD 63, rateA := ra, rateB := rb,
    dovf := s.journalBase.isNone || third || d.any (4294967295 < ·), sopen := open_.isSome, kclosed := s.contactsOn sp,
    exp := s.exporting sp, demand := min (s.intervalEnergy sp) 4294967295, speak := s.getN (k30HighestApparentPower (65 + sp)) }

/-- The next scheduled billing boundary after a wall time and its kinds: rate switch 4, demand-interval close 2, billing-period
close 1. -/
def State.nextBoundary (s : State) (now : Nat) : Nat × Nat :=
  if !s.timeValid then (0, 0)
  else
    let a := (nextSwitch s.tariff now (s.getN k10CurrentRate)).map Int.toNat
    let b := some s.intervalEnd
    let c := s.scheduledClose
    match ([a, b, c].filterMap id).min? with
    | some x => (x, (if a = some x then 4 else 0) + (if b = some x then 2 else 0) + (if c = some x then 1 else 0))
    | none => (0, 0)

/-- Is a display slot in flight? -/
def State.inFlight (s : State) (i : Nat) : Bool := let x := s.getN (k24SlotState (16 + i)); 1 ≤ x && x ≤ 3

/-- The display map: words 8-15 (R156), VALID and the corners. -/
def State.displayMap (s : State) : List Nat :=
  (List.range 8).map fun i => if s.inFlight i then 2 ^ 47 + s.getN (k24Rectangle (16 + i)) / 16 else 0

/-- The words of a spoke's block (R157). -/
def PfSpoke.words (b : PfSpoke) : List Nat :=
  (List.range 12).map (fun i => (packFields [(32, b.delta.getD i 0), (16, b.frac.getD i 0 / 256)]).2) ++
    [(packFields ((List.range 6).map fun i => (8, b.frac.getD i 0))).2,
     (packFields ((List.range 6).map fun i => (8, b.frac.getD (6 + i) 0))).2,
     (packFields [(6, b.slot), (3, b.rateA), (3, b.rateB), (1, b.dovf.toNat), (1, b.sopen.toNat), (1, b.kclosed.toNat),
       (1, b.exp.toNat), (32, b.demand)]).2,
     b.speak % ccMod]

/-- Words 0-399 of a power-fail record (R156): the blocks of absent spokes are 0. -/
def PfRecord.words (v : Variant) (r : PfRecord) : List Nat :=
  [(packFields [(16, 0x5046), (8, 1), (8, r.cause), (16, r.seq)]).2, r.cc, r.time, r.mc,
    (packFields [(32, r.jseq), (8, v.spokes), (8, 0)]).2, r.nextb, r.kinds * 2 ^ 45, r.dstart] ++
    (List.range 8).map (fun i => r.rects.getD i 0) ++
    (List.range 24).flatMap fun sp =>
      match r.spokes[sp]? with
      | some b => b.words
      | none => List.replicate 16 0

/-- The CRC over words 0-399, which word 400 holds. -/
def PfRecord.crcOf (v : Variant) (r : PfRecord) : Nat := crc32 ((r.words v).flatMap wordBytes)

/-- The marker of a commit word in the vault and in flash (R155, R158, R161). -/
def commitMarker : Nat := 0x9C5A

/-- The record of a vault slot that is valid: its commit word has the marker and the CRC of word 400, which matches the record. -/
def VaultSlot.valid (v : Variant) (x : VaultSlot) : Option PfRecord :=
  x.record.filter fun r => x.commit = commitMarker * 2 ^ 32 + x.crc && x.crc = r.crcOf v

/-- A slot that a capture has filled. -/
def VaultSlot.filled (v : Variant) (r : PfRecord) : VaultSlot := ⟨some r, r.crcOf v, commitMarker * 2 ^ 32 + r.crcOf v⟩

def State.vaultSlot (s : State) (i : Nat) : Option PfRecord := (s.pf.slots.getD i {}).valid s.variant

/-- The vault slot with the newest valid record: of two, the one whose SEQ is the other's plus 1 (R155). -/
def State.newestSlot (s : State) : Option Nat :=
  match s.vaultSlot 0, s.vaultSlot 1 with
  | some a, some b => some (if b.seq = (a.seq + 1) % 65536 then 1 else 0)
  | some _, none => some 0
  | none, some _ => some 1
  | none, none => none

/-- The slot that a capture fills: not the one that holds the newest valid record. -/
def State.captureSlotNo (s : State) : Nat := 1 - s.newestSlot.getD s.pf.newest

/-- The record of a capture at a tick with its wall time. -/
def State.formRecord (s : State) (cause tick stamp : Nat) : PfRecord :=
  let nb := s.nextBoundary stamp
  { cause := cause, seq := s.pf.seq, cc := tick, time := stamp, mc := s.getN k20MC,
    jseq := (s.journalBase.map fun j => j.jseq).getD 0, nextb := nb.1, kinds := nb.2, dstart := s.getN k11IntervalStart,
    rects := s.displayMap, spokes := s.spokeList.map s.pfSpoke }

/-- A capture (R154): a segment for every spoke, the record, and the vault slot with its commit word. -/
def State.capture (s : State) (cause tick stamp : Nat) : State :=
  let t := s.closeSegments
  let r := t.formRecord cause tick stamp
  let k := t.captureSlotNo
  { t with pf := { t.pf with slots := t.pf.slots.set k (VaultSlot.filled t.variant r), newest := k,
                             seq := (t.pf.seq + 1) % 65536 } }

/-- The record of the newest valid vault slot. -/
def State.vaultRecord (s : State) : Option PfRecord := s.newestSlot.bind s.vaultSlot

/-- The captures repeat at every boundary after the decision (R155). -/
def State.repeatCapture (s : State) : State :=
  if s.pf.active then s.capture (s.getN k30LastCause) s.nextTick s.stampNext else s

/-- The power-fail image stands at the start of the journal staging region (R54, log entry 32). -/
def pfImageBase : Nat := 132096

/-- The first capture writes its record to the image, 401 words. -/
def State.writeImage (s : State) (r : PfRecord) : State :=
  ((r.words s.variant ++ [r.crcOf s.variant]).zipIdx.foldl (fun (t : State) (p : Nat × Nat) => t.setWord (pfImageBase + p.2) p.1)
    { s with pf := { s.pf with image := some r } })

/-- The first capture after a decision also loads the journal key (R154, R394). -/
def State.firstCapture (s : State) (cause tick stamp : Nat) : State :=
  let t := s.capture cause tick stamp
  let t := match t.vaultSlot t.pf.newest with
    | some r => t.writeImage r
    | none => t
  match t.journalKey with
  | some k => t.captureKey k
  | none => t

/-- The decision itself (R151, R154), in step 7 of the coming boundary: a journal write in progress is abandoned. -/
def State.decide_ (s : State) (cause : Nat) : State :=
  let t := ((s.count k30Decisions).put k30LastCause cause).notice byDevice 0x0130 cause
  let t := { t with pf := { t.pf with active := true, seq := 0, goodTicks := 0 },
                    flash := { t.flash with current := none, ops := t.flash.current.toList ++ t.flash.ops } }
  t.firstCapture cause t.nextTick t.stampNext

/-- The capture before a reset of R153, as for cause code 4. -/
def State.faultCapture (s : State) : State :=
  let t := s.put k30LastCause 4
  let t := if t.pf.active then t else { t with pf := { t.pf with seq := 0 } }
  t.capture 4 t.cc t.stamp

/-! ### Flash power-fail records (R158, R433) -/

def pfSlots : Nat := 32

/-- A free slot of the power-fail area. -/
def State.freePf (s : State) : Option Nat :=
  (List.range pfSlots).find? fun i => !s.pf.usedSlots.contains i && !s.pf.badSlots.contains i

/-- 30h/0/9 shows the free slots. -/
def State.showPf (s : State) : State :=
  s.put k30FreePowerFailSlots ((List.range pfSlots).filter fun i => !s.pf.usedSlots.contains i && !s.pf.badSlots.contains i).length

/-- Is a flash power-fail record being written? -/
def State.pfWriting (s : State) : Option Nat :=
  match s.flash.current with
  | some (.powerFail k) => some k
  | _ => none

/-- The tag over bytes under the journal key: the first 8 bytes of the CMAC; without a key what stands there is free (log entry
32). -/
def State.journalTag (s : State) (bytes : List Nat) : Nat :=
  match s.journalKey with
  | some k => Config.cmac k bytes / 2 ^ 64
  | none => s.drawn % 2 ^ 64

/-- Does a tag verify? One made under an older root is not checked, nor is any while the key cannot be derived (R163, R390). -/
def State.tagVerifies (s : State) (keyOk : Bool) (root tag : Nat) (bytes : List Nat) : Bool :=
  !keyOk || root ≠ s.getN k28RootGeneration || tag = s.journalTag bytes

/-! ### The saves of the recorder (R412) -/

def saveCommitMark : Nat := 0x9C5A

/-- Members as the bytes that a tag covers: address and value of each (log entry 50). -/
def memberBytes (l : List (Nat × Int)) : List Nat := l.flatMap fun (x : Nat × Int) => bytesBE 3 x.1 ++ bytesBE 32 (pattern 256 x.2)

/-- What a save is tagged over: the saved members in the order in which they were copied, then its start and end (log entry 50). -/
def RecSave.bytes (r : RecSave) : List Nat := memberBytes r.data ++ bytesBE 6 r.start ++ bytesBE 6 r.stop

/-- The save that ends now, with its tag and commit word. -/
def State.recSave (s : State) (n : Nat) : RecSave :=
  let r : RecSave := ⟨n, s.stamp, s.recorder.saveStart, s.cc,
    s.recorder.saveBuf ++ s.itemsIn s.recorder.saveAt recorderWords, 0, s.getN k28RootGeneration, saveCommitMark * 2 ^ 32 + n⟩
  { r with tag := s.journalTag r.bytes }

/-- SAVE_COMPLETE (R412): a committed save counts, a failed one repeats in the other slot; none ends while the firmware does not run
(R401). -/
def saveComplete (ok : Bool) (s : State) : State :=
  match s.recorder.saving with
  | none => s
  | some slot =>
    if !s.firmwareUp then s
    else if ok then
      let n : Nat := (s.getN k29SaveCount + 1) % 2 ^ 32
      let t := (s.puts [(k29SaveCount, n), (k29LastSaveTime, s.stamp)]).forTag s.journalKey
      let t := { t with draw := t.draw + 1, recorder := { t.recorder with
        saving := none, saveDue := false, saveBuf := [], saveAt := 0, saveSlot := 1 - slot, saved := t.recorder.saved.set slot (some (t.recSave n)) } }
      if s.recorder.saveDue then t.recorderSave else t
    else
      let t := (s.count k29SaveFailures).noticeOpen byDevice 0x0145
      { t.startSave (1 - slot) with recorder := { (t.startSave (1 - slot)).recorder with saveDue := s.recorder.saveDue } }

def execSaveComplete (ok : Bool) (s : State) : Host.Outcome State Fault Refusal := .next (saveComplete ok s)

/-- A save is valid: its commit word stands and its tag verifies, or cannot be checked (R163). -/
def State.saveValid (s : State) (keyOk : Bool) (r : RecSave) : Bool :=
  r.commit = saveCommitMark * 2 ^ 32 + r.count && s.tagVerifies keyOk r.root r.tag r.bytes

/-- The newer valid save, if any: its count is newer modulo 2^32. -/
def State.newestSave (s : State) (keyOk : Bool) : Option RecSave :=
  ((s.recorder.saved.filterMap id).filter fun r => s.saveValid keyOk r).foldl (fun (b : Option RecSave) (x : RecSave) =>
    match b with
    | some y => let d := (x.count + 2 ^ 32 - y.count) % 2 ^ 32; if 0 < d && d < 2 ^ 31 then some x else some y
    | none => some x) none

/-- A restored ring holds a record unless its newest position is empty, as after a clear. -/
def State.withRing (s : State) : State :=
  { s with recorder := { s.recorder with
      empty := decide (s.getN (ringKey ((s.getN k2BWriteCount + 2 ^ 32 - 1) % 2 ^ 32 % ringSize) 0) = 0) } }

/-- The records that the ring holds, oldest first: their notices, with the fields of their first occurrence. -/
def State.ringRecords (s : State) : List (Notice × List (Nat × Int)) :=
  let n := s.getN k2BWriteCount
  let l := (List.range (min n ringSize)).map fun j => (n - min n ringSize + j) % ringSize
  (l.filter fun p => s.getN (ringKey p 0) ≠ 0).map fun p =>
    (⟨s.getN (ringKey p 0), s.getN (ringKey p 2), s.getN (ringKey p 5)⟩, [1, 3, 4].map fun f => (f, s.get (ringKey p f)))

/-- A record made since the reset follows those of the restored ring. -/
def State.keepRecord (s : State) (x : Notice × List (Nat × Int)) : State :=
  let p := s.getN k2BWriteCount % ringSize
  (s.newRecord x.1).puts (x.2.map fun f => (ringKey p f.1, f.2))

/-- At boot the region is restored from the newer valid slot (R412): it is as the save holds it. The notices recorded between the
reset and the boot follow in the ring (log entry 50). -/
def State.restoreRecorder (s : State) (keyOk : Bool) : State :=
  match s.newestSave keyOk with
  | some r =>
    let new := s.ringRecords
    ((((((s.each (s.recorderData.map Prod.fst) State.clear).puts r.data).withRing).each new State.keepRecord).puts [(k29SaveCount, r.count), (k29LastSaveTime, r.time)])).notice byDevice 0x0140 r.time
  | none => s.noticeOpen byDevice 0x0142

/-- The 401 words of a record as bytes. -/
def PfRecord.bytes (v : Variant) (r : PfRecord) : List Nat := (r.words v ++ [r.crcOf v]).flatMap wordBytes

/-- The flash record of a capture in a slot, before its commit word. -/
def State.pfFlashOf (s : State) (k : Nat) (r : PfRecord) : PfFlash :=
  ⟨k, r, r.crcOf s.variant, s.journalTag (r.bytes s.variant), s.getN k28RootGeneration, none, false⟩

/-- The commit word of a flash record: the marker, the CRC, 0000h. -/
def PfFlash.commitWord (x : PfFlash) : Nat := (packFields [(16, commitMarker), (32, x.crc), (16, 0)]).2

/-- A valid flash record (R158). -/
def State.pfFlashValid (s : State) (keyOk : Bool) (x : PfFlash) : Bool :=
  !x.cancelled && x.commit = some x.commitWord && x.crc = x.record.crcOf s.variant &&
    s.tagVerifies keyOk x.root x.tag (x.record.bytes s.variant)

/-- FLASH_POWER_FAIL_RECORD (R158): while a decision stands and no record is being written, the newest capture goes into the
next free slot. -/
def flashPowerFailRecord (s : State) : State :=
  if !s.pf.active || s.pfWriting.isSome then s
  else match s.freePf, s.vaultRecord with
    | some k, some r =>
      ({ s with pf := { s.pf with flash := s.pf.flash ++ [s.pfFlashOf k r], usedSlots := s.pf.usedSlots ++ [k] },
                flash := { s.flash with current := some (.powerFail k) } }).showPf
    | none, some _ => s.noticeOpen byDevice 0x0F31
    | _, none => s

def execFlashPowerFailRecord (s : State) : Host.Outcome State Fault Refusal := .next (flashPowerFailRecord s)

/-- FLASH_RECORD_COMMIT (R158). -/
def flashRecordCommit (s : State) : State :=
  match s.pfWriting with
  | some k =>
    { s with pf := { s.pf with flash := s.pf.flash.map fun x => if x.slot = k then { x with commit := some x.commitWord } else x },
             flash := { s.flash with current := none } }
  | none => s

def execFlashRecordCommit (s : State) : Host.Outcome State Fault Refusal := .next (flashRecordCommit s)

/-- Every flash record is cancelled; its slot may be erased (R152, R165). -/
def State.cancelPf (s : State) : State :=
  { s with pf := { s.pf with flash := s.pf.flash.map fun x => { x with cancelled := true } },
           flash := if s.pfWriting.isSome then { s.flash with current := none } else s.flash }

/-- POWER_FAIL_AREA_ERASE (R433): a cancelled slot is erased in the background; one whose erase fails stays unused. -/
def powerFailAreaErase (k : Nat) (ok : Bool) (s : State) : State :=
  if s.pf.active || !s.pf.usedSlots.contains k || s.pf.badSlots.contains k ||
      s.pf.flash.any (fun x => x.slot = k && !x.cancelled) || s.pf.due.contains 6 then s
  else if ok then
    ({ s with pf := { s.pf with usedSlots := s.pf.usedSlots.filter (· ≠ k), flash := s.pf.flash.filter fun x => x.slot ≠ k } }).showPf
  else
    ((({ s with pf := { s.pf with badSlots := s.pf.badSlots ++ [k] } }).count k30EraseFailures).notice byDevice 0x0F32
      (0xAD0000 + 4096 * k)).showPf

def execPowerFailAreaErase (k : Nat) (ok : Bool) (s : State) : Host.Outcome State Fault Refusal :=
  .next (powerFailAreaErase k ok s)

/-! ### The billing journal (R160-R162, R433) -/

def allRegs : List Nat := List.range 576

/-- Words 0-1,181 of a journal record (R161). -/
def JRecord.words (v : Variant) (r : JRecord) : List Nat :=
  [(packFields [(16, 0x4A52), (8, 1), (8, r.trigger), (8, v.spokes), (8, r.interval)]).2,
    (packFields [(32, r.jseq), (16, r.snapSeq)]).2, r.cc, r.time, r.mc, r.highWater] ++
    allRegs.flatMap (fun i => [r.values.getD i 0, (packFields [(8, r.wraps.getD i 0), (24, r.fracs.getD i 0), (16, 0)]).2]) ++
    (List.range 24).map fun sp => r.speak.getD sp 0

/-- The CRC over all bits before it, the tag among them, and the commit word at the slot's end. -/
def JRecord.crcOf (v : Variant) (r : JRecord) : Nat := crc32 ((r.words v).flatMap wordBytes ++ bytesBE 8 r.tag)
def JRecord.commitWord (r : JRecord) : Nat := (packFields [(16, commitMarker), (32, r.jseq), (16, 0)]).2

/-- Words 1,182 and 1,183. -/
def JRecord.tail (r : JRecord) : List Nat := [r.tag / 65536, (packFields [(16, r.tag), (32, r.crc)]).2]

/-- A valid journal record: commit word, CRC and tag. -/
def State.journalValid (s : State) (keyOk : Bool) (r : JRecord) : Bool :=
  r.commit = some r.commitWord && r.crc = r.crcOf s.variant &&
    s.tagVerifies keyOk r.root r.tag ((r.words s.variant).flatMap wordBytes)

/-- A record with its tag and its CRC. -/
def State.signJournal (s : State) (r : JRecord) : JRecord :=
  let r := { r with tag := s.journalTag ((r.words s.variant).flatMap wordBytes), root := s.getN k28RootGeneration }
  { r with crc := r.crcOf s.variant }

/-- The record that a latch forms. -/
def State.formJournal (s : State) (trigger : Nat) : JRecord :=
  let r : JRecord := {
    trigger := trigger, interval := s.getN k30JournalInterval, jseq := s.pf.nextJseq, snapSeq := s.getN k0BSnapshotSequence,
    cc := s.nextTick, time := s.stampNext, mc := s.getN k20MC, highWater := s.hwNext,
    values := allRegs.map fun i => s.getN (k0BValue i), wraps := allRegs.map fun i => s.getN (k0BWrapCount i),
    fracs := allRegs.map fun i => s.getN (k0BFineFraction i),
    speak := (List.range 24).map fun sp => s.getN (k30HighestApparentPower (65 + sp)), rates := [s.getN k10CurrentRate] }
  s.signJournal r

/-- Is the periodic latch due at the coming boundary (R160)? -/
def State.periodicDue (s : State) : Bool :=
  s.dueNext ((s.pf.lastLatch + minuteTicks * s.getN k30JournalInterval) % ccMod)

/-- The trigger that the record of the coming boundary carries: the lowest of those due (R160). -/
def State.dueTrigger (s : State) : Option Nat := (s.pf.due ++ (if s.periodicDue then [0] else [])).min?

/-- The triggers due form one record; the recorder is saved with a periodic latch. -/
def State.latchJournal (s : State) : State :=
  match s.dueTrigger with
  | none => s
  | some tr =>
    let t := { s with pf := { s.pf with due := [], lastLatch := s.nextTick, latched := s.pf.latched ++ [s.formJournal tr],
                                        nextJseq := (s.pf.nextJseq + 1) % 4294967296 } }.drew
    ((t.forTag s.journalKey).flashOp .journal).when (tr = 0) State.recorderSave

/-- Slots of the journal ring (R431, R432). -/
def State.journalSlots (s : State) : Nat := (7 * (s.getN k30FlashSize / 8) / 8 - 11) * 128

/-- The ring after one more record; the newest record with trigger 5 is never overwritten. -/
def ringAfter (n : Nat) (l : List JRecord) (r : JRecord) : List JRecord :=
  let l := l ++ [r]
  if l.length ≤ max 1 n then l
  else
    let keep := (l.filter fun x => x.trigger = 5).getLast?
    match l with
    | a :: b :: rest => if some a = keep then a :: rest else b :: rest
    | _ => l

/-- Is the journal write the flash operation whose turn it is? Power-fail records and a running operation go first; none runs
while a decision stands (R151). -/
def State.journalTurn (s : State) : Bool :=
  !s.pf.active && s.pf.latched ≠ [] && (s.flash.current.isNone || s.flash.current = some .journal)

/-- A journal write ends; another record that waits is written next. -/
def State.journalWritten (s : State) : State :=
  let t := { s with flash := { s.flash with current := none, ops := s.flash.ops.filter (· ≠ .journal) } }
  if t.pf.latched = [] then t else t.flashOp .journal

/-- JOURNAL_COMMIT (R161, R162): the record enters the ring, and is the base from the next tick. -/
def journalCommit (s : State) : State :=
  match s.pf.latched with
  | r :: rest =>
    if s.journalTurn then
      let c := { r with commit := some r.commitWord }
      ({ s with pf := { s.pf with latched := rest, newBase := some c,
                                  journal := ringAfter s.journalSlots s.pf.journal c } }).journalWritten
    else s
  | [] => s

def execJournalCommit (s : State) : Host.Outcome State Fault Refusal := .next (journalCommit s)

/-- JOURNAL_WRITE_FAILURE (R162): the write is abandoned and repeated in the next slot. -/
def journalWriteFailure (s : State) : State :=
  if s.journalTurn then (s.count k30JournalWriteFailures).noticeOpen byDevice 0x0F30 else s

def execJournalWriteFailure (s : State) : Host.Outcome State Fault Refusal := .next (journalWriteFailure s)

/-- The base switches at the first boundary after the commit (R162). -/
def State.switchBase (s : State) : State :=
  match s.pf.newBase with
  | some r => { s.puts [(k30JournalSequence, r.jseq), (k30JournalTime, r.time)] with
                pf := { s.pf with base := some r, newBase := none } }
  | none => s

/-! ### Restoration (R163-R165) -/

/-- Registers of a spoke take values, wrap counts and fractions. -/
def State.setRegister (s : State) (inst v w f : Nat) : State :=
  (s.puts [(k0BValue inst, v), (k0BWrapCount inst, w), (k0BFineFraction inst, f)]).modMeter (inst / 24) fun m =>
    { m with fine := m.fine.set (inst % 24) f }

/-- A spoke's registers from a journal record. -/
def State.fromJournal (s : State) (sp : Nat) (j : JRecord) : State :=
  (s.each (List.range 24) fun s i =>
    let n := 24 * sp + i
    s.setRegister n (j.values.getD n 0) (j.wraps.getD n 0) (j.fracs.getD n 0)).put (k30HighestApparentPower (65 + sp))
      (j.speak.getD sp 0)

/-- A spoke's registers from a power-fail block over its base record. -/
def State.fromBlock (s : State) (sp : Nat) (j : JRecord) (b : PfSpoke) : State :=
  let t := s.fromJournal sp j
  let items := if b.rateA = b.rateB then (itemRegs b.rateA b.rateB).take 10 else itemRegs b.rateA b.rateB
  (t.each items.zipIdx fun t p =>
    let n := 24 * sp + p.1
    let x := j.wraps.getD n 0 * ccMod + j.values.getD n 0 + b.delta.getD p.2 0
    t.setRegister n (x % ccMod) (x / ccMod % 256) (b.frac.getD p.2 0)).put (k30HighestApparentPower (65 + sp)) b.speak

/-- Division rounded up. -/
def ceilDiv (a b : Nat) : Nat := (a + b - 1) / b

/-- Gap bound of a block restored from flash, and of a journal restoration, in mWh (R163, R164). -/
def gapFlash (speak : Nat) : Nat := ceilDiv (speak * 115) 36000000
def gapJournal (speak interval : Nat) : Nat := ceilDiv (speak * (interval * 60 + 10)) 3600

/-- The newest valid flash record and the newest valid journal record. -/
def State.flashRecord (s : State) (keyOk : Bool) : Option PfRecord :=
  (s.pf.flash.filter (s.pfFlashValid keyOk)).getLast?.map fun x => x.record
def State.newestJournal (s : State) (keyOk : Bool) : Option JRecord := (s.pf.journal.filter (s.journalValid keyOk)).getLast?

/-- The valid journal record with a sequence number. -/
def State.journalOf (s : State) (keyOk : Bool) (jseq : Nat) : Option JRecord :=
  (s.pf.journal.filter (s.journalValid keyOk)).find? fun j => j.jseq = jseq

/-- The record used and its source: 0 vault, 1 flash record. -/
def State.usedRecord (s : State) (vaultValid keyOk : Bool) : Option (PfRecord × Nat) :=
  match (if vaultValid then s.vaultRecord else none) with
  | some r => some (r, 0)
  | none => (s.flashRecord keyOk).map fun r => (r, 1)

/-- The block of a spoke in the record used, with its base, where it is usable: the base is valid and DOVF = 0. -/
def State.usableBlock (s : State) (sp : Nat) (used : Option (PfRecord × Nat)) (keyOk : Bool) : Option (PfSpoke × JRecord × Nat) :=
  match used with
  | some (r, src) =>
    match r.spokes[sp]?, s.journalOf keyOk r.jseq with
    | some b, some j => if b.dovf then none else some (b, j, src)
    | _, _ => none
  | none => none

/-- A spoke's registers and gap from the newest journal record. -/
def State.restoreJournal (s : State) (sp : Nat) (keyOk : Bool) : State :=
  match s.newestJournal keyOk with
  | some j => (s.fromJournal sp j).put (k30GapBound (65 + sp)) (gapJournal (j.speak.getD sp 0) j.interval)
  | none => s.put (k30GapBound (65 + sp)) 0

/-- The restoration of one spoke. -/
def State.restoreSpoke (s : State) (sp : Nat) (used : Option (PfRecord × Nat)) (keyOk : Bool) : State :=
  let t := match s.usableBlock sp used keyOk with
    | some (b, j, src) => (s.fromBlock sp j b).put (k30GapBound (65 + sp)) (if src = 1 then (gapFlash b.speak : Nat) else 0)
    | none => s.restoreJournal sp keyOk
  let t := if ((used.bind fun u => u.1.spokes[sp]?).map fun b => b.dovf).getD false then t.notice byDevice 0x0455 sp else t
  let gap : Nat := t.getN (k30GapBound (65 + sp))
  if 0 < gap then t.notice byDevice 0x0452 (sp * 2 ^ 40 + gap) else t

/-- The snapshot shadows from the newest record with trigger 5 (R163). -/
def State.restoreShadows (s : State) (keyOk : Bool) : State :=
  match (s.pf.journal.filter fun j => j.trigger = 5 && s.journalValid keyOk j).getLast? with
  | some j =>
    let t := s.each (registers s.variant) fun t i =>
      t.puts [(k0BSnapshotValue i, j.values.getD i 0), (k0BSnapshotWrapCount i, j.wraps.getD i 0)]
    t.puts [(k0BSnapshotTick, j.cc), (k0BSnapshotTime, j.time), (k0BSnapshotMC, j.mc), (k0BSnapshotSequence, j.snapSeq)]
  | none => s

/-- The time of the record restored: of the record used where a block of it is usable, else of the journal record. -/
def State.restoredTime (s : State) (used : Option (PfRecord × Nat)) (keyOk : Bool) : Nat :=
  match used with
  | some (r, _) =>
    if s.spokeList.any fun sp => (s.usableBlock sp used keyOk).isSome then r.time
    else ((s.newestJournal keyOk).map fun j => j.time).getD 0
  | none => ((s.newestJournal keyOk).map fun j => j.time).getD 0

/-- The base after the restoration: the newest journal record. The rates current since its latch are those of the record used
that rests on it, and the current one (R157). -/
def State.restoreBase (s : State) (used : Option (PfRecord × Nat)) (keyOk : Bool) : State :=
  match s.newestJournal keyOk with
  | some j =>
    let rates := match used with
      | some (r, _) => if r.jseq = j.jseq then (r.spokes.take 1).flatMap fun b => [b.rateA, b.rateB] else j.rates
      | none => j.rates
    { s.puts [(k30JournalSequence, j.jseq), (k30JournalTime, j.time)] with
      pf := { s.pf with base := some { j with rates := rates }, nextJseq := (j.jseq + 1) % 4294967296 } }
  | none => s

/-- R163: registers, gaps, sources, notices; then the shadows. `keyOk` says that the journal-integrity key could be derived. -/
def State.restoreEnergy (s : State) (used : Option (PfRecord × Nat)) (keyOk : Bool) : State :=
  let src := (used.map fun u => u.2).getD 2
  let t := s.each s.spokeList fun t sp => t.restoreSpoke sp used keyOk
  let t := t.puts [(k30RestorationSource, src), (k30LastCaptureTime, (s.restoredTime used keyOk : Nat)),
    (k30LastCause, ((used.map fun u => u.1.cause).getD 0 : Nat)), (k30RestorationFlags, if keyOk then 0 else 1)]
  let t := t.noticeOpen byDevice (if src = 0 then 0x0450 else if src = 1 then 0x0451 else 0x0453)
  let t := if keyOk then t else t.noticeOpen byDevice 0x0454
  (t.restoreBase used keyOk).restoreShadows keyOk

/-- A record of flash with its tag, CRC and commit word, in the scheme of R161 (R185, R433). -/
def FlashRec.bytes (r : FlashRec) : List Nat := bytesBE 4 r.seq ++ memberBytes r.data
def FlashRec.crcOf (r : FlashRec) : Nat := crc32 (r.bytes ++ bytesBE 8 r.tag)
def FlashRec.commitWord (r : FlashRec) : Nat := (packFields [(16, commitMarker), (32, r.seq), (16, 0)]).2
def State.signRec (s : State) (seq : Nat) (data : List (Nat × Int)) : FlashRec :=
  let r : FlashRec := { seq := seq, data := data }
  let r := { r with tag := s.journalTag r.bytes, root := s.getN k28RootGeneration }
  { r with crc := r.crcOf, commit := r.commitWord }

/-- Does a record of flash verify? -/
def State.recValid (s : State) (keyOk : Bool) (r : FlashRec) : Bool :=
  r.commit = r.commitWord && r.crc = r.crcOf && s.tagVerifies keyOk r.root r.tag r.bytes

/-- R165: both vault slots invalid, every flash record cancelled, the journal latches with trigger 6; the rate that boot selected has
been current since the base, also where it is the one of reset (R157). -/
def State.afterRestoration (s : State) : State :=
  let t := s.cancelPf
  (({ t with pf := { t.pf with slots := [{}, {}] } }).noteRate (t.getN k10CurrentRate)).journal 6

end Sys2Proof.Machine
end

