-- ==== Sys2Proof/Machine/Tandem.lean ====
section
/-! DEFINITION. Tandem (R317-R322, R328): the message, the copies received on the two networks, loss and site reaction. Both
networks are served by the core domain, so nothing is sent or received while it is reset (R322). Network 0 is CAN FD,
network 1 10BASE-T1S. -/

namespace Sys2Proof.Machine

def State.peer (s : State) (m : Nat) : Peer := s.peers.getD m {}
def State.modPeer (s : State) (m : Nat) (f : Peer → Peer) : State := { s with peers := s.peers.modify m f }

/-- The peers a hub supervises (R317). -/
def State.supervised (s : State) (m : Nat) : Bool := m < 16 && s.flag k1EEnable && bit (s.getN k1EPeerMask) m

def State.peerLost (s : State) (m : Nat) : Bool := s.getN (k1EPeerState (16 + m)) = 2

def State.anyLost (s : State) : Bool := (List.range 16).any fun m => s.supervised m && s.peerLost m

/-- Initial register of the message CRC on a network (R318). -/
def tandemInit (net : Nat) : Nat := if net = 0 then 0xFFFFFFFF else 0x3C5A0F96

/-- The DEMAND field: functions 0-3 from its highest bit, demanded with site propagation set (R318). -/
def State.demandField (s : State) : Nat :=
  (List.range 4).foldl (fun a f => a * 2 + (if s.fnState f ≠ 0 && s.flag (k1DSitePropagation f) then 1 else 0)) 0

/-- Bytes 0-27 of the message (R318). -/
def State.tandemBytes (s : State) (seq : Nat) : List Nat :=
  let state := (if s.getN k1DDeviceFaultCauses ≠ 0 then 32768 else 0) + (if s.getN k1DLeaseState ≠ 0 then 16384 else 0) +
    s.demandField * 1024 + (if s.anyLost then 512 else 0)
  let closed := maskOf (s.spokeList.filter fun sp => s.gateState sp = 2)
  [16 + s.getN k1EMemberNumber, 0] ++ bytesBE 2 (s.getN k1EGroupIdentity) ++ bytesBE 4 seq ++ bytesBE 6 s.cc ++
    bytesBE 2 state ++ bytesBE 3 closed ++ List.replicate 9 0

/-- The whole message on a network. -/
def tandemMessage (net : Nat) (b : List Nat) : List Byte := toBytes (b ++ bytesBE 4 (crc32From (tandemInit net) b))

/-- TANDEM_SEND (R319): at every tick with CC mod 80 = 0 one message goes out on both networks: on
controller A with PRIO 0, SERVICE 1Fh, DEST 0 and MEMBER as FRAG, and as a datagram on the tandem port. -/
def tandemSend (s : State) : State :=
  if s.flag k1EEnable && s.lease.fwUp && s.cc % 80 = 0 && s.tandemAt ≠ some s.cc then
    let seq := (s.getN k1ESequenceSent + 1) % 4294967296
    let t := { s.put k1ESequenceSent seq with tandemAt := some s.cc }
    let b := s.tandemBytes seq
    let ident := canIdent 0 0x1F 0 (s.getN (k04NodeID 1)) (s.getN k1EMemberNumber)
    (t.send (.canFrame 1 ident (tandemMessage 0 b))).send (.tandem (s.getN k1ETandemPort) (tandemMessage 1 b))
  else s

def execTandemSend (s : State) : Host.Outcome State Fault Refusal := .next (tandemSend s)

/-- The tandem state and the tandem cause of every spoke (R321). -/
def State.refreshTandem (s : State) : State :=
  let on := (s.getN k1ESiteReaction = 1 && s.anyLost) ||
    (List.range 16).any fun m => s.supervised m && (s.peer m).demand ≠ 0
  let t := s.put k1ETandemState (if !s.flag k1EEnable then 0 else if s.anyLost then 2 else 1)
  t.each t.spokeList fun t sp => t.setCause sp cTandem (on && bit (t.getN k1ETandemZone) sp)

/-- A peer enters loss with a notice (R320). -/
def State.losePeer (s : State) (m code : Nat) : State :=
  (((s.put (k1EPeerState (16 + m)) 2).modPeer m fun p => { p with run := 0 }).noticeOpen byDevice code).refreshTandem

/-- SEQ `a` is newer than `b` modulo 2^32 (R319). -/
def seqNewer (a b : Nat) : Bool := let d := (a + 4294967296 - b) % 4294967296; d ≠ 0 && d < 2147483648

/-- A SEQ is newer than the last accepted from a peer; from a peer of which none has been accepted any is. -/
def State.seqOk (s : State) (m seq : Nat) : Bool := !(s.peer m).accepted || seqNewer seq (s.getN (k1ELastSEQ (16 + m)))

/-- A SEQ of a peer is dealt with: it is the last accepted one unless a newer one has been, and its copies go. -/
def State.acceptSeq (s : State) (m seq : Nat) : State :=
  (if s.seqOk m seq then s.put (k1ELastSEQ (16 + m)) seq else s).modPeer m fun p =>
    { p with accepted := true, copies := p.copies.filter fun c => c.2.1 ≠ seq }

def State.compareWindow (s : State) : Nat := msTicks (s.getN k1ECompareWindow)

/-- Pairs in a row after which a peer in loss is valid again (R320). -/
def pairsToValid : Nat := 10

/-- A matched pair (R320, R321): after ten in a row a peer in loss is valid; the DEMAND of a valid peer follows the pair. -/
def State.matchedPair (s : State) (m seq : Nat) (b : List Nat) : State :=
  let state := numBE ((b.drop 14).take 2)
  let t := s.puts [(k1ELastSEQ (16 + m), seq), (k1ELastState (16 + m), state)]
  let run := (s.peer m).run + 1
  let back := s.peerLost m && pairsToValid ≤ run
  let t := if back then (t.put (k1EPeerState (16 + m)) 1).noticeOpen byDevice 0x0A33 else t
  let t := t.modPeer m fun p =>
    { p with accepted := true, run := run, lastPair := s.cc, copies := p.copies.filter fun c => c.2.1 ≠ seq,
             demand := if t.peerLost m then p.demand else field state 13 10 }
  t.refreshTandem

/-- TANDEM_COPY (R319-R321): a copy arrives on a network. -/
def tandemCopy (net : Nat) (msg : List Byte) (s : State) : State :=
  let l := natBytes msg
  let b := l.take 28
  let m := l.headD 0 % 16
  let seq := numBE ((b.drop 4).take 4)
  if !s.flag k1EEnable || !s.lease.fwUp || l.length ≠ 32 then s
  else if numBE (l.drop 28) ≠ crc32From (tandemInit net) b then s.count (k1ECRCFailures (16 + m))
  else if numBE ((b.drop 2).take 2) ≠ s.getN k1EGroupIdentity || !s.supervised m ||
      !s.seqOk m seq then s
  else
    let dem := field (numBE ((b.drop 14).take 2)) 13 10
    let t := if dem ≠ 0 then
        ((s.modPeer m fun p => { p with demand := dem }).notice byDevice 0x0A34 (m * 256 + dem)).refreshTandem
      else s
    match (t.peer m).copies.find? fun c => c.1 ≠ net && c.2.1 = seq && s.since c.2.2.1 ≤ s.compareWindow with
    | some c =>
      if natBytes c.2.2.2 = b then t.matchedPair m seq b
      else
        ((t.acceptSeq m seq).count (k1EMismatches (16 + m))).losePeer m 0x0A30
    | none =>
      if (t.peer m).copies.any fun c => c.1 = net && c.2.1 = seq then t
      else t.modPeer m fun p => { p with copies := p.copies ++ [(net, seq, t.cc, toBytes b)] }

def execTandemCopy (net : Nat) (msg : List Byte) (s : State) : Host.Outcome State Fault Refusal :=
  .next (tandemCopy net msg s)

/-- MISSING_TWIN (R320): the twin of a copy has not arrived within the compare window; it is late from now on. -/
def missingTwin (m seq : Nat) (s : State) : State :=
  match (s.peer m).copies.find? fun c => c.2.1 = seq with
  | some c =>
    if s.supervised m && s.compareWindow < s.since c.2.2.1 then
      ((s.acceptSeq m seq).count (k1EMissingTwins (16 + m))).losePeer m 0x0A31
    else s
  | none => s

def execMissingTwin (m seq : Nat) (s : State) : Host.Outcome State Fault Refusal := .next (missingTwin m seq s)

/-- TANDEM_SILENCE (R320): no matched pair within 10 ms and the compare window of the last one. -/
def tandemSilence (m : Nat) (s : State) : State :=
  if s.supervised m && s.getN (k1EPeerState (16 + m)) = 1 && 80 + s.compareWindow < s.since (s.peer m).lastPair then
    s.losePeer m 0x0A32
  else s

def execTandemSilence (m : Nat) (s : State) : Host.Outcome State Fault Refusal := .next (tandemSilence m s)

/-- Every supervised peer starts in loss (R317); its last DEMAND stands (R321), and so does its last SEQ. -/
def State.restartTandem (s : State) : State :=
  let t := s.each (List.range 16) fun s m =>
    (s.put (k1EPeerState (16 + m)) (if s.supervised m then 2 else 0)).modPeer m fun p => { demand := p.demand, accepted := p.accepted }
  t.refreshTandem

/-- The chapter rule on writes of class 1Eh (R317, R328). -/
def check1E (s : State) (m : Nat) (v : Int) : Nat :=
  if m = 3 && bit v.toNat (s.getN k1EMemberNumber) then stOutOfRange
  else if m = 7 && v = s.get k04KODPort then stOutOfRange
  else stOk

/-- The effect of a write of class 1Eh. -/
def apply1E (s : State) (k i m : Nat) (v : Int) : State :=
  let t := s.put k v
  if i = 0 && (m = 0 || m = 3) && s.get k ≠ v then t.restartTandem
  else if i = 0 && m ≤ 6 then t.refreshTandem
  else t

end Sys2Proof.Machine
end

