-- ==== Sys2Proof/Machine/Update.lean ====
section
/-! DEFINITION. The bulk window (R94-R97), region images under verification (R435-R438, R444), commits (R445), firmware trial and
fallback (R447, R448), the setting log (R434) and the flash operations (R430). Regions are FW, CFG, TARIFF, AUTH, PEDAL and
ASSETS. -/

namespace Sys2Proof.Machine

/-! ### Region states (R94, R443) -/

def rIdle : Nat := 0
def rReceiving : Nat := 1
def rVerifying : Nat := 2
def rStaged : Nat := 3
def rTrial : Nat := 4
def rCommitted : Nat := 5

/-- Owner number of Chainline. -/
def chainlineOwner : Nat := 255

/-- A word of erased flash. -/
def erased : Nat := ccMod - 1

/-- Words of staging (R96). -/
def stagingWords : Nat := 32768

def State.regionState (s : State) (r : Nat) : Nat := s.getN (k0FState r)
def State.regionOwner (s : State) (r : Nat) : Nat := s.getN (k0FOwner r)

/-- The declared size and words of the slot an update writes. -/
def Region.setSlot (x : Region) (slot : Nat) (l : List (Nat × Nat)) (size : Nat) : Region :=
  if slot = 0 then { x with slotA := l, sizeA := size } else { x with slotB := l, sizeB := size }

def Region.slotList (x : Region) (slot : Nat) : List (Nat × Nat) := if slot = 0 then x.slotA else x.slotB

/-- The other slot holds nothing usable. -/
def State.dropOther (s : State) (r : Nat) : State := s.puts [(k31OtherSlot (16 + r), 0), (k31OtherImage (16 + r), 0)]

/-- A region opens (R95): the other slot is given up (R443). -/
def State.openRegion (s : State) (r owner size : Nat) : State :=
  let t := s.puts [(k0FState r, rReceiving), (k0FOwner r, owner), (k0FDeclaredSize r, size), (k0FOffset r, 0),
    (k0FFlushMark r, 0), (k0FHighWater r, 0)]
  (t.dropOther r).modRegion r fun x =>
    ({ x with staged := [], received := [], chlId := 0, committing := false, recorded := false }).setSlot (s.otherSlot r) [] size

/-- The update of a region ends with nothing staged. -/
def State.regionIdle (s : State) (r result : Nat) : State :=
  ((s.puts [(k0FState r, rIdle), (k0FOwner r, 0), (k0FResult r, result)]).dropOther r).modRegion r fun x =>
    { x with staged := [], received := [], chlId := 0, committing := false, recorded := false }

/-- An abort (R97). -/
def State.abortRegion (s : State) (r : Nat) : State := (s.regionIdle r stOk).noticeOpen byDevice 0x0307

/-- The owning session ends while its region is RECEIVING (R97). -/
def State.ownerEnds (s : State) (sid : Nat) : State :=
  s.each (List.range 6) fun s r =>
    if s.regionState r = rReceiving && s.regionOwner r = sid then s.abortRegion r else s

/-! ### Ends of a session (R85, R89) -/

/-- A SID becomes free. -/
def State.freeSid (s : State) (sid : Nat) : State :=
  (s.puts [(k04SessionState (15 + sid), 0), (k04SessionRole (15 + sid), 0), (k04Endpoint (15 + sid), 0)]).modSession sid
    fun _ => {}

/-- A session ends with a reason: its subscriptions are deleted, its updates in RECEIVING aborted (R97), notice 0305h (SID in
bits 15-8, reason in bits 7-0, log entry 40), and no answer is owed it. A pending one is only freed. -/
def State.endKod (s : State) (sid reason : Nat) : State :=
  if s.sessionState sid = 2 then
    let t := { s with kod := { s.kod with
      subs := s.kod.subs.map fun (x : Option Subscription) => x.filter fun y => y.sid ≠ sid,
      held := s.kod.held.filter fun (w : PendingWrite) => w.row || w.req.sid ≠ sid } }
    ((t.ownerEnds sid).notice byDevice 0x0305 (sid * 256 + reason)).freeSid sid
  else if s.sessionState sid = 1 then s.freeSid sid
  else s

/-- Is an endpoint reached over interface `i` of class 04h: 1 = controller A, 2 = controller B, 3 = 10BASE-T1S? -/
def onInterface (i : Nat) : Option Endpoint → Bool
  | some (.can c _) => c = i
  | some (.udp _ _) => i = 3
  | _ => false

/-- Every session bound to an interface ends (R72). -/
def State.endBound (s : State) (i : Nat) : State :=
  s.each (List.range' 1 32) fun s sid => if onInterface i (s.session sid).ep then s.endKod sid 3 else s

/-- A reset drops every update in progress and reports each by notice 0F15h (R446). The session that owned a RECEIVING region ends
with the reset as well (R89 reason 4), but the update is then dropped by R446 and not aborted by R97: notice 0307h is not recorded
beside 0F15h (DESIGN CHOICE, log entry 49). -/
def State.dropUpdates (s : State) : State :=
  s.each (List.range 6) fun s r =>
    if 1 ≤ s.regionState r && s.regionState r ≤ 3 then (s.regionIdle r (s.getN (k0FResult r))).notice byDevice 0x0F15 r else s

/-! ### The window (R95, R96) -/

/-- The check of a command member. The owner of an update is held by its SID (0Fh/r/2): while a region is VERIFYING or STAGED it
keeps the SID of a session that has ended, and a later session with that SID passes as the owner for an abort (DESIGN CHOICE, log
entry 49). A finish by a session that does not own the update is answered as R96 answers its data
writes: the rule names no status (DESIGN CHOICE, log entry 49). -/
def checkRegionCommand (sid r : Nat) (v : Int) (s : State) : Nat :=
  let st := s.regionState r
  if v = 1 then
    if 1 ≤ st && st ≤ 4 then stRegionBusy
    else if s.getN (k0FDeclaredSize r) = 0 || s.regionLimit r < s.getN (k0FDeclaredSize r) then stOutOfRange
    else stOk
  else if v = 2 then
    if st ≠ rReceiving then stBadSequence
    else if s.regionOwner r ≠ sid then stRegionBusy
    else if s.getN (k0FHighWater r) < s.getN (k0FDeclaredSize r) then stBadSequence
    else stOk
  else if v = 3 then
    if st ≠ rStaged || (s.region r).committing then stBadSequence
    else if r = 0 && (List.range' 1 5).any (fun q => s.regionState q = rVerifying) then stNotNow
    else stOk
  else if v = 4 then
    if st < 1 || 3 < st then stBadSequence
    else if s.regionOwner r = sid || Access.installer.okFor (s.roleOf sid) then stOk
    else stDenied
  else stOutOfRange

/-- The finish (R96): the region is VERIFYING. -/
def State.finishRegion (s : State) (r : Nat) : State :=
  (s.put (k0FState r) rVerifying).modRegion r fun x => { x with sealOpened := s.sealOpen }

/-- A commit queues its boot-header record (R445). -/
def State.commitRegion (s : State) (r : Nat) : State :=
  ((s.modRegion r fun x => { x with committing := true }).put (k0FResult r) stOk).flashOp (.header r)

/-- The effect of a command member. -/
def applyRegionCommand (sid r : Nat) (v : Int) (s : State) : State :=
  if v = 1 then s.openRegion r sid (s.getN (k0FDeclaredSize r))
  else if v = 2 then s.finishRegion r
  else if v = 3 then s.commitRegion r
  else s.abortRegion r

def execBulkOpen (sid r : Nat) (s : State) : Host.Outcome State Fault Refusal :=
  .next (s.writeRow sid (k0FCommand r) 1 (checkRegionCommand sid r 1) (applyRegionCommand sid r 1))
def execBulkFinish (sid r : Nat) (s : State) : Host.Outcome State Fault Refusal :=
  .next (s.writeRow sid (k0FCommand r) 2 (checkRegionCommand sid r 2) (applyRegionCommand sid r 2))
def execBulkCommit (sid r : Nat) (s : State) : Host.Outcome State Fault Refusal :=
  .next (s.writeRow sid (k0FCommand r) 3 (checkRegionCommand sid r 3) (applyRegionCommand sid r 3))
def execBulkAbort (sid r : Nat) (s : State) : Host.Outcome State Fault Refusal :=
  .next (s.writeRow sid (k0FCommand r) 4 (checkRegionCommand sid r 4) (applyRegionCommand sid r 4))

/-- Words of all regions in the one staging area (R54, R96). -/
def State.stagedWords (s : State) : Nat := (s.kod.regions.map fun x => x.staged.length).sum

/-- The check of a data write. One at an offset that a flush has left below the flush mark passes; its word is dropped at the
next flush, for its place is programmed already (DESIGN CHOICE, log entry 49). -/
def checkData (sid r : Nat) (s : State) : Nat :=
  if s.regionOwner r ≠ sid && s.regionOwner r ≠ 0 then stRegionBusy
  else if s.regionState r ≠ rReceiving then stBadSequence
  else if s.getN (k0FOffset r) = s.getN (k0FDeclaredSize r) then stOutOfRange
  else if stagingWords ≤ s.stagedWords then stBusy
  else stOk

/-- A word enters staging at an offset; words skipped since the high-water hold FFFFFFFFFFFFh (R96). -/
def State.stageWord (s : State) (r o w : Nat) : State :=
  let hw := s.getN (k0FHighWater r)
  let t := s.modRegion r fun x =>
    { x with staged := storeInsert (x.staged ++ (List.range' hw (o - hw)).map fun i => (i, erased)) o w }
  if hw ≤ o then t.put (k0FHighWater r) (o + 1 : Nat) else t

/-- A data write. -/
def applyData (r : Nat) (w : Int) (s : State) : State :=
  let o := s.getN (k0FOffset r)
  (s.stageWord r o (pattern 48 w)).put (k0FOffset r) (o + 1 : Nat)

/-- DATA (R94, R96). -/
def execBulkData (sid r word : Nat) (s : State) : Host.Outcome State Fault Refusal :=
  .next (s.writeRow sid (k0FData r) word (checkData sid r) (applyData r word))

/-- The word a data read returns (R96): staged, below the flush mark as programmed, or, never written, erased. -/
def State.regionWord (s : State) (r o : Nat) : Nat :=
  match (s.region r).staged.find? fun p => p.1 = o with
  | some p => p.2
  | none => if o < s.getN (k0FFlushMark r) then storeRead 0 ((s.region r).slotList (s.otherSlot r)) o else erased

/-- The check of a data read; outside RECEIVING there is no update to read from. -/
def State.checkDataRead (s : State) (r : Nat) : Nat :=
  if s.regionState r ≠ rReceiving then stBadSequence
  else if s.getN (k0FOffset r) = s.getN (k0FDeclaredSize r) then stOutOfRange else stOk

/-- A data read advances the offset. -/
def State.readData (s : State) (r : Nat) : State × Nat :=
  let o := s.getN (k0FOffset r)
  (s.put (k0FOffset r) (o + 1 : Nat), s.regionWord r o)

/-- The check of an offset write: R96 bounds the value and asks nothing of the session, so any session with the opening role may
write it, in every state of the region (DESIGN CHOICE, log entry 49). -/
def checkOffset (r : Nat) (v : Int) (s : State) : Nat :=
  if v < s.get (k0FFlushMark r) || s.get (k0FDeclaredSize r) < v then stOutOfRange else stOk

/-- OFFSET (R96). -/
def execBulkOffset (sid r off : Nat) (s : State) : Host.Outcome State Fault Refusal :=
  .next (s.writeRow sid (k0FOffset r) off (checkOffset r off) fun s => s.put (k0FOffset r) off)

def check0F (sid : Nat) (s : State) (r m : Nat) (v : Int) : Nat :=
  if m = 0 then checkRegionCommand sid r v s
  else if m = 4 then checkOffset r v s
  else if m = 5 then checkData sid r s
  else if 1 ≤ s.regionState r && s.regionState r ≤ 4 then stRegionBusy else stOk

def apply0F (sid : Nat) (s : State) (k r m : Nat) (v : Int) : State :=
  if m = 0 then applyRegionCommand sid r v s else if m = 5 then applyData r v s else s.put k v

/-- Staged words in offset order from the flush mark up to the first gap. -/
def flushRun (mark : Nat) : List (Nat × Nat) → List (Nat × Nat)
  | [] => []
  | (o, w) :: t => if o = mark then (o, w) :: flushRun (mark + 1) t else []

/-- Staged words are programmed (R443). -/
def State.flushRegion (s : State) (r : Nat) : State :=
  let x := s.region r
  let mark := s.getN (k0FFlushMark r)
  let run := flushRun mark (x.staged.dropWhile fun p => p.1 < mark)
  let slot := s.otherSlot r
  (s.modRegion r fun x =>
    ({ x with staged := x.staged.filter fun p => mark + run.length ≤ p.1 }).setSlot slot
      (run.foldl (fun (l : List (Nat × Nat)) (p : Nat × Nat) => storeWrite 0 l p.1 p.2) (x.slotList slot)) (s.getN (k0FDeclaredSize r))).put
    (k0FFlushMark r) (mark + run.length : Nat)

/-- STAGING_FLUSH (R443): not while a power-fail decision stands (R446). -/
def stagingFlush (r : Nat) (s : State) : State :=
  if s.regionState r = rReceiving && !s.pf.active then s.flushRegion r else s

def execStagingFlush (r : Nat) (s : State) : Host.Outcome State Fault Refusal := .next (stagingFlush r s)

/-! ### CFG images (R437) -/

/-- A section of a directory: offset and length of the entry of a type. -/
def sectionOf (p : List Nat) (ty : Nat) : Option (Nat × Nat) :=
  match ([1, 2, 3].filter fun i => field (p.getD i 0) 47 44 = ty) with
  | [i] => some (field (p.getD i 0) 43 22, field (p.getD i 0) 21 0)
  | _ => none

/-- The words of a section. -/
def sectionWords (p : List Nat) (ty : Nat) : List Nat :=
  match sectionOf p ty with
  | some (o, n) => (p.drop o).take n
  | none => []

/-- An entry of a section: index of its word, address, type code, and its value when its bytes are whole. -/
structure CfgEntry where
  index : Nat
  addr : Nat
  type : Nat
  value : Option Int
deriving DecidableEq, Repr

/-- The entries of a section, `base` being the payload index of its first word. -/
def cfgEntries : Nat → Nat → List Nat → List CfgEntry
  | 0, _, _ => []
  | _, _, [] => []
  | fuel + 1, base, w :: t =>
    let n := field w 15 0
    let k := (n + 5) / 6
    let bytes := ((t.take k).flatMap wordBytes).take n
    let v := match typeOfCode (field w 23 16) with
      | some ty => match decodeValue ty bytes with
        | some (v, []) => if bytes.length = n then some v else none
        | _ => none
      | none => none
    { index := base, addr := field w 47 24, type := field w 23 16, value := v } :: cfgEntries fuel (base + 1 + k) (t.drop k)

/-- The entries of both value sections. -/
def settingEntries (p : List Nat) : List CfgEntry :=
  let f := fun (ty : Nat) => let w := sectionWords p ty; cfgEntries w.length ((sectionOf p ty).getD (0, 0)).1 w
  f 2 ++ f 3

/-- The value an image gives an object. -/
def entryValue (v : Variant) (l : List CfgEntry) (k : Nat) : Int :=
  ((l.filter fun e => e.addr = k).getLast?.bind CfgEntry.value).getD (defaultOf v k)

/-- Rates in kbit/s by code. -/
def nominalKbit (v : Int) : Nat := [125, 250, 500, 1000].getD v.toNat 0
def dataKbit (v : Int) : Nat := [1000, 2000, 4000, 5000].getD v.toNat 0

/-- The rules on a setting that a write of it is held to beyond its range, as an image that lists it is (R437): those that hang on
other settings of the same image, on an instance or on the variant. The capture length in steps of 8 and the post-trigger time
within it (R55, R57), queue thresholds (R67), CAN rates (R72), sensor types and gains a channel may have (R114, R125), an enabled
group for every spoke and the reference (R119), the accumulation modes a register accepts (R137), the spokes of a pulse output and of
an aerial (R149, R378, R5), purses (R198), the weld-sense thresholds (R217), load types and nominal currents (R282), the trip curve
(R308), tandem members and port (R328), the sources of the recorder (R404), the panel's width (R427), the BIST shares and outcomes
(R478). -/
def State.imageRule (s : State) (val : Nat → Int) (k : Nat) (v : Int) : Bool :=
  let i := keyInst k
  let m := keyMember k
  let num := fun (k : Nat) => (val k).toNat
  match keyClass k with
  | 0x03 =>
    if i = 0 && m = 0 then v % 8 = 0
    else if i = 0 && m = 14 then v ≤ val k03CaptureLength
    else if 64 ≤ i && i ≤ 71 && m ≤ 1 then thresholdsOk (i - 64) (val (k03START i)) (val (k03STOP i))
    else true
  | 0x04 => !((i = 1 || i = 2) && (m = 1 || m = 2)) || nominalKbit (val (k04NominalRate i)) ≤ dataKbit (val (k04DataRate i))
  | 0x08 => if i < 152 && m = 0 then typePermitted i v.toNat else !(m = 1 && chanKind i = 2) || v = 0
  | 0x09 => !(m = 0 && (i = 8 || (32 ≤ i && i ≤ 55))) || (v < 8 && val (k09GroupEnable v.toNat) ≠ 0)
  | 0x0B => !(i < 24 * 24 && m = 2 && 2 ≤ i % 24 && i % 24 ≤ 5) || v = 0
  | 0x0C => !(m = 1) || v < s.spokeCount
  | 0x12 => !(i = 64 && m = 2) || v ≤ 255 || v = 65535
  | 0x18 => !(m = 15 || m = 16) || val (k18DeadThreshold i) + 82 ≤ val (k18LiveThreshold i)
  | 0x1C => if m = 4 then loadPermitted i v.toNat else !(m = 5) || v ≤ ratedCurrent i
  | 0x1D => !(i = 257) || curveOk ((List.range 10).map fun j => num (key 0x1D 257 j))
  | 0x1E =>
    if m = 3 then !bit v.toNat (num k1EMemberNumber) else !(m = 7) || v ≠ val k04KODPort
  | 0x21 => !(16 ≤ i && i ≤ 39 && m = 12) || v = 255 || v < s.spokeCount
  | 0x24 => !(m = 1) || v % 8 = 0
  | 0x29 => !(256 ≤ i && m = 38) || s.checkSource v = stOk
  | 0x2A => !(256 ≤ i && m = 7) || s.checkSource v = stOk
  | 0x38 =>
    if m = 1 then (((List.range 5).map fun j => num (k38Share (2 + j))).sum) ≤ 16 else !(m = 3) || i ≤ 2 || v = 0
  | _ => true

/-- Is an entry valid (R437): existence, type and range, and the section it stands in? `val` are the values of the image. -/
def State.entryOk (s : State) (val : Nat → Int) (seal_ : Bool) (e : CfgEntry) : Bool :=
  match s.object e.addr, e.value with
  | some r, some v =>
    r.ty.code = e.type && rangeOk r v && r.kind = .setting && s.imageRule val e.addr v &&
      isSealedSetting (keyClass e.addr) (keyInst e.addr) (keyMember e.addr) = seal_
  | _, _ => false

/-- Check 5 of R444: the payload index of the first failure. -/
def State.cfgCheck (s : State) (p : List Nat) : Option Nat :=
  let h := p.getD 0 0
  if field h 47 24 ≠ 0x434647 || field h 23 16 ≠ 1 || field h 15 0 ≠ 0 then some 0
  else match [1, 2, 3].find? fun ty => (sectionOf p ty).isNone with
  | some ty => some ty
  | none => match [1, 2, 3].find? fun i => p.length < field (p.getD i 0) 43 22 + field (p.getD i 0) 21 0 with
  | some i => some i
  | none =>
    let f := fun (ty : Nat) =>
      let w := sectionWords p ty
      (cfgEntries w.length ((sectionOf p ty).getD (0, 0)).1 w).find? fun e =>
        !s.entryOk (entryValue s.variant (settingEntries p)) (ty = 3) e
    ((f 2).orElse fun _ => f 3).map CfgEntry.index

/-- Sensor types and capture length an image gives. -/
def cfgTypes (v : Variant) (p : List Nat) : Nat → Nat := fun n => (entryValue v (settingEntries p) (k08SensorType n)).toNat
def cfgCapture (v : Variant) (p : List Nat) : Nat := (entryValue v (settingEntries p) k03CaptureLength).toNat

/-- Admission of the plan of a CFG image (R38) with the sensor types `types` as the running ones (R39). -/
def State.planWith (s : State) (types : Nat → Nat) (p : List Nat) : Option PlanRefusal :=
  planRefusal s.variant types ((sectionOf p 1).getD (0, 0)).2 (sectionWords p 1)

/-- The first of engines 0-3 whose computed worst case the image's own sensor types would raise above its budget: the values of
the image are a configuration write too, so an image whose own types exceed the budget that its plan would have is refused with
NO_FIT, KIND 4, although every check of R38 passes with the running types (R39; DESIGN CHOICE, log entry 47). -/
def State.imageFit (s : State) (p : List Nat) : Option PlanRefusal :=
  let types := cfgTypes s.variant p
  ((planEngines (sectionWords p 1)).find? fun w => entEngine w ≤ 3 &&
    engineBudget s.variant s.typeOf w < computedCost s.variant types (entEngine w)).map fun w =>
      ⟨stNoFit, 4, entEngine w, computedCost s.variant types (entEngine w)⟩

/-- Admission of the plan of a CFG image while another runs. -/
def State.cfgPlan (s : State) (p : List Nat) : Option PlanRefusal :=
  (s.planWith s.typeOf p).orElse fun _ => s.imageFit p

/-- A region load gives every setting its default and then the values listed (R104); what follows from them follows. -/
def State.loadSettings (s : State) (vals : List (Nat × Int)) : State :=
  let old := (s.obj.filter fun p => isSetting p.1 && p.1 ≠ k03CaptureLength).map Prod.fst
  let t := s.each old State.clear
  let t := t.puts (vals.filter fun p => p.1 ≠ k03CaptureLength)
  let t := t.each (List.range 152) fun t n =>
    let t := if t.get (key 0x08 n 3) = s.get (key 0x08 n 3) then t else t.modChan n fun c => { c with y := 0 }
    if t.typeOf n = s.typeOf n then t
    else (t.modChan n fun c => { c with y := 0, ring := [] }).puts [(k08ChannelState n, if t.typeOf n = 0 then 0 else 1),
      (k08RawMean n, 0)]
  let t := (t.assignMasks.showPurses).each (List.range 24) State.showAerial
  t.put k0DCalibrationChecksum t.calChecksum

/-- The settings of a committed image apply while the device meters (R139, R119, R115): the segments of every spoke whose group or
accumulation modes change close before, the coil integrators of a spoke that moves restart, the residue of a pulse output
whose spoke, quantity or constant changes is 0 (R144), and a new reference group is noted (R329). A changed filter length,
trip curve, zone, tandem setting or definition of the recorder acts as its write does (R209, R303, R308, R317, R404). -/
def State.commitSettings (s : State) (vals : List (Nat × Int)) : State :=
  let u := s.loadSettings vals
  let moved := s.spokeList.filter fun sp => s.get (k09SpokeGroup (32 + sp)) ≠ u.get (k09SpokeGroup (32 + sp))
  let other := s.spokeList.filter fun sp =>
    moved.contains sp || (List.range' (24 * sp) 24).any fun r => s.get (key 0x0B r 2) ≠ u.get (key 0x0B r 2)
  let t := (s.each other State.closeSegment).loadSettings vals
  let t := t.each moved fun t sp =>
    (t.restartIntegrators sp).setCause sp cEarth (t.group (t.getN (k09SpokeGroup (32 + sp)))).earth
  let t := t.each ((List.range 8).filter fun g => !s.groupOn g && t.groupOn g) State.startGroup
  let t := t.each ((List.range 4).filter fun po => [1, 2, 3].any fun m => s.get (key 0x0C po m) ≠ t.get (key 0x0C po m)) fun t po =>
    t.put (k0CResidue po) 0
  let new := fun (k : Nat) => s.get k ≠ t.get k
  let t := t.each ((t.spokeList).filter fun sp => new (k18StateFilter sp)) fun t sp =>
    t.modPilot sp fun p => { p with candRun := 0, dioRun := 0 }
  let t := if (List.range 10).any fun j => new (key 0x1D 257 j) then t.restartCurve else t
  let t := t.each ((List.range 4).filter fun f => t.fnState f ≠ 0) State.zoneCause
  let t := if new k1EEnable || new k1EPeerMask then t.restartTandem
    else if (List.range 7).any fun m => new (key 0x1E 0 m) then t.refreshTandem else t
  let t := t.each ((List.range' 256 768).filter fun h => (List.range' 38 4).any fun m => new (key 0x29 h m)) fun t h =>
    t.clearHist byDevice h
  let t := t.each ((List.range' 256 256).filter fun x => new (k2ASource x) || new (k2APeriod x)) fun t x => t.clearPair byDevice x
  let t := t.each ((t.switchList).filter fun n => new (key 0x1C n 9)) fun t n => t.modSwitch n fun w => { w with warned := false }
  if s.get k09ReferenceGroup = t.get k09ReferenceGroup then t
  else { t with chainline := { t.chainline with refChanged := true } }

/-- The values of an image as pairs. -/
def entryPairs (l : List CfgEntry) : List (Nat × Int) := l.filterMap fun e => e.value.map fun v => (e.addr, v)

/-! ### ASSETS images (R418, R419, R438) -/

def assetCount (p : List Nat) : Nat := field (p.getD 0 0) 15 8
def assetKind (p : List Nat) (i : Nat) : Nat := field (p.getD (1 + i) 0) 47 44
def assetWords (p : List Nat) (i : Nat) : List Nat :=
  (p.drop (field (p.getD (1 + i) 0) 43 22)).take (field (p.getD (1 + i) 0) 21 0)

/-- The waveform table of an ASSETS payload. -/
def waveTable (p : List Nat) : List Nat :=
  match (List.range (assetCount p)).find? fun i => assetKind p i = 1 with
  | some i => assetWords p i
  | none => []

/-- Fields of a waveform table (R418). -/
def wtTemps (w : List Nat) : Nat := field (w.getD 0 0) 15 12
def wtModes (w : List Nat) : Nat := field (w.getD 0 0) 11 8
def wtFrame (w : List Nat) : Nat := field (w.getD 1 0) 47 32
def wtId (w : List Nat) : Nat := field (w.getD 1 0) 31 0
def wtLow (w : List Nat) (t : Nat) : Int := signed 8 (field (w.getD (2 + t) 0) 47 40)
def wtHigh (w : List Nat) (t : Nat) : Int := signed 8 (field (w.getD (2 + t) 0) 39 32)
def wtDir (w : List Nat) (t m : Nat) : Nat := w.getD (field (w.getD (2 + t) 0) 31 8 + m) 0
def wtPassCount (d : Nat) : Nat := field d 47 44
def wtPasses (w : List Nat) (d : Nat) : List Nat := (w.drop (field d 43 20)).take (wtPassCount d)

/-- Is a pass word in range? Mode 0 clears whatever the data (R419). -/
def passOk (m w : Nat) : Bool :=
  1 ≤ field w 44 37 && field w 36 35 ≤ 2 && field w 34 33 ≤ 2 && field w 32 0 = 0 && (m ≠ 0 || bit w 47)

/-- The checks of R418 and R419. -/
def waveOk (w : List Nat) : Bool :=
  let last := w.length - 1
  let h := w.getD 0 0
  let temps := List.range (wtTemps w)
  field h 47 24 = 0x575654 && field h 23 16 = 1 && w.getD last 0 = crc32 ((w.take last).flatMap wordBytes) &&
    1 ≤ wtTemps w && wtTemps w ≤ 8 && 1 ≤ wtModes w && wtModes w ≤ 3 && field h 7 0 = 0 &&
    40 ≤ wtFrame w && wtFrame w ≤ 400 && 1 ≤ wtId w &&
    temps.all (fun t =>
      -40 ≤ wtLow w t && wtLow w t ≤ wtHigh w t && wtHigh w t ≤ 85 && field (w.getD (2 + t) 0) 7 0 = 0 &&
      (List.range t).all (fun u => wtHigh w t < wtLow w u || wtHigh w u < wtLow w t) &&
      (List.range (wtModes w)).all fun m =>
        let d := wtDir w t m
        1 ≤ wtPassCount d && field d 19 0 = 0 && (wtPasses w d).length = wtPassCount d &&
          field (w.getD (2 + t) 0) 31 8 + m < last && (wtPasses w d).all (passOk m))

/-- Check 8 of R444 for ASSETS: the payload index of the first failure. -/
def assetsCheck (p : List Nat) : Option Nat :=
  let h := p.getD 0 0
  let n := assetCount p
  let is := List.range n
  if field h 47 24 ≠ 0x415354 || field h 23 16 ≠ 1 || n = 0 || 16 < n || field h 7 0 ≠ 0 then some 0
  else match is.find? fun i =>
      !(assetKind p i = 1 || assetKind p i = 2) || p.length < field (p.getD (1 + i) 0) 43 22 + field (p.getD (1 + i) 0) 21 0 with
  | some i => some (1 + i)
  | none =>
    if 1 < (is.filter fun i => assetKind p i = 1).length || 8 < (is.filter fun i => assetKind p i = 2).length then some 0
    else (is.find? fun i =>
      if assetKind p i = 1 then !waveOk (assetWords p i)
      else
        let w := assetWords p i
        let n := field (w.getD 0 0) 47 32
        !(n ≤ 6 * (w.length - 1) && Config.rootOk (((w.drop 1).flatMap wordBytes).take n))).map fun i => field (p.getD (1 + i) 0) 43 22

/-! ### Verification (R444) -/

/-- The owner key as its 97 bytes. -/
def State.ownerBytes (s : State) : List Nat := blkBytes (s.get k28OwnerKey)

/-- Is the key of an image accepted (R436)? -/
def State.keyAccepted (s : State) (r : Nat) (w : List Nat) : Bool :=
  let b := ((w.drop 20).take 17).flatMap wordBytes
  let k := b.take 97
  (b.drop 97).all (· = 0) &&
    (if r ≠ 0 && s.flag k28OwnerKeyProgrammed then k = s.ownerBytes else Config.sha384 k = Config.h0)

/-- Programmed steps of the anti-rollback ratchet at which it is used up (R107, R397). -/
def ratchetSteps : Nat := 64

/-- Checks 1 to 4: status and word index of the first failure. A firmware image whose security version lies below the programmed
steps fails, and so does one that would need a step beyond the 64th (R107, R397). -/
def State.headCheck (s : State) (r size : Nat) (w : List Nat) : Option (Nat × Nat) :=
  let h := w.getD 0 0
  if field h 47 24 ≠ 0x42584D || field h 23 16 ≠ 1 || field h 15 8 ≠ r then some (stIntegrity, 0)
  else if headWords + field (w.getD 2 0) 47 16 ≠ size then some (stIntegrity, 2)
  else if !s.cryptoOk || !s.keyAccepted r w then some (stIntegrity, 20)
  else if !Config.signatureOk w then some (stIntegrity, 4)
  else if r = 0 && (imageSvn w < s.getN k28AntiRollbackCount || ratchetSteps < imageSvn w) then some (stIntegrity, 1)
  else none

/-- The notice of a region's own check. -/
def regionNotice (r : Nat) : Nat := if r = 2 then 0x0507 else if r = 3 then 0x0C30 else 0x0620

/-- Checks 5 to 8: the report of admission and of a region's own notice, and the first failure. -/
def State.bodyCheck (s : State) (r : Nat) (p : List Nat) : State × Option (Nat × Nat) :=
  let own := fun (x : Option Nat) =>
    match x with
    | some i => (if r = 5 then s else s.notice byDevice (regionNotice r) i, some (stIntegrity, headWords + i))
    | none => (s, none)
  match r with
  | 0 => (s, none)
  | 1 =>
    match s.cfgCheck p with
    | some i => (s, some (stIntegrity, headWords + i))
    | none =>
      let ref := s.cfgPlan p
      let t := s.reportPlan ref
      match ref with
      | some x => (t, some (x.status, headWords + ((sectionOf p 1).getD (0, 0)).1))
      | none =>
        if (s.loadSettings (entryPairs (settingEntries p))).calChecksum = s.calChecksum ||
            ((s.region 1).sealOpened && s.sealOpen) then (t, none)
        else (t, some (stSealed, headWords + ((sectionOf p 3).getD (0, 0)).1))
  | 2 => own (tariffCheck p)
  | 3 => own (authCheck p)
  | 4 => own (pedalImageCheck s.variant p)
  | _ => own (assetsCheck p)

/-- A verification ends with a failure. -/
def State.failRegion (s : State) (r st idx : Nat) : State :=
  (s.regionIdle r st).notice byDevice 0x0F10 (r * 2 ^ 40 + st * 2 ^ 32 + idx)

/-- IMAGE_VERIFICATION (R444): the read-back of the whole image; a Chainline update commits at once (R349). -/
def imageVerification (r : Nat) (s : State) : State :=
  if s.regionState r ≠ rVerifying || s.pf.active then s
  else
    let t := s.flushRegion r
    let w := (t.region r).words (t.otherSlot r)
    match t.headCheck r (t.getN (k0FDeclaredSize r)) w with
    | some (st, i) =>
      ((if i = 1 && r = 0 then t.noticeOpen byDevice 0x0D11 else t).failRegion r st i)
    | none =>
      match t.bodyCheck r (w.drop headWords) with
      | (u, some (st, i)) => u.failRegion r st i
      | (u, none) =>
        let u := u.puts [(k0FState r, rStaged), (k0FResult r, stOk), (k31OtherSlot (16 + r), 3),
          (k31OtherImage (16 + r), imageId w)]
        if u.regionOwner r = chainlineOwner then u.commitRegion r else u

def execImageVerification (r : Nat) (s : State) : Host.Outcome State Fault Refusal := .next (imageVerification r s)

/-! ### The boot-header record (R439, R445) -/

/-- The other slot becomes active: members 31h/16+r. `other` says what the slot given up holds. -/
def State.swapSlots (s : State) (r other : Nat) : State :=
  let a := s.getN (k31ActiveSlot (16 + r))
  let w := (s.region r).words (s.otherSlot r)
  s.puts [(k31ActiveSlot (16 + r), (s.otherSlot r : Nat)), (k31ActiveImage (16 + r), imageId w),
    (k31SecurityVersion (16 + r), if r = 0 then (imageSvn w : Nat) else 0),
    (k31OtherSlot (16 + r), if a = 2 then 0 else (other : Nat)),
    (k31OtherImage (16 + r), if a = 2 then 0 else s.get (k31ActiveImage (16 + r)))]

/-- The 24 bytes of a region in a record (R439). -/
def HeaderEntry.bytes (e : HeaderEntry) : List Nat :=
  [e.active, if e.trial then 1 else 0, e.other, e.tboots] ++ bytesBE 4 e.image ++ bytesBE 4 e.words ++ bytesBE 4 e.otherImage ++
    [e.svn] ++ List.replicate 7 0

/-- Bytes 0-251 of a record. -/
def HeaderRec.bytes (h : HeaderRec) : List Nat :=
  bytesBE 4 0x42584248 ++ bytesBE 4 h.seq ++ (h.regions.take 6).flatMap HeaderEntry.bytes ++ List.replicate 100 0

/-- Is a record valid: its CRC holds? -/
def HeaderRec.valid (h : HeaderRec) : Bool := h.crc = crc32 h.bytes

/-- What the record of a region's commit says of the region before the commit is in force: the other slot active, OTHER 1, and for FW
STATE 1 and TBOOTS 0 (R445, R447). -/
def State.committed (s : State) (r : Nat) : State :=
  let t := s.swapSlots r 1
  if r = 0 then { t.put k31TrialBoots 0 with flash := { t.flash with fwTrial := true } } else t

/-- The entry of a region. -/
def State.headerEntry (s : State) (r : Nat) : HeaderEntry :=
  let a := s.getN (k31ActiveSlot (16 + r))
  let o := s.getN (k31OtherSlot (16 + r))
  { active := if a = 2 then 255 else a, trial := r = 0 && s.flash.fwTrial, other := if o = 3 then 0 else o,
    tboots := if r = 0 then s.getN k31TrialBoots else 0, image := s.getN (k31ActiveImage (16 + r)),
    words := if a = 0 then (s.region r).sizeA else if a = 1 then (s.region r).sizeB else 0,
    otherImage := if o = 3 then 0 else s.getN (k31OtherImage (16 + r)), svn := s.getN (k31SecurityVersion (16 + r)) }

/-- The record that a header operation of a region programs: with it and with the commits already recorded, every region as it will be. -/
def State.headerRec (s : State) (r seq : Nat) : HeaderRec :=
  let t := s.each ((List.range 6).filter fun q => (s.region q).committing && (q = r || (s.region q).recorded)) State.committed
  let h : HeaderRec := { seq := seq, regions := (List.range 6).map t.headerEntry, crc := 0 }
  { h with crc := crc32 h.bytes }

/-- Records that a boot-header sector holds. -/
def headerSlots : Nat := 16

/-- A record enters the sector that does not hold the newest one, which is erased first when it is full (R439). -/
def putHeader (l : List (List HeaderRec)) (h : HeaderRec) (last : Nat) : List (List HeaderRec) :=
  let first := (l.getD 0 []).any fun x => x.seq = last
  l.modify (if first then 1 else 0) fun x => (if headerSlots ≤ x.length then [] else x) ++ [h]

/-- Words of the setting log kept for a new slot: the cap entries (R271). -/
def State.capLog (s : State) : List (Nat × Int) :=
  (s.obj.filter fun p => keyClass p.1 = 0x1B && 48 ≤ keyInst p.1 && keyInst p.1 ≤ 55)

/-- TAG of an entry that is marked "seal" (R434): CMAC under the calibration tag key, free while no root stands. -/
def State.calTag (s : State) (bytes : List Nat) : Nat :=
  match s.calKey with
  | some k => Config.cmac k bytes / 2 ^ 64
  | none => s.drawn % 2 ^ 64

/-- The entry of a setting, as it is programmed (R434). -/
def State.logEntry (s : State) (k : Nat) (v : Int) : LogEntry :=
  let tag := if isSealedSetting (keyClass k) (keyInst k) (keyMember k) then s.calTag (entryHead k v) else 0
  { addr := k, value := v, sealed := isSealedSetting (keyClass k) (keyInst k) (keyMember k), tag := tag,
    crc := crc32 (entryHead k v ++ bytesBE 8 tag) }

/-- Bytes of the log in use (30h/0/10). -/
def State.showLog (s : State) : State :=
  s.put k30SettingLogUse ((s.flash.log.map fun e => entryBytes e.addr e.value).sum : Nat)

/-- The firmware that runs is now confirmed (R397, R447). -/
def State.ratchetSvn (s : State) : State :=
  let v := s.getN (k31SecurityVersion 16)
  if s.getN k28AntiRollbackCount < v then (s.put k28AntiRollbackCount v).noticeOpen byDevice 0x0D10 else s

/-- The controllers whose bus settings, or whose KOD enable, a commit has changed: the new values stand from the commit, and the
sessions bound there end (R72, log entry 6). -/
def State.rebind (s was : State) : State :=
  s.each [1, 2, 3] fun s i =>
    let changed := fun (l : List Nat) => l.any fun m => was.get (key 0x04 i m) ≠ s.get (key 0x04 i m)
    if (i ≤ 2 && (changed [0, 1, 2] || (changed [3] && !s.flag (k04KODEnable i)))) || (i = 3 && changed (List.range 8)) then
      let t := s.endBound i
      { t with kod := { t.kod with changes := t.kod.changes.filter fun c => keyInst c.1 ≠ i,
                                   reasm := t.kod.reasm.filter fun x => x.ctrl ≠ i } }
    else s

/-- A commanded restart follows at the coming boundary. -/
def State.restartNow (s : State) : State := { s with modes := { s.modes with restartAt := some s.nextTick } }

/-- What a committed region does from the boundary (R445). -/
def State.regionEffect (s : State) (r : Nat) : State :=
  let p := s.payload r
  match r with
  | 0 => ({ (s.puts [(k0FState 0, rTrial), (k31TrialBoots, 0)]) with flash := { s.flash with fwTrial := true } }).restartNow
  | 1 =>
    let l := settingEntries p
    let t := (s.commitSettings (entryPairs l)).rebind s
    let t := t.awaitPlan (sectionWords p 1) (cfgCapture s.variant p) s.nextTick
      (planBudgets s.variant s.typeOf (sectionWords p 1))
    ({ t with flash := { t.flash with
        logDue := [], log := s.capLog.map fun (x : Nat × Int) => s.logEntry x.1 x.2 } }).showLog
  | 2 => s.tariffCommit p
  | 4 => s.pedalCommit p
  | _ => s

/-- COMMIT_EFFECT (R445): the first boundary after the record has been programmed. -/
def commitEffect (r : Nat) (s : State) : State :=
  if !((s.region r).committing && (s.region r).recorded && s.regionState r = rStaged) then s
  else
    let t := s.swapSlots r 1
    let t := (t.puts [(k0FState r, rCommitted), (k0FOwner r, 0), (k31LastCommitTime (16 + r), s.stamp)]).count
      (k31Commits (16 + r))
    let t := t.modRegion r fun x => { x with committing := false, recorded := false, received := [], chlId := 0 }
    (t.notice byDevice 0x0F11 (r * 2 ^ 40 + t.getN (k31ActiveImage (16 + r)))).regionEffect r

/-- A reset after the record of a commit has been programmed leaves the new image in force (R446): the commit takes effect first. -/
def State.commitsInForce (s : State) : State := s.each (List.range 6) fun s r => commitEffect r s

def execCommitEffect (r : Nat) (s : State) : Host.Outcome State Fault Refusal := .next (commitEffect r s)

/-! ### Trial and fallback (R447, R448) -/

/-- The trial is confirmed: record, notice, anti-rollback steps. -/
def State.confirmTrial (s : State) : State :=
  let t := (s.puts [(k0FState 0, rCommitted), (k31TrialRemaining, 0)]).flashOp (.header 0)
  (({ t with flash := { t.flash with fwTrial := false, trialEnd := none } }).noticeOpen byDevice 0x0F13).ratchetSvn

/-- The device falls back to the previous firmware slot. -/
def State.fallBack (s : State) (cause : Nat) : State :=
  let t := ((s.swapSlots 0 2).puts [(k0FState 0, rCommitted), (k31TrialRemaining, 0), (k31TrialBoots, 0),
    (k31LastFallback, cause)]).flashOp (.header 0)
  (({ t with flash := { t.flash with fwTrial := false, trialEnd := none } }).notice byDevice 0x0F14 cause).restartNow

/-- TRIAL_WINDOW_END (R447, R448). -/
def trialWindowEnd (s : State) : State :=
  match s.flash.trialEnd with
  | some e => if s.regionState 0 = rTrial && s.dueNext e then s.fallBack 1 else s
  | none => s

def execTrialWindowEnd (s : State) : Host.Outcome State Fault Refusal := .next (trialWindowEnd s)

def checkTrial (s : State) : Nat := if s.regionState 0 = rTrial then stOk else stNotNow
def applyConfirm (v : Int) (s : State) : State := if v = 1 then s.confirmTrial else s
def applyReject (v : Int) (s : State) : State := if v = 1 then s.fallBack 4 else s

/-- CONFIRM (R447). -/
def execConfirm (sid : Nat) (v : Int) (s : State) : Host.Outcome State Fault Refusal :=
  .next (s.writeRow sid k31Confirm v checkTrial (applyConfirm v))

/-- REJECT_TRIAL (R448). -/
def execRejectTrial (sid : Nat) (v : Int) (s : State) : Host.Outcome State Fault Refusal :=
  .next (s.writeRow sid k31RejectTrial v checkTrial (applyReject v))

/-- SELF_CONFIRMATION (R447, mode 0): KOD answers, the plan is admitted, the cores run, metering is valid. -/
def selfConfirmation (s : State) : State :=
  if s.regionState 0 = rTrial && s.getN k31ConfirmationMode = 0 && s.firmwareUp && s.getN k02PlanState = 1 &&
      (s.group (s.getN k09ReferenceGroup)).valid then s.confirmTrial
  else s

def execSelfConfirmation (s : State) : Host.Outcome State Fault Refusal := .next (selfConfirmation s)

def check31 (s : State) (i m : Nat) : Nat := if i = 0 && (m = 4 || m = 5) then checkTrial s else stOk
def apply31 (s : State) (k i m : Nat) (v : Int) : State :=
  if i = 0 && m = 4 then applyConfirm v s else if i = 0 && m = 5 then applyReject v s else s.put k v

/-! ### Flash operations (R430, R434) -/

/-- Place of a waiting operation in the order of R430. -/
def FlashOp.rank : FlashOp → Nat
  | .powerFail _ => 1
  | .journal => 2
  | .billing _ | .demand => 3
  | .purse _ _ => 4
  | .keyStore | .header _ => 5

/-- The operation that is served: the running one, or the first waiting one of the lowest rank; a setting that waits for its log entry
goes before those of rank 4 and 5. Nothing but the power-fail record runs while a decision stands (R151). -/
def State.runningOp (s : State) : Option FlashOp :=
  match s.flash.current with
  | some o => some o
  | none =>
    if s.pf.active then none
    else (List.range' 1 (if s.flash.logDue = [] then 5 else 3)).findSome? fun n => s.flash.ops.find? fun o => o.rank = n

/-- A setting-log entry is due before an operation of a higher rank number. -/
def State.logTurn (s : State) : Bool :=
  s.flash.logDue ≠ [] && !s.pf.active && s.flash.current.isNone && !(s.flash.ops.any fun o => o.rank ≤ 3)

/-- SETTING_LOG_APPEND (R105, R434): the oldest setting that waits gets its entry; one marked "seal" carries a tag under the
generations in force. -/
def settingLogAppend (s : State) : State :=
  match s.flash.logDue with
  | [] => s
  | (k, v) :: rest =>
    if !s.logTurn then s
    else
      ({ s with flash := { s.flash with logDue := rest, log := s.flash.log ++ [s.logEntry k v] } }).showLog

def execSettingLogAppend (s : State) : Host.Outcome State Fault Refusal := .next (settingLogAppend s)

/-- A finished operation leaves the queue. -/
def State.opDone (s : State) (o : FlashOp) : State :=
  { s with flash := { s.flash with current := none, ops := s.flash.ops.filter (· ≠ o) } }

/-- The members of a purse as its record keeps them: balance, floor, window and accepted tokens. Its other members are settings
(R105), and its state follows from them (R200). -/
def State.purseData (s : State) (p : Nat) : List (Nat × Int) :=
  s.obj.filter fun x => keyClass x.1 = 0x13 && keyInst x.1 = p && [2, 5, 6, 7, 9].contains (keyMember x.1)

/-- The members of the open period that a demand record holds (R433); the flags of the open period are kept with them, since
they too are held across every reset (R104, log entry 33). -/
def State.demandData (s : State) : List (Nat × Int) :=
  s.obj.filter fun x => keyClass x.1 = 0x11 &&
    ((keyInst x.1 < 24 && 48 ≤ keyMember x.1 && keyMember x.1 ≤ 51) || x.1 = k11Flags 31)

/-- The members of the closed period with a sequence number, keyed as those of the open period. -/
def State.closedData (s : State) (seq : Nat) : List (Nat × Int) :=
  match (List.range' 1 13).find? fun p => s.getN (k11Sequence (hubPeriod p)) = seq with
  | some p => (s.periodData p).map fun x => (x.1 - key 0 (32 * p) 0, x.2)
  | none => []

/-- The newest 13 closed periods are kept (R433). -/
def keepPeriods (l : List FlashRec) : List FlashRec := l.drop (l.length - 13)

/-- An operation ends well. -/
def State.opEnds (s : State) (o : FlashOp) : State :=
  match o with
  | .powerFail _ => flashRecordCommit s
  | .journal => journalCommit s
  | .billing seq =>
    let t := s.opDone o
    { t.drew.forTag t.journalKey with flash := { t.flash with periods := keepPeriods (t.flash.periods ++ [t.signRec seq (t.closedData seq)]) } }
  | .demand =>
    let t := s.opDone o
    { t.drew.forTag t.journalKey with flash := { t.flash with demandRec := some (t.signRec 0 t.demandData) } }
  | .purse p _ =>
    let t := s.opDone o
    { t with flash := { t.flash with purses := (t.flash.purses.filter fun x => x.1 ≠ p) ++ [(p, t.purseData p)] } }
  | .keyStore => { s.opDone o with flash := { (s.opDone o).flash with keyStore := s.vault.slots } }
  | .header r =>
    let t := (s.opDone o).modRegion r fun x => { x with recorded := x.committing }
    let q := (t.flash.headerSeq + 1) % 4294967296
    { t with flash := { t.flash with headerSeq := q, headers := putHeader t.flash.headers (s.headerRec r q) t.flash.headerSeq } }

/-- The flash operation that runs ends: a failed status check is counted and reported, and the operation stays due. -/
def State.operationEnds (ok : Bool) (s : State) : State :=
  match s.runningOp with
  | none => s
  | some o =>
    if ok then s.opEnds o
    else
      let t := (s.count k30ProgramFailures).noticeOpen byDevice 0x0F32
      if o = .journal then journalWriteFailure t else { t with flash := { t.flash with current := none } }

/-- The controller takes up the operation whose turn it is: called by the tick. -/
def State.startOp (s : State) : State := { s with flash := { s.flash with current := s.runningOp } }

end Sys2Proof.Machine
end

