-- ==== Sys2Proof/Machine/Display.lean ====
section
/-! DEFINITION. The e-paper display engine (R416-R427): buffers, requests and their admission, frames and underruns, panel
power, the crack loop, recovery. -/

namespace Sys2Proof.Machine

def State.dsp (s : State) (f : Display → Display) : State := { s with display := f s.display }

/-! ### Buffers and pixels (R416) -/

/-- The pixels of columns `x0`-`x1` of row `y` go from `b` to `a`, word by word. -/
def copyRow (width : Nat) (b a : List (Nat × Nat)) (x0 x1 y : Nat) : List (Nat × Nat) :=
  let p := y * width + x0
  let q := y * width + x1
  (List.range (q / 12 + 1 - p / 12)).foldl (fun a k =>
    let w := p / 12 + k
    let mask := maskOf ((List.range 48).filter fun n => let j := 12 * w + (47 - n) / 4; p ≤ j && j ≤ q)
    storeWrite whiteWord a w
      (((storeRead whiteWord a w) &&& (whiteWord - mask)) ||| ((storeRead whiteWord b w) &&& mask))) a

/-- Pixel `j` of a buffer. -/
def pixel (l : List (Nat × Nat)) (j : Nat) : Nat :=
  field (storeRead whiteWord l (j / 12)) (47 - 4 * (j % 12)) (44 - 4 * (j % 12))

/-! ### Rectangles (R421, R422) -/

def rX0 (r : Nat) : Nat := field r 47 37
def rY0 (r : Nat) : Nat := field r 36 26
def rX1 (r : Nat) : Nat := field r 25 15
def rY1 (r : Nat) : Nat := field r 14 4
def rMode (r : Nat) : Nat := field r 3 2

def rectOk (w h r : Nat) : Bool :=
  rX0 r ≤ rX1 r && rX1 r < w && rY0 r ≤ rY1 r && rY1 r < h && (rMode r = 1 || rMode r = 2) && r % 4 = 0

def overlaps (a b : Nat) : Bool := rX0 a ≤ rX1 b && rX0 b ≤ rX1 a && rY0 a ≤ rY1 b && rY0 b ≤ rY1 a
def covers (a b : Nat) : Bool := rX0 a ≤ rX0 b && rX1 b ≤ rX1 a && rY0 a ≤ rY0 b && rY1 b ≤ rY1 a

/-- Words of a row of its plane: ceil(width ÷ 48). -/
def rowWords (r : Nat) : Nat := (rX1 r + 1 - rX0 r + 47) / 48

/-- Plane size: the sum over its rows. -/
def planeSize (r : Nat) : Nat := (rY1 r + 1 - rY0 r) * rowWords r

/-- The slots in flight, and their rectangles. -/
def State.slotsInFlight (s : State) : List Nat := (List.range 8).filter s.inFlight
def State.rectOf (s : State) (i : Nat) : Nat := s.getN (k24Rectangle (16 + i))
def State.dslot (s : State) (i : Nat) : Slot := s.display.slots.getD i {}
def State.modRect (s : State) (i : Nat) (f : Slot → Slot) : State :=
  s.dsp fun d => { d with slots := d.slots.modify i f }

/-- The engine state that the slots and the panel give (R427). -/
def State.showEngine (s : State) : State :=
  let d := s.display
  let l := s.slotsInFlight
  s.put k24EngineState (if l.any (fun i => (s.dslot i).recovering) then 4 else if !d.en then 0
    else if d.goodAt.isNone then 1 else if l ≠ [] then 2 else 3)

/-- A slot ends with a result. -/
def State.endRect (s : State) (i st : Nat) : State :=
  (s.puts [(k24SlotState (16 + i), 0), (k24Result (16 + i), st)]).modRect i fun _ => {}

/-- The result of a request that is refused at admission stands in the lowest free slot (log entry 38). -/
def State.refuseRect (s : State) (st : Nat) : State :=
  match (List.range 8).find? fun i => s.getN (k24SlotState (16 + i)) = 0 with
  | some i => s.put (k24Result (16 + i)) st
  | none => s

/-! ### Tables and temperature (R418-R420) -/

def tempTicks : Nat := 480000

/-- The range that holds the last reading, unless that is too old. -/
def State.tempRange (s : State) : Option Nat :=
  match s.display.tempAt with
  | some t =>
    if tempTicks < s.since t then none
    else (List.range (wtTemps s.display.table)).find? fun r =>
      wtLow s.display.table r ≤ s.get k24PanelTemperature && s.get k24PanelTemperature ≤ wtHigh s.display.table r
  | none => none

/-- A refusal for want of a range: notice 0E03h with the reading; the result is not defined (free value). -/
def State.noRange (s : State) : State := s.notice byDevice 0x0E03 (pattern 48 (s.get k24PanelTemperature))

/-- The passes of a mode in a range; a mode that the table does not hold drives nothing (DESIGN CHOICE, log entry 38). -/
def modePasses (t : List Nat) (range mode : Nat) : List Nat := if wtModes t ≤ mode then [] else wtPasses t (wtDir t range mode)

/-- The waveform frames of a mode in a range. -/
def State.waveFrames (s : State) (range mode : Nat) : Nat :=
  ((modePasses s.display.table range mode).map fun w => field w 44 37).sum

/-- The scan time in CORE cycles of 5 ns, and whether it fits the frame (R417). -/
def State.scanFits (s : State) : Bool :=
  (s.getN k24Height + 1) * (s.getN k24Width / 8 + s.getN k24LineBlank) * s.getN k24ClockDivisor ≤ 25000 * wtFrame s.display.table

/-! ### The plane buffers (R416, R418) -/

/-- The passes from the one that runs in frame `n` of a mode on. -/
def passesFrom : List Nat → Nat → List Nat
  | [], _ => []
  | w :: rest, n => if n < field w 44 37 then w :: rest else passesFrom rest (n - field w 44 37)

/-- The passes of a slot from frame `n` of its mode on. -/
def State.slotPasses (s : State) (i n : Nat) : List Nat :=
  passesFrom (modePasses s.display.table (s.dslot i).range (s.dslot i).mode) n

/-- The bit of a pixel in a pass: 1 in a pass with ALL, else the bit of its grey level that PLANE names (R418). -/
def passBit (w grey : Nat) : Bool := bit w 47 || bit grey (field w 46 45)

/-- The plane of a pass over a rectangle, from the front buffer: row by row, 48 pixels a word, the first in bit 47 (R65). -/
def State.planeOf (s : State) (r w : Nat) : List Nat :=
  (List.range (rY1 r + 1 - rY0 r)).flatMap fun j => (List.range (rowWords r)).map fun k =>
    (List.range 48).foldl (fun a b =>
      let x := rX0 r + 48 * k + b
      a * 2 + (if x ≤ rX1 r && passBit w (pixel s.display.front ((rY0 r + j) * s.getN k24Width + x)) then 1 else 0)) 0

/-- The plane of the first of some passes; none where the mode has no such pass. -/
def State.firstPlane (s : State) (r : Nat) (l : List Nat) : List Nat :=
  match l with
  | w :: _ => s.planeOf r w
  | [] => List.replicate (planeSize r) 0

/-- A slot begins its mode: the firmware prepares its first pass in the buffer that serves, DMA fills the other for the second. -/
def State.beginMode (s : State) (i range : Nat) : State :=
  let t := s.modRect i fun x => { x with range := range }
  let l := t.slotPasses i 0
  let r := t.rectOf i
  let now := t.firstPlane r l
  let next := t.firstPlane r l.tail
  (t.puts [(k24FramesDone (16 + i), 0), (k24FramesTotal (16 + i), (t.waveFrames range (t.dslot i).mode : Nat))]).modRect i fun x =>
    { x with p0 := if x.second then next else now, p1 := if x.second then now else next }

/-- A frame of a slot has ended with `n` done: where a pass ended with it the buffers change places, and DMA fills the one set free. -/
def State.turnPlanes (s : State) (i n : Nat) : State :=
  let l := s.slotPasses i n
  if l.length = (s.slotPasses i (n - 1)).length then s
  else
    let next := s.firstPlane (s.rectOf i) l.tail
    s.modRect i fun x =>
      if x.second then { x with second := false, p1 := next } else { x with second := true, p0 := next }

/-- The place of a rectangle of a plane size in the plane buffers: the first gap that holds it. Where no single gap does, its words lie
scattered, and the words that show them are free (log entry 38). -/
def State.freePlace (s : State) (n : Nat) : Nat :=
  let l := s.display.slots.filter fun x => x.p0 ≠ []
  ((0 :: l.map fun x => x.place + x.p0.length).find? fun c =>
    c + n ≤ planeWords && l.all fun x => c + n ≤ x.place || x.place + x.p0.length ≤ c).getD (s.drawn % planeWords)

/-- Drive code of a pixel in the running frame (R417-R419): 0 outside every rectangle in flight. -/
def State.driveCode (s : State) (x y : Nat) : Nat :=
  match s.slotsInFlight.find? fun i =>
      let r := s.rectOf i
      (s.dslot i).started && rX0 r ≤ x && x ≤ rX1 r && rY0 r ≤ y && y ≤ rY1 r with
  | none => 0
  | some i =>
    match s.slotPasses i (s.getN (k24FramesDone (16 + i))) with
    | [] => 0
    | w :: _ =>
      let r := s.rectOf i
      let d := s.dslot i
      let word := (d.plane d.second).getD ((y - rY0 r) * rowWords r + (x - rX0 r) / 48) 0
      if bit word (47 - (x - rX0 r) % 48) then field w 36 35 else field w 34 33

/-- Is a pixel behind the place in its line where the queue was empty for a rectangle (R423)? The line and the pixel are free values. -/
def State.starved (s : State) (underruns : List Nat) (x y : Nat) : Bool :=
  underruns.any fun i =>
    let r := s.rectOf i
    rX0 r ≤ x && x ≤ rX1 r && rY0 r ≤ y && y ≤ rY1 r && Config.free (s.draw + 8 * y + i) % (rX1 r + 2) ≤ x

/-- The words of a line: pixel 8i + k stands in bits 2k + 1 and 2k of word i (R417). The segments of a line follow each other in ascending
X0 (R423). -/
def State.scanLine (s : State) (underruns : List Nat) (y : Nat) : List Nat :=
  (List.range (s.getN k24Width / 8)).map fun i => (List.range 8).foldl (fun a k =>
    a + (if s.starved underruns (8 * i + k) y then 0 else s.driveCode (8 * i + k) y) * 4 ^ k) 0

/-- The frame that ends has been scanned, where one ran. -/
def State.scanned (s : State) (underruns : List Nat) : State :=
  if !s.display.oe then s
  else
    let t := s.send (.panel ((List.range (s.getN k24Height)).map (s.scanLine underruns)))
    { t with draw := t.draw + 8 * s.getN k24Height }

/-! ### Panel power (R424) -/

def powerTicks : Nat := 400

/-- DSP_EN rises unless it is high. -/
def State.panelOn (s : State) : State :=
  if s.display.en then s
  else s.dsp fun d => { d with en := true, enAt := s.cc, enOff := none, goodAt := none, nextFrame := none, idleSince := none }

/-- Frames end and the outputs fall; DSP_EN at once or one tick later. -/
def State.panelOff (s : State) (later : Bool) : State :=
  s.dsp fun d => { d with oe := false, vcom := false, goodAt := none, nextFrame := none, idleSince := none,
                          en := d.en && later, enOff := if d.en && later then some (s.after 1) else none }

/-- The idle time runs while nothing is in flight or waits. -/
def State.watchIdle (s : State) : State :=
  let idle := s.slotsInFlight = [] && s.display.queue = [] && s.display.goodAt.isSome
  s.dsp fun d => { d with idleSince := if idle then some (d.idleSince.getD s.cc) else none }

/-- What a tick does to the panel: VCOM rises at g + 1, DSP_EN falls where it is due. -/
def State.panelTick (s : State) : State :=
  let d := s.display
  let rise := match d.goodAt with
    | some g => decide (s.since g = 1)
    | none => false
  let fall := s.reachedOpt d.enOff && d.enOff.isSome
  let t := s.dsp fun d => { d with vcom := d.vcom || rise, en := d.en && !fall, enOff := if fall then none else d.enOff }
  t.when fall State.showEngine

/-- A reading, or a read that failed. -/
def State.readTemp (s : State) (temp : Option Int) : State :=
  match temp with
  | some v => (s.put k24PanelTemperature v).dsp fun d => { d with tempAt := some s.cc }
  | none => s

/-- The rectangles admitted while the panel was off take their range; without one they are refused (R420). -/
def State.takeRanges (s : State) : State :=
  s.each s.slotsInFlight fun s i =>
    match s.tempRange with
    | some r => s.beginMode i r
    | none => (s.noRange.endRect i (s.drawn % 256)).drew

/-- POWER_GOOD (R424): a read of the power-good register, every 8 ticks from DSP_EN. -/
def powerGood (reg : Nat) (temp : Option Int) (s : State) : State :=
  let d := s.display
  if !d.en || d.goodAt.isSome || d.enOff.isSome || powerTicks < s.since d.enAt || s.since d.enAt % 8 ≠ 0 then s
  else if reg &&& s.getN k24PowerGoodMask ≠ s.getN k24PowerGoodMask then s
  else
    let vc := s.getN k24VCOMValue
    let t := s.send (.net "I2C" (s.getN k24SupplyAddress) (toBytes [s.getN k24VCOMRegister, vc / 256, vc % 256]))
    let t := (t.readTemp temp).dsp fun d => { d with goodAt := some s.cc, nextFrame := some (s.after 2) }
    t.takeRanges.watchIdle.showEngine

def execPowerGood (reg : Nat) (temp : Option Int) (s : State) : Host.Outcome State Fault Refusal := .next (powerGood reg temp s)

/-- POWER_GOOD_TIMEOUT (R424). -/
def powerGoodTimeout (s : State) : State :=
  let d := s.display
  if !d.en || d.goodAt.isSome || d.enOff.isSome || s.since d.enAt < powerTicks then s
  else
    let t := s.each s.slotsInFlight fun s i => s.endRect i 0x0F
    ((t.panelOff false).noticeOpen byDevice 0x0E04).showEngine

def execPowerGoodTimeout (s : State) : Host.Outcome State Fault Refusal := .next (powerGoodTimeout s)

/-- DISPLAY_IDLE (R424). -/
def displayIdle (s : State) : State :=
  match s.display.idleSince with
  | some i =>
    if s.slotsInFlight = [] && s.display.queue = [] && s.reached ((i + msTicks (s.getN k24IdleTime)) % ccMod) then
      (s.panelOff true).put k24EngineState 0
    else s
  | none => s

def execDisplayIdle (s : State) : Host.Outcome State Fault Refusal := .next (displayIdle s)

/-- PANEL_TEMPERATURE_READ (R420): while the panel stays powered, 480,000 ticks after the reading at power-up and every 480,000
after that. -/
def panelTemperatureRead (temp : Option Int) (s : State) : State :=
  match s.display.goodAt with
  | some g => if s.display.en && 0 < s.since g && s.since g % tempTicks = 0 then s.readTemp temp else s
  | none => s

def execPanelTemperatureRead (temp : Option Int) (s : State) : Host.Outcome State Fault Refusal :=
  .next (panelTemperatureRead temp s)

/-! ### The crack loop (R425) -/

/-- CRK_B follows CRK_A. -/
def loopClosed (low high : Bool) : Bool := !low && high

def checkClearCrack (low high : Bool) (v : Int) (_ : State) : Nat :=
  if v = 1 && !loopClosed low high then stNotNow else stOk
def applyClearCrack (v : Int) (s : State) : State :=
  if v = 1 then (s.put k24CrackState 0).noticeOpen byDevice 0x0E02 else s

/-- CLEAR_CRACK (R425). -/
def execClearCrack (sid : Nat) (v : Int) (low high : Bool) (s : State) : Host.Outcome State Fault Refusal :=
  .next (s.writeRow sid k24ClearCrack v (checkClearCrack low high v) (applyClearCrack v))

/-! ### Requests (R421, R427) -/

def checkUpdateRequest (v : Int) (s : State) : Nat :=
  if !rectOk (s.getN k24Width) (s.getN k24Height) v.toNat then stOutOfRange
  else if 16 ≤ s.display.queue.length then stFull
  else if s.flag k24CrackState || s.pf.active || s.getN k24EngineState = 4 then stNotNow else stOk

/-- The request waits; a slot that is cleared and awaits redraw is freed by a request that covers it (R426). -/
def applyUpdateRequest (v : Int) (s : State) : State :=
  let t := s.dsp fun d => { d with queue := d.queue ++ [v.toNat], idleSince := none }
  let t := t.put k24Waiting (t.display.queue.length : Nat)
  t.each (List.range 8) fun t i =>
    if t.getN (k24SlotState (16 + i)) = 4 && covers v.toNat (t.rectOf i) then t.put (k24SlotState (16 + i)) 0 else t

/-- UPDATE_REQUEST (R421). -/
def execUpdateRequest (sid : Nat) (v : Int) (s : State) : Host.Outcome State Fault Refusal :=
  .next (s.writeRow sid k24UpdateRequest v (checkUpdateRequest v) (applyUpdateRequest v))

/-- The draw window (R427): writing or reading the word at the draw offset, which then advances. -/
def State.drawWindow (s : State) (w : Option Nat) : Nat × Nat × State :=
  let o := s.getN k24DrawOffset
  if drawWords ≤ o then (stOutOfRange, 0, s)
  else
    let t := match w with
      | some x => s.dsp fun d => { d with draw := storeWrite whiteWord d.draw o x }
      | none => s
    (stOk, storeRead whiteWord t.display.draw o, t.put k24DrawOffset (o + 1))

def checkDrawData (s : State) : Nat := (s.drawWindow none).1
def applyDrawData (v : Int) (s : State) : State := (s.drawWindow (some v.toNat)).2.2

/-- DRAW_DATA (R416, R427): a write of a word, or a read of one. -/
def drawData (sid : Nat) (w : Option Nat) (s : State) : State :=
  match w with
  | some x => s.writeRow sid k24DrawData x checkDrawData (applyDrawData x)
  | none =>
    let st := s.checkRead sid k24DrawData
    if st ≠ stOk then s.answer sid k24DrawData st else s.windowRow sid k24DrawData (s.drawWindow none)

def execDrawData (sid : Nat) (w : Option Nat) (s : State) : Host.Outcome State Fault Refusal := .next (drawData sid w s)

/-- A write of class 24h. The clear of the crack state through a WRITE carries no loop levels: they are free values. -/
def check24 (s : State) (i m : Nat) (v : Int) : Nat :=
  if 1 ≤ m && m ≤ 4 && i = 0 then
    (if m = 1 && v % 8 ≠ 0 then stOutOfRange
     else if (List.range 8).any (fun j => s.getN (k24SlotState (16 + j)) ≠ 0) then stNotNow else stOk)
  else if m = 6 then checkClearCrack (s.drawn % 2 = 1) (s.drawn / 2 % 2 = 1) v s
  else if m = 7 then checkUpdateRequest v s
  else if m = 11 then checkDrawData s
  else stOk

def apply24 (s : State) (k m : Nat) (v : Int) : State :=
  if m = 6 then (applyClearCrack v s).drew
  else if m = 7 then applyUpdateRequest v s
  else if m = 11 then applyDrawData v s
  else s.put k v

/-! ### Admission (R422) -/

/-- A waiting request that meets the conditions of place: fewer than 8 in flight, no overlap, room in the plane buffers, a
free slot. -/
def State.admissible (s : State) (earlier : List Nat) (r : Nat) : Option Nat :=
  let l := s.slotsInFlight
  if l.length < 8 && l.all (fun i => !overlaps (s.rectOf i) r) && earlier.all (fun e => !overlaps e r) &&
      (l.map fun i => planeSize (s.rectOf i)).sum + planeSize r ≤ planeWords then
    (List.range 8).find? fun i => s.getN (k24SlotState (16 + i)) = 0
  else none

/-- One request at its turn: admitted, refused, or kept. The first component keeps the requests that stay. The check of the loop decides,
also for a request that was waiting when another one's check latched the crack state (R422; log entry 38). A range is asked for once the
panel is powered: while it is off the reading is made at its power-up. -/
def State.tryAdmit (s : State) (closed : Bool) (kept : List Nat) (r : Nat) : State × List Nat :=
  if s.display.table = [] then (s.refuseRect stNoObject, kept)
  else if !s.scanFits then (s.refuseRect stNoFit, kept)
  else match s.admissible kept r with
    | none => (s, kept ++ [r])
    | some i =>
      if !closed then (((s.put k24CrackState 1).noticeOpen byDevice 0x0E01).refuseRect stIntegrity, kept)
      else if s.display.goodAt.isSome && s.tempRange.isNone then ((s.noRange.refuseRect (s.drawn % 256)).drew, kept)
      else
        let t := s.puts [(k24SlotState (16 + i), 1), (k24Rectangle (16 + i), r), (k24FramesDone (16 + i), 0),
          (k24FramesTotal (16 + i), 0), (k24Result (16 + i), 0)]
        let rows := List.range (rY1 r + 1 - rY0 r)
        let front := rows.foldl (fun a j => copyRow (s.getN k24Width) s.display.draw a (rX0 r) (rX1 r) (rY0 r + j)) s.display.front
        let t := t.dsp fun d => { d with front := front }
        let t := t.modRect i fun _ => { mode := rMode r, started := s.display.nextFrame.isSome, place := s.freePlace (planeSize r), p0 := List.replicate (planeSize r) 0,
                                         p1 := List.replicate (planeSize r) 0 }
        let t := match t.tempRange with
          | some g => if s.display.goodAt.isSome then t.beginMode i g else t
          | none => t
        (t.panelOn, kept)

/-- The table of the active ASSETS image serves while no slot is in flight (R445). -/
def State.loadTable (s : State) : State :=
  if s.slotsInFlight ≠ [] then s
  else
    let w := if s.getN (k31ActiveSlot 21) = 2 then [] else waveTable (s.payload 5)
    (s.put k24WaveformTable (if w = [] then 0 else wtId w : Nat)).dsp fun d => { d with table := w }

/-- Is an admission due: a frame boundary whose PANEL_FRAME has run, or the panel is off? -/
def State.admissionDue (s : State) : Bool :=
  match s.display.nextFrame with
  | some n => s.since n = ccMod - wtFrame s.display.table
  | none => !s.display.en

/-- DISPLAY_ADMISSION (R422): waiting requests in queue order, with the levels of CRK_B at the check of R425. -/
def displayAdmission (low high : Bool) (s : State) : State :=
  if s.display.queue = [] || s.pf.active || !s.firmwareUp || !s.admissionDue then s
  else
    let t := s.loadTable
    let r := t.display.queue.foldl (fun (p : State × List Nat) q => p.1.tryAdmit (loopClosed low high) p.2 q) (t, [])
    let t := r.1.dsp fun d => { d with queue := r.2 }
    (t.put k24Waiting (r.2.length : Nat)).watchIdle.showEngine

def execDisplayAdmission (low high : Bool) (s : State) : Host.Outcome State Fault Refusal :=
  .next (displayAdmission low high s)

/-! ### Frames (R417, R422, R423) -/

/-- The underruns of a slot in the frame that ends, each counted and recorded. -/
def State.underrun (s : State) (i n : Nat) : State :=
  (s.each (List.range n) fun s _ => (s.count k24Underruns).noticeOpen byDevice 0x0E05).modRect i fun x => { x with damaged := true }

/-- A slot whose mode has ended: it runs the modes left, reruns for damage, or ends. -/
def State.modeEnds (s : State) (i : Nat) : State :=
  let x := s.dslot i
  let own := rMode (s.rectOf i)
  let again := fun (s : State) (st mode : Nat) (rest : List Nat) =>
    let t := (s.put (k24SlotState (16 + i)) st).modRect i fun x => { x with mode := mode, reruns := rest }
    t.beginMode i (t.tempRange.getD x.range)
  let st := s.getN (k24SlotState (16 + i))
  match x.reruns with
  | m :: rest => again s (if x.recovering then 1 else st) m rest
  | [] =>
    if x.damaged && st ≠ 2 then
      again (s.modRect i fun x => { x with damaged := false, recovering := false }) 2 0 (if x.stays then [] else [own])
    else if x.stays then (s.puts [(k24SlotState (16 + i), 4), (k24Result (16 + i), 0)]).modRect i fun _ => {}
    else s.endRect i stOk

/-- PANEL_FRAME (R417): the frame that runs ends and the next begins, at the boundary the last one fixed. `underruns` are the
slots for which queue 0 was empty in it, a slot once for each time. -/
def panelFrame (underruns : List Nat) (s : State) : State :=
  match s.display.nextFrame with
  | none => s
  | some n =>
    if !s.reached n || s.pf.active then s
    else
      let running := s.slotsInFlight.filter fun i => (s.dslot i).started
      let t := (s.scanned underruns).each running fun s i =>
        let again := (s.getN (k24SlotState (16 + i)) = 2)
        let s := s.when (underruns.contains i) fun s => s.underrun i (underruns.count i)
        let s := (s.put (k24FramesDone (16 + i)) (s.getN (k24FramesDone (16 + i)) + 1)).turnPlanes i (s.getN (k24FramesDone (16 + i)) + 1)
        if again && underruns.contains i then s.endRect i 0x0F
        else if s.getN (k24FramesTotal (16 + i)) ≤ s.getN (k24FramesDone (16 + i)) then s.modeEnds i else s
      let t := t.each t.slotsInFlight fun t i => t.modRect i fun x => { x with started := true }
      let t := t.dsp fun d => { d with oe := true, nextFrame := some ((n + wtFrame d.table) % ccMod) }
      t.watchIdle.showEngine

def execPanelFrame (underruns : List Nat) (s : State) : Host.Outcome State Fault Refusal := .next (panelFrame underruns s)

/-! ### Power loss and interruption (R426) -/

/-- Every slot in flight runs again: cleared in mode 0, then in its own mode unless it stays cleared. -/
def State.recoverSlots (s : State) : State :=
  if s.slotsInFlight = [] then s
  else
    let t := s.each s.slotsInFlight fun s i =>
      let own := rMode (s.rectOf i)
      (s.puts [(k24SlotState (16 + i), 3), (k24FramesDone (16 + i), 0)]).modRect i fun x =>
        { x with mode := 0, reruns := if x.stays then [] else [own], damaged := false, started := false, recovering := true }
    t.panelOn.showEngine

/-- The waiting queue is discarded without a report. -/
def State.dropRequests (s : State) : State :=
  (s.dsp fun d => { d with queue := [] }).put k24Waiting 0

/-- The decision tick: a powered panel is stopped and that is reported. -/
def State.displayDecision (s : State) : State :=
  (if s.display.en then (s.panelOff true).noticeOpen byDevice 0x0E06 else s).dropRequests

/-- Resumption (R152): the interrupted rectangles run again. -/
def State.displayResume (s : State) : State := s.recoverSlots

/-- A core-domain reset: the outputs take their reset levels, the map stays. -/
def State.displayReset (s : State) : State := ((s.panelOff false).dropRequests).put k24EngineState 0

/-- After the firmware restarts. -/
def State.displayRestart (s : State) : State :=
  if s.slotsInFlight = [] then s else (s.recoverSlots).noticeOpen byDevice 0x0E11

/-- Power-up after a restoration that lists rectangles (R163): word `w` of the map names one. Without a usable table nothing can
be driven, and the slot ends as any update does without one. -/
def State.displayPowerUp (s : State) (map : List Nat) : State :=
  let l := map.zipIdx.filter fun p => bit p.1 47
  let t := s.loadTable
  let t := t.each l fun t p =>
    let r : Nat := p.1 % 2 ^ 44 * 16
    if t.display.table = [] then t.puts [(k24Rectangle (16 + p.2), r), (k24Result (16 + p.2), stNoObject)]
    else
      ((t.puts [(k24SlotState (16 + p.2), 3), (k24Rectangle (16 + p.2), r)]).modRect p.2 fun _ =>
          { stays := true, place := t.freePlace (planeSize r), p0 := List.replicate (planeSize r) 0, p1 := List.replicate (planeSize r) 0 }).notice
        byDevice 0x0E10 (r)
  t.recoverSlots

end Sys2Proof.Machine
end

