-- ==== Sys2Proof/Machine/Keypad.lean ====
section
/-! DEFINITION. The keypad (R369, R370, R380): scans, debounce, token entry. -/

namespace Sys2Proof.Machine

/-- The legend (R369): key code 4r + c as a character. -/
def keyChar (k : Nat) : Nat :=
  ([0x31, 0x32, 0x33, 0x41, 0x34, 0x35, 0x36, 0x42, 0x37, 0x38, 0x39, 0x43, 0x2A, 0x30, 0x23, 0x44] : List Nat).getD k 0

def scansToAccept : Nat := 20

/-- Does the device scan the matrix: Run and Cruise? -/
def State.scans (s : State) : Bool := s.getN k01Mode ≠ 2 && s.getN k01Mode ≠ 3

/-- The column that KPX drives low at a tick: each for 2 ticks in turn (R369). In Freewheel and Coast all four are low. -/
def State.kpxLow (s : State) : List Nat := if s.scans then [s.cc % 8 / 2] else [0, 1, 2, 3]

/-- A full scan has ended: 3 keys or more are ghosts; else every key's run against its accepted state goes on. -/
def State.keyScan (s : State) (keys : List Nat) : State :=
  if 3 ≤ keys.length then s.noticeOpen byDevice 0x0C40
  else
    { s with keypad := { s.keypad with
        runs := s.keypad.runs.zipIdx.map fun x => if keys.contains x.2 = s.keypad.pressed.getD x.2 false then 0 else x.1 + 1 } }

/-- KPY0-KPY3 are sampled at the end of the second tick of a column: of the keys held down those in the driven column show. After
the fourth column the scan is complete (R369). -/
def State.keyColumn (s : State) (keys : List Nat) : State :=
  if !s.scans || s.cc % 2 = 0 then s
  else
    let seen := s.keypad.scan ++ keys.filter fun k => k < 16 && s.kpxLow.contains (k % 4)
    if s.cc % 8 = 7 then ({ s with keypad := { s.keypad with scan := [] } }).keyScan seen
    else { s with keypad := { s.keypad with scan := seen } }

/-- Digits 0-9, star and hash are masked while token entry is on (R370). -/
def keyMasked (k : Nat) : Bool := k % 4 ≠ 3

/-- An accepted key event is reported and counted. -/
def State.keyEvent (s : State) (k : Nat) (press : Bool) : State :=
  let code := if s.flag k23TokenEntry && keyMasked k then 255 else k
  let t := (s.put k23LastKeyEvent (code * 256 + (if press then 1 else 0) : Nat)).count k23KeyEvents
  { t with keypad := { t.keypad with pressed := t.keypad.pressed.set k press, runs := t.keypad.runs.set k 0, lastKey := t.cc } }

def State.setDigits (s : State) (l : List Nat) : State :=
  { s.put k23DigitsEntered l.length with keypad := { s.keypad with digits := l } }

/-- What a key does to token entry (R370). -/
def State.tokenKey (s : State) (k : Nat) : State :=
  let c := keyChar k
  let l := s.keypad.digits
  if !s.flag k23TokenEntry then s
  else if 0x30 ≤ c && c ≤ 0x39 then (if l.length < 20 then s.setDigits (l ++ [c]) else s)
  else if c = 0x2A then s.setDigits []
  else if c = 0x23 then (s.enterToken byKeypad l).setDigits []
  else s

/-- KEY_PRESS (R369, R370): a press after 20 scans that show it. -/
def keyPress (k : Nat) (s : State) : State :=
  if k < 16 && !s.keypad.pressed.getD k false && scansToAccept ≤ s.keypad.runs.getD k 0 then (s.keyEvent k true).tokenKey k else s

def execKeyPress (k : Nat) (s : State) : Host.Outcome State Fault Refusal := .next (keyPress k s)

/-- A # whose press this tick has accepted submits before any token that a session writes at the coming boundary (R370), whether or
not its KEY_PRESS has come. -/
def State.hashFirst (s : State) : State := if s.flag k23TokenEntry then keyPress 14 s else s

/-- TOKEN_ENTRY (R192-R195, R370): a write of 13h/256/0 by a session. -/
def tokenEntry (sid : Nat) (v : Int) (s : State) : State :=
  s.inTurn sid ⟨k13TokenEntry, ownType, v⟩ fun s =>
    (s.when (s.checkWrite sid ⟨k13TokenEntry, ownType, v⟩ = stOk) State.hashFirst).tokenRow sid v

def execTokenEntry (sid : Nat) (v : Int) (s : State) : Host.Outcome State Fault Refusal := .next (tokenEntry sid v s)

/-- KEY_RELEASE (R369, R370). -/
def keyRelease (k : Nat) (s : State) : State :=
  if k < 16 && s.keypad.pressed.getD k false && scansToAccept ≤ s.keypad.runs.getD k 0 then s.keyEvent k false else s

def execKeyRelease (k : Nat) (s : State) : Host.Outcome State Fault Refusal := .next (keyRelease k s)

/-- ENTRY_TIMEOUT (R370). -/
def entryTimeout (s : State) : State :=
  if s.keypad.digits ≠ [] && s.flag k23TokenEntry &&
      s.reached ((s.keypad.lastKey + secTicks (s.getN k23EntryTimeout)) % ccMod) then
    (s.setDigits []).noticeOpen byDevice 0x0C41
  else s

def execEntryTimeout (s : State) : Host.Outcome State Fault Refusal := .next (entryTimeout s)

end Sys2Proof.Machine
end

