-- ==== Sys2Proof/Machine/Peloton.lean ====
section
/-! DEFINITION. The peloton allocator (R257-R275): constraints, the allocation period, the overload guard and the
demand-response caps. A constraint is a feeder (0-7) or the site (8) with a phase 0-2. -/

namespace Sys2Proof.Machine

/-! ### Constraints (R257, R258, R260) -/

def siteNum : Nat := 8
def capSlots : List Nat := List.range' 48 8

/-- Feeder phase of current channel `j` of a spoke (R258). -/
def State.phaseOf (s : State) (sp j : Nat) : Nat := (j + s.getN (k1BPhaseRotation (16 + sp))) % 3

/-- The current channels of a spoke that are not idle (R114). -/
def State.usedChannels (s : State) (sp : Nat) : List Nat :=
  (List.range 3).filter fun j => s.getN (k08SensorType (5 * sp + j)) ≠ 0

/-- The phases a spoke uses, as a mask (1Bh/16+s/8). -/
def State.phasesUsed (s : State) (sp : Nat) : List Bool :=
  (List.range 3).map fun ph => (s.usedChannels sp).any fun j => s.phaseOf sp j = ph

/-- Caps in force on a phase of a target (R270). -/
def State.capsOn (s : State) (c ph : Nat) : List Nat :=
  (capSlots.filter fun i => s.getN (k1BCapState i) = 2 && s.getN (k1BTarget i) = c && bit (s.getN (k1BPhaseMask i)) ph).map
    fun i => s.getN (k1BCap i)

/-- Effective import limit (R260). -/
def State.effLimit (s : State) (c ph : Nat) : Nat :=
  (s.capsOn c ph).foldl min (s.getN (k1BImportLimitL1L3 c ph))

/-- A phase exported in the last closed window (R264, R267). -/
def State.phaseExports (s : State) (sp j : Nat) : Bool := s.get (k0AActivePowerL1L2L3 sp j) < 0

/-- Current rms of a phase in the last published window in mA; 0Ah holds it in uA, and the rounding is open (log entry 8). -/
def State.phaseRms (s : State) (sp j : Nat) : Nat :=
  let x := s.getN (k0ACurrentRmsI1I2I3IN sp j)
  if x % 1000 = 0 then x / 1000 else (roundQ ((x : Rat) / 1000)).toNat

/-- Sum over the spokes and current channels on a phase of a target. -/
def State.sumOn (s : State) (c ph : Nat) (f : Nat → Nat → Int) : Int :=
  ((s.spokeList.filter fun sp => c = siteNum || s.getN (k1BFeeder (16 + sp)) = c).map fun sp =>
    (((s.usedChannels sp).filter fun j => s.phaseOf sp j = ph).map fun j => f sp j).sum).sum

/-- Export credit of a constraint (R264). -/
def State.exportCredit (s : State) (c ph : Nat) : Int :=
  if s.flag k1BExportCredit then
    s.sumOn c ph fun sp j =>
      if s.phaseExports sp j then (min (s.phaseRms sp j) (s.getN (k1BExportGrant (16 + sp))) : Nat)
      else 0
  else 0

def State.guard (s : State) (c ph : Nat) : GuardPhase := (s.peloton.guards.getD c []).getD ph {}
def State.modGuard (s : State) (c ph : Nat) (f : GuardPhase → GuardPhase) : State :=
  { s with peloton := { s.peloton with guards := s.peloton.guards.modify c fun l => l.modify ph f } }

/-- Available current (R260). -/
def State.available (s : State) (c ph : Nat) : Nat :=
  ((s.effLimit c ph : Int) - s.get (k1BReserveL1L3 c ph) - (s.guard c ph).trim + s.exportCredit c ph).toNat

/-! ### Inputs (R259, R261) -/

/-- Is a spoke active (R259)? -/
def State.peloActive (s : State) (sp : Nat) : Bool :=
  (s.openSlot sp).isSome && s.safety sp = 0 && !(s.pelo sp).stopped

/-- The ceiling of a spoke (R259). -/
def State.peloCeiling (s : State) (sp : Nat) : Nat :=
  let c := min (s.getN (k1BOutletMaximum (16 + sp))) (s.getN (k18CableRating sp))
  let v := s.getN (k1AVehicleMaximumCurrent sp)
  if v > 0 then min c v else c

/-- Start tick of the open session of a spoke. -/
def State.sessionStart (s : State) (sp : Nat) : Nat :=
  match s.openSlot sp with
  | some j => (s.slot j).startCc
  | none => s.cc

/-- The export ceiling (R264): only in an AC_BPT session, and 0 while the mains is lost (R254). -/
def State.exportCeiling (s : State) (sp : Nat) : Nat :=
  if s.getN (k1AProtocol sp) = 4 && (s.group (s.getN k09ReferenceGroup)).state = 0 && !s.pf.active then
    s.getN (k1AVehicleMaximumDischarge sp)
  else 0

def constraintList : List (Nat × Nat) := (List.range 9).flatMap fun c => (List.range 3).map fun ph => (c, ph)

def State.lagTicks (s : State) : Nat := msTicks (s.getN k1BVehicleLag)

/-- Are the contacts of a spoke open for its hold (R263)? -/
def State.contactsOpen (s : State) (sp : Nat) : Bool := s.gateState sp = 0 || s.gateState sp = 5

/-- The allocator latches its inputs (R261): called by the tick at CC mod 800 = 720 after step 5. -/
def State.latchPeloton (s : State) : State :=
  let rows := fun (f : Nat → Nat → Nat) => (List.range 9).map fun c => (List.range 3).map fun ph => f c ph
  let inp := fun (sp : Nat) =>
    ({ active := s.peloActive sp, feeder := s.getN (k1BFeeder (16 + sp)), tier := s.getN (k1BTier (16 + sp))
       phases := s.phasesUsed sp, ceiling := s.peloCeiling sp, started := s.sessionStart sp
       expCeiling := s.exportCeiling sp, gateOpen := s.contactsOpen sp
       barred := (List.range 3).any fun ph => (s.phasesUsed sp).getD ph false &&
         ((s.capsOn (s.getN (k1BFeeder (16 + sp))) ph).contains 0 || (s.capsOn siteNum ph).contains 0) } : PeloInput)
  { s with peloton := { s.peloton with
      avail := rows fun c ph => s.available c ph
      lag := s.lagTicks, abandoned := false
      exportLimit := rows fun c ph => s.getN (k1BExportLimitL1L3 c ph)
      spokes := (s.peloton.spokes.zipIdx.map fun x => { x.1 with input := inp x.2 }) } }

/-! ### Targets (R262) -/

/-- The constraints a spoke touches, by its latched inputs. -/
def PeloInput.touches (x : PeloInput) : List (Nat × Nat) :=
  ((List.range 3).filter fun ph => x.phases.getD ph false).flatMap fun ph => [(x.feeder, ph), (siteNum, ph)]

def limitAt (l : List (List Nat)) (c : Nat × Nat) : Nat := (l.getD c.1 []).getD c.2 0

/-- Sum of the figures of the spokes that touch a constraint. -/
def usedOn (inp : Nat → PeloInput) (figures : List Nat) (c : Nat × Nat) : Nat :=
  ((figures.zipIdx.filter fun x => (inp x.2).touches.contains c).map Prod.fst).sum

/-- Open spokes that touch a constraint. -/
def openOn (inp : Nat → PeloInput) (open_ : List Nat) (c : Nat × Nat) : Nat :=
  (open_.filter fun sp => (inp sp).touches.contains c).length

/-- One tier of R262, or the export procedure: open spokes rise together; each pass removes one at least. -/
def fillTier (inp : Nat → PeloInput) (ceil : Nat → Nat) (lim : List (List Nat)) : Nat → List Nat → List Nat → List Nat
  | 0, _, target => target
  | n + 1, open_, target =>
    match open_ with
    | [] => target
    | _ =>
      let room := fun c => (limitAt lim c) - usedOn inp target c
      let shares := open_.flatMap fun sp => (inp sp).touches.map fun c => room c / openOn inp open_ c
      let gaps := open_.map fun sp => ceil sp - target.getD sp 0
      let step := (shares ++ gaps).foldl min (gaps.headD 0)
      let target' := open_.foldl (fun t sp => t.modify sp (· + step)) target
      let room' := fun c => (limitAt lim c) - usedOn inp target' c
      let keep := open_.filter fun sp => target'.getD sp 0 < ceil sp &&
        (inp sp).touches.all fun c => openOn inp open_ c ≤ room' c
      fillTier inp ceil lim n keep target'

/-- Age of a session at a tick: the later the start the smaller. -/
def ageAt (now started : Nat) : Nat := (now + ccMod - started % ccMod) % ccMod

/-- The spoke that R262 and R269 choose: highest tier number, latest session start, higher spoke number. -/
def chooseSpoke (now : Nat) (tier started : Nat → Nat) (l : List Nat) : Option Nat :=
  l.foldl (fun b sp =>
    match b with
    | none => some sp
    | some x =>
      if tier x < tier sp then some sp
      else if tier x = tier sp && ageAt now (started sp) < ageAt now (started x) then some sp
      else if tier x = tier sp && ageAt now (started sp) = ageAt now (started x) && x < sp then some sp
      else b) none

/-- Targets and paused spokes: pausing one below 6,000 mA starts again (R262). -/
def findTargets (now : Nat) (inp : Nat → PeloInput) (lim : List (List Nat)) (active : List Nat) :
    Nat → List Nat → List Nat × List Nat
  | 0, paused => (List.replicate 24 0, paused)
  | n + 1, paused =>
    let serve := fun (t : Nat) => active.filter fun sp => (inp sp).tier = t && !paused.contains sp
    let target := (List.range 4).foldl (fun tg t => fillTier inp (fun sp => (inp sp).ceiling) lim 25 (serve t) tg)
      (List.replicate 24 0)
    let low := active.filter fun sp => 0 < target.getD sp 0 && target.getD sp 0 < 6000
    match chooseSpoke now (fun sp => (inp sp).tier) (fun sp => (inp sp).started) low with
    | some sp => findTargets now inp lim active n (sp :: paused)
    | none => (target, paused)

/-! ### Publication (R261-R266, R268) -/

/-- The hold of a spoke at a tick (R263): the highest grant published within the lag, 0 with open contacts. -/
def State.holdAt (s : State) (sp now lag : Nat) (open_ : Bool) : Nat :=
  if open_ then 0
  else (((s.pelo sp).history.filter fun x => (now + ccMod - x.1 % ccMod) % ccMod ≤ lag).map Prod.snd).foldl max 0

def State.granted (s : State) (sp : Nat) : Nat := s.getN (k1BGrantedCurrent (16 + sp))

/-- A grant is published at a tick; a change raises ALLOC. -/
def State.publish (s : State) (sp now g : Nat) : State :=
  let t := (s.put (k1BGrantedCurrent (16 + sp)) g).modPelo sp fun p =>
    { p with history := ((now, g) :: p.history).filter fun x => (now + ccMod - x.1 % ccMod) % ccMod ≤ 80800 }
  if s.granted sp = g then t else t.raise sp fAlloc

/-- Step 3 of R263: one spoke is raised as far as the room allows. -/
def raiseGrant (inp : Nat → PeloInput) (lim : List (List Nat)) (target hold grants : List Nat) (sp : Nat) : List Nat :=
  let g := grants.getD sp 0
  let h := hold.getD sp 0
  let figures := (grants.zip hold).map fun x => max x.1 x.2
  let rooms := (inp sp).touches.map fun c =>
    (limitAt lim c : Int) - usedOn inp figures c + max g h - g
  let up := (rooms.foldl min ((target.getD sp 0 : Int) - g)).toNat
  if 0 < up && (g + up = 0 || 6000 ≤ g + up) then grants.set sp (g + up) else grants

/-- The stage-1 trim at a later period while the current stays above its limit (R268). -/
def State.raiseTrims (s : State) : State :=
  s.each constraintList fun s x =>
    let g := s.guard x.1 x.2
    if g.one && 0 < g.above then
      s.modGuard x.1 x.2 fun g =>
        { g with trim := min (s.effLimit x.1 x.2) (g.trim + ((g.measured - s.effLimit x.1 x.2) + 1000).toNat) }
    else s

/-- Trim, stage and measured current as the members show them (R272). -/
def State.showGuard (s : State) : State :=
  s.each (List.range 9) fun s c =>
    let l := (List.range 3).map fun ph => s.guard c ph
    (s.puts [(k1BGuardStage c, ((l.map GuardPhase.stage).foldl max 0 : Nat)),
      (k1BTrim c, ((l.map GuardPhase.trim).foldl max 0 : Nat))]).puts
      ((List.range 3).map fun ph => (k1BMeasuredL1L3 c ph, (s.guard c ph).measured))

/-- The period's result is published (R261): decreases first, then what is held, then increases. -/
def State.publishPeriod (s : State) : State :=
  let now := s.nextTick
  let inp := fun sp => (s.pelo sp).input
  let active := s.spokeList.filter fun sp => (inp sp).active && !(s.pelo sp).stopped
  let weak := active.filter fun sp => (inp sp).ceiling < 6000
  let barred := active.filter fun sp => (inp sp).barred && 6000 ≤ (inp sp).ceiling
  let r := findTargets now inp s.peloton.avail active 25 (weak ++ barred)
  let target := r.1
  let hold := (List.range 24).map fun sp => s.holdAt sp now s.peloton.lag (inp sp).gateOpen
  let keeps := fun (sp : Nat) => s.leaseRuns && s.gateState sp = 2
  let grants0 := (List.range 24).map fun sp =>
    if target.getD sp 0 ≤ s.granted sp && !keeps sp then target.getD sp 0 else s.granted sp
  let up := s.spokeList.filter fun sp => grants0.getD sp 0 < target.getD sp 0
  let order := (List.range 4).flatMap fun t =>
    (up.filter fun sp => (inp sp).tier = t).mergeSort fun a b => ageAt now (inp b).started ≤ ageAt now (inp a).started
  let allowed := match s.peloton.reboundEnd with
    | some e => s.dueNext e
    | none => true
  let grants := if allowed then order.foldl (fun g sp => raiseGrant inp s.peloton.avail target hold g sp) grants0 else grants0
  let expSpokes := active.filter fun sp => 0 < (inp sp).expCeiling
  let exports := fillTier inp (fun sp => (inp sp).expCeiling) s.peloton.exportLimit 25 expSpokes (List.replicate 24 0)
  let t := s.each s.spokeList fun t sp =>
    let i := inp sp
    let p := s.pelo sp
    let g := if p.stopped then 0 else grants.getD sp 0
    let paused := active.contains sp && r.2.contains sp
    let st : Nat := if p.stopped then 4 else if !active.contains sp then 0 else if paused then 2
      else if g < target.getD sp 0 then 5 else 1
    let t := (t.publish sp now g).puts [(k1BExportGrant (16 + sp), (exports.getD sp 0 : Nat)),
      (k1BCeiling (16 + sp), if i.active then (i.ceiling : Nat) else 0), (k1BAllocationState (16 + sp), (st : Nat))]
    let t := t.when (paused && !p.paused && !barred.contains sp) fun t => t.notice byDevice 0x0801 sp
    t.modPelo sp fun p => { p with paused := paused }
  (t.raiseTrims.showGuard).put k1BLastPeriod now

/-- ALLOCATION_PERIOD (R261): it stands before the TICK whose CC is a multiple of 800; `finished` says whether the
computation has ended by then; one that a bite abandoned has not (R47). -/
def allocationPeriod (finished : Bool) (s : State) : State :=
  if s.nextTick % 800 ≠ 0 then s
  else if finished && !s.peloton.abandoned then s.publishPeriod
  else ((s.count k1BLateComputations).noticeOpen byDevice 0x0803).raiseTrims.showGuard

def execAllocationPeriod (finished : Bool) (s : State) : Host.Outcome State Fault Refusal := .next (allocationPeriod finished s)

/-! ### The overload guard (R267-R269) -/

/-- Measured current of a constraint (R267). -/
def State.measured (s : State) (c ph : Nat) : Int :=
  (s.sumOn c ph fun sp j =>
    let i : Int := s.phaseRms sp j
    if s.phaseExports sp j then -i else i) + s.get (k1BReserveL1L3 c ph)

/-- Does a spoke touch a constraint now? -/
def State.touchesNow (s : State) (sp c ph : Nat) : Bool :=
  (c = siteNum || s.getN (k1BFeeder (16 + sp)) = c) && (s.phasesUsed sp).getD ph false

/-- The spoke that the guard takes among those that touch a constraint (R269). -/
def State.guardChoice (s : State) (c ph : Nat) (p : Nat → Bool) : Option Nat :=
  chooseSpoke s.cc (fun sp => s.getN (k1BTier (16 + sp))) s.sessionStart
    (s.spokeList.filter fun sp => s.touchesNow sp c ph && p sp)

/-- Stage 3 in a safety evaluation (R268): 1 s above 125 % opens the contacts of one spoke, and the count restarts; GUARD_STAGE_3 reports
it. -/
def State.guardOpens (s : State) (c ph : Nat) : State :=
  if (s.guard c ph).above125 < 8000 then s
  else
    let sp := s.guardChoice c ph fun sp => s.gateState sp = 2
    let t := s.modGuard c ph fun g => { g with above125 := 0, fired := true, opened := sp }
    match sp with
    | some sp => t.openContacts sp 3
    | none => t

/-- The guard's counts in a safety evaluation; a guard mark without a session falls (R269). -/
def State.evalGuard (s : State) : State :=
  let t := s.each constraintList fun t x =>
    let m := s.measured x.1 x.2
    let lim : Int := s.effLimit x.1 x.2
    t.modGuard x.1 x.2 fun g =>
      { g with measured := m, above := if lim < m then g.above + 1 else 0
               above125 := if 5 * lim < 4 * m then g.above125 + 1 else 0
               below := if m ≤ lim - 1000 then g.below + 1 else 0
               lastStop := if lim < m then g.lastStop else 0 }
  let t := t.each constraintList fun t x => t.guardOpens x.1 x.2
  let t := t.each t.spokeList fun t sp =>
    if (t.pelo sp).stopped && (t.openSlot sp).isNone && t.gateState sp ≠ 2 then t.modPelo sp fun p => { p with stopped := false }
    else t
  t.showGuard

def guardValue (c ph : Nat) : Nat := c * 256 + ph

/-- GUARD_STAGE_1 (R268): once until a recovery, also where stage 3 stands before it. -/
def guardStage1 (c ph : Nat) (s : State) : State :=
  let g := s.guard c ph
  if c ≤ siteNum && ph < 3 && 40000 ≤ g.above && !g.one then
    ((s.modGuard c ph fun g => { g with stage := max 1 g.stage, one := true }).notice byDevice 0x0810 (guardValue c ph)).showGuard
  else s

def execGuardStage1 (c ph : Nat) (s : State) : Host.Outcome State Fault Refusal := .next (guardStage1 c ph s)

/-- What R269 does to a spoke that the guard stops or opens. -/
def State.guardMark (s : State) (c sp : Nat) : State :=
  ((s.modPelo sp fun p => { p with stopped := true, zeroNext := true }).put (k1BAllocationState (16 + sp)) 4).count
    (k1BGuardActions c)

/-- GUARD_STAGE_2 (R268, R269): 10 s above the limit, then every lag. -/
def guardStage2 (c ph : Nat) (s : State) : State :=
  let g := s.guard c ph
  let due := c ≤ siteNum && ph < 3 && 80000 ≤ g.above && (g.lastStop = 0 || g.lastStop + s.lagTicks ≤ g.above)
  if !due then s
  else
    let t := (s.modGuard c ph fun g => { g with stage := max 2 g.stage, lastStop := g.above }).showGuard
    match s.guardChoice c ph s.peloActive with
    | some sp =>
      let t := match s.openSlot sp with
        | some j => applyStop j 1 t
        | none => t
      (t.notice byDevice 0x0811 sp).guardMark c sp
    | none => t

def execGuardStage2 (c ph : Nat) (s : State) : Host.Outcome State Fault Refusal := .next (guardStage2 c ph s)

/-- GUARD_STAGE_3 (R268, R269): the opening that the evaluation has made is reported. -/
def guardStage3 (c ph : Nat) (s : State) : State :=
  if !(c ≤ siteNum && ph < 3 && (s.guard c ph).fired) then s
  else
    let t := (s.modGuard c ph fun g => { g with stage := 3, fired := false, opened := none }).showGuard
    match (s.guard c ph).opened with
    | some sp => (t.notice byDevice 0x0812 sp).guardMark c sp
    | none => t

def execGuardStage3 (c ph : Nat) (s : State) : Host.Outcome State Fault Refusal := .next (guardStage3 c ph s)

/-- GUARD_RECOVERY (R268). -/
def guardRecovery (c ph : Nat) (s : State) : State :=
  let g := s.guard c ph
  if c ≤ siteNum && ph < 3 && 480000 ≤ g.below && (g.stage ≠ 0 || g.trim ≠ 0) then
    ((s.modGuard c ph fun g => { g with stage := 0, trim := 0, below := 0, lastStop := 0, one := false }).notice byDevice 0x0813
      (guardValue c ph)).showGuard
  else s

def execGuardRecovery (c ph : Nat) (s : State) : Host.Outcome State Fault Refusal := .next (guardRecovery c ph s)

/-- The grants that the guard has set to 0 (R269), in step 6 of the tick after. -/
def State.guardZero (s : State) : State :=
  s.each s.spokeList fun s sp =>
    if (s.pelo sp).zeroNext then
      (((s.modPelo sp fun p => { p with zeroNext := false }).publish sp s.nextTick 0).put (k1BExportGrant (16 + sp)) 0).raise
        sp fAlloc
    else s

/-! ### Demand-response caps (R270, R271, R348) -/

/-- A change of a held cap goes to the setting log (R271): its seven members. -/
def State.logCap (s : State) (i : Nat) : State :=
  { s with flash := { s.flash with
      logDue := s.flash.logDue ++ (List.range 7).map fun m => (key 0x1B i m, s.get (key 0x1B i m)) } }

/-- A slot is freed; nothing of its MC events stays. -/
def State.freeCap (s : State) (i : Nat) : State :=
  (({ s with chainline := { s.chainline with
        events := s.chainline.events.filter fun e => e.2 ≠ ChlEvent.capStart i } }).puts
    ((List.range 7).map fun m => (key 0x1B i m, 0))).logCap i

/-- A held cap is discarded because wall time is invalid (R271). -/
def State.discardCap (s : State) (i : Nat) : State := (s.notice byDevice 0x0822 (s.getN (k1BCapIdentity i))).freeCap i

/-- The slots that hold a cap. -/
def State.heldCaps (s : State) : List Nat := capSlots.filter fun i => s.getN (k1BCapState i) ≠ 0

/-- A cap becomes active: its start member shows the actual wall time (R348). -/
def State.activateCap (s : State) (i : Nat) : State :=
  ((s.puts [(k1BCapState i, 2), (k1BStart i, (s.stampNext : Nat))]).notice byDevice 0x0820 (s.getN (k1BCapIdentity i))).logCap i

/-- Does the slot wait for an MC value? -/
def State.capOnMc (s : State) (i : Nat) : Bool := s.chainline.events.any fun e => e.2 = ChlEvent.capStart i

/-- MC has reached a target: the nearer half of its circle counts as past. -/
def State.mcReached (s : State) (m : Nat) : Bool := (s.getN k20MC + ccMod - m % ccMod) % ccMod < ccMod / 2

/-- CAP_ACTIVATION (R270, R348): by its MC target, or for a cap restored at boot by its stored wall time. -/
def capActivation (i : Nat) (s : State) : State :=
  if !capSlots.contains i || s.getN (k1BCapState i) ≠ 1 then s
  else
    match s.chainline.events.find? fun e => e.2 = ChlEvent.capStart i with
    | some e =>
      if s.mcReached e.1 then
        ({ s with chainline := { s.chainline with events := s.chainline.events.filter fun e => e.2 ≠ ChlEvent.capStart i } }).activateCap i
      else s
    | none => if s.getN (k1BStart i) ≤ s.wallNext then s.activateCap i else s

def execCapActivation (slot : Nat) (s : State) : Host.Outcome State Fault Refusal := .next (capActivation slot s)

/-- The random delay before raises (R271), from the coming tick. -/
def State.rebound (s : State) : State :=
  let e := (s.nextTick + s.drawnIn 0 (secTicks (s.getN k1BReboundWindow))) % ccMod
  let later := match s.peloton.reboundEnd with
    | some x => if s.dueNext x || (e + ccMod - x) % ccMod < ccMod / 2 then e else x
    | none => e
  { s.drew with peloton := { s.peloton with reboundEnd := some later } }

/-- A cap ends. -/
def State.endCap (s : State) (i : Nat) : State :=
  ((s.notice byDevice 0x0821 (s.getN (k1BCapIdentity i))).freeCap i).rebound

/-- Has the end of a cap come (R270, R348)? -/
def State.capOver (s : State) (i : Nat) : Bool := s.getN (k1BEnd i) ≤ s.wallNext

/-- CAP_END (R270, R271). -/
def capEnd (i : Nat) (s : State) : State :=
  if capSlots.contains i && s.getN (k1BCapState i) ≠ 0 && s.capOver i then s.endCap i else s

def execCapEnd (slot : Nat) (s : State) : Host.Outcome State Fault Refusal := .next (capEnd slot s)

/-- REBOUND_DELAY_END (R271): raises are published again from the next period on. -/
def reboundDelayEnd (s : State) : State :=
  match s.peloton.reboundEnd with
  | some e => if s.dueNext e then { s with peloton := { s.peloton with reboundEnd := none } } else s
  | none => s

def execReboundDelayEnd (s : State) : Host.Outcome State Fault Refusal := .next (reboundDelayEnd s)

/-- Placing a cap (R270): an identity already held keeps its slot; a ninth finds none. -/
def State.capSlotFor (s : State) (ident : Nat) : Option Nat :=
  match capSlots.find? fun i => s.getN (k1BCapState i) ≠ 0 && s.getN (k1BCapIdentity i) = ident with
  | some i => some i
  | none => capSlots.find? fun i => s.getN (k1BCapState i) = 0

end Sys2Proof.Machine
end

