-- ==== Sys2Proof/Machine/Tag.lean ====
section
/-! DEFINITION. The dormant tag (R371-R376): air interface, memory, the two record slots, FDET, the identity area. -/

namespace Sys2Proof.Machine

/-! ### Memory (R371) -/

def tagPages : Nat := 516

/-- Pages 0 to 3, which no command writes: the UID with its check bytes (ISO/IEC 14443-3: BCC0 over 88h and the first three bytes,
BCC1 over the last four), an internal byte and two lock bytes that no rule gives, the capability container (R371). -/
def fixedPages : List Nat :=
  let u := natBytes Config.tagUid
  let x := fun (l : List Nat) => l.foldl Nat.xor 0
  u.take 3 ++ [x (0x88 :: u.take 3)] ++ (u.drop 3).take 4 ++
    [x ((u.drop 3).take 4), Config.tagFixed 0 % 256, Config.tagFixed 1 % 256, Config.tagFixed 2 % 256, 0xE1, 0x10, 0x40, 0x0F]

def tagByte (t : Tag) (a : Nat) : Nat := if a < 16 then fixedPages.getD a 0 else (storeRead (0 : Byte) t.mem a).toNat
def tagPage (t : Tag) (p : Nat) : List Nat := (List.range 4).map fun i => tagByte t (4 * p + i)
def tagBytes (t : Tag) (p n : Nat) : List Nat := (List.range (4 * n)).map fun i => tagByte t (4 * p + i)

/-- A page takes four bytes. -/
def tagSet (t : Tag) (p : Nat) (data : List Byte) : Tag :=
  { t with mem := (List.range 4).foldl (fun m i => storeWrite (0 : Byte) m (4 * p + i) (data.getD i 0)) t.mem }

def State.modTag (s : State) (f : Tag → Tag) : State := { s with tag := f s.tag }

/-! ### Records (R371, R374) -/

def slotPage (k : Nat) : Nat := 136 + 190 * k
def markerPage (k : Nat) : Nat := 133 + k
def pointerPage : Nat := 132

def tagSlotSeq (t : Tag) (k : Nat) : Nat := numBE ((tagPage t (slotPage k)).take 2)

/-- Does the slot's CRC-32 over pages 0-188 verify? -/
def tagSlotCrc (t : Tag) (k : Nat) : Bool := numBE (tagPage t (slotPage k + 189)) = crc32 (tagBytes t (slotPage k) 189)

/-- A marker page: its SEQ when the A5h byte and the CRC-8 are right. -/
def markerSeq (b : List Nat) : Option Nat :=
  if b.getD 2 0 = 0xA5 && b.getD 3 0 = crc8 (b.take 3) then some (numBE (b.take 2)) else none

/-- The pointer: slot and SEQ when its CRC-8 is right. -/
def pointerOf (b : List Nat) : Option (Nat × Nat) :=
  if b.getD 3 0 = crc8 (b.take 3) then some (b.getD 0 0, numBE ((b.drop 1).take 2)) else none

/-- A valid slot: a valid marker with the slot's SEQ, and a verifying CRC-32 (DEDUCED from R373, log entry 35). -/
def validSlot (t : Tag) (k : Nat) : Option Nat :=
  match markerSeq (tagPage t (markerPage k)) with
  | some q => if tagSlotCrc t k && tagSlotSeq t k = q then some q else none
  | none => none

/-- Is `a` newer than `b` modulo 2^16? -/
def seqNewer16 (a b : Nat) : Bool := let d := (a + 65536 - b % 65536) % 65536; 0 < d && d < 32768

/-- The slot that holds the current record (R374). -/
def currentSlot (t : Tag) : Option Nat :=
  let byPointer := match pointerOf (tagPage t pointerPage) with
    | some (k, q) => if k ≤ 1 && markerSeq (tagPage t (markerPage k)) = some q && tagSlotCrc t k then some k else none
    | none => none
  match byPointer with
  | some k => some k
  | none =>
    match validSlot t 0, validSlot t 1 with
    | some a, some b => if seqNewer16 b a then some 1 else some 0
    | some _, none => some 0
    | none, some _ => some 1
    | none, none => none

/-- The slot a phone may write. -/
def shadowSlot (t : Tag) : Nat := if currentSlot t = some 0 then 1 else 0

/-- SEQ of the current record. -/
def currentSeq (t : Tag) : Option Nat := (currentSlot t).map fun k => (markerSeq (tagPage t (markerPage k))).getD 0

/-! ### The air interface (R371) -/

def State.tagReply (s : State) (l : List Nat) : State := s.send (.tagReply (toBytes l))

/-- REQA (R371): an idle tag answers and joins the anticollision. A command implies a field; one that arrives while the tag is being
programmed is not answered (R376). -/
def reqa (s : State) : State :=
  if s.tag.prog.isSome then s.modTag fun t => { t with field := true }
  else match s.tag.picc with
  | .idle => (s.modTag fun t => { t with field := true, picc := .ready 1 false }).tagReply [0x44, 0x00]
  | _ => s

def execReqa (s : State) : Host.Outcome State Fault Refusal := .next (reqa s)

/-- WUPA (R371): a halted tag answers too. -/
def wupa (s : State) : State :=
  if s.tag.prog.isSome then s.modTag fun t => { t with field := true }
  else match s.tag.picc with
  | .halt => (s.modTag fun t => { t with field := true, picc := .ready 1 true }).tagReply [0x44, 0x00]
  | _ => reqa s

def execWupa (s : State) : Host.Outcome State Fault Refusal := .next (wupa s)

/-- What the tag sends at a cascade level: four bytes of the level and their check byte. -/
def levelBytes (level : Nat) : List Nat :=
  let u := natBytes Config.tagUid
  let b := if level = 1 then 0x88 :: u.take 3 else (u.drop 3).take 4
  b ++ [b.foldl Nat.xor 0]

/-- The bits of a level, the least significant bit of each byte first, as a number whose bit 0 is sent first. -/
def levelBits (level : Nat) : Nat := ((levelBytes level).zipIdx.map fun x => x.1 * 256 ^ x.2).sum

/-- ANTICOLLISION (R371): `bits` valid bits of a level match, and the tag sends the remaining ones, or it falls back; all 40 select
it. -/
def anticollision (level bits uid : Nat) (s : State) : State :=
  if s.tag.prog.isSome then s
  else match s.tag.picc with
  | .ready l h =>
    let back : PiccState := if h then .halt else .idle
    if l ≠ level || 40 < bits then s.modTag fun t => { t with picc := back }
    else if uid % 2 ^ bits ≠ levelBits l % 2 ^ bits then s.modTag fun t => { t with picc := back }
    else if bits = 40 then
      (if l = 1 then (s.modTag fun t => { t with picc := .ready 2 h }).tagReply [0x04]
      else (s.modTag fun t => { t with picc := .active }).tagReply [0x00])
    else s.send (.tagBits (40 - bits) (levelBits l / 2 ^ bits))
  | _ => s

def execAnticollision (level bits uid : Nat) (s : State) : Host.Outcome State Fault Refusal := .next (anticollision level bits uid s)

/-- HLTA (R371). -/
def hlta (s : State) : State := if s.tag.picc = .active then s.modTag fun t => { t with picc := .halt } else s

def execHlta (s : State) : Host.Outcome State Fault Refusal := .next (hlta s)

/-- Is the tag selected and not programming? -/
def State.tagServes (s : State) : Bool := s.tag.picc = .active && s.tag.prog.isNone

/-- TAG_READ (R371): 16 bytes from a page on. -/
def tagRead (page : Nat) (s : State) : State :=
  if !s.tagServes then s
  else if tagPages ≤ page then s.tagReply [0x00]
  else s.tagReply ((List.range 16).map fun i => tagByte s.tag ((4 * page + i) % (4 * tagPages)))

def execTagRead (page : Nat) (s : State) : Host.Outcome State Fault Refusal := .next (tagRead page s)

/-- Ticks of a page write (4 ms). -/
def pageTicks : Nat := 32

def State.startProg (s : State) (p : TagProg) : State := s.modTag fun t => { t with prog := some p, progEnd := s.after pageTicks }

/-- Is an accepted commit marker (R373)? -/
def markerAccepted (t : Tag) (data : List Byte) : Bool :=
  match markerSeq (natBytes data) with
  | some q => tagSlotSeq t (shadowSlot t) = q && tagSlotCrc t (shadowSlot t) &&
      (match currentSeq t with
        | some c => seqNewer16 q c
        | none => true)
  | none => false

/-- COMMIT_MARKER_WRITE (R373): the marker and then the pointer are programmed. -/
def commitMarkerWrite (page : Nat) (data : List Byte) (supplyOk : Bool) (s : State) : State :=
  let k := shadowSlot s.tag
  if !s.tagServes || !(page = 133 || page = 134) then s
  else if !supplyOk then s.tagReply [0x05]
  else if page ≠ markerPage k || !markerAccepted s.tag data then s.tagReply [0x00]
  else
    let q := (natBytes data).take 2
    s.startProg (.marker page data (toBytes (k :: q ++ [crc8 (k :: q)])))

def execCommitMarkerWrite (page : Nat) (data : List Byte) (supplyOk : Bool) (s : State) : Host.Outcome State Fault Refusal :=
  .next (commitMarkerWrite page data supplyOk s)

/-- Is a page one of slot `k`? -/
def inSlot (k page : Nat) : Bool := slotPage k ≤ page && page < slotPage k + 190

/-- TAG_WRITE (R371, R372). -/
def tagWrite (page : Nat) (data : List Byte) (supplyOk : Bool) (s : State) : State :=
  if page = 133 || page = 134 then commitMarkerWrite page data supplyOk s
  else if !s.tagServes then s
  else if !supplyOk then s.tagReply [0x05]
  else if inSlot (shadowSlot s.tag) page then s.startProg (.page page data)
  else s.tagReply [0x00]

def execTagWrite (page : Nat) (data : List Byte) (supplyOk : Bool) (s : State) : Host.Outcome State Fault Refusal :=
  .next (tagWrite page data supplyOk s)

/-- The identity area as it should be: an NDEF TLV and its terminator (NFC Forum layout, log entry 35). -/
def State.identityArea (s : State) : List Nat :=
  let b := [0x03, s.ndef.length] ++ s.ndef ++ [0xFE]
  b ++ List.replicate (512 - b.length) 0

/-- The next page of the identity area whose content differs is written by the device, while no field is present (R376). -/
def State.ownPage (s : State) : State :=
  if s.tag.field || s.tag.prog.isSome then s
  else match (List.range 128).find? fun i => tagPage s.tag (4 + i) ≠ (s.identityArea.drop (4 * i)).take 4 with
    | some i => s.startProg (.own (4 + i) (toBytes ((s.identityArea.drop (4 * i)).take 4)))
    | none => s

/-- Programming proceeds: called by the tick. The answer is ACK when all of it is done. -/
def State.tagTick (s : State) : State :=
  match s.tag.prog with
  | none => s
  | some p =>
    if !s.reached s.tag.progEnd then s
    else match p with
      | .page n d => (s.modTag fun t => { tagSet t n d with prog := none }).tagReply [0x0A]
      | .marker n d q => (s.modTag fun t => tagSet t n d).startProg (.pointer q)
      | .pointer q => (s.modTag fun t => { tagSet t pointerPage q with prog := none }).tagReply [0x0A]
      | .own n d => (s.modTag fun t => { tagSet t n d with prog := none }).ownPage

/-- Four free bytes that stand in an interrupted page; `holds` says of the tag with them that the check which the table of R374 has
fail would pass, and then the last bit of the page is inverted. -/
def tornPage (t : Tag) (page v : Nat) (holds : Tag → Bool) : Tag :=
  let put := fun (w : Nat) => tagSet t page (toBytes (bytesBE 4 (w % 4294967296)))
  if holds (put v) then put (Nat.xor (v % 4294967296) 1) else put v

/-- The check of a page that R374 has fail once its programming was interrupted: the CRC-8 of a marker or of the pointer, the CRC-32
of a slot. -/
def pageHolds (page : Nat) (t : Tag) : Bool :=
  if page = 133 || page = 134 || page = pointerPage then (tagPage t page).getD 3 0 = crc8 ((tagPage t page).take 3)
  else tagSlotCrc t (if page < slotPage 1 then 0 else 1)

def State.freePage (s : State) (page : Nat) : State :=
  (s.modTag fun t => tornPage t page s.drawn (pageHolds page)).drew

/-- The device loses its supply or resets while it writes a page of the tag: that page holds anything. -/
def Tag.cutOwn (t : Tag) (v : Nat) : Tag :=
  match t.prog with
  | some (.own n _) => { tagSet t n (toBytes (bytesBE 4 (v % 4294967296))) with prog := none }
  | _ => t

/-- TAG_FIELD_LOST (R374): the page that was being programmed holds anything; what had been finished stays. -/
def tagFieldLost (s : State) : State :=
  let t := match s.tag.prog with
    | some (.page n _) => s.freePage n
    | some (.marker n _ _) => s.freePage n
    | some (.pointer _) => s.freePage pointerPage
    | some (.own _ _) => s
    | none => s
  let own := match s.tag.prog with
    | some (.own n d) => some (TagProg.own n d)
    | _ => none
  (t.modTag fun x => { x with prog := own, picc := .idle, field := false, fieldGone := some s.cc }).put k22TagState 0

def execTagFieldLost (s : State) : Host.Outcome State Fault Refusal := .next (tagFieldLost s)

/-! ### FDET (R375) and the identity area (R376) -/

/-- FDET_RELEASE (R375). -/
def fdetRelease (s : State) : State :=
  if s.tag.fdet then s
  else ((s.modTag fun t => { t with fdet := true, field := true, fieldGone := none }).put k22TagState 1).count k22FieldEvents

def execFdetRelease (s : State) : Host.Outcome State Fault Refusal := .next (fdetRelease s)

/-- FDET_LOW (R375): 100 ms after the field has gone. In Kickstand CC stands still, and the tag's own time says when the row comes. -/
def fdetLow (s : State) : State :=
  match s.tag.fieldGone with
  | some t =>
    if s.tag.fdet && !s.tag.field && (!s.modes.powered || s.reached ((t + msTicks 100) % ccMod)) then
      s.modTag fun x => { x with fdet := false, fieldGone := none }
    else s
  | none => s

def execFdetLow (s : State) : Host.Outcome State Fault Refusal := .next (fdetLow s)

/-- IDENTITY_REWRITE (R376): the pages of the identity area that differ are written one after another, 4 ms each; a page is begun
only while no field is present. A powered device does it. -/
def identityRewrite (s : State) : State := if s.modes.powered then s.ownPage else s

def execIdentityRewrite (s : State) : Host.Outcome State Fault Refusal := .next (identityRewrite s)

/-- The commissioning record that boot finds (R376): SEQ and payload, when it is a new one. -/
def State.newRecord_ (s : State) : Option (Nat × List Nat) :=
  match currentSlot s.tag, currentSeq s.tag with
  | some k, some q =>
    if q = s.getN k22AppliedSEQ then none
    else some (q, (tagBytes s.tag (slotPage k + 1) 188).take (numBE ((tagPage s.tag (slotPage k)).drop 2)))
  | _, _ => none

end Sys2Proof.Machine
end

