-- ==== Sys2Proof/Machine/VehicleLink.lean ====
section
/-! DEFINITION. The vehicle link (R239-R256): link state, SLAC and the cross-spoke rule, application protocols, identification,
TLS offers. The firmware serves it, so nothing is answered while the core domain is in reset (R244). What goes to the vehicle
is an output with the figures that the rules give it. -/

namespace Sys2Proof.Machine

def State.vlink (s : State) (sp : Nat) : VLink := (s.spoke sp).link

/-- Filtered state B, C or D. -/
def State.pilotBcd (s : State) (sp : Nat) : Bool := let p := s.pilotState sp; 1 ≤ p && p ≤ 3

def State.say (s : State) (sp : Nat) (m : String) (v : List Int) : State := s.send (.vehicle sp m v)

/-- The command reaches a spoke that exists while the firmware runs. -/
def State.vehicleUp (s : State) (sp : Nat) : Bool := sp < s.spokeCount && s.lease.fwUp

/-! ### Link state (R242, R243) -/

/-- The high-level session ends: its members read 0 (R242). -/
def State.endVehicle (s : State) (sp : Nat) : State :=
  ((s.setVehicleMax sp 0).puts [(k1AVehicleMaximumDischarge sp, 0), (k1AProtocol sp, 0), (k1AIdentification sp, 0), (k1ATLS sp, 0),
    (k1AContractPending sp, 0)]).modVLink sp fun l =>
    { l with tcp := false, stopAt := none, stopping := false, startAt := none, contractEnd := none, contractResult := 0,
             tlsFailedAt := none, matchedAt := none, contract := none, tlsKey := none }

/-- The link state becomes 0, 1 or 5, where no high-level session runs; a logical network ends with its key. -/
def State.leaveLink (s : State) (sp st : Nat) : State :=
  ((s.endVehicle sp).modVLink sp fun l => { l with nmk := if st = 5 then l.nmk else 0 }).setLinkState sp st

/-- A failed attempt (R246): after the third since the entry time the spoke falls back, else SLAC runs again. -/
def State.failedAttempt (s : State) (sp : Nat) : State :=
  let n := s.getN (k1AFailedAttempts sp) + 1
  let t := s.put (k1AFailedAttempts sp) (min n 255 : Nat)
  if 3 ≤ n then (t.leaveLink sp 5).notice byDevice 0x0702 sp else t.leaveLink sp 1

/-- An abnormal loss (R242). -/
def State.abnormal (s : State) (sp : Nat) : State :=
  (s.leaveLink sp (if s.pilotBcd sp then 1 else 0)).notice byDevice 0x0705 sp

/-- Link control in force and what the pilot makes of the link in a frame (R240, R242, R243, R476); all of it keeps its last
values until the firmware has restarted (R244). -/
def State.evalLink (s : State) (sp : Nat) : State :=
  if !s.lease.fwUp then s
  else
    let ctl := (s.pedal sp).linkCtl
    let t := s.put (k1ALinkControlInForce sp) ctl
    let p := t.pilotState sp
    let off := decide (ctl = 0) || p = 0 || p = 5 || p = 6 || p = 7
    if off then (if t.linkState sp = 0 then t else t.leaveLink sp 0)
    else if t.bist.stationFailed.contains sp && p = 1 && t.linkState sp ≠ 5 then t.leaveLink sp 5
    else if t.linkState sp = 0 && ctl = 1 && t.pilotBcd sp then t.setLinkState sp 1
    else if ctl = 2 && (t.linkState sp = 3 || t.linkState sp = 4) then t.modVLink sp fun l => { l with stopping := true }
    else t

/-- Every link after a restart of the firmware (R244). -/
def State.restartVehicle (s : State) : State :=
  let t := { s with slac := [] }
  t.each t.spokeList fun t sp =>
    let t := if (t.vlink sp).entered then (t.put (k1AFailedAttempts sp) 0).modVLink sp fun l => { l with entered := false } else t
    if 2 ≤ t.linkState sp && t.linkState sp ≤ 4 then (t.abnormal sp).raise sp fLink else t

/-- The keys of TLS sessions are lost (R253): each session under TLS ends as an abnormal loss. -/
def State.loseTls (s : State) : State :=
  s.each s.spokeList fun s sp =>
    if (s.vlink sp).tlsKey.isSome && 2 ≤ s.linkState sp && s.linkState sp ≤ 4 then s.abnormal sp else s

/-! ### SLAC (R245, R246) -/

def soundTicks : Nat := 4800
def entryTicks : Nat := 400000
def nearTicks : Nat := 1600
def leastSounds : Nat := 3
def attenGroups : Nat := 58
def marginLeast : Nat := 60

/-- A candidate (R246). -/
def State.candidate (s : State) (sp : Nat) : Bool :=
  sp < s.spokeCount && s.linkState sp = 1 && (s.pedal sp).linkCtl = 1 && s.pilotBcd sp

/-- Is a run the one of a RunID and a vehicle MAC (R245)? -/
def SlacRun.same (r : SlacRun) (run mac : Nat) : Bool := r.run = run && r.mac = mac

/-- The run with an identity; a new one when it is not known. -/
def State.modRun (s : State) (run mac : Nat) (f : SlacRun → SlacRun) : State :=
  if s.slac.any fun r => r.same run mac then { s with slac := s.slac.map fun r => if r.same run mac then f r else r }
  else { s with slac := s.slac ++ [f { run := run, mac := mac, heard := [], start := none, sounds := [], chosen := none }] }

/-- Is a station powered (R240)? -/
def State.stationOn (s : State) (sp : Nat) : Bool :=
  sp < s.spokeCount && !s.bist.stationFailed.contains sp && !s.unpoweredStations.contains sp

/-- Does a station receive a SLAC message (R240, R452)? In Cruise the stations of spokes without an open session receive
parameter requests, and nothing else is received; Coast switches them off. -/
def State.stationHears (s : State) (parm : Bool) (sp : Nat) : Bool :=
  if s.getN k01Mode = 3 then false
  else if s.listening then parm && sp < s.spokeCount && !s.bist.stationFailed.contains sp && (s.openSlot sp).isNone
  else s.stationOn sp

/-- Every candidate of a list answers the parameter request of a run (R245). -/
def State.answerParm (s : State) (run mac : Nat) (l : List Nat) : State :=
  s.each (l.filter s.candidate) fun t sp =>
    (t.say sp "CM_SLAC_PARM.CNF" [run, mac]).modVLink sp fun l => { l with run := some run }

/-- The Green PHY warm restart (R240). -/
def warmTicks : Nat := 64

/-- CM_SLAC_PARM_REQ (R240, R245, R457): every candidate that received it answers. Where only the listeners ran it returns the device
to Run, a wake of its own (log entry 41), and the warm restart completes before it is answered. -/
def cmSlacParmReq (rx : List Nat) (run mac : Nat) (s : State) : State :=
  let rx := rx.filter (s.stationHears true)
  if !s.lease.fwUp || rx = [] then s
  else if s.listening then
    (s.modRun run mac fun r => { r with heard := (r.heard ++ rx).eraseDups, answer := some (s.after warmTicks, rx) }).wakeBy .slacParm
  else (s.modRun run mac fun r => { r with heard := (r.heard ++ rx).eraseDups }).answerParm run mac rx

/-- The answers whose warm restart is complete. -/
def State.slacTick (s : State) : State :=
  let due := fun (r : SlacRun) => match r.answer with
    | some a => s.reached a.1 && !s.listening
    | none => false
  ({ s with slac := s.slac.map fun r => if due r then { r with answer := none } else r }).each (s.slac.filter due)
    fun t r => t.answerParm r.run r.mac ((r.answer.map Prod.snd).getD [])

def execCmSlacParmReq (rx : List Nat) (run mac : Nat) (s : State) : Host.Outcome State Fault Refusal :=
  .next (cmSlacParmReq rx run mac s)

/-- CM_START_ATTEN_CHAR_IND (R245): the sounding window opens. -/
def cmStartAttenCharInd (rx : List Nat) (run mac : Nat) (s : State) : State :=
  let rx := rx.filter (s.stationHears false)
  if !s.lease.fwUp || rx = [] then s
  else s.modRun run mac fun r =>
    { r with heard := (r.heard ++ rx).eraseDups, start := if r.start.isSome then r.start else some s.cc }

def execCmStartAttenCharInd (rx : List Nat) (run mac : Nat) (s : State) : Host.Outcome State Fault Refusal :=
  .next (cmStartAttenCharInd rx run mac s)

/-- One sounding at a station enters the run. -/
def addSound (l : List (Nat × Nat × Nat)) (sp sum : Nat) : List (Nat × Nat × Nat) :=
  if l.any fun x => x.1 = sp then l.map fun x => if x.1 = sp then (sp, x.2.1 + 1, x.2.2 + sum) else x else l ++ [(sp, 1, sum)]

/-- Is the sounding window of a run open (R245)? -/
def State.windowOpen (s : State) (r : SlacRun) : Bool :=
  match r.start with
  | some t => !s.reached ((t + soundTicks) % ccMod)
  | none => false

/-- A sounding enters a run at every station that heard it. -/
def SlacRun.hears (r : SlacRun) (heard : List (Nat × List Nat)) : SlacRun :=
  { r with sounds := heard.foldl (fun l a => addSound l a.1 (a.2.take attenGroups).sum) r.sounds }

/-- CM_MNBC_SOUND_IND (R245): the attenuations that each station measured, in 58 groups of 1 dB, within the 600 ms. -/
def cmMnbcSoundInd (run : SlacRunId) (atten : List (Nat × List Nat)) (s : State) : State :=
  if !s.lease.fwUp then s
  else
    let heard := atten.filter fun (a : Nat × List Nat) => s.stationHears false a.1
    { s with slac := s.slac.map fun (r : SlacRun) => if r.same run.id run.mac && s.windowOpen r then r.hears heard else r }

def execCmMnbcSoundInd (run : SlacRunId) (atten : List (Nat × List Nat)) (s : State) : Host.Outcome State Fault Refusal :=
  .next (cmMnbcSoundInd run atten s)

/-- Mean attenuation in 0.1 dB, rounded half up (R245). -/
def meanAtten (count sum : Nat) : Nat := let n := attenGroups * count; if n = 0 then 0 else (20 * sum + n) / (2 * n)

/-- Mean attenuation of every spoke that received a sounding of the run. -/
def SlacRun.means (r : SlacRun) : List (Nat × Nat) := r.sounds.map fun x => (x.1, meanAtten x.2.1 x.2.2)

/-- Soundings that a spoke received. -/
def SlacRun.countOf (r : SlacRun) (sp : Nat) : Nat := ((r.sounds.find? fun x => x.1 = sp).map fun x => x.2.1).getD 0

/-- Mean attenuation of a spoke in a run. -/
def SlacRun.meanOf (r : SlacRun) (sp : Nat) : Nat := ((r.means.find? fun x => x.1 = sp).map fun x => x.2).getD 0

/-- The smallest margin of candidate `k` over every other spoke that heard the run; none without another, or without a sounding
on `k`. -/
def SlacRun.marginOf (r : SlacRun) (k : Nat) : Option Int :=
  if r.countOf k = 0 then none else ((r.means.filter fun x => x.1 ≠ k).map fun x => (x.2 : Int) - r.meanOf k).min?

/-- The conditions of R246 that candidate `k` fails, bit 0 for condition 1: the start came before the entry or at most 50 s after it. A
candidate without an entry time fails it, and no other entry is near its own. -/
def State.failedConditions (s : State) (r : SlacRun) (k : Nat) : Nat :=
  let own := (s.vlink k).entry
  let c1 := match r.start, own with
    | some t, some e => decide ((t + ccMod - e) % ccMod ≤ entryTicks ∨ ccMod / 2 ≤ (t + ccMod - e) % ccMod)
    | _, _ => false
  let c2 := match r.marginOf k with
    | some m => decide ((marginLeast : Int) ≤ m)
    | none => decide (r.countOf k ≠ 0)
  let near := fun (j : Nat) =>
    match (s.vlink j).entry, own with
    | some x, some e => decide ((x + ccMod - e) % ccMod ≤ nearTicks ∨ (e + ccMod - x) % ccMod ≤ nearTicks)
    | _, _ => false
  let c3 := !(s.spokeList.any fun j => j ≠ k && s.linkState j = 1 && near j)
  (if c1 then 0 else 1) + (if c2 then 0 else 2) + (if c3 then 0 else 4)

/-- The smallest margin is published; one that is not a number of 0.1 dB from 0 up is a free value (log entry 34). -/
def State.showMargin (s : State) (m : Option Int) : State :=
  match m with
  | some x => if 0 ≤ x && x ≤ 65535 then s.put k1ALastRunMargin x else (s.put k1ALastRunMargin (s.drawn % 65536 : Nat)).drew
  | none => (s.put k1ALastRunMargin (s.drawn % 65536 : Nat)).drew

/-- The candidate with the lowest mean attenuation; without a sounding on any of them, the first that received the run. -/
def State.runCandidate (s : State) (r : SlacRun) : Option Nat :=
  let low := (r.means.filter fun x => s.candidate x.1).foldl (fun b x =>
    match b with
    | some y => if x.2 < y.2 then some x else b
    | none => some x) (none : Option (Nat × Nat))
  match low with
  | some x => some x.1
  | none => (r.heard.filter s.candidate).head?

/-- The decision of a run (R246): without a candidate that received it the run is deferred, and no spoke counts it. -/
def State.decideRun (s : State) (r : SlacRun) : State :=
  let t := s.each r.means fun s x => s.put (k1ALastMeanAttenuation x.1) x.2
  let gone := { t with slac := t.slac.filter fun x => !x.same r.run r.mac }
  match t.runCandidate r with
  | none => gone.put k1ALastRunSpoke 255
  | some k =>
    let bad := t.failedConditions r k
    if bad = 0 && leastSounds ≤ r.countOf k then
      let u := ((t.showMargin (r.marginOf k)).put k1ALastRunSpoke k).say k "CM_ATTEN_CHAR.IND" [r.run, r.mac, r.meanOf k]
      { u with slac := u.slac.map fun x => if x.same r.run r.mac then { x with chosen := some k } else x }
    else
      let u := ((gone.showMargin (r.marginOf k)).put k1ALastRunSpoke 255).notice byDevice 0x0701 (k * 256 + bad)
      u.each ((r.heard ++ r.sounds.map fun x => x.1).eraseDups.filter u.candidate) fun u sp =>
        (u.count (k1ADeferredRuns sp)).failedAttempt sp

/-- SOUNDING_WINDOW_END (R245, R246): 600 ms after the start indication the run is decided. -/
def soundingWindowEnd (run : SlacRunId) (s : State) : State :=
  match s.slac.find? fun r => r.same run.id run.mac && r.chosen.isNone with
  | some r =>
    match r.start with
    | some t => if s.lease.fwUp && s.reached ((t + soundTicks) % ccMod) then s.decideRun r else s
    | none => s
  | none => s

def execSoundingWindowEnd (run : SlacRunId) (s : State) : Host.Outcome State Fault Refusal := .next (soundingWindowEnd run s)

/-- CM_SLAC_MATCH_REQ (R242, R245): answered on the chosen spoke only, with a new network membership key; EVCCID and contract
identity kept their values until this match (log entry 34). -/
def cmSlacMatchReq (sp run mac : Nat) (s : State) : State :=
  if s.vehicleUp sp && s.linkState sp = 1 && s.rngOk && !s.listening &&
      s.slac.any (fun r => r.same run mac && r.chosen = some sp) then
    let t := (s.modVLink sp fun l => { l with nmk := s.drawn % 2 ^ 128, matchedAt := some s.cc, run := some run }).drew
    let t := { t with slac := t.slac.filter fun r => !r.same run mac }
    ((((t.say sp "CM_SLAC_MATCH.CNF" [run, mac]).puts [(k1AVehicleMAC sp, mac), (k1AEVCCID sp, 0), (k1AContractIdentity sp, 0)]).count (k1AMatches sp)).setLinkState sp 2).noticeOpen
      byDevice 0x0703
  else s

def execCmSlacMatchReq (sp run mac : Nat) (s : State) : Host.Outcome State Fault Refusal := .next (cmSlacMatchReq sp run mac s)

/-- CM_VALIDATE_REQ (R245): answered "not required"; a receive-only station sends nothing (R240). -/
def cmValidateReq (sp : Nat) (s : State) : State :=
  if s.vehicleUp sp && s.stationHears false sp && s.getN (k1ALinkControlInForce sp) ≠ 0 then s.say sp "CM_VALIDATE.CNF not required" [] else s

def execCmValidateReq (sp : Nat) (s : State) : Host.Outcome State Fault Refusal := .next (cmValidateReq sp s)

def matchTicks : Nat := 160000

/-- MATCH_TIMEOUT (R242): no SessionSetup within 20 s of the match is a failed attempt. -/
def matchTimeout (sp : Nat) (s : State) : State :=
  match (s.vlink sp).matchedAt with
  | some t => if s.vehicleUp sp && s.linkState sp = 2 && s.reached ((t + matchTicks) % ccMod) then s.failedAttempt sp else s
  | none => s

def execMatchTimeout (sp : Nat) (s : State) : Host.Outcome State Fault Refusal := .next (matchTimeout sp s)

/-! ### Discovery, TLS and the handshake (R247, R251, R252) -/

/-- SECC_DISCOVERY (R247): the port that the device announces is its own choice. -/
def seccDiscovery (sp : Nat) (s : State) : State :=
  if s.vehicleUp sp && 2 ≤ s.linkState sp && s.linkState sp ≤ 4 then
    (s.say sp "SECCDiscoveryRes" [(s.drawn % 65536 : Nat)]).drew
  else s

def execSeccDiscovery (sp : Nat) (s : State) : Host.Outcome State Fault Refusal := .next (seccDiscovery sp s)

/-- Basic fallback under R251 with its case. -/
def State.fallback (s : State) (sp n : Nat) : State := (s.leaveLink sp 5).notice byDevice 0x0706 (sp * 256 + n)

/-- Has a TLS offer a common choice with the table of R252? -/
def tlsCommon (o : TlsOffer) : Bool :=
  let groups := o.groups.contains .secp256r1 || o.groups.contains .secp384r1
  match o.version with
  | 2 => groups && o.suites.contains .ecdheEcdsaAes256GcmSha384 && o.signatures.contains .ecdsaP256Sha256
  | 3 => groups && o.suites.contains .aes256GcmSha384 && o.signatures.contains .ecdsaP384Sha384
  | _ => false

/-- Is the client's certificate requested (R252)? Under TLS 1.3 when Plug & Charge is offered. -/
def State.asksClient (s : State) (sp : Nat) (o : TlsOffer) : Bool := o.version = 3 && s.flag (k1APlugChargeEnable sp)

/-- KIND of the session key of a spoke's TLS session: one of the firmware's own, 80h to FFh (R388; log entry 7). -/
def tlsKind (sp : Nat) : Nat := 0x80 + sp

/-- Words that a TLS session takes in the TLS area of Pannier: a blob of a 32-byte key (R388). -/
def tlsWords : Nat := 11

/-- A blob is placed in the TLS area, that of spoke 0 first (R54, R253; log entry 7). -/
def State.storeTls (s : State) (sp : Nat) (b : Blob) : State :=
  (s.blobWords b).zipIdx.foldl (fun (t : State) (p : Nat × Nat) => t.setWord (t.regionBase rgTls + tlsWords * sp + p.2) p.1) s

/-- TLS_HANDSHAKE (R252, R253): TLS 1.2 reads 1, TLS 1.3 reads 2; without a common choice, or without the SECC key it signs with,
the handshake fails. A session is never resumed: the answer says whether the client's certificate is requested and, last, that
none resumes. The signature unwraps and loads the SECC key, and the session key is held wrapped in the TLS area of Pannier. An SECC key
that is orphaned is reported as R389 says. -/
def tlsHandshake (sp : Nat) (o : TlsOffer) (s : State) : State :=
  if !(s.vehicleUp sp && s.linkState sp = 2) then s
  else if tlsCommon o && (s.slotKey (if o.version = 2 then 26 else 27)).isSome && s.cryptoOk && s.rngOk then
    let t := s.useKey ((s.slotKey (if o.version = 2 then 26 else 27)).getD 0)
    let b := t.drew.wrap 3 (tlsKind sp) 32 (s.drawn % 2 ^ 256)
    let t := (t.put (k1ATLS sp) (o.version - 1 : Nat)).modVLink sp fun l =>
      { l with tcp := true, tlsFailedAt := none, lastMsg := s.cc, tlsKey := some b }
    ((t.drew.drew.storeTls sp b)).say sp "TLS" [(o.version : Int), b1 (s.asksClient sp o), 0]
  else
    let k := if o.version = 2 then 26 else 27
    let s := s.when (tlsCommon o && (s.slotKey k).isNone) fun s => s.unwrapFailed k
    ((s.say sp "alert handshake_failure" []).modVLink sp fun l => { l with tlsFailedAt := some s.cc }).noticeOpen byDevice 0x0704

def execTlsHandshake (sp : Nat) (o : TlsOffer) (s : State) : Host.Outcome State Fault Refusal := .next (tlsHandshake sp o s)

/-- TLS_FALLBACK_TIMEOUT (R251 case 3). -/
def tlsFallbackTimeout (sp : Nat) (s : State) : State :=
  match (s.vlink sp).tlsFailedAt with
  | some t => if s.vehicleUp sp && s.linkState sp = 2 && s.reached ((t + matchTicks) % ccMod) then s.fallback sp 3 else s
  | none => s

def execTlsFallbackTimeout (sp : Nat) (s : State) : Host.Outcome State Fault Refusal := .next (tlsFallbackTimeout sp s)

/-- Protocols that a vehicle's namespaces, the enables and the TLS in use leave (R247): bits as 1Ah/s/16. -/
def protocolChoice (offered enabled tls prio : Nat) : Nat :=
  let has := fun (b : Nat) (ok : Bool) => bit offered b && bit enabled b && ok
  let din := has 0 (tls = 0)
  let two := has 1 (tls ≤ 1)
  let twenty := has 2 (tls = 2)
  if prio = 1 && two then 2 else if twenty then 3 else if two then 2 else if din then 1 else 0

/-- The key of a TLS session is unwrapped and loaded for a record (R253). -/
def State.forRecord (s : State) (sp : Nat) : State := s.forTag ((s.vlink sp).tlsKey.bind s.unwrap)

/-- SUPPORTED_APP_PROTOCOL (R247, R251 case 2). -/
def supportedAppProtocol (sp offered : Nat) (s : State) : State :=
  if !(s.vehicleUp sp && s.linkState sp = 2) then s
  else
    let p := protocolChoice offered (s.getN (k1AProtocolEnable sp)) (s.getN (k1ATLS sp)) (s.getN k1AProtocolPriority)
    let t := (s.forRecord sp).say sp "supportedAppProtocolRes" [(p : Int)]
    if p = 0 then t.fallback sp 2
    else (t.put (k1AProtocol sp) p).modVLink sp fun l => { l with tcp := true, tlsFailedAt := none, lastMsg := s.cc }

def execSupportedAppProtocol (sp offered : Nat) (s : State) : Host.Outcome State Fault Refusal :=
  .next (supportedAppProtocol sp offered s)

/-! ### Messages (R243, R248) -/

def State.proto (s : State) (sp : Nat) : Nat := s.getN (k1AProtocol sp)

/-- Is a message of the vehicle in its session: a protocol of the list in one of the link states? -/
def State.inSession (s : State) (sp : Nat) (protos states : List Nat) : Bool :=
  s.vehicleUp sp && (s.vlink sp).tcp && protos.contains (s.proto sp) && states.contains (s.linkState sp)

/-- UNSUPPORTED_MESSAGE (R248): the generic failure response, and the session is closed under R243. -/
def unsupportedMessage (sp : Nat) (s : State) : State :=
  if s.vehicleUp sp && (s.vlink sp).tcp && 2 ≤ s.linkState sp && s.linkState sp ≤ 4 then
    ((s.forRecord sp).say sp "FAILED" [(s.proto sp : Int)]).modVLink sp fun l => { l with stopping := true, stopAt := some s.cc, lastMsg := s.cc }
  else s

def execUnsupportedMessage (sp : Nat) (s : State) : Host.Outcome State Fault Refusal := .next (unsupportedMessage sp s)

/-- A valid message is answered: its figures, led by 1 when the answer carries the stop notification (R243). A message that
the protocol in force does not have is one of R248's. -/
def State.answerVehicle (s : State) (sp : Nat) (protos states : List Nat) (m : String) (f : State → State × List Int) : State :=
  if !s.inSession sp protos states then unsupportedMessage sp s
  else
    let t := (s.forRecord sp).modVLink sp fun l =>
      { l with lastMsg := s.cc, stopAt := if l.stopping && l.stopAt.isNone then some s.cc else l.stopAt }
    let r := f t
    r.1.say sp m (b1 (t.vlink sp).stopping :: r.2)

/-- Bytes of a text filled to 32, as a TXT32 value. -/
def txtOf (l : List Nat) : Nat := numBE ((l ++ List.replicate (32 - l.length) 0).take 32)

/-- SESSION_SETUP (R242, R248, R254). -/
def sessionSetup (sp evccid : Nat) (s : State) : State :=
  s.answerVehicle sp [1, 2, 3, 4] [2] "SessionSetupRes" fun t =>
    ((((t.put (k1AEVCCID sp) (txtOf (hexText (bytesBE 6 evccid)))).modVLink sp fun l =>
      { l with bpt := t.flag (k1ABidirectionalEnable sp), matchedAt := none }).setLinkState sp 3), [])

def execSessionSetup (sp evccid : Nat) (s : State) : Host.Outcome State Fault Refusal := .next (sessionSetup sp evccid s)

/-- Is Plug & Charge offered (R250)? -/
def State.pncOffered (s : State) (sp : Nat) : Bool := s.flag (k1APlugChargeEnable sp) && s.getN (k1ATLS sp) ≠ 0

/-- Is a bidirectional service offered (R254)? -/
def State.bptOffered (s : State) (sp : Nat) : Bool := 3 ≤ s.proto sp && (s.vlink sp).bpt

/-- The energy transfer modes that ISO 15118-2 names (R248): 1 AC_single_phase_core, 2 AC_three_phase_core. -/
def State.transferModes (s : State) (sp : Nat) : List Int := if s.proto sp = 2 then [1, 2] else []

/-- SERVICE_DISCOVERY (R248, R251 case 1, R254): the protocol, whether Plug & Charge and AC_BPT are offered, and the modes. -/
def serviceDiscovery (sp : Nat) (s : State) : State :=
  let t := s.answerVehicle sp [1, 2, 3, 4] [3] "ServiceDiscoveryRes" fun t =>
    (t, [(t.proto sp : Int), b1 (t.pncOffered sp), b1 (t.bptOffered sp)] ++ t.transferModes sp)
  if s.inSession sp [1] [3] then t.fallback sp 1 else t

def execServiceDiscovery (sp : Nat) (s : State) : Host.Outcome State Fault Refusal := .next (serviceDiscovery sp s)

/-- SERVICE_DETAIL (R248). -/
def serviceDetail (sp service : Nat) (s : State) : State :=
  s.answerVehicle sp [2, 3, 4] [3] "ServiceDetailRes" fun t => (t, [(service : Int)])

def execServiceDetail (sp service : Nat) (s : State) : Host.Outcome State Fault Refusal := .next (serviceDetail sp service s)

/-- PAYMENT_SERVICE_SELECTION (R248, R250): identification 1 EIM, 2 Plug & Charge where it is offered. -/
def paymentServiceSelection (sp : Nat) (contract : Bool) (s : State) : State :=
  s.answerVehicle sp [2] [3] "PaymentServiceSelectionRes" fun t =>
    if contract && !t.pncOffered sp then (t, [0]) else (t.put (k1AIdentification sp) (if contract then 2 else 1), [1])

def execPaymentServiceSelection (sp : Nat) (contract : Bool) (s : State) : Host.Outcome State Fault Refusal :=
  .next (paymentServiceSelection sp contract s)

/-- The identity text of a contract (R359): "E:" and the eMAID. -/
def contractIdent (emaid : Nat) : Int := (txtOf ([0x45, 0x3A] ++ txtChars emaid) : Nat)

/-- A contract is presented (R250, R398): 0 the chain fails, 1 it is taken up. A listed one opens a session; another waits for the
host. Every chain that comes is verified; a contract that waits, or that this session has decided, is not taken up anew. -/
def State.presentContract (s : State) (sp emaid : Nat) (chain : List Nat) : State × Nat :=
  let decided := decide ((s.vlink sp).contract = some emaid) &&
    (s.getN (k1AContractPending sp) = 1 || (s.vlink sp).contractResult ≠ 0)
  let s := if decided then s else s.modVLink sp fun l => { l with contract := some emaid }
  if !(chain.length ≤ 4 && s.timeValid && s.cryptoOk && Config.chainOk (s.payload 5) chain s.wall) then (s.noticeOpen byDevice 0x0707, 0)
  else if decided then (s, 1)
  else
    match authEntry (s.payload 3) (contractIdent emaid) with
    | some e =>
      if s.authUsable e then
        let r := s.authorise sp (contractIdent emaid) (authPurse (s.payload 3) e)
        (r.1.modVLink sp fun l => { l with contractResult := if r.2 = 1 then 1 else 2 }, 1)
      else (s.modVLink sp fun l => { l with contractResult := 2 }, 1)
    | none =>
      ((s.puts [(k1AContractIdentity sp, emaid), (k1AContractPending sp, 1)]).modVLink sp fun l =>
        { l with contractEnd := some (s.after (secTicks (s.getN k1AContractDecisionTime))), contractResult := 0 }, 1)

/-- PAYMENT_DETAILS (R250). -/
def paymentDetails (sp emaid : Nat) (chain : List Nat) (s : State) : State :=
  s.answerVehicle sp [2] [3] "PaymentDetailsRes" fun t =>
    if t.getN (k1AIdentification sp) ≠ 2 then (t, [0]) else let r := t.presentContract sp emaid chain; (r.1, [(r.2 : Int)])

def execPaymentDetails (sp emaid : Nat) (chain : List Nat) (s : State) : Host.Outcome State Fault Refusal :=
  .next (paymentDetails sp emaid chain s)

/-- AUTHORIZATION_SETUP (R248). -/
def authorizationSetup (sp : Nat) (s : State) : State :=
  s.answerVehicle sp [3, 4] [3] "AuthorizationSetupRes" fun t => (t, [b1 (t.pncOffered sp)])

def execAuthorizationSetup (sp : Nat) (s : State) : Host.Outcome State Fault Refusal := .next (authorizationSetup sp s)

/-- The answer to Authorization: 0 Ongoing, 1 Finished, 2 FAILED, 3 FAILED_CertChainError (R250). A refused contract does not
bind a vehicle that has fallen back to EIM. -/
def State.authProgress (s : State) (sp : Nat) : Int :=
  if s.getN (k1AIdentification sp) = 2 && (s.vlink sp).contractResult = 2 then 2 else if (s.openSlot sp).isSome then 1 else 0

/-- AUTHORIZATION (R250). Under ISO 15118-20 the request itself presents the contract. -/
def authorization (sp : Nat) (contract : Option (Nat × List Nat)) (s : State) : State :=
  s.answerVehicle sp [2, 3, 4] [3] "AuthorizationRes" fun t =>
    match contract with
    | some (emaid, chain) =>
      if t.proto sp = 2 || !t.pncOffered sp then (t, [2])
      else
        let r := (t.put (k1AIdentification sp) 2).presentContract sp emaid chain
        (r.1, [if r.2 = 0 then 3 else r.1.authProgress sp])
    | none =>
      let t := if 3 ≤ t.proto sp then t.put (k1AIdentification sp) 1 else t
      (t, [t.authProgress sp])

def execAuthorization (sp : Nat) (contract : Option (Nat × List Nat)) (s : State) : Host.Outcome State Fault Refusal :=
  .next (authorization sp contract s)

/-- SERVICE_SELECTION (R248, R254). -/
def serviceSelection (sp : Nat) (bpt : Bool) (s : State) : State :=
  s.answerVehicle sp [3, 4] [3] "ServiceSelectionRes" fun t =>
    if bpt && !t.bptOffered sp then (t, [0]) else (t.put (k1AProtocol sp) (if bpt then 4 else 3), [1])

def execServiceSelection (sp : Nat) (bpt : Bool) (s : State) : Host.Outcome State Fault Refusal := .next (serviceSelection sp bpt s)

/-- The vehicle's maximum current: the smallest over its phases (R248). -/
def smallest (l : List Nat) : Nat := (l.min?).getD 0

/-- EVSE maximum current and the discharge limit (R248, R254): 0 A with the reference group not locked or a power-fail decision. -/
def State.evseMax (s : State) (sp : Nat) : Int := s.get (k1BGrantedCurrent (16 + sp))
def State.dischargeMax (s : State) (sp : Nat) : Int :=
  if s.proto sp ≠ 4 || (s.group (s.getN k09ReferenceGroup)).state ≠ 0 || s.pf.active then 0
  else s.get (k1BExportGrant (16 + sp))

/-- Meter readings in Wh, rounded down (R248). -/
def State.meterInfo (s : State) (sp : Nat) : List Int :=
  [(s.getN (k0BValue (24 * sp)) / 1000 : Nat), (s.getN (k0BValue (24 * sp + 1)) / 1000 : Nat)]

/-- CHARGE_PARAMETER_DISCOVERY (R248, ISO 15118-2): the EVSE maximum current, and one SAScheduleTuple with one PMaxSchedule
entry, whose power the spec does not state. Another energy transfer mode is outside the message set (log entry 34). -/
def chargeParameterDiscovery (sp : Nat) (asked : ChargeRequest) (s : State) : State :=
  if asked.mode = .other then unsupportedMessage sp s
  else
    s.answerVehicle sp [2] [3] "ChargeParameterDiscoveryRes" fun t =>
      ((t.setVehicleMax sp (smallest asked.vmax)).drew, [t.evseMax sp, 1, 1, (t.drawn : Int)])

def execChargeParameterDiscovery (sp : Nat) (asked : ChargeRequest) (s : State) : Host.Outcome State Fault Refusal :=
  .next (chargeParameterDiscovery sp asked s)

/-- What an ISO 15118-20 vehicle states: its maximum current and, in a bidirectional session, its maximum discharge (R254). -/
def State.vehicleFigures (s : State) (sp : Nat) (vmax : List Nat) (vdis : Nat) : State :=
  let t := s.setVehicleMax sp (smallest vmax)
  if t.proto sp = 4 then t.put (k1AVehicleMaximumDischarge sp) vdis else t

/-- AC_CHARGE_PARAMETER_DISCOVERY (R248, R254). -/
def acChargeParameterDiscovery (sp : Nat) (vmax : List Nat) (vdis : Nat) (s : State) : State :=
  s.answerVehicle sp [3, 4] [3] "AC_ChargeParameterDiscoveryRes" fun t =>
    (t.vehicleFigures sp vmax vdis, [t.evseMax sp, t.dischargeMax sp])

def execAcChargeParameterDiscovery (sp : Nat) (vmax : List Nat) (vdis : Nat) (s : State) : Host.Outcome State Fault Refusal :=
  .next (acChargeParameterDiscovery sp vmax vdis s)

/-- SCHEDULE_EXCHANGE (R248): answered in the control mode of the request, Scheduled or Dynamic. -/
def scheduleExchange (asked : ScheduleRequest) (s : State) : State :=
  s.answerVehicle asked.spoke [3, 4] [3, 4] "ScheduleExchangeRes" fun t => (t, [b1 asked.dynamic, t.evseMax asked.spoke])

def execScheduleExchange (asked : ScheduleRequest) (s : State) : Host.Outcome State Fault Refusal :=
  .next (scheduleExchange asked s)

/-- POWER_DELIVERY (R242, R249): a start is finished (1) with a granted current, else ongoing (0); a renegotiation under ISO
15118-2 raises no flag. A stop or a renegotiation withdraws a start that waits. -/
def powerDelivery (sp : Nat) (p : PowerRequest) (s : State) : State :=
  s.answerVehicle sp [2, 3, 4] [3, 4] "PowerDeliveryRes" fun t =>
    match p with
    | .start =>
      if 0 < t.evseMax sp then ((t.setLinkState sp 4).modVLink sp fun l => { l with startAt := none }, [1])
      else (t.modVLink sp fun l => { l with startAt := if l.startAt.isSome then l.startAt else some t.cc }, [0])
    | .stop => (((t.raise sp fStop).setLinkState sp 3).modVLink sp fun l => { l with startAt := none }, [1])
    | .renegotiate =>
      ((if t.proto sp = 2 then t.put (k1ALinkState sp) 3 else t.setLinkState sp 3).modVLink sp fun l => { l with startAt := none }, [1])

def execPowerDelivery (sp : Nat) (p : PowerRequest) (s : State) : Host.Outcome State Fault Refusal := .next (powerDelivery sp p s)

/-- POWER_DELIVERY_TIMEOUT (R249): after 60 s without a grant the session ends under R243. -/
def powerDeliveryTimeout (sp : Nat) (s : State) : State :=
  match (s.vlink sp).startAt with
  | some t =>
    if s.vehicleUp sp && s.linkState sp = 3 && s.evseMax sp = 0 && s.reached ((t + secTicks 60) % ccMod) then
      s.modVLink sp fun l => { l with startAt := none, stopping := true }
    else s
  | none => s

def execPowerDeliveryTimeout (sp : Nat) (s : State) : Host.Outcome State Fault Refusal := .next (powerDeliveryTimeout sp s)

/-- CHARGING_STATUS (R248). -/
def chargingStatus (sp : Nat) (s : State) : State :=
  s.answerVehicle sp [2] [4] "ChargingStatusRes" fun t => (t, t.evseMax sp :: t.meterInfo sp)

def execChargingStatus (sp : Nat) (s : State) : Host.Outcome State Fault Refusal := .next (chargingStatus sp s)

/-- AC_CHARGE_LOOP (R248, R254). -/
def acChargeLoop (sp : Nat) (vmax : List Nat) (vdis : Nat) (s : State) : State :=
  s.answerVehicle sp [3, 4] [4] "AC_ChargeLoopRes" fun t =>
    (t.vehicleFigures sp vmax vdis, [t.evseMax sp, t.dischargeMax sp] ++ t.meterInfo sp)

def execAcChargeLoop (sp : Nat) (vmax : List Nat) (vdis : Nat) (s : State) : Host.Outcome State Fault Refusal :=
  .next (acChargeLoop sp vmax vdis s)

/-- METERING_RECEIPT (R248). -/
def meteringReceipt (sp : Nat) (s : State) : State :=
  s.answerVehicle sp [2] [3, 4] "MeteringReceiptRes" fun t => (t, [])

def execMeteringReceipt (sp : Nat) (s : State) : Host.Outcome State Fault Refusal := .next (meteringReceipt sp s)

/-- METERING_CONFIRMATION (R248). -/
def meteringConfirmation (sp : Nat) (s : State) : State :=
  s.answerVehicle sp [3, 4] [3, 4] "MeteringConfirmationRes" fun t => (t, [])

def execMeteringConfirmation (sp : Nat) (s : State) : Host.Outcome State Fault Refusal := .next (meteringConfirmation sp s)

/-- SESSION_STOP (R243, R249): STOP is raised while energy transfer is requested; TCP closes at the response and the link state
becomes 1. -/
def sessionStop (sp : Nat) (s : State) : State :=
  let t := s.answerVehicle sp [2, 3, 4] [3, 4] "SessionStopRes" fun t =>
    (if t.linkState sp = 4 then t.raise sp fStop else t, [])
  if s.inSession sp [2, 3, 4] [3, 4] then t.leaveLink sp 1 else t

def execSessionStop (sp : Nat) (s : State) : Host.Outcome State Fault Refusal := .next (sessionStop sp s)

/-- ABNORMAL_LOSS (R242): TCP closed without SessionStop, or no valid message for 60 s. -/
def abnormalLoss (sp : Nat) (tcpClosed : Bool) (s : State) : State :=
  if s.vehicleUp sp && (s.linkState sp = 3 || s.linkState sp = 4) &&
      (tcpClosed || s.reached (((s.vlink sp).lastMsg + secTicks 60) % ccMod)) then s.abnormal sp
  else s

def execAbnormalLoss (sp : Nat) (tcpClosed : Bool) (s : State) : Host.Outcome State Fault Refusal :=
  .next (abnormalLoss sp tcpClosed s)

/-- ORDERLY_STOP_TIMEOUT (R243): TCP closes 5 s after the stop notification. -/
def orderlyStopTimeout (sp : Nat) (s : State) : State :=
  match (s.vlink sp).stopAt with
  | some t => if s.vehicleUp sp && s.reached ((t + secTicks 5) % ccMod) then s.leaveLink sp 1 else s
  | none => s

def execOrderlyStopTimeout (sp : Nat) (s : State) : Host.Outcome State Fault Refusal := .next (orderlyStopTimeout sp s)

/-! ### The host's decision on a contract (R250) -/

def checkContract (sp : Nat) (v : Int) (s : State) : Nat :=
  if v ≠ 1 && v ≠ 2 then stOutOfRange else if s.getN (k1AContractPending sp) = 0 then stNotNow else stOk

/-- A decision ends the waiting: accepted opens the session, refused is answered FAILED. -/
def applyContract (sp : Nat) (v : Int) (s : State) : State :=
  let t := (s.put (k1AContractPending sp) 0).modVLink sp fun l => { l with contractEnd := none }
  if v = 1 then
    let r := t.authorise sp (contractIdent (t.getN (k1AContractIdentity sp))) noPurse
    r.1.modVLink sp fun l => { l with contractResult := if r.2 = 1 then 1 else 2 }
  else t.modVLink sp fun l => { l with contractResult := 2 }

/-- CONTRACT_DECISION (R250). -/
def execContractDecision (sid sp : Nat) (v : Int) (s : State) : Host.Outcome State Fault Refusal :=
  .next (s.writeRow sid (k1AContractDecision sp) v (checkContract sp v) (applyContract sp v))

/-- CONTRACT_DECISION_TIMEOUT (R250). -/
def contractDecisionTimeout (sp : Nat) (s : State) : State :=
  match (s.vlink sp).contractEnd with
  | some t => if s.vehicleUp sp && s.getN (k1AContractPending sp) = 1 && s.reached t then applyContract sp 2 s else s
  | none => s

def execContractDecisionTimeout (sp : Nat) (s : State) : Host.Outcome State Fault Refusal := .next (contractDecisionTimeout sp s)

/-- The chapter rule on writes of class 1Ah, and their effect. -/
def check1A (s : State) (i m : Nat) (v : Int) : Nat := if m = 19 && i < 24 then checkContract i v s else stOk
def apply1A (s : State) (k i m : Nat) (v : Int) : State := if m = 19 && i < 24 then applyContract i v s else s.put k v

end Sys2Proof.Machine
end

