-- ==== Sys2Proof/Machine/Vault.lean ====
section
/-! DEFINITION. The core-domain reset (R14, R15, R464, R465) and the vault (R381-R399): tamper and zeroisation, the root, bumps,
key installation, the random generator. -/

namespace Sys2Proof.Machine

/-! ### The core-domain reset (R465) -/

/-- Every KOD session and subscription ends (R89 reason 4); what waited for a boundary is gone, pending controller settings
are in force when the controllers start. -/
def State.resetKod (s : State) : State :=
  let t := s.each (List.range 32) fun s j =>
    if s.getN (k04SessionState (16 + j)) = 2 then
      s.notice byDevice 0x0305 ((j + 1) * 256 + 4)
    else s
  let t := t.each (List.range' 16 32) fun s i => s.puts [(k04SessionState i, 0), (k04SessionRole i, 0), (k04Endpoint i, 0)]
  let t := t.puts (s.kod.changes.map fun c => (c.1, c.2.1))
  let t := t.puts [(k04DiscardedPDUs, 0), (k04LoginFailures, 0)]
  { t with kod := { regions := s.kod.regions } }

/-- The cause that is latched: of causes that arise at one tick the lowest (R486). -/
def State.lowestCause (s : State) (cause : Nat) : Nat :=
  if (s.modes.coreInReset || !s.modes.booted) && s.modes.resetAt = s.cc && s.modes.cause ≠ 0 then min s.modes.cause cause else cause

/-- Is an object a status or a count of a unit in the core domain (R13) that its reset sets to its default (R104)? Class 1Ah keeps
its members (R244), the display its slots (R426), the link its MC and registration (R330, R351). -/
def coreUnit (k : Nat) : Bool :=
  let i := keyInst k
  let m := keyMember k
  match findRow (keyClass k) i m with
  | some r =>
    (r.kind = .count || r.kind = .status) &&
      (match keyClass k with
        | 0x03 => 48 ≤ i && i ≤ 63
        | 0x04 => i = 0 && (m = 3 || m = 4)
        | 0x20 => i = 0 && 17 ≤ m && m ≤ 20
        | 0x21 | 0x23 => true
        | 0x24 => i = 0 && m = 22
        | 0x30 => i = 0 && (m = 7 || m = 8)
        | _ => false)
  | none => false

/-- The objects of the core domain's units take their defaults; an aerial that is not enabled stands in state 3 (R378). -/
def State.coreDefaults (s : State) : State :=
  (s.each ((s.obj.map Prod.fst).filter coreUnit) State.clear).each (List.range 24) State.showAerial

/-- The core domain resets with a cause: the hold lease starts, the sequencers are held, what the core domain keeps is lost. -/
def State.coreReset (s : State) (cause : Nat) : State :=
  if !s.modes.powered then s
  else if s.modes.coreInReset then
    (if s.modes.resetAt = s.cc then { s with modes := { s.modes with cause := s.lowestCause cause } } else s)
  else
    let t := s.startLease.holdPedals
    let t := t.commitsInForce.dropUpdates.resetKod.coreResetPorts.displayReset.coreDefaults
    { t with lease := { t.lease with fwUp := false },
             modes := { t.modes with coreInReset := true, cause := s.lowestCause cause, resetAt := t.cc, restartAt := none, rom := false },
             vault := { t.vault with keyRegister := none, requests := [], ended := none, bootKey := none },
             frontEnds := List.replicate 4 {}, aerials := List.replicate 24 {}, emulation := {}, keypad := {},
             chainline := t.chainline.cleared, slac := [],
             flash := { t.flash with current := none } }

/-! ### Tamper (R383-R385) -/

/-- Zeroisation (R385): root, G0-G7, boot wrap key; the key register of a running core domain as well. -/
def State.zeroise (s : State) : State :=
  { (s.puts ((List.range 8).map fun i => (k28DomainGeneration (8 + i), 0))).put k28VaultState 2 with
    vault := { s.vault with root := none, bootKey := none, keyRegister := none, requests := [], ended := none } }

/-- The vault's clock in Kickstand: no command tells how long it has run since, so its time is free from there on; 0 while it has no
time (R167). -/
def State.vaultTime (s : State) : Nat := (s.vault.rtc.map fun t => (t + s.drawn) % ccMod).getD 0

/-- A source enters the vault's log, with the time of the vault's clock where the main supplies are absent. -/
def State.logTamper (s : State) (source : Nat) : State :=
  let time := if s.modes.powered then s.stamp else s.vaultTime
  let t := (s.count k28TamperEvents).puts [(k28LastTamperSource, source), (k28LastTamperTime, time)]
  let t := if source ≤ 4 then t.put k28TamperInputs (setBit (t.getN k28TamperInputs) (source - 1) true)
    else if source = 5 then t.put k28TamperInputs (setBit (t.getN k28TamperInputs) 4 true) else t
  { t with draw := if s.modes.powered then t.draw else t.draw + 1,
           vault := { t.vault with log := ((source, time) :: t.vault.log).take 8 } }

/-- The vault's clock has stopped (R167, source 8): wall time is no longer valid, and every held cap is discarded (R271). -/
def State.clockStopped (s : State) : State := s.invalidateTime.each s.heldCaps State.discardCap

/-- A zeroisation ends every crypto operation in progress with INTEGRITY (R385): a verification is one, and its region keeps that
result when the restart returns it to IDLE (R446). -/
def State.cryptoEnds (s : State) : State :=
  s.each (List.range 6) fun s r => if s.regionState r = rVerifying then s.put (k0FResult r) stIntegrity else s

/-- TAMPER (R383-R385). Source 6 exists only while the vault runs from VBAT. In Run the firmware records the event and restarts;
in Coast and Kickstand it is reported at the next boot; while the vault is zeroised it is only logged. -/
def tamper (source : Nat) (s : State) : State :=
  if source = 0 || 8 < source || (source = 6 && s.modes.powered) then s
  else
    let t := (s.logTamper source).when (source = 8) State.clockStopped
    if s.vault.root.isNone && s.getN k28VaultState = 2 then t
    else
      let z := t.zeroise
      if s.modes.powered && s.getN k01Mode ≠ 3 && !s.modes.coreInReset then (z.cryptoEnds.notice byDevice 0x0D01 source).coreReset 6
      else { z with vault := { z.vault with unreported := some source } }

def execTamper (source : Nat) (s : State) : Host.Outcome State Fault Refusal := .next (tamper source s)

/-- VBAT_LOW (R384): with the main supplies present, once per power-up. -/
def vbatLow (s : State) : State :=
  if s.modes.powered && !s.vault.vbatNoticed then
    ({ s with vault := { s.vault with vbatNoticed := true } }).noticeOpen byDevice 0x0D06
  else s

def execVbatLow (s : State) : Host.Outcome State Fault Refusal := .next (vbatLow s)

/-- RANDOM_GENERATOR_FAILURE (R395). -/
def randomGeneratorFailure (s : State) : State :=
  if s.modes.powered && s.rngOk then (s.put k28RandomGeneratorState 1).noticeOpen byDevice 0x0D20 else s

def execRandomGeneratorFailure (s : State) : Host.Outcome State Fault Refusal := .next (randomGeneratorFailure s)

/-! ### The root (R386) -/

/-- Every installed key is orphaned. -/
def State.orphanAll (s : State) : State := [1, 2, 3, 4].foldl (fun t d => t.orphan d) s

/-- A core start: the generator runs again, and a new boot wrap key of 256 bits is drawn (R381, R395). -/
def State.startVault (s : State) : State :=
  ({ s.put k28RandomGeneratorState 0 with vault := { s.vault with bootKey := some (s.drawn % 2 ^ 256) } }).drew

/-- The root is checked at a core start: a new one of 256 bits is drawn where none stands or one is to be replaced. At 65,535 root
generations none can be drawn: no root stands, every installed key is orphaned, the vault reads 2 (log entry 7) and no key can be
installed. -/
def State.checkRoot (t : State) : State :=
  if t.vault.root.isSome && !t.vault.replacing then t
  else if 65535 ≤ t.getN k28RootGeneration then
    ({ t with vault := { t.vault with root := none, replacing := false } }).orphanAll.put k28VaultState 2
  else
    let g := t.getN k28RootGeneration + 1
    let u := (t.puts ((List.range 8).map fun i => (k28DomainGeneration (8 + i), 0))).puts
      [(k28RootGeneration, g), (k28VaultState, 1)]
    let u := ({ u with vault := { u.vault with root := some (u.drawn % 2 ^ 256), replacing := false } }).drew
    (u.orphanAll).notice byDevice 0x0D02 g

def checkReplaceRoot (v : Int) (s : State) : Nat := if v = 1 && !s.workstand then stNotNow else stOk

/-- The root is replaced at a core start that the device performs at once. -/
def applyReplaceRoot (v : Int) (s : State) : State :=
  if v = 1 then ({ s with vault := { s.vault with replacing := true } }).coreReset 6 else s

/-- REPLACE_ROOT (R390). -/
def execReplaceRoot (sid : Nat) (v : Int) (s : State) : Host.Outcome State Fault Refusal :=
  .next (s.writeRow sid k28ReplaceRoot v (checkReplaceRoot v) (applyReplaceRoot v))

/-! ### Bumps (R390) -/

def checkBump (i : Nat) (v : Int) (s : State) : Nat := if v = 1 && 65535 ≤ s.generation i then stFull else stOk

/-- Gi grows and the children of the domain are orphaned; domain 3 takes the TLS sessions with it. -/
def applyBump (i : Nat) (v : Int) (s : State) : State :=
  if v = 1 then
    let t := ((s.put (k28DomainGeneration (8 + i)) (s.generation i + 1)).orphan i).notice byDevice 0x0D03 i
    if i = 3 then t.loseTls else t
  else s

/-- BUMP (R390). -/
def execBump (sid i : Nat) (v : Int) (s : State) : Host.Outcome State Fault Refusal :=
  .next (s.writeRow sid (k28Bump (8 + i)) v (checkBump i v) (applyBump i v))

/-! ### Installing keys (R391-R393) -/

/-- Length of a slot's key. -/
def keyLength (k : Nat) : Nat := if k = 27 then 48 else 32

/-- The key that a value opens to under the session key: nonce (12 bytes), ciphertext, tag (16 bytes), with the object address
and the request's SEQ as additional data. -/
def State.openKey (s : State) (sid k seq : Nat) (b : List Nat) : Option Nat :=
  let n := b.length - 28
  Config.gcmOpen (s.session sid).key (numBE (b.take 12)) (bytesBE 3 (k28SlotValue k) ++ bytesBE 2 seq)
    (numBE ((b.drop 12).take n)) (numBE (b.drop (12 + n)))

/-- The checks of a key that stand behind those of R82; the role table of R392 is `slotRoleOk` and `needsSeal`. -/
def checkKeyInstall (sid k seq : Nat) (v : Int) (s : State) : Nat :=
  let b := blkBytes v
  if k = 21 && s.getN (k28SlotState k) ≠ 1 && !s.workstand then stNotNow
  else if s.getN k28VaultState = 2 || s.vault.root.isNone then stNotNow
  else if !s.cryptoOk || !s.rngOk then stInternal
  else if b.length < 28 then stOutOfRange
  else if (s.openKey sid k seq b).isNone then stIntegrity
  else if b.length ≠ keyLength k + 28 then stOutOfRange
  else stOk

/-- The key is wrapped under its domain; the blob enters the key store of flash. -/
def applyKeyInstall (sid k seq : Nat) (v : Int) (s : State) : State :=
  match s.openKey sid k seq (blkBytes v) with
  | none => s
  | some key =>
    let s := s.useKey (s.session sid).key
    let b := s.wrap (slotDomain k) k (keyLength k) key
    let t := (s.puts [(k28SlotState k, 1), (k28InstalledTime k, s.stampNext), (k28VaultState, 0)]).notice sid 0x0D04 k
    ({ t with vault := { t.vault with slots := t.vault.slots.set (k - 16) (some b) } }).drew.flashOp .keyStore

/-- The value of KEY_INSTALL as a BLK. -/
def keyBlk (nonce cipher len tag : Nat) : Int := blkOf (bytesBE 12 nonce ++ bytesBE len cipher ++ bytesBE 16 tag)

/-- KEY_INSTALL (R391); SEQ is that of the session's last accepted request. -/
def execKeyInstall (sid slot nonce cipher len tag : Nat) (s : State) : Host.Outcome State Fault Refusal :=
  let v := keyBlk nonce cipher len tag
  let q := (s.session sid).last
  .next (s.writeRow sid (k28SlotValue slot) v (checkKeyInstall sid slot q v) (applyKeyInstall sid slot q v))

/-! ### The owner key (R396) -/

def ownerBytes : Nat := 97

def checkOwnerKey (v : Int) (s : State) : Nat :=
  if !s.workstand || s.flag k28OwnerKeyProgrammed then stNotNow
  else if (blkBytes v).length ≠ ownerBytes then stOutOfRange else stOk

def applyOwnerKey (v : Int) (s : State) : State := s.puts [(k28OwnerKey, v), (k28OwnerKeyProgrammed, 1)]

/-- OWNER_KEY (R396). -/
def execOwnerKey (sid : Nat) (len point : Nat) (s : State) : Host.Outcome State Fault Refusal :=
  let v := blkOf (bytesBE len point)
  .next (s.writeRow sid k28OwnerKey v (checkOwnerKey v) (applyOwnerKey v))

/-- A write of class 28h; `seq` is the SEQ of the request. -/
def check28 (sid seq : Nat) (s : State) (i m : Nat) (v : Int) : Nat :=
  if i = 0 then (if m = 6 then checkReplaceRoot v s else if m = 9 then checkOwnerKey v s else stOk)
  else if i ≤ 15 then checkBump (i - 8) v s
  else if m = 1 then checkKeyInstall sid i seq v s
  else stOk

def apply28 (sid seq : Nat) (s : State) (k i m : Nat) (v : Int) : State :=
  if i = 0 then (if m = 6 then applyReplaceRoot v s else if m = 9 then applyOwnerKey v s else s.put k v)
  else if i ≤ 15 then applyBump (i - 8) v s
  else if m = 1 then applyKeyInstall sid i seq v s
  else s.put k v

end Sys2Proof.Machine
end

