-- ==== Sys2Proof/Machine/Bite.lean ====
section
/-! DEFINITION. The C3 watchdog (R47): the reset of one engine, and the bite. -/

namespace Sys2Proof.Machine

/-- The front ends drop what waits for the air (R356, R366) and every polling that has not read its card: its aerial is empty again, and
its next ping detects the card anew (R357). -/
def State.resetNfcEngine (s : State) : State :=
  let polling := (List.range 24).filter fun a => s.aerialState a = 1 && (s.aerial a).settleEnd.isNone
  let t := { s with frontEnds := s.frontEnds.map fun _ => ({} : FrontEnd), aerials := s.aerials.map fun (a : Aerial) => { a with pollAt := none, exchangeEnd := none } }
  (t.each polling fun t a => t.setAerial a 0).each (List.range 4) State.showFront

/-- The BIST controller (R58, R471): the scrub queues are discarded, and a copy or a bank test that runs begins again. -/
def State.resetBistEngine (s : State) : State :=
  { s with pannier := { s.pannier with scrub := [], copied := 0, tested := 0 }, bist := { s.bist with laneFailed := false } }

/-- A PDU or fragment that came over an interface: controllers 1 and 2, and 3 for 10BASE-T1S. -/
def cameOver (i : Nat) : Endpoint → Bool
  | .can c _ => c = i
  | .udp _ _ => i = 3
  | .nfc => false

def State.dropReceived (s : State) (i : Nat) : State :=
  { s with kod := { s.kod with rx := s.kod.rx.filter (fun x => !cameOver i x.ep),
                               reasm := s.kod.reasm.filter fun x => x.ctrl ≠ i } }

/-- A bite resets its owner's engine (R47): its queued work is discarded. A DMA channel reads watchdog reset (R66). The pedal
sequencers lose only the abandoned access, and their instruction runs at their next turn; a computation of the allocator that
runs is late (R261). The display engine takes its reset levels, drops what waits and then runs the rectangles in flight again as after
any reset of its domain (R426). The control cores 0-3 and the Green PHY MACs 20 and 21 keep no queue that a rule names: nothing of
theirs is discarded (DESIGN CHOICE, log entry 18). -/
def State.resetEngine (s : State) (q : Nat) : State :=
  if 4 ≤ q && q ≤ 19 then s.dmaStop (q - 4) 6
  else match q with
    | 22 => { s with chainline := s.chainline.cleared }
    | 23 => s.resetNfcEngine
    | 25 => if 720 ≤ s.cc % 800 then { s with peloton := { s.peloton with abandoned := true } } else s
    | 26 => s.dropReceived 1
    | 27 => s.dropReceived 2
    | 28 => s.dropReceived 3
    | 29 => { s with vault := { s.vault with requests := [] } }
    | 30 => { s with flash := { s.flash with ops := [], current := none } }
    | 31 => s.displayReset.displayRestart
    | 32 => { s with keypad := { s.keypad with runs := List.replicate 16 0 } }
    | 33 => { s with recorder := { s.recorder with saving := none, saveDue := false } }
    | 34 => s.resetBistEngine
    | _ => s

/-- WATCHDOG_BITE (R47): a lock held for WDOG frames is released, its owner's engine reset, and a round held in that cycle. In
that round the bitten owner's own request takes no part, for its engine has just been reset (DESIGN CHOICE, log entry 18). -/
def watchdogBite (port : Nat) (r : RoundIn) (s : State) : State :=
  let p := s.port port
  match p.lock with
  | some q =>
    if p.lockCycles < s.wdogLimit || port = 0 || 3 < port then s
    else
      let t := (s.count (k02WatchdogBites (16 + port))).notice byDevice 0x0207 q
      let t := t.resetEngine q
      t.modPort port fun p =>
        holdRound { p with lock := none, lockCycles := 0 } ((r.requests.filter (· ≠ q)).filter (t.mayRequest port))
  | none => s

def execWatchdogBite (port : Nat) (r : RoundIn) (s : State) : Host.Outcome State Fault Refusal :=
  .next (watchdogBite port r s)

end Sys2Proof.Machine
end

