-- ==== Sys2Proof/Machine/Modem.lean ====
section
/-! DEFINITION. The Chainline modem (R331-R336): chips and pulses, the decision for one symbol, and the tail-biting code with
its interleaving. Log entry 36. -/

namespace Sys2Proof.Machine

/-! ### Pulses and decisions (R332-R335) -/

/-- The position that carries two raw bits, in Gray code (R332). -/
def grayPosition : Bool → Bool → Nat
  | false, false => 0
  | false, true => 1
  | true, true => 2
  | true, false => 3

/-- The raw bits of a position. -/
def grayBits (p : Nat) : Bool × Bool := (2 ≤ p, p = 1 || p = 2)

/-- Start of a channel's chip in a position, in ns from the crossing that closes the window (R332). -/
def chipStart (channel p : Nat) : Int := -1200000 + 300000 * p + 37500 * channel

/-- The notch metric of a chip (R334): each sample brings the reference magnitude and its own. -/
def notchMetric (samples : List (Nat × Nat)) : Nat := (samples.map fun x => x.1 - x.2).sum

/-- The position decided from the four metrics of a channel; none is an erasure (R334). -/
def decidedPosition (threshold : Nat) (metrics : List Nat) : Option Nat :=
  (List.range 4).find? fun p =>
    threshold ≤ metrics.getD p 0 && 0 < metrics.getD p 0 &&
      (List.range 4).all fun q => q = p || 2 * metrics.getD q 0 ≤ metrics.getD p 0

/-- The symbol of a window: erased as well where its crossing did not stand, a voltage channel clipped or a sample was lost
(R335). -/
def receivedSymbol (threshold : Nat) (crossingOk clipped sampleLost : Bool) (metrics : List Nat) : Option Nat :=
  if !crossingOk || clipped || sampleLost then none else decidedPosition threshold metrics

/-- The margin of a decided symbol, in whole 0.1 dB (R334): 20 log10 of metric / threshold. -/
def symbolMargin (threshold metric : Nat) : Nat := Nat.log 10 (metric ^ 200 / threshold ^ 200)

/-! ### The code (R336) -/

/-- Info bit `j` of a block of `n` bits, the most significant first. -/
def infoBit (n v j : Nat) : Bool := bit v (n - 1 - j)

/-- A coded bit: the parity of the info bits that a generator of constraint length 7 takes, the newest under its most
significant bit; the bits before the first are the block's last. -/
def codedBit (g n v j : Nat) : Bool :=
  (List.range 7).foldl (fun b i => xor b (bit g (6 - i) && infoBit n v ((j + n - i) % n))) false

/-- Coded pair `j`: generators 171 and 133 in octal. -/
def codedPair (n v j : Nat) : Bool × Bool := (codedBit 0o171 n v j, codedBit 0o133 n v j)

/-- The pulse position of each half-cycle of a block: pair `j` lies in half-cycle 37 j mod n (R336). -/
def blockPositions (n v : Nat) : List Nat :=
  (List.range n).map fun h =>
    match (List.range n).find? fun j => 37 * j % n = h with
    | some j => grayPosition (codedPair n v j).1 (codedPair n v j).2
    | none => 0

end Sys2Proof.Machine
end

