-- ==== Sys2Proof/Machine/Chainline.lean ====
section
/-! DEFINITION. Chainline (R329-R354): frames and their protection, acceptance, flooding and relaying, the inbound queue, the
head-end's commands. A frame command brings a decoded frame with its margin and its erasures; a frame sent leaves with the
pulse of each of its half-cycles (Modem.lean). -/

namespace Sys2Proof.Machine

/-! ### Frames (R337-R339) -/

/-- The 96-bit header. -/
def chlHeader (f : ChlFrame) (slot relay crc : Nat) : Nat :=
  f.ver * 2 ^ 92 + f.type * 2 ^ 88 + f.len * 2 ^ 84 + slot * 2 ^ 81 + f.addr * 2 ^ 41 + f.unit * 2 ^ 36 + f.seq * 2 ^ 24 +
    relay * 2 ^ 17 + crc

/-- The header CRC over bits 95-16. -/
def chlCrc (f : ChlFrame) : Nat := crc16 (bytesBE 10 (chlHeader f f.slot f.relay 0 / 65536))

/-- The bytes under the MAC: the header with SLOT, RELAY and CRC 0, and the payload. -/
def chlMacBytes (f : ChlFrame) : List Nat := bytesBE 12 (chlHeader f 0 0 0) ++ f.payload.flatMap wordBytes

/-- The first 32 bits of the CMAC. -/
def chlMac (k : Nat) (f : ChlFrame) : Nat := Config.cmac k (chlMacBytes f) / 2 ^ 96

/-- Does a received header stand: version, type, length and CRC? -/
def chlHeadOk (f : ChlFrame) (type : Nat) : Bool :=
  f.ver = 1 && f.type = type && 1 ≤ f.len && f.len ≤ 8 && f.payload.length = f.len && f.crc = chlCrc f

def chlCmd (f : ChlFrame) : Nat := field (f.payload.getD 0 0) 47 40
def chlMcref (f : ChlFrame) : Nat := field (f.payload.getD 0 0) 39 0

/-- Cycles of a frame (R338). -/
def frameMcs (len : Nat) : Nat := 64 + 24 * len

def allNodes : Nat := 1099511627775

def State.chlOn (s : State) : Bool := s.flag k20Enable
def State.mc (s : State) : Nat := s.getN k20MC
def State.mcState (s : State) : Nat := s.getN k20MCState
def State.tier (s : State) : Nat := s.getN k20Tier0
def State.modChl (s : State) (f : Chainline → Chainline) : State := { s with chainline := f s.chainline }

/-- Symbols of a decoded frame that were erasures (R335): as the demodulator saw them, and at least those of the half-cycles whose
crossing did not stand (R29). -/
def State.erasuresOf (s : State) (f : ChlFrame) : Nat :=
  max f.erased (s.chainline.lost.filter fun m => (s.mc + ccMod - m) % ccMod < frameMcs f.len).length

/-- The coded pulses of a frame: its header block, then its body block (R336). -/
def framePositions (f : ChlFrame) : List Nat :=
  blockPositions 96 (chlHeader f f.slot f.relay f.crc) ++
    blockPositions (48 * f.len + 32) (f.payload.foldl (fun a w => a * 2 ^ 48 + w) 0 * 2 ^ 32 + f.mac)

/-- A frame is sent on a channel from the boundary that stands: counted and, half-cycle by half-cycle, fired (R333). -/
def State.sendFrame (s : State) (f : ChlFrame) (channel : Nat) : State :=
  let f := { f with margin := 0, erased := 0, crc := chlCrc f }
  let ph := s.getN k20TransmitPhase
  let x : ChlSending :=
    { channel := channel, phase := ph, boundary := ((s.chainline.phy.phases.getD 0 {}).crossings.head?.map Prod.fst).getD 0,
      positions := framePositions f }
  ((s.send (.chainline f channel ph (s.getN k20PulseWidth) (framePositions f))).modChl fun c =>
    { c with sending := c.sending ++ [x] }).count k20FramesSent

/-! ### Tier and parent (R341) -/

def meanOf (l : List Nat) : Nat := if l = [] then 0 else l.sum / l.length

/-- Margins are in 0.1 dB. -/
def State.minMargin (s : State) : Nat := 10 * s.getN k20MinimumMargin

/-- Margins of the headers decoded in a slot over the last 16 outbound frames. -/
def State.slotMargins (s : State) (k : Nat) : List Nat := (s.chainline.headers.filter fun h => h.1 = k).map Prod.snd

def neighbourInst (i : Nat) : Nat := 64 + i

/-- The parent entry: a repeater of tier - 1 with the highest margin, not below the minimum. -/
def State.parentEntry (s : State) : Option Nat :=
  let ok := (List.range 64).filter fun i =>
    (s.chainline.neighbours.getD i {}).used && s.getN (k20RelayNumber64 (neighbourInst i)) ≠ 0 &&
      s.getN (k20Tier64 (neighbourInst i)) + 1 = s.tier && s.minMargin ≤ s.getN (k20Margin (neighbourInst i))
  ok.foldl (fun b i =>
    match b with
    | some j => if s.getN (k20Margin (neighbourInst j)) < s.getN (k20Margin (neighbourInst i)) then some i else b
    | none => some i) none

/-- The relay number inbound frames name (20h/0/12): 0 the head-end, 127 an orphan. -/
def State.parentOf (s : State) : Nat :=
  if s.tier = 0 || s.tier = 255 then 0
  else match s.parentEntry with
    | some i => s.getN (k20RelayNumber64 (neighbourInst i))
    | none => 127

/-- The margin to the parent, the head-end for tier 0. -/
def State.parentMargin (s : State) : Nat :=
  if s.tier = 0 then meanOf (s.slotMargins 0)
  else match s.parentEntry with
    | some i => s.getN (k20Margin (neighbourInst i))
    | none => 0

/-- Parent and orphan state; an orphan's calls begin after a random delay of 0-600 s (R342). -/
def State.showParent (s : State) : State :=
  let t := s.put k20Parent s.parentOf
  if t.parentOf ≠ 127 then t.modChl fun c => { c with orphanAt := none }
  else if s.chainline.orphanAt.isSome then t
  else (t.modChl fun c => { c with orphanAt := some (s.after (s.drawnIn 0 (secTicks 600))) }).drew

/-- Tier from the last 16 outbound headers. -/
def State.showTier (s : State) : State :=
  let k := (List.range 8).find? fun k => s.slotMargins k ≠ [] && s.minMargin ≤ meanOf (s.slotMargins k)
  (s.put k20Tier0 (match k with
    | some k => (k : Nat)
    | none => 255)).showParent

/-! ### The inbound queue (R344) -/

/-- A message of this node enters the queue with its first back-off. -/
def State.queueMessage (s : State) (cmd unit : Nat) (words : List Nat) : State :=
  let seq := (s.chainline.ownSeq + 1) % 4096
  let f : ChlFrame :=
    { ver := 1, type := 1, len := 1 + words.length, slot := min 7 s.tier, addr := s.nodeAddr, unit := unit, seq := seq
      relay := s.parentOf, crc := 0, payload := cmd * 2 ^ 40 :: words, mac := 0, margin := 0 }
  (s.modChl fun c => { c with ownSeq := seq, queue := c.queue ++
    [{ frame := f, sendings := 0, cw := 8, backoff := s.drawnIn 0 7, sentAt := none, own := true }] }).drew

/-- The uplink channel in force: 1 + (address mod 7) until the setting is written (R344, R353). -/
def State.uplinkChannel (s : State) : Nat :=
  if s.getN k20UplinkChannel = 0 then 1 + s.nodeAddr % 7 else s.getN k20UplinkChannel

/-- May a frame start at the boundary on which MC stands? -/
def State.mayStart (s : State) : Bool :=
  s.chlOn && s.mc % 8 = 0 && s.chainlineKey.isSome && (match s.chainline.sendEnd with
    | some e => s.mcReached e
    | none => true)

/-- The frame of a message as it leaves: MCREF at the first sending, MAC under the utility-link key. -/
def State.frameOut (s : State) (m : InMsg) : ChlFrame :=
  if m.own then
    let f := if m.sendings = 0 then
        { m.frame with payload := (chlCmd m.frame * 2 ^ 40 + s.mc % 2 ^ 40) :: m.frame.payload.drop 1 }
      else m.frame
    { f with mac := chlMac (s.chainlineKey.getD 0) f, relay := s.parentOf, slot := min 7 s.tier }
  else m.frame

/-- INBOUND_SEND (R344): the first message whose back-off has run out is sent at a frame boundary. -/
def inboundSend (s : State) : State :=
  match s.chainline.queue.find? fun m => m.backoff = 0 && m.sentAt.isNone with
  | some m =>
    if !s.mayStart then s
    else
      let f := s.frameOut m
      let s := if m.own then s.forTag s.chainlineKey else s
      let sent := { m with frame := f, sendings := m.sendings + 1, sentAt := some s.cc }
      (s.sendFrame f s.uplinkChannel).modChl fun c =>
        { c with sendEnd := some ((s.mc + frameMcs f.len) % ccMod),
                 queue := if m.own then c.queue.map fun x => if x = m then sent else x else c.queue.filter (· ≠ m) }
  | none => s

def execInboundSend (s : State) : Host.Outcome State Fault Refusal := .next (inboundSend s)

/-- ACK_TIMEOUT (R344): resent with a doubled window, dropped after the fourth sending. -/
def ackTimeout (seq : Nat) (s : State) : State :=
  match s.chainline.queue.find? fun m => m.own && m.frame.seq = seq with
  | some m =>
    match m.sentAt with
    | some t =>
      if !s.reached ((t + secTicks (s.getN k20AckTimeout)) % ccMod) then s
      else if 4 ≤ m.sendings then
        (s.modChl fun c => { c with queue := c.queue.filter (· ≠ m) }).noticeOpen byChainline 0x0B41
      else
        let cw := min 64 (2 * m.cw)
        (s.modChl fun c => { c with queue := c.queue.map fun x =>
          if x = m then { x with cw := cw, backoff := s.drawnIn 0 (cw - 1), sentAt := none } else x }).drew
    | none => s
  | none => s

def execAckTimeout (seq : Nat) (s : State) : Host.Outcome State Fault Refusal := .next (ackTimeout seq s)

/-! ### Outbound frames (R338-R343) -/

/-- LEN of a listed command (R345): least and most. -/
def commandLen : Nat → Option (Nat × Nat)
  | 0x01 | 0x03 | 0x04 | 0x06 | 0x07 | 0x09 | 0x0A | 0x0B | 0x0C | 0x0D | 0x0E => some (2, 2)
  | 0x02 => some (3, 3)
  | 0x05 => some (4, 4)
  | 0x08 => some (3, 8)
  | _ => none

/-- Check 5 of R339 and the listing of R345: a status. Commands to the hub take unit 0 or 31, READ units 0-24
and counts 1-6. -/
def State.commandStatus (s : State) (f : ChlFrame) : Nat :=
  if f.unit ≠ 31 && s.spokeCount < f.unit then stNoObject
  else match commandLen (chlCmd f) with
    | none => stOutOfRange
    | some (lo, hi) =>
      if f.len < lo || hi < f.len then stOutOfRange
      else if chlCmd f = 0x0B then
        (if f.unit = 31 || field (f.payload.getD 1 0) 46 44 = 0 || field (f.payload.getD 1 0) 46 44 = 7 then stOutOfRange else stOk)
      else if f.unit = 0 || f.unit = 31 then stOk else stOutOfRange

/-- The result of a command: a refusal is noticed, and a command to this node alone is answered with STATUS (R340). -/
def State.result (s : State) (cmd : Nat) (h : ChlHdr) (st : Nat) : State :=
  let t := if st = stOk then s else s.notice byChainline 0x0B12 (cmd * 256 + st)
  if h.single then t.queueMessage 0x83 h.unit [cmd * 2 ^ 40 + h.seq * 2 ^ 28 + st] else t

/-- A frame that fails check 1. -/
def State.frameFailed (s : State) : State := (s.count k20FramesFailed).noticeOpen byChainline 0x0B10

/-- No utility-link key: noticed once (R339). -/
def State.keyMissing (s : State) : State :=
  if s.chainline.keyNoticed then s
  else ((s.modChl fun c => { c with keyNoticed := true }).unwrapFailed 24).noticeOpen byChainline 0x0B31

/-- A repeater of the copy's tier retransmits it in the next slot on the downlink channel, in the frame that starts at the boundary
ending the copy (R343, R338). -/
def State.retransmit (s : State) (f : ChlFrame) : State :=
  if s.getN k20RelayNumber0 ≠ 0 && f.slot = s.tier && f.slot < 7 && s.mc % 8 = 0 then
    s.sendFrame { f with slot := f.slot + 1 } (s.getN k20DownlinkChannel)
  else s

/-- In MC states 0 and 1 the first header that passes its CRC, outbound or inbound, sets the low 3 bits of MC: its frame ends at a
boundary (R338). -/
def State.findBoundary (s : State) : State :=
  if s.mcState < 2 && !s.chainline.found then
    (s.put k20MC (s.mc / 8 * 8 : Nat)).modChl fun c => { c with found := true }
  else s

/-- A decoded header: margin and slot statistics (R341). -/
def State.heardHeader (s : State) (f : ChlFrame) : State :=
  ((s.findBoundary.put k20LastMargin f.margin).modChl fun c => { c with headers := ((f.slot, f.margin) :: c.headers).take 16 }).showTier

/-- A decoded outbound frame is checked and its command waits for its own step (R339). -/
def State.takeOutbound (s : State) (f : ChlFrame) : State :=
  if !chlHeadOk f 0 then s.frameFailed
  else
    let t := s.heardHeader f
    match t.chainlineKey with
    | none => t.frameFailed.keyMissing
    | some k =>
      let t := t.useKey k
      if chlMac k f ≠ f.mac then t.frameFailed
      else
        let fresh := t.mcState < 2 || (t.mc + ccMod - chlMcref f) % 1099511627776 ≤ 4096
        let seen := t.chainline.accepted.contains (chlMcref f, f.seq)
        let mine := f.addr = t.nodeAddr || f.addr = allNodes
        if !fresh then (if mine then t.noticeOpen byChainline 0x0B11 else t)
        else if seen then t
        else
          let t := (t.modChl fun c => { c with accepted := ((chlMcref f, f.seq) :: c.accepted).take 64 }).retransmit f
          if !mine then t
          else
            let h : ChlHdr := { single := f.addr ≠ allNodes, unit := f.unit, seq := f.seq, slot := f.slot }
            if t.commandStatus f ≠ stOk then t.result (chlCmd f) h (t.commandStatus f)
            else (t.count k20FramesAccepted).modChl fun c => { c with commands := c.commands ++ [(chlCmd f, h, f.payload, t.mc)] }

/-- OUTBOUND_FRAME (R339): a frame decoded outside the samples that the model sees, with its own erasures. -/
def outboundFrame (f : ChlFrame) (s : State) : State :=
  if !s.chlOn || f.ver ≠ 1 || f.type ≠ 0 || f.len < 1 || 8 < f.len then s
  else (s.countBy k20Erasures (s.erasuresOf f)).takeOutbound f

def execOutboundFrame (f : ChlFrame) (s : State) : Host.Outcome State Fault Refusal := .next (outboundFrame f s)

/-- An accepted command is carried out by the firmware: it is taken from the waiting ones; `f` gets the state and MC at the
end of its copy. Without such a command nothing happens. -/
def State.carryOut (s : State) (cmd : Nat) (h : ChlHdr) (isIt : List Nat → Bool) (f : State → Nat → State) : State :=
  match s.chainline.commands.find? fun c => c.1 = cmd && c.2.1 = h && isIt c.2.2.1 with
  | some c => if s.firmwareUp then f (s.modChl fun x => { x with commands := x.commands.erase c }) c.2.2.2 else s
  | none => s

/-! ### MC and its events (R346, R347) -/

/-- Signed distance on the MC circle. -/
def mcDiff (a b : Nat) : Int := signed 48 ((a + ccMod - b % ccMod) % ccMod)

/-- TIME_ALIGN (R346): an event whose target a forward change passes falls to the next counted crossing. A frame that is being sent ends
at the crossing at which it would have (R338). -/
def timeAlign (h : ChlHdr) (mc : Nat) (s : State) : State :=
  s.carryOut 1 h (fun w => w.getD 1 0 = mc) fun s at_ =>
    let change := mcDiff ((mc + (h.slot + 1) * frameMcs 2) % ccMod) at_
    let now := ((s.mc + change + ccMod) % ccMod).toNat
    let passed := fun (t : Nat) => 0 < change && mcDiff s.mc t < 0 && 0 ≤ mcDiff now t
    let codeOf := fun (e : ChlEvent) => match e with
      | .timeSet _ _ => 2
      | .snapshot => 3
      | .billingClose => 4
      | .capStart _ => 5
    let t := s.each (s.chainline.events.filter fun e => passed e.1) fun t e => t.notice byChainline 0x0B02 (codeOf e.2)
    let t := t.modChl fun c => { c with
      events := c.events.map fun e => if passed e.1 then ((now + 1) % ccMod, e.2) else e
      sendEnd := c.sendEnd.map fun e => (((e : Int) + change) % ccMod).toNat }
    ((t.puts [(k20MC, now), (k20MCState, 2)]).notice byChainline 0x0B01 (pattern 48 change)).result 1 h stOk

def execTimeAlign (h : ChlHdr) (mc : Nat) (s : State) : Host.Outcome State Fault Refusal := .next (timeAlign h mc s)

/-- An event is scheduled at an MC value. -/
def State.schedule (s : State) (m : Nat) (e : ChlEvent) : State := s.modChl fun c => { c with events := c.events ++ [(m, e)] }

/-- TIME_SET (R346): the MC target is the next value with these low 40 bits. -/
def timeSet (h : ChlHdr) (target mcLow : Nat) (slewOk : Bool) (s : State) : State :=
  s.carryOut 2 h (fun w => w.getD 1 0 = target && field (w.getD 2 0) 47 8 = mcLow && bit (w.getD 2 0) 0 = slewOk) fun s _ =>
    if s.mcState ≠ 2 then s.result 2 h stNotNow
    else
      let d := (mcLow + 1099511627776 - s.mc % 1099511627776) % 1099511627776
      let d := if d = 0 then 1099511627776 else d
      (s.schedule ((s.mc + d) % ccMod) (.timeSet target slewOk)).result 2 h stOk

def execTimeSet (h : ChlHdr) (target mcLow : Nat) (slewOk : Bool) (s : State) : Host.Outcome State Fault Refusal :=
  .next (timeSet h target mcLow slewOk s)

/-- Is an MC target acceptable (R347)? -/
def State.mcTargetOk (s : State) (m : Nat) : Bool :=
  let d := (m + ccMod - s.mc) % ccMod
  2 ≤ d && d < ccMod / 2

/-- SNAPSHOT (R347). -/
def snapshot (h : ChlHdr) (mc : Nat) (s : State) : State :=
  s.carryOut 3 h (fun w => w.getD 1 0 = mc) fun s _ =>
    if s.mcState ≠ 2 then s.result 3 h stNotNow
    else if !s.mcTargetOk mc then s.result 3 h stOutOfRange
    else if s.snapshotPending then s.result 3 h stBusy
    else (s.schedule mc .snapshot).result 3 h stOk

def execSnapshot (h : ChlHdr) (mc : Nat) (s : State) : Host.Outcome State Fault Refusal := .next (snapshot h mc s)

/-- BILLING_CLOSE (R347). -/
def billingCloseCommand (h : ChlHdr) (mc : Nat) (s : State) : State :=
  s.carryOut 4 h (fun w => w.getD 1 0 = mc) fun s _ =>
    if s.mcState ≠ 2 then s.result 4 h stNotNow
    else if !s.mcTargetOk mc then s.result 4 h stOutOfRange
    else (s.schedule mc .billingClose).result 4 h stOk

def execBillingClose (h : ChlHdr) (mc : Nat) (s : State) : Host.Outcome State Fault Refusal :=
  .next (billingCloseCommand h mc s)

/-- An event takes effect in the boundary work of the tick at which its crossing is published (R346-R348). -/
def State.eventEffect (s : State) (e : ChlEvent) : State :=
  match e with
  | .timeSet target slewOk =>
    let d : Int := (target : Int) - s.wallNext
    if slewOk && s.timeValid && -slewLimit ≤ d && d ≤ slewLimit then applySlew d s else s.stepTo byChainline target
  | .snapshot => s.latchSnapshot 2
  | .billingClose => s.billingClose 2 ((s.boundaryWall).getD 0)
  | .capStart i => if s.getN (k1BCapState i) = 1 then s.activateCap i else s

/-- MC_TARGET_REACHED (R346-R348): every event whose target MC has reached. -/
def mcTargetReached (s : State) : State :=
  let due := s.chainline.events.filter fun e => s.mcReached e.1
  let t := s.modChl fun c => { c with events := c.events.filter fun e => !s.mcReached e.1 }
  t.each due fun t e => t.eventEffect e.2

def execMcTargetReached (s : State) : Host.Outcome State Fault Refusal := .next (mcTargetReached s)

/-! ### Caps (R348) -/

/-- Cycles per second at the nominal frequency of the reference group. -/
def State.nominalHz (s : State) : Nat := if s.getN (k09NominalFrequency (s.getN k09ReferenceGroup)) = 0 then 50 else 60

/-- Wall time predicted for an MC value. -/
def State.wallAtMc (s : State) (m : Nat) : Nat := ((s.wall : Int) + mcDiff m s.mc * 1000 / s.nominalHz).toNat

def dayMillis : Nat := 86400000

/-- DR_CAP (R348, R270). While wall time is invalid no cap is held (R271): it is discarded as it arrives (log entry 51). -/
def drCap (h : ChlHdr) (ident target mask cap duration start : Nat) (s : State) : State :=
  s.carryOut 5 h (fun w =>
      field (w.getD 1 0) 47 16 = ident && field (w.getD 1 0) 15 12 = target && field (w.getD 1 0) 11 9 = mask &&
        field (w.getD 2 0) 47 24 = cap && field (w.getD 2 0) 23 0 = duration && w.getD 3 0 = start) fun s _ =>
    if s.mcState ≠ 2 then s.result 5 h stNotNow
    else if siteNum < target then s.result 5 h stOutOfRange
    else match s.capSlotFor ident with
      | none => (s.notice byChainline 0x0822 ident).result 5 h stFull
      | some i =>
        if !s.timeValid then (s.notice byChainline 0x0822 ident).result 5 h stOk
        else
        let w := s.wallAtMc start
        let e := w + (if duration = 0 then dayMillis else duration * 1000 / s.nominalHz)
        let t := s.modChl fun c => { c with events :=
          (c.events.filter fun x => x.2 ≠ ChlEvent.capStart i) ++ [(start, .capStart i)] }
        ((t.puts [(k1BCapState i, 1), (k1BTarget i, target), (k1BPhaseMask i, mask), (k1BCap i, cap), (k1BStart i, w),
          (k1BEnd i, e), (k1BCapIdentity i, ident)]).logCap i).result 5 h stOk

def execDrCap (h : ChlHdr) (ident target mask cap duration start : Nat) (s : State) : Host.Outcome State Fault Refusal :=
  .next (drCap h ident target mask cap duration start s)

/-- DR_CANCEL (R348). -/
def drCancel (h : ChlHdr) (ident : Nat) (s : State) : State :=
  s.carryOut 6 h (fun w => field (w.getD 1 0) 47 16 = ident) fun s _ =>
    match capSlots.find? fun i => s.getN (k1BCapState i) ≠ 0 && s.getN (k1BCapIdentity i) = ident with
    | some i => (s.freeCap i).result 6 h stOk
    | none => s.result 6 h stNoObject

def execDrCancel (h : ChlHdr) (ident : Nat) (s : State) : Host.Outcome State Fault Refusal := .next (drCancel h ident s)

/-! ### Tariff images (R349) -/

def rTariff : Nat := 2

/-- Does Chainline own TARIFF under an identity? -/
def State.ownsTariff (s : State) (tid : Nat) : Bool :=
  s.regionOwner rTariff = chainlineOwner && (s.region rTariff).chlId = tid

/-- A tariff command was accepted: the idle time starts afresh. -/
def State.tariffHeard (s : State) : State := s.modChl fun c => { c with tariffLast := s.cc }

/-- TARIFF_BEGIN. -/
def tariffBegin (h : ChlHdr) (tid size : Nat) (s : State) : State :=
  s.carryOut 7 h (fun w => field (w.getD 1 0) 47 16 = tid && field (w.getD 1 0) 15 0 = size) fun s _ =>
    let st := s.regionState rTariff
    if st = rIdle || st = rCommitted then
      if size = 0 || s.regionLimit rTariff < size then s.result 7 h stOutOfRange
      else (((s.openRegion rTariff chainlineOwner size).modRegion rTariff fun x => { x with chlId := tid }).tariffHeard).result 7 h stOk
    else if s.ownsTariff tid then s.tariffHeard.result 7 h stOk
    else (s.noticeOpen byChainline 0x0B20).result 7 h stRegionBusy

def execTariffBegin (h : ChlHdr) (tid size : Nat) (s : State) : Host.Outcome State Fault Refusal :=
  .next (tariffBegin h tid size s)

/-- A word received at an offset; a repeated one overwrites (R349), also where it has been programmed. -/
def State.receiveWord (s : State) (o w : Nat) : State :=
  if s.getN (k0FDeclaredSize rTariff) ≤ o then s
  else
    let t := s.modRegion rTariff fun x =>
      let y := { x with received := if x.received.contains o then x.received else o :: x.received }
      if s.getN (k0FFlushMark rTariff) ≤ o then { y with staged := storeInsert y.staged o w }
      else y.setSlot (s.otherSlot rTariff) (storeWrite 0 (y.slotList (s.otherSlot rTariff)) o w) (s.getN (k0FDeclaredSize rTariff))
    if s.getN (k0FHighWater rTariff) ≤ o then t.put (k0FHighWater rTariff) (o + 1 : Nat) else t

/-- TARIFF_DATA. -/
def tariffData (h : ChlHdr) (tid off : Nat) (words : List Nat) (s : State) : State :=
  s.carryOut 8 h (fun w => field (w.getD 1 0) 47 16 = tid && field (w.getD 1 0) 15 0 = off && w.drop 2 = words) fun s _ =>
    if s.ownsTariff tid && s.regionState rTariff = rReceiving then
      (s.tariffHeard.each words.zipIdx fun s x => s.receiveWord (off + x.2) x.1).result 8 h stOk
    else s

def execTariffData (h : ChlHdr) (tid off : Nat) (words : List Nat) (s : State) : Host.Outcome State Fault Refusal :=
  .next (tariffData h tid off words s)

/-- Offsets not yet received. -/
def State.missingWords (s : State) : List Nat :=
  (List.range (s.getN (k0FDeclaredSize rTariff))).filter fun o => !(s.region rTariff).received.contains o

/-- TARIFF_END: the finish, and by `imageVerification` the commit. -/
def tariffEnd (h : ChlHdr) (tid : Nat) (s : State) : State :=
  s.carryOut 9 h (fun w => field (w.getD 1 0) 47 16 = tid) fun s _ =>
    if !(s.ownsTariff tid && s.regionState rTariff = rReceiving) then s.result 9 h stBadSequence
    else match s.missingWords with
      | [] => (s.tariffHeard.finishRegion rTariff).result 9 h stOk
      | o :: rest =>
        if h.single then s.tariffHeard.queueMessage 0x85 h.unit [(rest.length + 1) * 2 ^ 32 + o * 2 ^ 16] else s.tariffHeard

def execTariffEnd (h : ChlHdr) (tid : Nat) (s : State) : Host.Outcome State Fault Refusal := .next (tariffEnd h tid s)

/-- TARIFF_ABORT. -/
def tariffAbort (h : ChlHdr) (tid : Nat) (s : State) : State :=
  s.carryOut 10 h (fun w => field (w.getD 1 0) 47 16 = tid) fun s _ =>
    if s.ownsTariff tid && 1 ≤ s.regionState rTariff && s.regionState rTariff ≤ 3 then
      (s.abortRegion rTariff).result 10 h stOk
    else s.result 10 h stBadSequence

def execTariffAbort (h : ChlHdr) (tid : Nat) (s : State) : Host.Outcome State Fault Refusal := .next (tariffAbort h tid s)

/-- TARIFF_IDLE_TIMEOUT. -/
def tariffIdleTimeout (s : State) : State :=
  if s.regionOwner rTariff = chainlineOwner && s.regionState rTariff = rReceiving &&
      s.reached ((s.chainline.tariffLast + secTicks (s.getN k20TariffIdleTimeout)) % ccMod) then
    (s.abortRegion rTariff).noticeOpen byChainline 0x0B21
  else s

def execTariffIdleTimeout (s : State) : Host.Outcome State Fault Refusal := .next (tariffIdleTimeout s)

/-! ### Reading, registration, repeaters (R342, R350, R351) -/

/-- Value and wrap count of a register or hub figure. -/
def State.readFigure (s : State) (unit : Nat) (shadow : Bool) (i : Nat) : Nat × Nat :=
  if unit = 0 then
    (match i with
      | 0 => s.getN k0BSnapshotMC
      | 1 => s.getN k0BSnapshotSequence
      | 2 => s.wall
      | _ => s.mc, 0)
  else
    let r := 24 * (unit - 1) + i
    if shadow then (s.getN (k0BSnapshotValue r), s.getN (k0BSnapshotWrapCount r)) else (s.getN (k0BValue r), s.getN (k0BWrapCount r))

/-- Word 1 of a READ. -/
def readWord (shadow : Bool) (idx : List Nat) : Nat :=
  (if shadow then 2 ^ 47 else 0) + idx.length * 2 ^ 44 + (idx.zipIdx.map fun x => x.1 * 2 ^ (39 - 5 * x.2)).sum

/-- CHAINLINE_READ (R350). -/
def chainlineRead (h : ChlHdr) (shadow : Bool) (idx : List Nat) (s : State) : State :=
  s.carryOut 11 h (fun w => idx.length ≤ 6 && w.getD 1 0 / 2 ^ (44 - 5 * idx.length) * 2 ^ (44 - 5 * idx.length) = readWord shadow idx)
    fun s _ =>
    if idx = [] || idx.any (fun i => (if h.unit = 0 then 3 else 23) < i) then s.result 11 h stOutOfRange
    else if !h.single then s
    else
      let l := idx.map fun i => s.readFigure h.unit shadow i
      s.queueMessage 0x82 h.unit (numBE ((l.map Prod.snd ++ List.replicate (6 - l.length) 0)) :: l.map Prod.fst)

def execChainlineRead (h : ChlHdr) (shadow : Bool) (idx : List Nat) (s : State) : Host.Outcome State Fault Refusal :=
  .next (chainlineRead h shadow idx s)

/-- A registration instant is drawn from the stored window (R351). -/
def State.drawRegistration (s : State) : State :=
  (s.modChl fun c => { c with registerAt := some (s.after (s.drawnIn 0 (secTicks (s.getN k20RegistrationWindow)))) }).drew

/-- REREGISTER: without random numbers INTERNAL (R395). -/
def reregister (h : ChlHdr) (window : Nat) (s : State) : State :=
  s.carryOut 12 h (fun w => field (w.getD 1 0) 31 0 = window) fun s _ =>
    if window < 1 || 86400 < window then s.result 12 h stOutOfRange
    else if !s.rngOk then s.result 12 h stInternal
    else ((s.put k20RegistrationWindow window).logSetting k20RegistrationWindow window).drawRegistration.result 12 h stOk

def execReregister (h : ChlHdr) (window : Nat) (s : State) : Host.Outcome State Fault Refusal := .next (reregister h window s)

/-- REGISTER (R345). -/
def State.register (s : State) : State :=
  s.queueMessage 0x81 0 [s.getN k00Variant * 2 ^ 40 + (s.spokeCount + 1) * 2 ^ 32 + s.tier * 2 ^ 24 + s.parentOf * 2 ^ 17]

/-- REGISTRATION (R351). -/
def registration (s : State) : State :=
  if s.firmwareUp && s.chlOn && s.reachedOpt s.chainline.registerAt then
    (s.modChl fun c => { c with registerAt := none }).register
  else s

def execRegistration (s : State) : Host.Outcome State Fault Refusal := .next (registration s)

/-- ORPHAN_CALL (R342): once per hour. -/
def orphanCall (s : State) : State :=
  if s.firmwareUp && s.chlOn && s.reachedOpt s.chainline.orphanAt then
    (s.modChl fun c => { c with orphanAt := some (s.after (secTicks 3600)) }).register
  else s

def execOrphanCall (s : State) : Host.Outcome State Fault Refusal := .next (orphanCall s)

def helloTicks : Nat := secTicks 21600

/-- HELLO (R342): a repeater announces itself every 6 h. -/
def hello (s : State) : State :=
  if s.firmwareUp && s.chlOn && s.getN k20RelayNumber0 ≠ 0 && s.reachedOpt s.chainline.helloAt then
    (s.modChl fun c => { c with helloAt := some (s.after helloTicks) }).queueMessage 0x86 0
      [s.getN k20RelayNumber0 * 2 ^ 41 + s.tier % 8 * 2 ^ 38]
  else s

def execHello (s : State) : Host.Outcome State Fault Refusal := .next (hello s)

/-- REPEATER is the response that CANDIDATE expects: it acknowledges it (R344). -/
def State.candidateAnswered (s : State) : State :=
  s.modChl fun c => { c with queue := c.queue.filter fun m => !(m.own && chlCmd m.frame = 0x84 && m.sendings ≠ 0) }

/-- REPEATER (R342): a relay number, or a veto or a revocation. A veto runs in ticks; its predicted end reads 0 while wall time is
invalid (R167). -/
def repeater (h : ChlHdr) (relay vetoHours : Nat) (s : State) : State :=
  s.carryOut 13 h (fun w => field (w.getD 1 0) 47 41 = relay && field (w.getD 1 0) 40 25 = vetoHours) fun s _ =>
    let s := s.candidateAnswered
    if 126 < relay then s.result 13 h stOutOfRange
    else if relay ≠ 0 then
      ((s.put k20RelayNumber0 relay).modChl fun c => { c with candidate := false, helloAt := some (s.after helloTicks) }).result 13 h stOk
    else
      let t := (s.put k20RelayNumber0 0).modChl fun c => { c with candidate := false, helloAt := none }
      let t := if vetoHours = 0 then t
        else ((t.put k20VetoUntil (if s.timeValid then (s.wall + vetoHours * 3600000 : Nat) else 0)).modChl fun c =>
          { c with vetoEnd := some (s.after (secTicks (3600 * vetoHours))) }).noticeOpen byChainline 0x0B32
      t.result 13 h stOk

def execRepeater (h : ChlHdr) (relay vetoHours : Nat) (s : State) : Host.Outcome State Fault Refusal :=
  .next (repeater h relay vetoHours s)

/-- ACK (R344); one to this node alone is answered with STATUS as every command is (R340). -/
def chlAck (h : ChlHdr) (seq : Nat) (s : State) : State :=
  s.carryOut 14 h (fun w => field (w.getD 1 0) 11 0 = seq) fun s _ =>
    (s.modChl fun c => { c with queue := c.queue.filter fun m => !(m.own && m.frame.seq = seq && m.sendings ≠ 0) }).result 14 h stOk

def execAck (h : ChlHdr) (seq : Nat) (s : State) : Host.Outcome State Fault Refusal := .next (chlAck h seq s)

/-! ### Inbound frames (R341, R342, R344) -/

/-- The neighbour entry for an address: its own, a free one, or that of lowest margin when the new node's is higher. -/
def State.neighbourSlot (s : State) (addr margin : Nat) : Option Nat :=
  let used := fun (i : Nat) => (s.chainline.neighbours.getD i {}).used
  match (List.range 64).find? fun i => used i && s.getN (k20Address (neighbourInst i)) = addr with
  | some i => some i
  | none => match (List.range 64).find? fun i => !used i with
    | some i => some i
    | none =>
      let m := fun (i : Nat) => s.getN (k20Margin (neighbourInst i))
      let low := (List.range 64).foldl (fun b i => if m i < m b then i else b) 0
      if m low < margin then some low else none

/-- A node heard in an inbound frame enters the table (R341); a HELLO brings its relay number. -/
def State.hearNode (s : State) (f : ChlFrame) : State :=
  match s.neighbourSlot f.addr f.margin with
  | none => s
  | some i =>
    let old := s.chainline.neighbours.getD i {}
    let same := old.used && s.getN (k20Address (neighbourInst i)) = f.addr
    let ms := (f.margin :: (if same then old.margins else [])).take 8
    let relay := if chlCmd f = 0x86 then field (f.payload.getD 1 0) 47 41
      else if same then s.getN (k20RelayNumber64 (neighbourInst i)) else 0
    ((s.puts [(k20Address (neighbourInst i), f.addr), (k20Tier64 (neighbourInst i), f.slot),
      (k20RelayNumber64 (neighbourInst i), relay), (k20Margin (neighbourInst i), (meanOf ms : Nat)),
      (k20LastHeard (neighbourInst i), s.mc)]).modChl fun c =>
      { c with neighbours := c.neighbours.set i { margins := ms, used := true } }).showParent

/-- The margin that a candidate needs, to the orphan and to its parent (R342). -/
def State.candidateMargin (s : State) : Nat := s.minMargin + 30

/-- Ticks for which an orphan call counts: an orphan calls once per hour (log entry 36). -/
def orphanTicks : Nat := secTicks 3600

/-- An orphan call heard with margin enough (R342). -/
def State.hearOrphan (s : State) (f : ChlFrame) : State :=
  if chlCmd f = 0x81 && f.relay = 127 && s.candidateMargin ≤ f.margin then
    s.modChl fun c => { c with orphans := (c.orphans.filter fun o => o.1 ≠ f.addr) ++ [(f.addr, f.slot, s.cc)] }
  else s

/-- The orphans of the next tier that have called within the hour. -/
def State.callers (s : State) : List (Nat × Nat × Nat) :=
  s.chainline.orphans.filter fun o => o.2.1 = s.tier + 1 && s.since o.2.2 < orphanTicks

/-- Does a veto run? -/
def State.vetoed (s : State) : Bool :=
  match s.chainline.vetoEnd with
  | some e => !s.reached e
  | none => false

/-- Candidacy (R342): whenever its conditions have come to hold. -/
def State.candidacy (s : State) : State :=
  if s.chainline.candidate || s.callers = [] || 6 < s.tier || s.parentMargin < s.candidateMargin || s.getN k20RelayNumber0 ≠ 0 ||
      s.vetoed then s
  else
    ((s.modChl fun c => { c with candidate := true }).queueMessage 0x84 0
      [s.tier * 2 ^ 40 + s.parentMargin * 2 ^ 24 + min 255 s.callers.length * 2 ^ 16]).noticeOpen byChainline 0x0B30

/-- The work of the Chainline firmware in a frame: the node may have become a candidate. -/
def State.chlTick (s : State) : State := if s.chlOn && s.firmwareUp then s.candidacy else s

/-- Forwarding by the repeater that the frame names (R344). -/
def State.forward (s : State) (f : ChlFrame) : State :=
  if s.getN k20RelayNumber0 = 0 || f.relay ≠ s.getN k20RelayNumber0 || s.chainline.relayed.contains (f.addr, f.seq) then s
  else if 8 ≤ (s.chainline.queue.filter fun m => !m.own).length then s.noticeOpen byChainline 0x0B40
  else
    (s.modChl fun c =>
      { c with relayed := ((f.addr, f.seq) :: c.relayed).take 64
               queue := c.queue ++ [{ frame := { f with relay := s.parentOf, slot := min 7 s.tier }, sendings := 0, cw := 8
                                      backoff := s.drawnIn 0 7, sentAt := none, own := false }] }).drew

/-- A decoded inbound frame (R341, R342, R344). -/
def State.takeInbound (t : State) (f : ChlFrame) : State :=
  if !chlHeadOk f 1 then t.frameFailed
  else ((((t.findBoundary.put k20LastMargin f.margin).hearNode f).hearOrphan f).candidacy).forward f

/-- INBOUND_FRAME (R344): a frame decoded outside the samples that the model sees, with its own erasures. -/
def inboundFrame (f : ChlFrame) (s : State) : State :=
  if !s.chlOn || f.ver ≠ 1 || f.type ≠ 1 || f.len < 1 || 8 < f.len then s
  else (s.countBy k20Erasures (s.erasuresOf f)).takeInbound f

def execInboundFrame (f : ChlFrame) (s : State) : Host.Outcome State Fault Refusal := .next (inboundFrame f s)

/-- NEIGHBOUR_EXPIRY (R341): an entry not heard for seven days is dropped. -/
def neighbourExpiry (addr : Nat) (s : State) : State :=
  let week := if s.nominalHz = 50 then 30240000 else 36288000
  match (List.range 64).find? fun i =>
      (s.chainline.neighbours.getD i {}).used && s.getN (k20Address (neighbourInst i)) = addr with
  | some i =>
    if week ≤ (s.mc + ccMod - s.getN (k20LastHeard (neighbourInst i))) % ccMod then
      ((s.puts ((List.range 5).map fun m => (key 0x20 (neighbourInst i) m, 0))).modChl fun c =>
        { c with neighbours := c.neighbours.set i {} }).showParent
    else s
  | none => s

def execNeighbourExpiry (addr : Nat) (s : State) : Host.Outcome State Fault Refusal := .next (neighbourExpiry addr s)

end Sys2Proof.Machine
end

