-- ==== Sys2Proof/Machine/Resets.lean ====
section
/-! DEFINITION. Resets (R14, R463-R468), the power-fail decision and its end (R150-R153), the restart of the firmware (R244,
R324-R326, R447) and the FW slot it starts from (R440, R442). -/

namespace Sys2Proof.Machine

/-! ### The safety-domain reset (R14, R104, R465) -/

/-- Does a member outlive a safety-domain reset outside the restorations of boot? The vault, the tag and OTP keep theirs
(R122, R379, R381, R396), flash keeps the boot header's (R439) and the session slots (R104). -/
def keptMember (k : Nat) : Bool :=
  let c := keyClass k
  let i := keyInst k
  let m := keyMember k
  (c = 0x28 && !(i = 0 && m = 10)) || (c = 0x22 && 2 ≤ m && m ≤ 4) || (c = 0x12 && i < 48) ||
    (c = 0x0D && i = 256 && (m = 1 || m = 3)) || (c = 0x31 && ((16 ≤ i && m ≠ 5) || (i = 0 && m = 6))) ||
    (c = 0x10 && i ≠ 0) || (c = 0x10 && (m ≤ 2 || m = 7))

/-- What a safety-domain reset ends and reports: a pending snapshot (R140), a freeze (R410), a Chainline billing close (R347), and
Workstand, whose every exit is reported (R459; DEDUCED, log entry 41). -/
def State.resetNotices (s : State) : List Notice :=
  (if s.billing.snap.isSome || s.chainline.events.any (fun e => e.2 = ChlEvent.snapshot) then [⟨0x0423, byDevice, s.drawn % ccMod⟩] else []) ++
    (if s.recorder.freezeEnd.isSome then [⟨0x0143, byDevice, s.drawn % ccMod⟩] else []) ++
    (if s.chainline.events.any fun e => e.2 = ChlEvent.billingClose then [⟨0x0B13, byDevice, s.drawn % ccMod⟩] else []) ++
    (if s.workstand then [⟨0x0104, byDevice, s.drawn % ccMod⟩] else [])

/-- What the flash and the vault keep of a region: its slots. -/
def Region.kept (x : Region) : Region := { slotA := x.slotA, slotB := x.slotB, sizeA := x.sizeA, sizeB := x.sizeB }

/-- The slots come back from the key store of flash. An installation that was not yet programmed is lost with the working copy: its
slot holds again what stood in the store. -/
def State.loadKeys (s : State) : State :=
  let lost := keySlots.filter fun k => s.slotBlob k ≠ s.flash.keyStore.getD (k - 16) none
  ({ s with vault := { s.vault with slots := s.flash.keyStore } }).each lost fun t k =>
    t.put (k28SlotState k) (match t.slotBlob k with
      | none => 0
      | some b => if (t.unwrap b).isSome then 1 else 2)

/-- The safety domain resets with a cause: everything takes its value of `State.reset` but what vault, flash, OTP and tag
hold. A programmed commit is in force; regions in progress are reported (R446). -/
def State.safetyReset (s : State) (cause : Nat) : State :=
  let c := s.commitsInForce
  let dropped := (List.range 6).filter fun r => 1 ≤ c.regionState r && c.regionState r ≤ 3
  let kept := c.obj.filter fun p => keptMember p.1
  let t : State :=
    { State.reset with
      variant := s.variant, pending := s.pending, out := s.out, draw := s.draw + 1,
      kod := { regions := c.kod.regions.map Region.kept },
      pf := { slots := s.pf.slots, newest := s.pf.newest, flash := s.pf.flash, usedSlots := s.pf.usedSlots,
              journal := s.pf.journal },
      billing := { active := c.billing.active, pendingImage := c.billing.pendingImage },
      sessions := s.sessions, sessionSeq := s.sessionSeq, tag := s.tag.cutOwn s.drawn,
      vault := { s.vault with keyRegister := none, requests := [], ended := none, bootKey := none },
      sealFilter := { s.sealFilter with opened := false },
      recorder := { raised := s.keptNotices ++ s.resetNotices ++ dropped.map fun r => ⟨0x0F15, byDevice, r⟩,
                    saved := s.recorder.saved, saveSlot := s.recorder.saveSlot },
      flash := { log := c.flash.log, headerSeq := s.flash.headerSeq, headers := s.flash.headers, fwTrial := c.flash.fwTrial, periods := s.flash.periods,
                 demandRec := s.flash.demandRec, keyStore := s.flash.keyStore, purses := s.flash.purses },
      bist := { fused := s.bist.fused },
      modes := { cause := s.lowestCause cause, powered := s.modes.powered } }
  ((t.puts kept).each dropped fun t r => t.dropOther r).loadKeys.applyFuses.showSeal

/-! ### The resets (R463, R464) -/

/-- SAFETY_DOMAIN_FAULT (R153, R314): one capture as for cause 4, then the reset. -/
def safetyDomainFault (s : State) : State :=
  if s.modes.powered then s.faultCapture.safetyReset 4 else s

def execSafetyDomainFault (s : State) : Host.Outcome State Fault Refusal := .next (safetyDomainFault s)

/-- RST_N (R153, R464). -/
def rstN (s : State) : State := if s.modes.powered then s.faultCapture.safetyReset 3 else s

def execRstN (s : State) : Host.Outcome State Fault Refusal := .next (rstN s)

/-- BROWN_OUT (R460, R464): no capture; with the main supplies lost Kickstand begins, and only the vault runs. -/
def brownOut (mainLost : Bool) (s : State) : State :=
  if !s.modes.powered then s
  else
    let t := s.safetyReset 2
    if mainLost then { t.put k01Mode 4 with modes := { t.modes with powered := false } } else t

def execBrownOut (mainLost : Bool) (s : State) : Host.Outcome State Fault Refusal := .next (brownOut mainLost s)

/-- POWER_ON_RESET (R464): the supplies rise into range; a new power-up begins for R384. -/
def powerOnReset (s : State) : State :=
  let t := s.safetyReset 1
  { t with modes := { t.modes with powered := true }, vault := { t.vault with vbatNoticed := false } }

def execPowerOnReset (s : State) : Host.Outcome State Fault Refusal := .next (powerOnReset s)

/-- SOFTWARE_RESTART (R464). -/
def execSoftwareRestart (s : State) : Host.Outcome State Fault Refusal := .next (s.coreReset 6)

/-- COMMANDED_RESTART (R464, R468): at its tick. -/
def commandedRestart (s : State) : State := if s.reachedOpt s.modes.restartAt then s.coreReset 7 else s

def execCommandedRestart (s : State) : Host.Outcome State Fault Refusal := .next (commandedRestart s)

/-- CONTROL_CORE_WATCHDOG (R452, R466): no bite while the cores are halted or in reset. -/
def controlCoreWatchdog (core : Nat) (s : State) : State :=
  if core < 4 && s.firmwareUp && s.modes.powered then (s.notice byDevice 0x0102 core).coreReset 5 else s

def execControlCoreWatchdog (core : Nat) (s : State) : Host.Outcome State Fault Refusal := .next (controlCoreWatchdog core s)

/-- PLL_LOCK_LOSS (R463). -/
def pllLockLoss (pll : Nat) (s : State) : State :=
  if pll = 1 || pll = 2 then safetyDomainFault s
  else if 3 ≤ pll && pll ≤ 5 && s.modes.powered then (s.notice byDevice 0x0106 pll).coreReset 6
  else s

def execPllLockLoss (pll : Nat) (s : State) : Host.Outcome State Fault Refusal := .next (pllLockLoss pll s)

def restartTicks : Nat := 800

def checkRestart (v : Int) (s : State) : Nat := if v = 1 && (s.leaseRuns || s.stopOrders) then stNotNow else stOk
def applyRestart (v : Int) (s : State) : State :=
  if v = 1 then { s with modes := { s.modes with restartAt := some (s.after restartTicks) } } else s

/-- RESTART (R468): the commanded restart follows 100 ms later. -/
def execRestart (sid : Nat) (v : Int) (s : State) : Host.Outcome State Fault Refusal :=
  .next (s.writeRow sid k01Restart v (checkRestart v) (applyRestart v))

/-! ### The power-fail decision and its end (R150-R152, R458) -/

/-- The power-fail decision with a cause (R151): any mode but Run ends, the display stops, a save in progress is abandoned
(R412). -/
def State.failPower (s : State) (cause : Nat) : State :=
  let t := (s.decide_ cause).displayDecision
  let t := { t with recorder := { t.recorder with saving := none } }
  let m := t.getN k01Mode
  if 1 ≤ m && m ≤ 3 then { t.put k01Mode 0 with modes := { t.modes with exitEnd := none } } else t

def goodLimit : Nat := 80

/-- POWER_FAIL_RESUME (R152). -/
def powerFailResume (s : State) : State :=
  if s.pf.active && goodLimit ≤ s.pf.goodTicks then
    let t := s.cancelPf
    let t := { t with pf := { t.pf with active := false, slots := [{}, {}], goodTicks := 0 } }
    (t.noticeOpen byDevice 0x0131).displayResume
  else s

def execPowerFailResume (s : State) : Host.Outcome State Fault Refusal := .next (powerFailResume s)

/-! ### The FW slot (R440 step 2, R442, R447, R448) -/

/-- Does a slot of a region hold an image that verifies (R435, R436)? -/
def State.slotValid (s : State) (r slot : Nat) : Bool :=
  let w := (s.region r).words slot
  w ≠ [] && (s.headCheck r w.length w).isNone

/-- The other slot becomes the active one because the active one fails. -/
def State.useOther (s : State) (r : Nat) : State := (s.swapSlots r 0).flashOp (.header r)

/-- An interrupted programming of OTP steps is completed (R397). -/
def State.ratchetIf (s : State) : State := if s.flash.fwTrial then s else s.ratchetSvn

/-- A slot that fails only for its security version is reported as at any verification (R397). -/
def State.svnReport (s : State) (slot : Nat) : State :=
  let w := (s.region 0).words slot
  if w ≠ [] && (s.headCheck 0 w.length w).map Prod.snd = some 1 then s.noticeOpen byDevice 0x0D11 else s

/-- Step 2: the slot that the record names, else the other one (fallback cause 3 of R448; log entry 43), else the loader in ROM. -/
def State.bootFw (s : State) : State :=
  let a := s.getN (k31ActiveSlot 16)
  if a ≠ 2 && s.slotValid 0 a then (s.put k31BootSource a).ratchetIf
  else
  let o := s.otherSlot 0
  let s := if a = 2 then s else s.svnReport a
  if s.slotValid 0 o then
    let t := ((((s.swapSlots 0 2).flashOp (.header 0)).noticeOpen byDevice 0x0F02).notice byDevice 0x0F14 3)
    { t.puts [(k31BootSource, (s.otherSlot 0 : Nat)), (k31LastFallback, 3), (k0FState 0, rCommitted), (k31TrialBoots, 0)] with
      flash := { t.flash with fwTrial := false, trialEnd := none } }
  else
    let s := s.svnReport o
    ({ s.put k31BootSource 2 with modes := { s.modes with rom := true } }).noticeOpen byDevice 0x0F01

/-- A boot of a slot in trial (R447, R448): a fourth boot falls back with cause 2, another counts and starts the window at the tick
of its reset. -/
def State.bootTrial (s : State) : State :=
  if !s.flash.fwTrial || s.modes.rom then s
  else if 3 ≤ s.getN k31TrialBoots then s.fallBack 2
  else
    let t := s.puts [(k31TrialBoots, (s.getN k31TrialBoots + 1 : Nat)), (k0FState 0, rTrial)]
    { t.flashOp (.header 0) with
      flash := { (t.flashOp (.header 0)).flash with
        trialEnd := some ((s.modes.resetAt + secTicks (s.getN k31TrialWindow)) % ccMod) } }

/-- A zeroisation that could not be reported earlier (R385). -/
def State.reportTamper (s : State) : State :=
  match s.vault.unreported with
  | some k => ({ s with vault := { s.vault with unreported := none } }).notice byDevice 0x0D01 k
  | none => s

/-- The cause of the reset is reported (R464). -/
def State.reportCause (s : State) : State := (s.put k01LastResetCause s.modes.cause).notice byDevice 0x0101 s.modes.cause

/-! ### The restart of the firmware (R244, R324-R326) -/

/-- The lease is reclaimed before anything else; sequencers held by a lease that ended unreclaimed, or by a reset during a stop
order, resume with start cause 3. -/
def State.reclaim (s : State) : State :=
  let t := (leaseReclaim s).resumePedals 3
  let t := { t with lease := { t.lease with fwUp := true, unreclaimed := false } }
  if t.getN k1DLeaseState = 3 && !t.stopOrders then t.put k1DLeaseState 0 else t

/-- FIRMWARE_RESTART (R244, R324, R386, R426, R440, R447): the restart after a core-domain reset completes, in Run. After the
loader in ROM the whole boot follows (R442): BOOT. -/
def firmwareRestart (s : State) : State :=
  if !s.modes.coreInReset then s
  else
    let t := s.reclaim
    let t := { t with modes := { t.modes with coreInReset := false, exitEnd := none } }
    let t := if t.workstand then t else t.put k01Mode 0
    if !t.modes.booted then t
    else
      let t := t.startVault.reportCause.reportTamper.checkRoot.bootFw.bootTrial
      t.restartVehicle.displayRestart

def execFirmwareRestart (s : State) : Host.Outcome State Fault Refusal := .next (firmwareRestart s)

end Sys2Proof.Machine
end

