-- ==== Sys2Proof/Machine/Modes.lean ====
section
/-! DEFINITION. Power modes (R451-R460): Workstand, the known events, the choice of a mode, exits and wakes. -/

namespace Sys2Proof.Machine

/-! ### Workstand (R459) -/

def checkWorkstand (v : Int) (s : State) : Nat :=
  if v = 1 && s.spokeList.any (fun sp => (s.openSlot sp).isSome || s.gateState sp ≠ 0) then stNotNow else stOk

def applyWorkstand (v : Int) (s : State) : State :=
  if v = 1 && !s.workstand then
    ({ s.puts [(k01Workstand, 1), (k01Mode, 5)] with modes := { s.modes with exitEnd := none } }).noticeOpen byDevice 0x0103
  else if v = 0 && s.workstand then (s.puts [(k01Workstand, 0), (k01Mode, 0)]).noticeOpen byDevice 0x0104
  else s

/-- WORKSTAND (R459). -/
def execWorkstand (sid : Nat) (v : Int) (s : State) : Host.Outcome State Fault Refusal :=
  .next (s.writeRow sid k01Workstand v (checkWorkstand v) (applyWorkstand v))

/-- A write of class 01h. -/
def check01 (s : State) (m : Nat) (v : Int) : Nat :=
  if m = 2 then checkWorkstand v s else if m = 7 then checkRestart v s else stOk
def apply01 (s : State) (k i m : Nat) (v : Int) : State :=
  if i = 0 && m = 2 then applyWorkstand v s else if i = 0 && m = 7 then applyRestart v s else s.put k v

/-! ### Known events (R455) -/

/-- Ticks from now to tick `t`; 0 once it has been reached. -/
def State.ticksTo (s : State) (t : Nat) : Nat := if s.reached t then 0 else (t + ccMod - s.cc) % ccMod

/-- Ticks until wall time reaches `w`; none while it is invalid. -/
def State.ticksToWall (s : State) (w : Nat) : Option Nat :=
  if !s.timeValid then none else some ((w * 1000000 - (s.wall * 1000000 + s.billing.ns) + 124999) / 125000)

/-- Ticks that a number of mains cycles takes at the nominal frequency (log entry 41). -/
def State.cycleTicks (s : State) (n : Nat) : Nat :=
  n * 8000 / s.nominalHz

/-- The ticks at which the timers that firmware keeps expire (R455 code 9): contract decisions, the timers of the link, of cards and of
emulation, cost recomputations, lockouts, key entry, reassembly, the trial window, a commanded restart, the rebound delay, and what
Chainline waits for. -/
def State.firmwareTimers (s : State) : List Nat :=
  let after := fun (t : Option Nat) (d : Nat) => (t.map fun x => (x + d) % ccMod).toList
  s.spokeList.flatMap (fun sp =>
      let v := s.vlink sp
      v.contractEnd.toList ++ after v.stopAt (secTicks 5) ++ after v.startAt (secTicks 60) ++
        (if s.linkState sp = 2 then after v.matchedAt (secTicks 20) ++ after v.tlsFailedAt (secTicks 20) else [])) ++
    s.aerials.flatMap (fun (a : Aerial) => a.settleEnd.toList ++ a.decisionEnd.toList ++ a.exchangeEnd.toList) ++
    after s.emulation.waiting (270 * (s.emulation.wtx + 1)) ++
    ((List.range 48).filter fun j => s.getN (k12State j) = 1).map (fun j => (s.slot j).costAt) ++
    s.kod.lockEnd.filter (· ≠ 0) ++ (if s.tokenLock = 0 then [] else [s.tokenLock]) ++
    (if s.keypad.digits = [] then [] else [(s.keypad.lastKey + secTicks (s.getN k23EntryTimeout)) % ccMod]) ++
    s.kod.reasm.map (fun x => (x.tick + msTicks 50 + 1) % ccMod) ++
    s.flash.trialEnd.toList ++ s.modes.restartAt.toList ++ s.peloton.reboundEnd.toList ++
    s.chainline.registerAt.toList ++ s.chainline.orphanAt.toList ++
    (if s.getN k20RelayNumber0 = 0 then [] else s.chainline.helloAt.toList) ++
    (s.chainline.vetoEnd.toList.filter fun t => !s.reached t) ++
    (if s.regionOwner rTariff = chainlineOwner && s.regionState rTariff = rReceiving then
      [(s.chainline.tariffLast + secTicks (s.getN k20TariffIdleTimeout)) % ccMod] else []) ++
    s.chainline.queue.flatMap fun m => after m.sentAt (secTicks (s.getN k20AckTimeout))

/-- Ticks to every known event, with its code. -/
def State.knownEvents (s : State) : List (Nat × Nat) :=
  let opt := fun (k : Nat) (x : Option Nat) => match x with | some d => [(d, k)] | none => []
  let mc := s.getN k20MC
  let nb := (s.nextBoundary s.wall).1
  let caps := capSlots.filter fun i => s.getN (k1BCapState i) ≠ 0
  let sids := List.range' 1 32
  opt 1 (if nb = 0 then none else s.ticksToWall nb) ++
    (s.chainline.queue.filter fun m => m.sentAt.isNone).map (fun m => (s.cycleTicks (8 - mc % 8 + 8 * (m.backoff - 1)), 2)) ++
    s.chainline.events.map (fun e => (s.cycleTicks ((e.1 + ccMod - mc) % ccMod), 2)) ++
    caps.flatMap (fun i => opt 3 (s.ticksToWall (s.getN (k1BEnd i))) ++
      (if s.getN (k1BCapState i) = 1 && !s.capOnMc i then opt 3 (s.ticksToWall (s.getN (k1BStart i))) else [])) ++
    opt 4 (s.display.idleSince.map fun t => s.ticksTo ((t + msTicks (s.getN k24IdleTime)) % ccMod)) ++
    ((List.range' 2 5).filter fun t => bistStopped (s.getN k01Mode) t).map (fun t =>
      (s.bistInterval t - s.since (s.bist.lastPass.getD (t - 1) 0), 5)) ++
    [(s.ticksTo ((s.pf.lastLatch + minuteTicks * s.getN k30JournalInterval) % ccMod), 6)] ++
    (if s.recorder.saveDue then [(0, 6)] else []) ++
    (s.kod.subs.filterMap id).map (fun x =>
      (if x.req.chg then 80 - s.cc % 80 else s.ticksTo ((x.lastTick + 80 * x.req.period) % ccMod), 7)) ++
    sids.flatMap (fun j =>
      if s.sessionState j = 2 then [(s.ticksTo (((s.session j).since + secTicks (s.getN k04IdleTimeout)) % ccMod), 8)]
      else if s.sessionState j = 1 then [(s.ticksTo (((s.session j).since + secTicks 2) % ccMod), 8)] else []) ++
    s.firmwareTimers.map fun t => (s.ticksTo t, 9)

/-- The next known event: ticks and code; of several at one tick the lowest code. -/
def State.nextEvent (s : State) : Option (Nat × Nat) :=
  s.knownEvents.foldl (fun b x =>
    match b with
    | some y => if x.1 < y.1 || (x.1 = y.1 && x.2 < y.2) then some x else some y
    | none => some x) none

/-! ### Choosing a mode (R453, R454) -/

/-- Break-even time in µs (R454). -/
def breakEven (m : Nat) : Nat := if m = 1 then 100000 else if m = 2 then 20 else 4000000

/-- Does no NFC transaction or host exchange run (R356)? A settle time and a decision are timers of the firmware (R455). -/
def State.nfcQuiet (s : State) : Bool :=
  s.frontEnds.all (fun f => f.busy.isNone && f.waiting = []) &&
    s.aerials.all fun a => a.pollAt.isNone && a.exchangeEnd.isNone

/-- The entry conditions of a mode. -/
def State.mayEnter (s : State) (m : Nat) : Bool :=
  let cruise := s.spokeList.all fun sp => (s.openSlot sp).isNone && s.linkState sp = 0
  let wheel := s.spokeList.all (fun sp => s.linkState sp = 0 || s.linkState sp = 5) && s.kod.writes = [] &&
    s.kod.rx = [] && s.kod.sessions.all (fun x => !x.busy) &&
    (List.range 6).all (fun r => s.regionState r ≠ rReceiving && s.regionState r ≠ rVerifying) &&
    s.getN k24EngineState = 0 && s.nfcQuiet && s.keypad.digits = []
  match m with
  | 1 => cruise
  | 2 => wheel
  | _ => cruise && wheel && s.spokeList.all (fun sp => (s.pilotState sp = 0 || s.pilotState sp = 6) &&
      (s.gateState sp = 0 || s.gateState sp = 5)) && !s.flag k1EEnable && !s.pf.active

/-- The target of the selection for an event `ticks` ahead. -/
def State.targetMode (s : State) (ev : Option (Nat × Nat)) : Nat :=
  let fits := fun (m : Nat) =>
    match ev with
    | some e => decide (breakEven m + exitLatency m + s.getN k01Margin ≤ 125 * e.1)
    | none => true
  (([3, 2, 1].find? fun m => m ≤ s.getN k01DeepestMode && s.mayEnter m && fits m)).getD 0

/-- An event that finds the device out of Run is reported (R454). -/
def State.lateEvent (s : State) : State :=
  let m := s.getN k01Mode
  if 1 ≤ m && m ≤ 3 && s.getN k01NextEventKind ≠ 0 && s.getN k01NextEventTick = s.cc then
    s.notice byDevice 0x0105 (s.getN k01NextEventKind)
  else s

/-- The mode that a frame begins in: an exit that has run its latency ends after the boundary work, and an event that finds the device
out of Run is reported. -/
def State.exitTick (s : State) : State :=
  (if s.reachedOpt s.modes.exitEnd then { s.put k01Mode 0 with modes := { s.modes with exitEnd := none } } else s).lateEvent

/-- The choice of a mode: the next event is shown, and Run, Cruise and Freewheel select. -/
def State.modeTick (s : State) : State :=
  let ev := s.nextEvent
  let s := s.puts [(k01NextEventTick, ((ev.map fun e => (s.cc + e.1) % ccMod).getD 0 : Nat)),
    (k01NextEventKind, ((ev.map Prod.snd).getD 0 : Nat))]
  if s.getN k01Mode ≤ 2 && !s.workstand && s.lease.fwUp && s.modes.booted && s.modes.exitEnd.isNone && !s.pf.active then
    s.put k01Mode (s.targetMode ev)
  else s

/-- Ticks in the mode are counted (R470). -/
def State.countMode (s : State) : State :=
  let m := s.getN k01Mode
  if m ≤ 3 then s.count (k01TimeInMode (16 + m)) else s

/-! ### Exits and wakes (R454, R456, R457) -/

/-- KNOWN_EVENT_EXIT (R454): at the last boundary at or before the event minus exit latency and margin. -/
def knownEventExit (s : State) : State :=
  let m := s.getN k01Mode
  if 1 ≤ m && m ≤ 3 && s.modes.powered && s.getN k01NextEventKind ≠ 0 &&
      125 * s.ticksTo (s.getN k01NextEventTick) < exitLatency m + s.getN k01Margin + 125 then s.startExit
  else s

def execKnownEventExit (s : State) : Host.Outcome State Fault Refusal := .next (knownEventExit s)

/-- WAKE (R456, R457): the wake count of the mode that ends grows, but for a known event (R454). -/
def wake (src : WakeSource) (s : State) : State := s.wakeBy src

def execWake (src : WakeSource) (s : State) : Host.Outcome State Fault Refusal := .next (wake src s)

end Sys2Proof.Machine
end

