-- ==== Sys2Proof/Machine/Reads.lean ====
section
/-! DEFINITION. What a read of an object shows (R81, R104): most members show the stored value; the members below are
views of other state (remaining times, work words, the authorisation list, clock states). -/

namespace Sys2Proof.Machine

/-- A number of ticks still to run as a number of units of `n` ticks. -/
def unitsOf (n : Nat) (ticks : Nat) : Int := roundQ ((ticks : Rat) / n)

/-- Ticks still to run to a deadline; none has 0. -/
def State.remaining (s : State) : Option Nat → Nat
  | some t => s.ticksTo t
  | none => 0

/-- 00h/0/16: does any count stand at its largest value (R108)? -/
def State.anySaturated (s : State) : Bool := s.obj.any fun p => isCounter p.1 && p.2 = objMax p.1

/-- State of the clock domains FLD, CORE, MOD, GPLC, NFC, SMEM, PIX, VLT (R461). -/
def State.clockState (s : State) (d : Nat) : Nat :=
  let m := s.getN k01Mode
  if !s.modes.powered && d ≠ 7 then 0
  else if d = 1 && (m = 2 || m = 3) then 2
  else if d = 3 && m = 3 then 0
  else if d = 6 && s.getN k24EngineState = 0 then 0
  else 1

/-- Frequency in force of a domain, in Hz. -/
def State.clockHz (s : State) (d : Nat) : Int :=
  if d = 5 && s.getN k30ClockInForce ≠ 0 then (1000000 * s.getN k30ClockInForce : Nat)
  else if d = 6 then (200000000 / max 1 (s.getN k24ClockDivisor) : Nat)
  else s.get (k01Frequency (32 + d))

/-- Idle seconds left to a session (R89); a pending one shows what is left of its 2.000 s. -/
def State.idleLeft (s : State) (sid : Nat) : Nat :=
  match s.sessionState sid with
  | 2 => s.ticksTo (((s.session sid).since + secTicks (s.getN k04IdleTimeout)) % ccMod)
  | 1 => s.ticksTo (((s.session sid).since + secTicks 2) % ccMod)
  | _ => 0

/-- A member of an authorisation-list entry (R377). -/
def authMember (p : List Nat) (e f : Nat) : Int :=
  if authCount p ≤ e then (if f = 1 then 65535 else 0)
  else match f with
    | 0 => authIdent p e
    | 1 => authPurse p e
    | 2 => authValid p e
    | _ => b1 (authBlocked p e)

/-- The members of a sequencer (R237). The program counter has 8 bits: past address 255 it shows 0. -/
def State.pedalMember (s : State) (sp m : Nat) : Option Int :=
  let p := s.pedal sp
  if m = 1 then some (p.pc % 256 : Nat)
  else if m = 2 then some p.flags
  else if m = 5 then some (b1 p.request)
  else if 12 ≤ m && m ≤ 19 then some (p.w.getD (m - 12) 0).toInt
  else if 20 ≤ m && m ≤ 23 then some (p.timers.getD (m - 20) 0)
  else if m = 24 then some (p.count : Nat)
  else if m = 26 then some p.user
  else none

/-- Views of class 1Bh (R272, R273). -/
def State.peloMember (s : State) (i m : Nat) : Option Int :=
  if i ≤ 8 && 9 ≤ m && m ≤ 11 then some (s.effLimit i (m - 9))
  else if i ≤ 8 && 15 ≤ m && m ≤ 17 then
    some (s.sumOn i (m - 15) fun sp _ => (max (s.granted sp) (s.holdAt sp s.cc s.lagTicks (s.contactsOpen sp)) : Nat))
  else if 16 ≤ i && i ≤ 39 && m = 8 then some (maskOf (indicesWhere id (s.phasesUsed (i - 16))) : Nat)
  else if 16 ≤ i && i ≤ 39 && m = 9 then some (s.holdAt (i - 16) s.cc s.lagTicks (s.contactsOpen (i - 16)))
  else none

/-- Views of class 10h (R197). -/
def State.tariffMember (s : State) (m : Nat) : Option Int :=
  let next := nextSwitch s.tariff s.wall (s.getN k10CurrentRate)
  if m = 4 then
    some (match next with
      | some w => if s.timeValid then (rateAt s.tariff (some w.toNat) : Int) else s.get k10CurrentRate
      | none => s.get k10CurrentRate)
  else if m = 5 then some (if s.timeValid then next.getD 0 else 0)
  else if m = 6 then some (if s.timeValid then ((s.scheduledClose).getD 0 : Nat) else 0)
  else none

/-- The value a member shows where it is a view of other state. Which tamper inputs stand at their level (28h/0/5) is known only of those
that have been there: no command tells that a line or the case leaves it, so each of them is shown or not by a free value (log entry 7). -/
def State.view (s : State) (c i m : Nat) : Option Int :=
  match c with
  | 0x00 => if m = 16 then some (b1 s.anySaturated) else none
  | 0x01 =>
    if 32 ≤ i && i ≤ 39 then some (if m = 0 then (s.clockState (i - 32) : Int) else s.clockHz (i - 32)) else none
  | 0x04 =>
    if i = 0 && m = 0 then some (((List.range' 1 32).filter fun j => s.sessionState j ≠ 0).length : Nat)
    else if i = 0 && m = 2 then some ((s.kod.subs.filter Option.isSome).length : Nat)
    else if i = 3 && m = 4 then some (Config.deviceMac % ccMod : Nat)
    else if 16 ≤ i && i ≤ 47 && m = 3 then some (unitsOf 8000 (s.idleLeft (i - 15)))
    else none
  | 0x05 => if m = 5 then some (if s.timeValid then localOffset s.tariff s.wall else 0) else none
  | 0x0D => if m = 3 && i < 256 then some (s.integratorGain i) else none
  | 0x10 => if i = 0 then s.tariffMember m else none
  | 0x11 => if i < 24 && m = 52 then some (min (s.intervalEnergy i) 4294967295 : Nat) else none
  | 0x13 => if i = 256 && m = 2 then some (if s.tokenLock = 0 then 0 else unitsOf 8000 (s.ticksTo s.tokenLock)) else none
  | 0x14 =>
    let p := s.payload 3
    if m < 32 then some (authMember p (4 * i + m / 4) (m % 4))
    else some (if p = [] then 0 else if m = 32 then (field (p.getD 1 0) 47 16 : Nat) else (authCount p : Nat))
  | 0x19 => if i < 24 then s.pedalMember i m else none
  | 0x1A => if i < 24 && m = 5 then some (Config.stationMac i % ccMod : Nat) else none
  | 0x1B => s.peloMember i m
  | 0x1D => if i = 256 && m = 4 then some (if s.getN k1DLeaseState = 1 then unitsOf 8 (s.ticksTo s.lease.endAt) else 0) else none
  | 0x20 =>
    if i = 0 && m = 0 then some (s.nodeAddr : Nat)
    else if i = 0 && m = 4 then
      some (if s.getN k20UplinkChannel = 0 then (1 + s.nodeAddr % 7 : Nat) else s.get k20UplinkChannel)
    else if i = 0 && m = 13 && !s.timeValid then some 0
    else none
  | 0x21 =>
    if i < 4 && m = 0 then
      (if !s.modes.powered then some 3 else if s.getN (k21FrontEndState i) = 0 && (s.holder i).isSome then some 1 else none)
    else none
  | 0x22 => if m = 1 then some (textOf (hexText (natBytes Config.tagUid))) else none
  | 0x28 => if i = 0 && m = 5 then some (s.getN k28TamperInputs &&& s.drawn : Nat) else none
  | 0x29 => if i = 254 && m = 0 then some (unitsOf 8 (s.remaining s.recorder.freezeEnd)) else none
  | 0x31 => if i = 0 && m = 2 then some (unitsOf 8000 (s.remaining s.flash.trialEnd)) else none
  | 0x38 => if 1 ≤ i && m = 0 && s.getN (k38TargetState i) ≤ 1 && bistStopped (s.getN k01Mode) i then some 4 else none
  | _ => none

/-- The value of an object as READ, a subscription or a recorder source takes it. -/
def State.value (s : State) (k : Nat) : Int := (s.view (keyClass k) (keyInst k) (keyMember k)).getD (s.get k)

end Sys2Proof.Machine
end

