-- ==== Sys2Proof/Machine/Objects.lean ====
section
/-! DEFINITION. Writing the objects of the dictionary: the objects of class 04h (R72, R99), the
data windows (R69, R96, R427), the chapter rule and the effect of an item of any class (R82), and the rows that write one
object without a row of their own. -/

namespace Sys2Proof.Machine

/-! ### Class 04h (R72, R99) -/

/-- A bus setting, which takes effect 100 ms after its response. -/
def busSetting (i m : Nat) : Bool := ((i = 1 || i = 2) && m ≤ 2) || i = 3

/-- The value a bus setting will have. -/
def State.comingValue (s : State) (k : Nat) : Int :=
  match s.kod.changes.reverse.find? fun c => c.1 = k with
  | some c => c.2.1
  | none => s.get k

/-- The data rate must be at least the nominal rate. -/
def check04 (s : State) (i m : Nat) (v : Int) : Nat :=
  if (i = 1 || i = 2) && m = 1 && dataKbit (s.comingValue (k04DataRate i)) < nominalKbit v then stOutOfRange
  else if (i = 1 || i = 2) && m = 2 && dataKbit v < nominalKbit (s.comingValue (k04NominalRate i)) then stOutOfRange
  else stOk

/-- KOD enable (R72): 0 ends the controller's sessions and stops KOD there. -/
def State.setKodEnable (s : State) (ctrl : Nat) (v : Int) : State :=
  let t := s.put (k04KODEnable ctrl) v
  if v = 0 then
    let t := t.endBound ctrl
    { t with kod := { t.kod with reasm := t.kod.reasm.filter fun x => x.ctrl ≠ ctrl } }
  else t

/-- Ticks of 100 ms. -/
def changeDelay : Nat := msTicks 100

def apply04 (s : State) (k i m : Nat) (v : Int) : State :=
  if busSetting i m then
    { s with kod := { s.kod with changes := s.kod.changes ++ [(k, v, (s.nextTick + changeDelay) % ccMod)] } }
  else if (i = 1 || i = 2) && m = 3 then s.setKodEnable i v
  else if 16 ≤ i && m = 4 then (if v = 1 then s.endKod (i - 15) 2 else s)
  else s.put k v

/-- CONTROLLER_CHANGE (R72, R99): the changes of an interface whose 100 ms have passed take effect and its sessions end. -/
def controllerChange (inst : Nat) (s : State) : State :=
  let due := s.kod.changes.filter fun c => keyInst c.1 = inst && s.reached c.2.2
  if due = [] then s
  else
    let t := s.puts (due.map fun c => (c.1, c.2.1))
    let t := t.endBound inst
    { t with kod := { t.kod with changes := t.kod.changes.filter fun c => !(keyInst c.1 = inst && s.reached c.2.2),
                                 reasm := t.kod.reasm.filter fun x => x.ctrl ≠ inst } }

def execControllerChange (inst : Nat) (s : State) : Host.Outcome State Fault Refusal := .next (controllerChange inst s)

/-! ### Data windows (R69, R83, R96, R427) -/

/-- Members that advance an offset of their own when they are read or written. -/
def isWindow (k : Nat) : Bool :=
  k = k03DescriptorWindowData || k = k03HostAreaData || k = k24DrawData ||
    (keyClass k = 0x0F && keyInst k ≤ 5 && keyMember k = 5)

/-- The chapter rule on a write through a window. -/
def State.checkWindow (s : State) (sid k : Nat) : Nat :=
  if k = k03DescriptorWindowData then checkDescriptorData s
  else if k = k24DrawData then checkDrawData s
  else checkData sid (keyInst k) s

/-- A word is written through a window. -/
def State.writeWindow (s : State) (k : Nat) (v : Int) : State :=
  if k = k03DescriptorWindowData then applyDescriptorData v s
  else if k = k24DrawData then applyDrawData v s
  else applyData (keyInst k) v s

/-- A word is read through a window: status, word, state with the offset advanced. -/
def State.readWindow (s : State) (k : Nat) : Nat × Nat × State :=
  if k = k03DescriptorWindowData then s.descriptorWindow none
  else if k = k03HostAreaData then s.hostWindow
  else if k = k24DrawData then s.drawWindow none
  else
    let r := keyInst k
    if s.checkDataRead r ≠ stOk then (s.checkDataRead r, 0, s)
    else ((stOk, (s.readData r).2, (s.readData r).1))

/-! ### Items of any class (R82) -/

/-- The sensor types that a WRITE leaves, for the fit check of R39. -/
def typesOf (s : State) (items : List WItem) (ch : Nat) : Nat :=
  match items.reverse.find? fun (it : WItem) => it.addr = k08SensorType ch with
  | some it => it.value.toNat
  | none => s.typeOf ch

/-- The rules of the object's own chapter on an item; `items` is the WRITE it belongs to, `seq` its sequence number (R391). -/
def State.checkItem (s : State) (sid seq : Nat) (items : List WItem) (k : Nat) (v : Int) : Nat :=
  let i := keyInst k
  let m := keyMember k
  if isWindow k then s.checkWindow sid k
  else match keyClass k with
    | 0x01 => if i = 0 then check01 s m v else stOk
    | 0x03 => check03 s i m v
    | 0x04 => check04 s i m v
    | 0x05 => check05 sid s m v
    | 0x08 => check08 s (typesOf s items) i m v
    | 0x09 => check09 s i m v
    | 0x0B => check0B s i m v
    | 0x0C => check0C s m v
    | 0x0F => check0F sid s i m v
    | 0x12 => check12 s i m v
    | 0x13 => check13 s i m v
    | 0x18 => check18 s i m v
    | 0x19 => check19 s i m v
    | 0x1A => check1A s i m v
    | 0x1C => check1C s i m v
    | 0x1D => check1D s i m v
    | 0x1E => check1E s m v
    | 0x21 => check21 s i m v
    | 0x24 => check24 s i m v
    | 0x28 => check28 sid seq s i m v
    | 0x29 => check29 s i m v
    | 0x2A => check2A s m v
    | 0x31 => check31 s i m
    | 0x38 => check38 s i m v
    | _ => stOk

/-- The effect of an accepted item, by class; a class without a case of its own keeps the value. -/
def State.applyItem (s : State) (sid seq k : Nat) (v : Int) : State :=
  let i := keyInst k
  let m := keyMember k
  if isWindow k then s.writeWindow k v
  else match keyClass k with
    | 0x01 => apply01 s k i m v
    | 0x03 => apply03 s k i m v
    | 0x04 => apply04 s k i m v
    | 0x05 => apply05 sid s k m v
    | 0x08 => apply08 sid s k i m v
    | 0x09 => apply09 sid s k i m v
    | 0x0A => apply0A sid s k m v
    | 0x0B => apply0B sid s k i m v
    | 0x0C => apply0C s k i m v
    | 0x0D => apply0D sid s k i m v
    | 0x0F => apply0F sid s k i m v
    | 0x11 => if k = k11CloseNow then applyCloseNow v s else s.put k v
    | 0x12 => apply12 s k i m v
    | 0x13 => apply13 sid s k i m v
    | 0x18 => apply18 s k i m v
    | 0x19 => apply19 s k i m v
    | 0x1A => apply1A s k i m v
    | 0x1C => apply1C sid s k i m v
    | 0x1D => apply1D sid s k i m v
    | 0x1E => apply1E s k i m v
    | 0x21 => apply21 s k i m v
    | 0x24 => apply24 s k m v
    | 0x28 => apply28 sid seq s k i m v
    | 0x29 => apply29 sid s k i m v
    | 0x2A => apply2A sid s k i m v
    | 0x2B => apply2B sid s k m v
    | 0x31 => apply31 s k i m v
    | 0x38 => apply38 s k i m v
    | _ => s.put k v

/-- An authorisation that its chapter refuses may leave an offer (R235). -/
def State.refused (s : State) (k : Nat) (v : Int) : State := if k = k12AuthoriseSpoke then s.refusedAuthorise v else s

/-- A write of one object by a session, in the order of R82. -/
def State.writeItem (s : State) (sid : Nat) (it : WItem) : State :=
  let st := s.checkWrite sid it
  let seq := (s.session sid).last
  if it.addr = k13TokenEntry && st = stOk then s.tokenRow sid it.value
  else if st ≠ stOk then s.answer sid it.addr st
  else
    let st := s.checkItem sid seq [it] it.addr it.value
    if st ≠ stOk then ((s.refused it.addr it.value).internalNotice st).answer sid it.addr st
    else s.writeOne sid it.addr it.value fun s => s.applyItem sid seq it.addr it.value

/-- The row of such a write (log entry 6). -/
def State.writeObject (s : State) (sid : Nat) (it : WItem) : State := s.inTurn sid it fun s => s.writeItem sid it

/-- WRITE_SETTING (R105). -/
def execWriteSetting (sid addr type : Nat) (v : Int) (s : State) : Host.Outcome State Fault Refusal :=
  .next (s.writeObject sid ⟨addr, type, v⟩)

/-- CLEAR_COUNT (R106). -/
def execClearCount (sid addr : Nat) (v : Int) (s : State) : Host.Outcome State Fault Refusal :=
  .next (s.writeObject sid ⟨addr, ownType, v⟩)

/-- CALIBRATION_WRITE (R124). -/
def execCalibrationWrite (sid addr type : Nat) (v : Int) (s : State) : Host.Outcome State Fault Refusal :=
  .next (s.writeObject sid ⟨addr, type, v⟩)

/-- CLOSE (R89). -/
def execClose (sid target : Nat) (v : Int) (s : State) : Host.Outcome State Fault Refusal :=
  .next (s.writeRow sid (k04Close (15 + target)) v (fun _ => stOk) fun s => if v = 1 then s.endKod target 2 else s)

/-- KOD_ENABLE (R72). -/
def execKodEnable (sid ctrl : Nat) (v : Int) (s : State) : Host.Outcome State Fault Refusal :=
  .next (s.writeRow sid (k04KODEnable ctrl) v (fun _ => stOk) fun s => s.setKodEnable ctrl v)

end Sys2Proof.Machine
end

