-- ==== Sys2Proof/Machine/Transport.lean ====
section
/-! DEFINITION. The carriage of KOD: the PDU and its tag (R75, R76, R86), CAN FD frames and reassembly (R70, R71, R77), UDP
datagrams and the other messages of the 10BASE-T1S interface (R73, R74), and the gate that every request passes before its
service runs (R76, R78, R79, R88, R90). -/

namespace Sys2Proof.Machine

/-! ### The PDU (R75, R86) -/

/-- A PDU without its tag bytes: KIND, TAG, SID, SEQ, LEN, body. -/
def pduBytes (kind : Nat) (tagged : Bool) (sid seq : Nat) (body : List Nat) : List Nat :=
  [kind * 64 + (if tagged then 32 else 0), sid] ++ bytesBE 2 seq ++ bytesBE 2 body.length ++ body

/-- The tag: the first 8 bytes of the CMAC over the SERVICE byte and the PDU up to its body (R86). -/
def kodTag (k service : Nat) (pdu : List Nat) : Nat := Config.cmac k (service :: pdu) / 2 ^ 64 % 2 ^ 64

/-- A PDU as it is sent: tagged under a key, or untagged. -/
def sealedPdu (kind service : Nat) (key : Option Nat) (sid seq : Nat) (body : List Nat) : List Nat :=
  match key with
  | some k =>
    let p := pduBytes kind true sid seq body
    p ++ bytesBE 8 (kodTag k service p)
  | none => pduBytes kind false sid seq body

/-- LEN of a received PDU, whether it is tagged, and its length with the tag. -/
def pduLen (p : List Nat) : Nat := numBE ((p.drop 4).take 2)
def pduTagged (p : List Nat) : Bool := bit (p.headD 0) 5
def pduTotal (p : List Nat) : Nat := 6 + pduLen p + (if pduTagged p then 8 else 0)

def maxBody : Nat := 1010

/-! ### CAN FD frames (R70, R71, R77) -/

/-- The next valid payload size. -/
def canSize (n : Nat) : Nat := ([0, 1, 2, 3, 4, 5, 6, 7, 8, 12, 16, 20, 24, 32, 48, 64].find? (n ≤ ·)).getD 64

/-- A PDU cut into fragments: FRAG and payload of each; `n` bounds the number. -/
def fragments : Nat → Nat → List Nat → List (Nat × List Nat)
  | 0, _, _ => []
  | n + 1, idx, p =>
    if p.length ≤ 64 then [(idx, p ++ List.replicate (canSize p.length - p.length) 0)]
    else (64 + idx, p.take 64) :: fragments n (idx + 1) (p.drop 64)

/-- Can a host at this address be reached? There is no gateway, so over IPv4 only hosts whose address has the prefix of the
device's own (R73); IPv6 addresses are link-local. -/
def State.onLink (s : State) (addr : Nat) : Bool :=
  4294967296 ≤ addr ||
    addr / 2 ^ (32 - s.getN (k04IPv4Prefix)) = s.getN k04IPv4Address / 2 ^ (32 - s.getN (k04IPv4Prefix))

/-- A PDU leaves for an endpoint (R71, R73, R74, R365). -/
def State.transmit (s : State) (ep : Endpoint) (prio service : Nat) (pdu : List Nat) : State :=
  match ep with
  | .can c node =>
    s.each (fragments 16 0 pdu) fun s f =>
      s.send (.canFrame c (canIdent prio service node (s.getN (k04NodeID c)) f.1) (toBytes f.2))
  | .udp a p => if s.onLink a then s.send (.datagram a p (toBytes ([prio * 32 + service, 1] ++ pdu))) else s
  | .nfc =>
    if s.emulation.waiting.isSome then
      ({ s with emulation := { s.emulation with waiting := none, wtx := 0 } }).emulationReply (pdu ++ swOk)
    else s

/-- A response to a request (R71, R75). -/
def State.respond (s : State) (r : KodReq) (service : Nat) (key : Option Nat) (body : List Nat) : State :=
  (s.forTag key).transmit r.ep r.prio service (sealedPdu 1 service key r.sid r.seq body)

/-! ### The gate -/

/-- The firmware, or the loader in ROM, answers KOD (R15, R442, R452). -/
def State.kodUp (s : State) : Bool := s.modes.powered && s.firmwareUp && (s.modes.booted || s.modes.rom)

/-- Does an endpoint's interface carry KOD (R72)? The loader in ROM serves controller A and UDP (R442). -/
def State.carries (s : State) : Endpoint → Bool
  | .can c _ => s.flag (k04KODEnable c) && (!s.modes.rom || c = 1)
  | .udp _ _ => true
  | .nfc => !s.modes.rom

/-- Where a service may be asked for: without a session, on a pending one, on a logged-in one (R80, R90). -/
structure Scope where
  zero : Bool
  pend : Bool
  logged : Bool
deriving DecidableEq, Repr

def scopeOf : Nat → Scope
  | 1 => ⟨true, true, true⟩
  | 2 | 3 | 4 | 7 | 8 | 9 | 10 => ⟨false, false, true⟩
  | 5 | 12 => ⟨true, false, false⟩
  | 6 => ⟨false, true, false⟩
  | _ => ⟨true, true, true⟩

/-- The request's PDU leaves the receive list. -/
def State.taken (s : State) (r : KodReq) (service : Nat) (body : List Nat) : State :=
  let p := pduBytes 0 r.tag.isSome r.sid r.seq body
  { s with kod := { s.kod with rx := s.kod.rx.eraseP fun x =>
      x.ep = r.ep && (x.service = service || r.ep = .nfc) && (natBytes x.data).take p.length = p } }

/-- A request that a forged frame could be: discarded, counted, notice 0302h (R76). -/
def State.discardTag (s : State) (sid : Nat) : State := (s.count k04DiscardedPDUs).notice byDevice 0x0302 sid

/-- The response of an accepted request: cached while the session lasts (R78). -/
def State.conclude (s : State) (r : KodReq) (service key : Nat) (body : List Nat) : State :=
  let t := s.respond r service (some key) body
  if t.loggedIn r.sid then
    t.modSession r.sid fun x =>
      { x with busy := false, cachedPrio := r.prio, cachedService := service,
               cached := toBytes (sealedPdu 1 service (some key) r.sid r.seq body) }
  else t

/-- A service: what it does to the state and the response body; none while the response waits (R79). -/
abbrev Service := State → State × Option (List Nat)

/-- A service's answer to a request that needs no session, or whose session is pending: untagged. -/
def State.serveOpen (s : State) (r : KodReq) (service : Nat) (ok : Bool) (run : Service) : State :=
  if !ok then s.respond r service none [stNotLoggedIn]
  else match (run s).2 with
    | some b => (run s).1.respond r service none b
    | none => (run s).1

/-- KIND of the session key of a SID among the keys that the firmware holds (R388; log entry 7). -/
def sessionKind (sid : Nat) : Nat := 0xA0 + (sid - 1)

/-- The session key of a SID can be unwrapped: the boot wrap key under which it stands is in force (R387, R389). -/
def State.keyHeld (s : State) (sid : Nat) : Bool := (s.session sid).under = s.vault.bootKey

/-- A request whose session key cannot be unwrapped: INTEGRITY and notice 0D05h (R389); without a key the answer has no tag. -/
def State.keyLost (s : State) (r : KodReq) (service : Nat) : State :=
  (s.notice byDevice 0x0D05 (bootDomain * 256 + sessionKind r.sid)).respond r service none [stIntegrity]

/-- A request on a logged-in session (R76, R78, R79). A service that does not fit a logged-in session is answered NOT_NOW
(log entry 42). -/
def State.serveLogged (s : State) (r : KodReq) (service : Nat) (ok : Bool) (body : List Nat) (run : Service) : State :=
  let x := s.session r.sid
  if r.tag.isSome && !s.keyHeld r.sid then s.keyLost r service
  else
  let s := s.forTag (r.tag.map fun _ => x.key)
  if r.tag ≠ some (kodTag x.key service (pduBytes 0 true r.sid r.seq body)) then s.discardTag r.sid
  else
    if x.busy then s.respond r service (some x.key) [stBusy]
    else if r.seq = x.last && x.cached ≠ [] then s.transmit r.ep x.cachedPrio x.cachedService (natBytes x.cached)
    else if r.seq ≠ (x.last + 1) % 65536 then s.respond r service (some x.key) [stBadSequence]
    else
      let t := s.modSession r.sid fun x => { x with last := r.seq, since := s.cc }
      if !ok then t.conclude r service x.key [stNotNow]
      else match (run t).2 with
        | some b => (run t).1.conclude r service x.key b
        | none => (run t).1

/-- The gate of R76, R78-R80, R88 and R90 before a service. -/
def State.serve (s : State) (r : KodReq) (service : Nat) (body : List Nat) (run : Service) : State :=
  let s := s.taken r service body
  let c := scopeOf service
  if !s.kodUp || !s.carries r.ep || (r.broadcast && service ≠ 12) then s
  else if r.sid = 0 then s.serveOpen r service c.zero run
  else if s.sessionState r.sid = 0 || (s.session r.sid).ep ≠ some r.ep then s.respond r service none [stExpired]
  else if s.sessionState r.sid = 1 then s.serveOpen r service c.pend run
  else s.serveLogged r service c.logged body run

/-! ### Complete PDUs (R74, R75, R80) -/

/-- Bytes of `n` items of a WRITE; none when they run out; an item of a reserved TYPE ends the count (R101). -/
def itemsFit : Nat → List Nat → Bool
  | 0, l => l = []
  | n + 1, l =>
    if l.length < 4 then false
    else match typeOfCode (l.getD 3 0) with
      | none => true
      | some t => match decodeValue t (l.drop 4) with
        | some v => itemsFit n v.2
        | none => false

/-- Does a body have the length that its service requires (R75, R80, R92)? -/
def bodyFits (service : Nat) (b : List Nat) : Bool :=
  match service with
  | 1 => b.length = 1 + 3 * b.headD 0 && b ≠ []
  | 2 => b ≠ [] && itemsFit (b.headD 0) (b.drop 1)
  | 3 => b.length = 5
  | 4 =>
    6 ≤ b.length && (match typeOfCode (b.getD 3 0) with
      | some t => b.length = 6 + numBE ((b.drop 4).take 2) * t.wire
      | none => true)
  | 5 => b.length = 9
  | 6 => b.length = 16
  | 7 | 8 | 12 => b = []
  | 9 => b.length = 13
  | 10 => b.length = 1
  | _ => false

/-- A complete PDU is passed on (R75): KINDs other than a request are discarded, so are broadcasts other than DISCOVER (R80); one
whose service does not exist or whose length is wrong is answered OUT_OF_RANGE in its place; else it waits for its service. -/
def State.receive (s : State) (p : RxPdu) : State :=
  let d := natBytes p.data
  let body := (d.drop 6).take (pduLen d)
  if d.length < 6 || d.headD 0 / 64 ≠ 0 || (p.broadcast && p.service ≠ 12) then s
  else if maxBody < pduLen d || d.length < pduTotal d || !bodyFits p.service body then
    let tag := if pduTagged d && pduTotal d ≤ d.length then some (numBE ((d.drop (6 + pduLen d)).take 8)) else none
    let r : KodReq := { ep := p.ep, broadcast := p.broadcast, prio := p.prio, sid := d.getD 1 0,
                        seq := numBE ((d.drop 2).take 2), tag := tag }
    s.serve r p.service body fun s => (s, some [stOutOfRange])
  else { s with kod := { s.kod with rx := s.kod.rx ++ [p] } }

/-! ### CAN FD reception (R71, R77) -/

/-- An incomplete PDU is discarded (R77). -/
def State.dropFragments (s : State) (ctrl node : Nat) : State :=
  (({ s with kod := { s.kod with reasm := s.kod.reasm.filter fun x => !(x.ctrl = ctrl && x.node = node) } }).count
    k04DiscardedPDUs).notice byDevice 0x0301 (ctrl * 256 + node)

def State.reassembly (s : State) (ctrl node : Nat) : Option Reassembly :=
  s.kod.reasm.find? fun x => x.ctrl = ctrl && x.node = node

/-- Ticks of 50 ms. -/
def fragmentGap : Nat := msTicks 50

/-- A PDU whose last fragment has arrived. -/
def State.complete (s : State) (ctrl node dest prio service : Nat) (data : List Byte) : State :=
  let t := { s with kod := { s.kod with reasm := s.kod.reasm.filter fun x => !(x.ctrl = ctrl && x.node = node) } }
  t.receive { ep := .can ctrl node, broadcast := dest = 0, prio := prio, service := service,
              data := data.take (pduTotal (natBytes data)) }

/-- A fragment that passed the filter. -/
def State.fragment (s : State) (ctrl node dest prio service frag : Nat) (data : List Byte) : State :=
  let idx := frag % 64
  let more := bit frag 6
  let old := s.reassembly ctrl node
  let keep := fun (s : State) (d : List Byte) =>
    { s with kod := { s.kod with reasm := s.kod.reasm.filter (fun x => !(x.ctrl = ctrl && x.node = node)) ++
        [{ ctrl := ctrl, node := node, prio := prio, service := service, next := idx + 1, data := d, tick := s.cc }] } }
  if idx = 0 then
    let t := if old.isSome then s.dropFragments ctrl node else s
    if more then keep t data else t.complete ctrl node dest prio service data
  else match old with
    | none => s.dropFragments ctrl node
    | some x =>
      if x.next ≠ idx || 15 < idx || x.prio ≠ prio || x.service ≠ service || fragmentGap < s.since x.tick then
        s.dropFragments ctrl node
      else if more then keep s (x.data ++ data) else s.complete ctrl node dest prio service (x.data ++ data)

/-- CAN_FD_FRAME (R70, R71, R77). -/
def canFdFrame (ctrl : Nat) (f : CanFrame) (s : State) : State :=
  let prio := field f.ident 28 26
  let dest := field f.ident 20 14
  let src := field f.ident 13 7
  if !s.modes.powered || !s.lease.fwUp || !(s.modes.booted || s.modes.rom) || !s.carries (.can ctrl src) then s
  else if !f.extended || !f.fdf || !f.brs || prio = 0 || src = 0 || 121 ≤ src then s
  else if dest ≠ s.getN (k04NodeID ctrl) && dest ≠ 0 then s
  else s.fragment ctrl src dest prio (field f.ident 25 21) (field f.ident 6 0) f.data

def execCanFdFrame (ctrl : Nat) (f : CanFrame) (s : State) : Host.Outcome State Fault Refusal := .next (canFdFrame ctrl f s)

/-- REASSEMBLY_TIMEOUT (R77): more than 50 ms after the last fragment. -/
def reassemblyTimeout (ctrl node : Nat) (s : State) : State :=
  match s.reassembly ctrl node with
  | some x => if fragmentGap < s.since x.tick then s.dropFragments ctrl node else s
  | none => s

def execReassemblyTimeout (ctrl node : Nat) (s : State) : Host.Outcome State Fault Refusal :=
  .next (reassemblyTimeout ctrl node s)

/-! ### The 10BASE-T1S interface (R73, R74) -/

/-- Is IPv4 on: an address other than 0.0.0.0 is set? -/
def State.ipv4On (s : State) : Bool := s.getN k04IPv4Address ≠ 0

/-- Does the interface answer: the device is powered and its firmware, or the loader in ROM, runs? -/
def State.netUp (s : State) : Bool := s.modes.powered && s.lease.fwUp && (s.modes.booted || s.modes.rom)

/-- KOD_DATAGRAM (R74): a datagram with a wrong VER, PRIO 0 or a length that disagrees with its PDU is discarded. Sources
below 2^32 are IPv4 addresses. -/
def kodDatagram (addr port : Nat) (dest : UdpDest) (data : List Byte) (s : State) : State :=
  let b := natBytes data
  let p := b.drop 2
  let prio := b.headD 0 / 32
  if !s.netUp || (addr < 4294967296 && !s.ipv4On) || (dest = .broadcast && !s.ipv4On) then s
  else if b.getD 1 0 ≠ 1 || prio = 0 || p.length < 6 || p.length ≠ pduTotal p then s
  else s.receive { ep := .udp addr port, broadcast := dest ≠ .unicast, prio := prio, service := b.headD 0 % 32,
                   data := toBytes p }

def execKodDatagram (addr port : Nat) (dest : UdpDest) (data : List Byte) (s : State) : Host.Outcome State Fault Refusal :=
  .next (kodDatagram addr port dest data s)

/-- The modified EUI-64 of a MAC address: the universal bit inverted, FFFEh in the middle. -/
def eui64 (mac : Nat) : List Nat :=
  let b := bytesBE 6 mac
  [Nat.xor (b.getD 0 0) 2, b.getD 1 0, b.getD 2 0, 0xFF, 0xFE, b.getD 3 0, b.getD 4 0, b.getD 5 0]

/-- The link-local address of the device (R73). -/
def linkLocal : List Nat := [0xFE, 0x80, 0, 0, 0, 0, 0, 0] ++ eui64 (Config.deviceMac % ccMod)

/-- ECHO_REQUEST (R73): answered with its payload, over IPv4 only while that is on. -/
def echoRequest (v6 : Bool) (src : Nat) (payload : List Byte) (s : State) : State :=
  if s.netUp && (v6 || (s.ipv4On && s.onLink src)) then s.send (.net "echo reply" src payload) else s

def execEchoRequest (v6 : Bool) (src : Nat) (payload : List Byte) (s : State) : Host.Outcome State Fault Refusal :=
  .next (echoRequest v6 src payload s)

/-- NEIGHBOUR_DISCOVERY (R73): the advertisement names the link-local address and the MAC address. -/
def neighbourDiscovery (src : Nat) (s : State) : State :=
  if s.netUp then
    s.send (.net "neighbour advertisement" src (toBytes (linkLocal ++ bytesBE 6 (Config.deviceMac % ccMod))))
  else s

def execNeighbourDiscovery (src : Nat) (s : State) : Host.Outcome State Fault Refusal := .next (neighbourDiscovery src s)

/-- With PLCA node ID 0 the device is the coordinator and sends the beacons of the segment (R73). A PLCA cycle is shorter than a
frame; one output stands for the beacons of a frame (DESIGN CHOICE, log entry 48). -/
def State.plcaBeacons (s : State) : State :=
  if s.netUp && s.getN k04PLCANodeID = 0 then s.send (.net "PLCA beacon" 0 (toBytes [s.getN k04PLCANodeCount])) else s

/-- ARP_REQUEST (R73): answered with the MAC address for the static IPv4 address. -/
def arpRequest (src target : Nat) (s : State) : State :=
  if s.netUp && s.ipv4On && target = s.getN k04IPv4Address then
    s.send (.net "ARP reply" src (toBytes (bytesBE 4 target ++ bytesBE 6 (Config.deviceMac % ccMod))))
  else s

def execArpRequest (src target : Nat) (s : State) : Host.Outcome State Fault Refusal := .next (arpRequest src target s)

end Sys2Proof.Machine
end

