-- ==== Sys2Proof/Machine/Services.lean ====
section
/-! DEFINITION. The services of KOD (R80): READ, WRITE and the runs (R81-R83), login and logout (R85-R90, R393), subscriptions
(R91-R93), DISCOVER. -/

namespace Sys2Proof.Machine

/-! ### READ (R81) -/

/-- One item: its bytes, and the state with a window's offset advanced. -/
def State.readItem (s : State) (sid k : Nat) : State × List Nat :=
  let st := s.checkRead sid k
  if st ≠ stOk then (s, [st])
  else match s.object k with
    | none => (s, [stNoObject])
    | some r =>
      if isWindow k then
        let w := s.readWindow k
        if w.1 ≠ stOk then (s, [w.1]) else (w.2.2, [stOk, r.ty.code] ++ encodeValue r.ty w.2.1)
      else (s, [stOk, r.ty.code] ++ encodeValue r.ty (s.value k))

def State.readItems (s : State) (sid : Nat) (addrs : List Nat) : State × List Nat :=
  addrs.foldl (fun (a : State × List Nat) k => ((a.1.readItem sid k).1, a.2 ++ (a.1.readItem sid k).2)) (s, [])

def readBody (addrs : List Nat) : List Nat := [addrs.length % 256] ++ addrs.flatMap (bytesBE 3)

/-- The READ service. -/
def serveRead (sid : Nat) (addrs : List Nat) (s : State) : State × Option (List Nat) :=
  if addrs = [] || 32 < addrs.length then (s, some [stOutOfRange])
  else
    let a := s.readItems sid addrs
    if maxBody < 1 + a.2.length then (s, some [stOutOfRange]) else (a.1, some (stOk :: a.2))

def execRead (r : KodReq) (addrs : List Nat) (s : State) : Host.Outcome State Fault Refusal :=
  .next (s.serve r 1 (readBody addrs) (serveRead r.sid addrs))

/-! ### WRITE (R82) -/

/-- Bytes of an item; the value of a reserved TYPE has no known length. -/
def itemBytes (it : WItem) : List Nat :=
  bytesBE 3 it.addr ++ [it.type % 256] ++ (match typeOfCode it.type with
    | some t => encodeValue t it.value
    | none => [])

def writeBody (items : List WItem) : List Nat := [items.length % 256] ++ items.flatMap itemBytes

/-- The status of an item on a state: the checks of R82, the rule of its chapter, room in the setting log. -/
def State.itemStatus (s : State) (sid seq : Nat) (items : List WItem) (it : WItem) : Nat :=
  let st := s.checkCommon sid it
  if st ≠ stOk then st
  else
    let st := s.checkItem sid seq items it.addr it.value
    if st ≠ stOk then st
    else if isSetting it.addr && !s.logFits [(it.addr, it.value)] then stFull else stOk

/-- The effect of an accepted item, logged when it is a setting. -/
def State.applyLogged (s : State) (sid seq : Nat) (it : WItem) : State :=
  let t := s.effect sid fun s => s.applyItem sid seq it.addr it.value
  if isSetting it.addr then t.logSetting it.addr it.value else t

/-- The items in order, each against the state that the earlier ones leave: status, index of the first failure (255 when
there is none), and the state the check ended on. -/
def validateFrom (sid seq : Nat) (items : List WItem) : List WItem → Nat → State → Nat × Nat × State
  | [], _, s => (stOk, 255, s)
  | it :: rest, n, s =>
    let st := s.itemStatus sid seq items it
    if st ≠ stOk then (st, n, s) else validateFrom sid seq items rest (n + 1) (s.applyLogged sid seq it)

/-- The state as the WRITEs that wait for the boundary will leave it: of two opens of one region the first validated wins
(R95). A row that waits is judged in its turn. -/
def State.withWaiting (s : State) : State :=
  s.each s.kod.writes fun s w => s.each w.items fun s it =>
    if w.row && s.itemStatus w.req.sid w.req.seq w.items it ≠ stOk then s else s.applyLogged w.req.sid w.req.seq it

/-- What a refused WRITE leaves: nothing but the offer of a refused authorisation (R235), the record of a refused token (R192,
R195) and the notice of a full log. -/
def State.refusedWrite (s scratch : State) (sid st : Nat) (it : Option WItem) : State :=
  match it with
  | none => s
  | some x =>
    if st = stInternal then s.internalNotice st
    else if x.addr = k13TokenEntry && scratch.checkCommon sid x = stOk then s.refuseToken sid (txtChars x.value) st
    else if st = stFull && isSetting x.addr then s.noticeOpen byDevice 0x0F21
    else if x.addr = k12AuthoriseSpoke && (st = stNotNow) && scratch.becomesOffer x.value.toNat then
      s.offer x.value.toNat (scratch.get k12Identity64) (scratch.getN k12Purse64)
    else s

/-- The WRITE service: what passes waits for the boundary, and its response with it. -/
def serveWrite (r : KodReq) (items : List WItem) (s : State) : State × Option (List Nat) :=
  if items = [] || 16 < items.length then (s, some [stOutOfRange])
  else
    let v := validateFrom r.sid r.seq items items 0 s.withWaiting
    if v.1 ≠ stOk then (s.refusedWrite v.2.2 r.sid v.1 (items[v.2.1]?), some [v.1, v.2.1])
    else (({ s with kod := { s.kod with writes := s.kod.writes ++ [(⟨r, items, false⟩ : PendingWrite)] } }).modSession r.sid fun x =>
      { x with busy := true }, none)

def execWrite (r : KodReq) (items : List WItem) (s : State) : Host.Outcome State Fault Refusal :=
  .next (s.serve r 2 (writeBody items) (serveWrite r items))

/-- The token of a WRITE that has become unacceptable since it was validated, as after a # at the keypad (R370): its index and status. -/
def State.tokenTurned (s : State) (items : List WItem) : Option (Nat × Nat × WItem) :=
  (items.zipIdx.find? fun p => p.1.addr = k13TokenEntry && s.tokenStatus (txtChars p.1.value) ≠ stOk).map fun p =>
    (p.2, s.tokenStatus (txtChars p.1.value), p.1)

/-- One WRITE or write row that waited takes effect and is answered. -/
def State.applyWrite (s : State) (w : PendingWrite) : State :=
  if w.row then s.each w.items fun t it => t.writeItem w.req.sid it
  else
    let key := (s.session w.req.sid).key
    match s.tokenTurned w.items with
    | some (n, st, it) =>
      let t := s.refusedWrite s w.req.sid st (some it)
      if s.loggedIn w.req.sid then t.conclude w.req 2 key [st, n] else t
    | none =>
    let t := s.each w.items fun t it => t.applyLogged w.req.sid w.req.seq it
    if w.items.any fun (it : WItem) => it.addr = k13TokenEntry then t.holdAnswer w
    else if s.loggedIn w.req.sid then t.conclude w.req 2 key [stOk, 255] else t

/-- Does an accepted token of a session wait for the programming of its purse record? -/
def State.purseWaits (s : State) (sid : Nat) : Bool :=
  (s.flash.current.toList ++ s.flash.ops).any fun (o : FlashOp) =>
    match o with
    | .purse _ x => x = sid
    | _ => false

/-- The answer that waited is sent. -/
def State.answerHeld (s : State) (w : PendingWrite) : State :=
  if w.row then s.answer w.req.sid k13TokenEntry stOk
  else if s.loggedIn w.req.sid then s.conclude w.req 2 (s.session w.req.sid).key [stOk, 255] else s

/-- The token writes whose purse record is programmed are answered (R194). -/
def State.answerTokens (s : State) : State :=
  ({ s with kod := { s.kod with held := s.kod.held.filter fun (w : PendingWrite) => s.purseWaits w.req.sid } }).each
    (s.kod.held.filter fun (w : PendingWrite) => !s.purseWaits w.req.sid) State.answerHeld

/-- Boundary step 5 (R28, R44, R82): what waits takes effect in order and is answered. -/
def State.applyWrites (s : State) : State :=
  let s := s.when (s.kod.writes ≠ []) State.hashFirst
  ({ s with kod := { s.kod with writes := [] } }).each s.kod.writes State.applyWrite

/-- FLASH_OPERATION_COMPLETE (R430, R194). -/
def flashOperationComplete (ok : Bool) (s : State) : State := (s.operationEnds ok).answerTokens

def execFlashOperationComplete (ok : Bool) (s : State) : Host.Outcome State Fault Refusal := .next (flashOperationComplete ok s)

/-! ### Runs (R83) -/

/-- Reading up to `n` words of a window: state, words, status of the word that failed. -/
def readWords (k : Nat) : Nat → State → State × List Nat × Nat
  | 0, s => (s, [], stOk)
  | n + 1, s =>
    let w := s.readWindow k
    if w.1 ≠ stOk then (s, [], w.1)
    else
      let x := readWords k n w.2.2
      (x.1, w.2.1 :: x.2.1, x.2.2)

/-- The READ_RUN service. -/
def serveReadRun (sid k n : Nat) (s : State) : State × Option (List Nat) :=
  let st := s.checkRead sid k
  if st ≠ stOk then (s, some [st])
  else if !isWindow k then (s, some [stBadType])
  else if n = 0 || 167 < n then (s, some [stOutOfRange])
  else
    let x := readWords k n s
    (x.1, some ([x.2.2, ObjType.u48.code] ++ bytesBE 2 x.2.1.length ++ x.2.1.flatMap (bytesBE 6)))

def execReadRun (r : KodReq) (addr count : Nat) (s : State) : Host.Outcome State Fault Refusal :=
  .next (s.serve r 3 (bytesBE 3 addr ++ bytesBE 2 count) (serveReadRun r.sid addr count))

/-- Writing words through a window in order: state, words written, status of the word that failed. -/
def writeWords (sid k type : Nat) : List Nat → Nat → State → State × Nat × Nat
  | [], n, s => (s, n, stOk)
  | w :: rest, n, s =>
    let st := s.checkCommon sid ⟨k, type, w⟩
    let st := if st ≠ stOk then st else s.checkWindow sid k
    if st ≠ stOk then (s, n, st)
    else writeWords sid k type rest (n + 1) (s.effect sid fun s => s.writeWindow k w)

/-- The WRITE_RUN service. -/
def serveWriteRun (sid k type : Nat) (values : List Nat) (s : State) : State × Option (List Nat) :=
  if (s.object k).isNone then (s, some [stNoObject])
  else if !isWindow k then (s, some [stBadType])
  else if type ≠ ObjType.u48.code then
    (s, some [if s.checkCommon sid ⟨k, ownType, 0⟩ = stDenied then stDenied else stBadType])
  else if values = [] || 167 < values.length then (s, some [stOutOfRange])
  else
    let x := writeWords sid k type values 0 s
    (x.1, some ([x.2.2] ++ bytesBE 2 x.2.1))

def writeRunBody (addr type : Nat) (values : List Nat) : List Nat :=
  bytesBE 3 addr ++ [type % 256] ++ bytesBE 2 values.length ++ (match typeOfCode type with
    | some t => values.flatMap fun v => encodeValue t v
    | none => [])

def execWriteRun (r : KodReq) (addr type : Nat) (values : List Nat) (s : State) : Host.Outcome State Fault Refusal :=
  .next (s.serve r 4 (writeRunBody addr type values) (serveWriteRun r.sid addr type values))

/-! ### Login (R85-R88, R393) -/

/-- The credential of a role and whether it is the bootstrap one (R389, R393). -/
def State.credential (s : State) (role : Nat) : Option (Nat × Bool) :=
  match s.slotKey (16 + role) with
  | some k => some (k, false)
  | none => if role = 2 then some (Config.bootstrapCredential, true) else none

/-- The text of an endpoint (04h/16-47/2). -/
def endpointText : Endpoint → Int
  | .can c n => textOf ([if c = 1 then 0x41 else 0x42, 0x3A] ++ (toString n).toList.map Char.toNat)
  | .udp a p => (Config.endpointText a p : Int)
  | .nfc => textOf [0x4E, 0x3A, 0x30]

/-- The device's node in the derivation (R86): 0 but on CAN FD. -/
def State.loginNode (s : State) : Endpoint → Nat
  | .can c _ => s.getN (k04NodeID c)
  | _ => 0

/-- The string M (R86). -/
def State.loginM (s : State) (ep : Endpoint) (sid role hostNonce deviceNonce : Nat) : List Nat :=
  [0x4B, 0x4F, 0x44, 0x31, s.loginNode ep, sid, role] ++ bytesBE 8 hostNonce ++ bytesBE 16 deviceNonce

/-- A request that the firmware could not complete (R98). -/
def State.internal (s : State) (service : Nat) : State × Option (List Nat) :=
  (s.notice byDevice 0x0308 service, some [0x0F])

/-- The LOGIN_BEGIN service: the lowest free SID becomes pending; it keeps the credential until the proof. -/
def serveLoginBegin (r : KodReq) (role hostNonce : Nat) (s : State) : State × Option (List Nat) :=
  match (List.range' 1 32).find? fun sid => s.sessionState sid = 0 with
  | none => (s, some [stFull])
  | some sid =>
    if 5 < role then (s, some [stOutOfRange])
    else if role = 5 && !s.workstand then (s, some [stNotNow])
    else if s.kod.lockEnd.getD role 0 ≠ 0 then (s, some [stNotNow])
    else match s.credential role with
      | none => (s.unwrapFailed (16 + role), some [stIntegrity])
      | some c =>
        if !s.cryptoOk || !s.rngOk then s.internal 5
        else
          let nonce := s.drawn % 2 ^ 128
          let t := s.drew.puts [(k04SessionState (15 + sid), 1), (k04SessionRole (15 + sid), role),
            (k04Endpoint (15 + sid), endpointText r.ep)]
          (t.modSession sid fun _ =>
            { ep := some r.ep, hostNonce := hostNonce % 2 ^ 64, deviceNonce := nonce, since := s.cc, key := c.1, bootstrap := c.2 },
            some ([stOk, sid] ++ bytesBE 16 nonce))

def execLoginBegin (r : KodReq) (role hostNonce : Nat) (s : State) : Host.Outcome State Fault Refusal :=
  .next (s.serve r 5 ([role % 256] ++ bytesBE 8 hostNonce) (serveLoginBegin r role hostNonce))

/-- Ticks of 2.000 s, 600 s and 60 s (R85, R87). -/
def loginTicks : Nat := secTicks 2
def failTicks : Nat := secTicks 600
def lockTicks87 : Nat := secTicks 60

/-- A failed proof of a role (R87): counted, reported, and with the last five inside 600 s the role is locked out. -/
def State.loginFailed (s : State) (role : Nat) : State :=
  let l := (s.cc :: s.kod.failed.getD role []).take 5
  let t := (s.count k04LoginFailures).notice byDevice 0x0303 role
  let t := { t with kod := { t.kod with failed := t.kod.failed.set role l } }
  if l.length = 5 && s.since (l.getD 4 0) ≤ failTicks then
    ({ t with kod := { t.kod with lockEnd := t.kod.lockEnd.set role (s.after lockTicks87) } }).notice byDevice 0x0304 role
  else t

/-- The LOGIN_PROOF service on a pending session. -/
def serveLoginProof (r : KodReq) (proof : Nat) (s : State) : State × Option (List Nat) :=
  let x := s.session r.sid
  let role := s.roleOf r.sid
  let m := s.loginM r.ep r.sid role x.hostNonce x.deviceNonce
  if loginTicks < s.since x.since then (s.freeSid r.sid, some [stExpired])
  else if r.seq ≠ 1 then (s, some [stBadSequence])
  else if !s.cryptoOk then s.internal 6
  else if proof ≠ Config.hmacSha256 x.key (0x48 :: m) / 2 ^ 128 then
    (((s.useKey x.key).freeSid r.sid).loginFailed role, some [stIntegrity])
  else
    let body := stOk :: bytesBE 16 (Config.hmacSha256 x.key (0x44 :: m) / 2 ^ 128)
    (((s.useKey x.key).put (k04SessionState (15 + r.sid)) 2).modSession r.sid fun x =>
      { x with key := Config.hmacSha256 x.key (0x4B :: m), under := s.vault.bootKey, last := 1, notified := 0, since := s.cc, busy := false,
               cachedPrio := r.prio, cachedService := 6, cached := toBytes (sealedPdu 1 6 none r.sid r.seq body) },
      some body)

def execLoginProof (r : KodReq) (proof : Nat) (s : State) : Host.Outcome State Fault Refusal :=
  .next (s.serve r 6 (bytesBE 16 proof) (serveLoginProof r proof))

/-- LOCKOUT_END (R87). -/
def lockoutEnd (role : Nat) (s : State) : State :=
  let e := s.kod.lockEnd.getD role 0
  if e ≠ 0 && s.reached e then { s with kod := { s.kod with lockEnd := s.kod.lockEnd.set role 0 } } else s

def execLockoutEnd (role : Nat) (s : State) : Host.Outcome State Fault Refusal := .next (lockoutEnd role s)

/-- PENDING_LOGIN_EXPIRY (R85). -/
def pendingLoginExpiry (sid : Nat) (s : State) : State :=
  if s.sessionState sid = 1 && loginTicks ≤ s.since (s.session sid).since then s.freeSid sid else s

def execPendingLoginExpiry (sid : Nat) (s : State) : Host.Outcome State Fault Refusal := .next (pendingLoginExpiry sid s)

/-! ### LOGOUT, KEEPALIVE, idle timeout, DISCOVER -/

def execLogout (r : KodReq) (s : State) : Host.Outcome State Fault Refusal :=
  .next (s.serve r 7 [] fun s => (s.endKod r.sid 0, some [stOk]))

def execKeepalive (r : KodReq) (s : State) : Host.Outcome State Fault Refusal :=
  .next (s.serve r 8 [] fun s => (s, some ([stOk] ++ bytesBE 6 s.cc ++ bytesBE 6 s.wall)))

/-- IDLE_TIMEOUT (R89). -/
def idleTimeout (sid : Nat) (s : State) : State :=
  let x := s.session sid
  if s.sessionState sid = 2 && secTicks (s.getN k04IdleTimeout) ≤ s.since x.since then s.endKod sid 1 else s

def execIdleTimeout (sid : Nat) (s : State) : Host.Outcome State Fault Refusal := .next (idleTimeout sid s)

/-- The response of DISCOVER (R80). -/
def State.discoverBody (s : State) : List Nat :=
  [stOk, s.getN k00Variant, s.spokeCount] ++ bytesBE 32 (s.getN k00PartCode) ++ bytesBE 6 (Config.deviceMac % ccMod)

def execDiscover (r : KodReq) (s : State) : Host.Outcome State Fault Refusal :=
  .next (s.serve r 12 [] fun s => (s, some s.discoverBody))

/-! ### Subscriptions (R91-R93) -/

/-- Objects that a subscription names. -/
def State.subscribed (s : State) (b : SubReq) : List Nat :=
  if b.all then
    ((List.range 1024).map fun i => key (keyClass b.addr) i (keyMember b.addr)).filter fun k => (s.object k).isSome
  else if (s.object b.addr).isSome then [b.addr] else []

def subscribeBody (b : SubReq) : List Nat :=
  bytesBE 3 b.addr ++ [(if b.chg then 2 else 0) + (if b.all then 1 else 0)] ++ bytesBE 2 b.period ++
    bytesBE 6 (pattern 48 b.deadband) ++ [b.nprio % 256]

/-- Is the value of an object a number? -/
def State.numeric (s : State) (k : Nat) : Bool := ((s.object k).map fun r => r.ty.numeric).getD true

/-- The SUBSCRIBE service; with ALL = 1 every instance is checked. The values at that tick stand as the last sent (log entry 42). -/
def serveSubscribe (sid : Nat) (b : SubReq) (s : State) : State × Option (List Nat) :=
  match s.kod.subs.findIdx? fun (x : Option Subscription) => x.isNone with
  | none => (s, some [stFull])
  | some n =>
    let ks := s.subscribed b
    if ks = [] then (s, some [stNoObject])
    else match ks.find? fun k => s.checkRead sid k ≠ stOk with
    | some k => (s, some [s.checkRead sid k])
    | none =>
      if (!b.chg && b.period = 0) || b.nprio = 0 || 7 < b.nprio || 6000 < b.period then (s, some [stOutOfRange])
      else if b.deadband ≠ 0 && ks.any (fun k => !s.numeric k) then (s, some [stBadType])
      else
        let x : Subscription := { sid := sid, req := b, lastTick := s.cc, lastSent := ks.map fun k => (k, s.value k),
                                  unsent := none, coalesced := false }
        ({ s with kod := { s.kod with subs := s.kod.subs.set n (some x) } }, some [stOk, n])

def execSubscribe (r : KodReq) (b : SubReq) (s : State) : Host.Outcome State Fault Refusal :=
  .next (s.serve r 9 (subscribeBody b) (serveSubscribe r.sid b))

/-- The UNSUBSCRIBE service. -/
def serveUnsubscribe (sid n : Nat) (s : State) : State × Option (List Nat) :=
  match s.kod.subs.getD n none with
  | some x =>
    if x.sid = sid then ({ s with kod := { s.kod with subs := s.kod.subs.set n none } }, some [stOk])
    else (s, some [stOutOfRange])
  | none => (s, some [stOutOfRange])

def execUnsubscribe (r : KodReq) (n : Nat) (s : State) : Host.Outcome State Fault Refusal :=
  .next (s.serve r 10 [n % 256] (serveUnsubscribe r.sid n))

/-- Does a value call for a NOTIFY (R91)? -/
def changedBy (numeric : Bool) (deadband old new : Int) : Bool :=
  if numeric then decide (deadband.natAbs < (new - old).natAbs) else decide (old ≠ new)

/-- Items of a NOTIFY on the wire. -/
def State.notifyItem (s : State) (p : Nat × Int) : List Nat :=
  match s.object p.1 with
  | some r => bytesBE 3 p.1 ++ [r.ty.code] ++ encodeValue r.ty p.2
  | none => []

/-- Items cut into lists that fit a PDU; `n` bounds the number of PDUs. -/
def State.notifyCut (s : State) : Nat → List (Nat × Int) → List (List (Nat × Int))
  | 0, _ => []
  | _, [] => []
  | n + 1, l =>
    let fits := ((List.range' 1 (min 255 l.length)).filter fun m => 9 + ((l.take m).flatMap s.notifyItem).length ≤ maxBody).length
    let m := max 1 fits
    l.take m :: s.notifyCut n (l.drop m)

/-- The waiting NOTIFY of a subscription is transmitted (R93), each PDU with the next notification count (R78). -/
def State.sendNotify (s : State) (n : Nat) (x : Subscription) (at_ : Nat) (items : List (Nat × Int)) : State :=
  let parts := s.notifyCut items.length items
  let t := s.each parts.zipIdx fun (s : State) (p : List (Nat × Int) × Nat) =>
    let c := s.session x.sid
    match c.ep with
    | none => s
    | some ep =>
      if !s.keyHeld x.sid then s.notice byDevice 0x0D05 (bootDomain * 256 + sessionKind x.sid) else
      let flags := (if x.coalesced then 1 else 0) + (if p.2 + 1 < parts.length then 2 else 0)
      let body := [n, flags] ++ bytesBE 6 at_ ++ [p.1.length] ++ p.1.flatMap s.notifyItem
      ((s.useKey c.key).transmit ep x.req.nprio 11 (sealedPdu 2 11 (some c.key) x.sid c.notified body)).modSession x.sid fun c =>
        { c with notified := (c.notified + 1) % 65536 }
  let last := x.lastSent.filter fun (q : Nat × Int) => items.all fun (p : Nat × Int) => p.1 ≠ q.1
  let y : Subscription := { x with unsent := none, coalesced := false, lastSent := last ++ items }
  { t with kod := { t.kod with subs := t.kod.subs.set n (some y) } }

/-- One subscription is evaluated. Whether the interface takes its NOTIFY before the next evaluation is free (log entry 42). -/
def State.evaluate (s : State) (n : Nat) : State :=
  match s.kod.subs.getD n none with
  | none => s
  | some x =>
    let vals := (s.subscribed x.req).map fun k => (k, s.value k)
    let changed := vals.filter fun (p : Nat × Int) =>
      match x.lastSent.find? fun (q : Nat × Int) => q.1 = p.1 with
      | some q => changedBy (s.numeric p.1) x.req.deadband q.2 p.2
      | none => true
    let periodic := x.req.period ≠ 0 && 80 * x.req.period ≤ s.since x.lastTick
    let items := if periodic then vals else if x.req.chg then changed else []
    let t : State := if items ≠ [] && x.unsent.isSome then s.notice byDevice 0x0306 n else s
    let x := if items = [] then x
      else { x with unsent := some (s.cc, items), coalesced := x.unsent.isSome, lastTick := s.cc }
    match x.unsent with
    | none => t
    | some l =>
      let t : State := { t with kod := { t.kod with subs := t.kod.subs.set n (some x) } }
      if t.drawn % 2 = 0 then t.drew.sendNotify n x l.1 l.2 else t.drew

/-- SUBSCRIPTION_EVALUATION (R91): at every tick where CC is a multiple of 80, by the firmware. -/
def subscriptionEvaluation (s : State) : State :=
  if s.cc % 80 = 0 && s.kodUp then s.each (List.range 64) fun s n => s.evaluate n else s

def execSubscriptionEvaluation (s : State) : Host.Outcome State Fault Refusal := .next (subscriptionEvaluation s)

end Sys2Proof.Machine
end

