-- ==== Sys2Proof/Machine/Boot.lean ====
section
/-! DEFINITION. The boot after a safety-domain reset (R440, R442): the flash, the FW slot, plan and settings, the other regions,
the restorations (R163, R185, R186), the caps (R271), MC (R330) and the commissioning record (R376). -/

namespace Sys2Proof.Machine

/-! ### The flash (R429, R431, R432) -/

/-- Sizes from the SFDP tables that are supported: 256 Mbit to 2 Gbit. -/
def flashSupported (b : BootIn) : Bool := b.sfdpOk && 32 ≤ b.sizeMiB && b.sizeMiB ≤ 256

def mib : Nat := 1048576

/-- The areas that depend on the size of the flash (R432). -/
def State.placeAreas (s : State) (size : Nat) : State :=
  let slot : Nat := 2 * mib * size / 32
  let a : Nat := 0xB00000
  s.puts [(k30AreaOffset 52, a), (k30AreaSize 52, slot), (k30AreaOffset 53, (a + slot : Nat)), (k30AreaSize 53, slot),
    (k30AreaOffset 54, (a + 2 * slot : Nat)), (k30AreaSize 54, (size * mib - a - 2 * slot : Nat))]

/-- The fastest mode that both the tables and a limit allow: octal, quad 1-4-4, quad 1-1-4, single (R429). -/
def flashModeOf (modes limit : Nat) : Nat := ([3, 2, 1].find? fun m => m ≤ limit && bit modes m).getD 0

/-- Mode and clock in force. -/
def State.setFlashMode (s : State) (b : BootIn) : State :=
  s.puts [(k30ModeInForce, flashModeOf b.flashModes (s.getN k30HighestMode)), (k30ClockInForce, (min 133 (s.getN k30HighestClock) : Nat))]

/-- Step 1: the flash is discovered. One that does not answer at all, with no tables, no size and no identity, is not found. -/
def State.discoverFlash (s : State) (b : BootIn) : State :=
  if !b.sfdpOk && b.sizeMiB = 0 && b.jedec = 0 then s.put k30FlashState 0
  else
  let t := s.puts [(k30FlashSize, (8 * b.sizeMiB : Nat)), (k30JEDECIdentity, b.jedec)]
  if flashSupported b then ((t.put k30FlashState 1).placeAreas b.sizeMiB).setFlashMode b
  else (t.put k30FlashState 2).noticeOpen byDevice 0x0F33

/-- Is a record newer than another (R439)? -/
def headerNewer (a b : Nat) : Bool := let d := (a + 4294967296 - b) % 4294967296; 0 < d && d < 2147483648

/-- The newest record: the valid one that is newer than every other valid one. -/
def State.newestHeader (s : State) : Option HeaderRec :=
  let l := s.flash.headers.flatten.filter HeaderRec.valid
  l.find? fun h => l.all fun x => x.seq = h.seq || headerNewer h.seq x.seq

/-- A region as a record has it. The other slot counts while it still holds the image that the record names for it (log entry 43). -/
def State.loadEntry (s : State) (r : Nat) (e : HeaderEntry) : State :=
  let a := if e.active ≤ 1 then e.active else 2
  let t := s.puts [(k31ActiveSlot (16 + r), (a : Nat)), (k31ActiveImage (16 + r), e.image), (k31SecurityVersion (16 + r), e.svn)]
  let w := (t.region r).words (t.otherSlot r)
  let held := e.other ≠ 0 && w ≠ [] && imageId w = e.otherImage
  t.puts [(k31OtherSlot (16 + r), if held then (e.other : Nat) else 0), (k31OtherImage (16 + r), if held then (e.otherImage : Nat) else 0)]

/-- Step 1: the newest record says which slots are active. A flash without a record leaves the members as they stand. -/
def State.loadHeader (s : State) : State :=
  match s.newestHeader with
  | none => s
  | some h =>
    let fw := h.regions.head?
    let t := s.each h.regions.zipIdx fun t e => t.loadEntry e.2 e.1
    { t.put k31TrialBoots (((fw.map HeaderEntry.tboots).getD 0 : Nat)) with
      flash := { t.flash with headerSeq := h.seq, fwTrial := (fw.map HeaderEntry.trial).getD false } }

/-! ### Plan and settings (R40, R434, R440 step 3) -/

/-- A CFG slot as boot sees it: not an image, an image whose plan is refused, or a payload that may run. -/
def State.cfgSlot (s : State) (slot : Nat) (types : List Nat → Nat → Nat) : Option (List Nat) × Option PlanRefusal :=
  if !s.slotValid 1 slot then (none, none)
  else
    let p := ((s.region 1).words slot).drop headWords
    if (s.cfgCheck p).isSome then (none, none)
    else match s.planWith (types p) p with
      | some x => (none, some x)
      | none => (some p, none)

/-- An entry of the setting log that applies at boot (R434): its CRC holds, and a sealed one's tag verifies unless the seal is open. -/
def State.entryApplies (s : State) (e : LogEntry) : Bool :=
  e.crc = crc32 (entryHead e.addr e.value ++ bytesBE 8 e.tag) &&
    (!e.sealed || s.sealOpen || e.tag = s.calTag (entryHead e.addr e.value))

/-- The log in order: what applies, and the offsets of what is skipped. -/
def splitLog (s : State) : Nat → List LogEntry → List (Nat × Int) × List Nat
  | _, [] => ([], [])
  | o, e :: t =>
    let r := splitLog s (o + entryBytes e.addr e.value) t
    if s.entryApplies e then ((e.addr, e.value) :: r.1, r.2) else (r.1, o :: r.2)

/-- The sensor types that run once an image and the log over it are in force (R39): those with which boot admits its plan. R440 step 3
admits it before the settings, and no rule says which types are then the running configuration (DESIGN CHOICE, log entry 47). -/
def State.loggedTypes (s : State) (p : List Nat) (n : Nat) : Nat :=
  match (splitLog s 0 s.flash.log).1.reverse.find? fun x => x.1 = k08SensorType n with
  | some x => x.2.toNat
  | none => cfgTypes s.variant p n

/-- The settings of an image, then the log over them; the safety functions and tandem start with them (R306, R317). R67 has the default
queue thresholds stand after every safety-domain reset, while R104 and R105 keep START and STOP, which are settings, across resets:
the defaults stand until BOOT, which then restores the values of the image and the log (DESIGN CHOICE, log entry 52). -/
def State.applySettings (s : State) (image : List (Nat × Int)) : State :=
  let l := splitLog s 0 s.flash.log
  let t := (s.loadSettings (image ++ l.1)).showLog.startFunctions.restartTandem
  t.each l.2 fun t o => t.notice byDevice 0x0F20 o

/-- A payload governs: its plan runs, its settings apply. -/
def State.runCfg (s : State) (p : List Nat) : State :=
  let t := s.applySettings (entryPairs (settingEntries p))
  let t := t.runPlan (sectionWords p 1) (planBudgets t.variant t.typeOf (sectionWords p 1))
  if t.getN k03CaptureLength ≠ cfgCapture t.variant p then t.setCapture (cfgCapture t.variant p) else t

/-- Step 3: the active CFG slot, then the other slot. -/
def State.bootCfg (s : State) : State :=
  let a := s.getN (k31ActiveSlot 17)
  let first := if a = 2 then (none, none) else s.cfgSlot a s.loggedTypes
  match first with
  | (some p, _) => (s.reportPlan none).runCfg p
  | (none, ref) =>
    let second := if a = 2 || s.getN (k31OtherSlot 17) = 0 then (none, none) else s.cfgSlot (s.otherSlot 1) (cfgTypes s.variant)
    match second with
    | (some p, _) =>
      let t := s.reportPlan ref
      let t := (t.useOther 1).notice byDevice 0x0206 (t.getN k02RefusalItem)
      (({ t with flash := { t.flash with log := [] } }).showLog).runCfg p
    | (none, ref2) =>
      let t := s.reportPlan (ref2.orElse fun _ => ref)
      (t.noticeOpen byDevice 0x0205).applySettings []

/-! ### The other regions (R440 step 4) -/

/-- A slot of a region holds a valid image: the state carries the notices of its own check. -/
def State.bootCheck (s : State) (r slot : Nat) : State × Bool :=
  if s.slotValid r slot then
    let b := s.bodyCheck r (((s.region r).words slot).drop headWords)
    (b.1, b.2.isNone)
  else (s, false)

/-- A region without a valid image is empty. -/
def State.emptyRegion (s : State) (r : Nat) : State :=
  (s.puts [(k31ActiveSlot (16 + r), 2), (k31ActiveImage (16 + r), 0)]).notice byDevice 0x0F04 r

def State.bootRegion (s : State) (r : Nat) : State :=
  let a := s.getN (k31ActiveSlot (16 + r))
  if a = 2 then s.emptyRegion r
  else
    let x := s.bootCheck r a
    if x.2 then x.1
    else if s.getN (k31OtherSlot (16 + r)) = 0 then x.1.emptyRegion r
    else
      let y := x.1.bootCheck r (s.otherSlot r)
      if y.2 then (y.1.useOther r).notice byDevice 0x0F03 r else y.1.emptyRegion r

/-- The tariff that runs: the active image of the vault's record while its region holds it, else that of the slot in use. -/
def State.bootTariff (s : State) (fellBack : Bool) : State :=
  if s.getN (k31ActiveSlot 18) = 2 then { s with billing := { s.billing with active := [], pendingImage := [] } }
  else if fellBack then { s with billing := { s.billing with active := s.payload 2, pendingImage := [] } }
  else s

def State.bootRegions (s : State) : State :=
  let was := s.getN (k31ActiveSlot 18)
  let t := s.each [2, 3, 4, 5] State.bootRegion
  let t := t.bootTariff (t.getN (k31ActiveSlot 18) ≠ was)
  let t := t.showTariff
  t.pedalBoot (if t.getN (k31ActiveSlot 20) = 2 then none else some (t.payload 4))

/-! ### Time and vault (R163, R167, R171, R382) -/

/-- The vault lost its supply: root, counters, boot wrap key, tamper log, clock and power-fail slots are gone. -/
def State.bootVault (s : State) (valid : Bool) : State :=
  if valid then s
  else
    let t := s.puts ((List.range 8).map (fun i => (k28DomainGeneration (8 + i), 0)) ++ [(k28LastTamperSource, 0), (k28LastTamperTime, 0)])
    { t with vault := { t.vault with root := none, bootKey := none, log := [], rtc := none }, pf := { t.pf with slots := [{}, {}] } }

/-- Wall time from the vault's clock: valid when the clock has been set and has run since (R167). -/
def State.bootTime (s : State) (b : BootIn) : State :=
  if b.vaultValid && b.clockOk && s.vault.rtc.isSome then
    { s.puts [(k05WallTime, b.wallTime), (k05TimeValid, 1)] with vault := { s.vault with rtc := some b.wallTime } }
  else s.invalidateTime

/-- HW: the greater of the journal's and the power-fail record's time. -/
def State.restoreHw (s : State) (used : Option (PfRecord × Nat)) (keyOk : Bool) : State :=
  s.put k05HighWaterTime (max (((s.newestJournal keyOk).map fun j => j.highWater).getD 0)
    ((used.map fun u => u.1.time).getD 0) : Nat)

/-! ### Periods, purses, boundaries (R172, R185, R186) -/

/-- Closed periods, the open period's maxima and the purses come back from flash; a record whose CRC, tag or commit word fails does
not count (R161, R185). -/
def State.restoreBilling (s : State) (keyOk : Bool) : State :=
  let l := (s.flash.periods.filter (s.recValid keyOk)).reverse.take 13
  let t := s.each l.zipIdx fun (t : State) (p : FlashRec × Nat) =>
    t.puts (p.1.data.map fun (x : Nat × Int) => (x.1 + key 0 (32 * (p.2 + 1)) 0, x.2))
  let t := t.puts (((t.flash.demandRec.filter (s.recValid keyOk)).map FlashRec.data).getD [])
  let t := (t.each t.flash.purses fun (t : State) (p : Nat × List (Nat × Int)) => t.puts p.2).showPurses
  if l = [] then t
  else
    let t := t.each t.spokeList fun t sp => t.each (List.range 48) fun t m => t.put (key 0x11 sp m) (t.get (key 0x11 (32 + sp) m))
    t.puts [(k11Start 31, t.get (k11End (hubPeriod 1))), (k11Sequence 31, ((t.getN (k11Sequence (hubPeriod 1)) + 1) % 4294967296 : Nat))]

/-- DEMAND of a spoke in a record. -/
def PfRecord.demandOf (r : PfRecord) (sp : Nat) : Nat := (r.spokes[sp]?.map fun b => b.demand).getD 0

/-- The pending boundary of the record used. Both times are in whole ms: NEXTB lies more than 2 ticks after TIME when they differ
by more than 1 (DEDUCED from the example of R186, whose slot X differs by 1 and is no outage; log entry 33). -/
def State.completePending (s : State) (r : PfRecord) (now : Nat) : State :=
  if r.nextb = 0 || now < r.nextb then s
  else
    let t := (s.put k30RestorationFlags (setBit (s.getN k30RestorationFlags) 1 true)).periodFlag 0
    let t := if bit r.kinds 1 then
        (t.put k11IntervalStart r.dstart).closeIntervalWith r.nextb (decide (r.time + 1 < r.nextb)) r.demandOf
      else t
    let t := if bit r.kinds 0 && t.getN k05HighWaterTime < r.nextb then t.closeAt 3 r.nextb else t
    if bit r.kinds 2 then t.selectRate (some r.nextb) else t

/-- The sessions that were open in the record used end at its time. -/
def State.endOpen (s : State) (r : PfRecord) : State :=
  s.each r.spokes fun s b =>
    if b.sopen && b.slot < 48 && s.getN (k12State b.slot) = 1 then s.endSlot b.slot 3 r.cc r.time else s

/-- The interval of the cut goes on from DEMAND. -/
def State.continueInterval (s : State) (r : PfRecord) : State :=
  let all := 256 * ccMod * fineOne
  { s.put k11IntervalStart r.dstart with
    billing := { s.billing with
      short := false
      intervalBase := s.importTotals.zipIdx.map fun p => (p.1 + all - r.demandOf p.2 * fineOne) % all } }

/-- The interval that runs from power-up, flagged outage: that of the cut continues while its end lies ahead (R186). Where wall
time is found below HW it closes short, and the next one starts at once (R172). -/
def State.bootInterval (s : State) (used : Option (PfRecord × Nat)) (now : Nat) : State :=
  let t := s.startInterval now true true
  match used with
  | some (r, _) =>
    if r.nextb ≤ now then t
    else if now < s.getN k05HighWaterTime then
      ((s.put k11IntervalStart r.dstart).closeIntervalWith now true r.demandOf).startInterval now true true
    else t.continueInterval r
  | none => t

/-- R186 and R172: the pending boundary, the billing closes inside the outage, the open sessions, the interval, the rate. -/
def State.completeBoundaries (s : State) (used : Option (PfRecord × Nat)) : State :=
  let now := s.wall
  let t := match used with
    | some (r, _) => (if s.timeValid then s.completePending r now else s)
    | none => s
  let t := if s.timeValid then t.closesUpTo 3 now maxCloses else t
  let t := match used with
    | some (r, _) => t.endOpen r
    | none => t
  if !s.timeValid then (t.startInterval 0 true true).selectRate none
  else
    let hw := s.getN k05HighWaterTime
    let t := if now < hw then t.regression hw now else t
    (t.bootInterval used now).selectRate (some now)

/-! ### Caps and MC (R271, R330) -/

/-- Caps of the log: kept while wall time is valid and their end lies ahead. -/
def State.bootCaps (s : State) : State :=
  s.each s.heldCaps fun s i =>
    if !s.timeValid then s.discardCap i
    else if s.getN (k1BEnd i) ≤ s.wall then s.freeCap i
    else s

/-- The delay of R271 from the first tick after the reset. -/
def State.bootRebound (s : State) : State :=
  { s.drew with peloton := { s.peloton with
      reboundEnd := some (1 + s.drawnIn 0 (secTicks (s.getN k1BReboundWindow))) } }

/-- MC after a safety-domain reset: an estimate from the record used, or an arbitrary value. -/
def State.bootMc (s : State) (used : Option (PfRecord × Nat)) (keyOk : Bool) : State :=
  let base := match used with
    | some (r, _) => some (r.mc, r.time)
    | none => (s.newestJournal keyOk).map fun j => (j.mc, j.time)
  match base with
  | some (mc, t) =>
    if s.timeValid then
      s.puts [(k20MC, (((mc : Int) + (((s.wall : Int) - t) * s.nominalHz) / 1000) % ccMod)), (k20MCState, 1)]
    else (s.puts [(k20MC, (s.drawn % ccMod : Nat)), (k20MCState, 0)]).drew
  | none => (s.puts [(k20MC, (s.drawn % ccMod : Nat)), (k20MCState, 0)]).drew

/-! ### The commissioning record (R376) -/

/-- The items of a record; none when their bytes do not form them. -/
def recordItems : Nat → List Nat → Option (List WItem)
  | 0, l => if l = [] then some [] else none
  | n + 1, l =>
    match typeOfCode (l.getD 3 0) with
    | none => none
    | some t => match decodeValue t (l.drop 4) with
      | none => none
      | some v => (recordItems n v.2).map fun r => (⟨numBE (l.take 3), t.code, v.1⟩ : WItem) :: r

/-- A failed record: its state and notice; a refused item gives its status. -/
def State.recordFailed (s : State) (st : Nat) (status : Option Nat) : State :=
  let t := s.put k22CommissioningState st
  match status with
  | some x => t.notice byTag 0x0C51 x
  | none => t.noticeOpen byTag 0x0C51

/-- The items as one WRITE with Installer rights, under the number of source 35. -/
def State.applyRecord (s : State) (q : Nat) (items : List WItem) : State :=
  let role := k04SessionRole (15 + byTag)
  let r := s.put role 2
  let v := validateFrom byTag 0 items items 0 r
  if v.1 ≠ stOk then s.recordFailed 3 (some v.1)
  else
    let t := (r.each items fun t it => t.applyLogged byTag 0 it).clear role
    (t.puts [(k22CommissioningState, 1), (k22AppliedSEQ, q), (k22AppliedTime, t.stamp)]).notice byTag 0x0C50 q

/-- The label that a record's signature covers. -/
def lblTrtc : List Nat := [0x54, 0x52, 0x54, 0x43]

/-- A new record is verified and applied. -/
def State.commission (s : State) : State :=
  match s.newRecord_ with
  | none => s
  | some (q, p) =>
    let n := p.length - 96
    let owner := if s.flag k28OwnerKeyProgrammed then s.ownerBytes else []
    if !s.cryptoOk || !Config.commissioningOk owner (lblTrtc ++ natBytes Config.tagUid ++ bytesBE 2 q ++ p.take n) (p.drop n) then
      s.recordFailed 2 none
    else
      let n := p.getD 1 0
      match (if p.headD 0 = 1 && 1 ≤ n && n ≤ 32 then recordItems n ((p.take (p.length - 96)).drop 2) else none) with
      | none => s.recordFailed 3 (some stOutOfRange)
      | some items =>
        if items.any fun (it : WItem) => it.type = ObjType.blk.code then s.recordFailed 3 (some stBadType)
        else s.applyRecord q items

/-! ### The boot -/

/-- Steps 3 to 5. -/
def State.bootRest (s : State) (b : BootIn) : State :=
  let tagsOk := b.vaultValid && s.vault.root.isSome
  let t := s.bootTrial.checkRoot
  let t := (t.bootCfg.setFlashMode b).bootRegions
  let t := (t.bootTime b).restoreRecorder tagsOk
  let used := t.usedRecord b.vaultValid tagsOk
  let t := ((t.restoreEnergy used tagsOk).restoreHw used tagsOk).restoreBilling tagsOk
  let t := (t.completeBoundaries used).afterRestoration
  let t := t.bootCaps.bootRebound.bootMc used tagsOk
  let t := t.drawRegistration.commission.reportTamper.reportCause
  let t := t.displayPowerUp ((used.map fun u => u.1.rects).getD [])
  { t.put k31BootTime b.millis with
    modes := { t.modes with booted := true }, lease := { t.lease with fwUp := true } }

/-- BOOT (R440, R442): after a safety-domain reset, or after the loader in ROM has started a FW image. -/
def boot (b : BootIn) (s : State) : State :=
  if !s.modes.powered || s.modes.booted || s.modes.rom || s.modes.coreInReset then s
  else
    let t := ((s.bootVault b.vaultValid).startVault).discoverFlash b
    let t := if flashSupported b then t.loadHeader.bootFw
      else ({ t.put k31BootSource 2 with modes := { t.modes with rom := true } }).noticeOpen byDevice 0x0F01
    if t.modes.rom then t.reportCause.put k31BootTime b.millis else t.bootRest b

def execBoot (b : BootIn) (s : State) : Host.Outcome State Fault Refusal := .next (boot b s)

end Sys2Proof.Machine
end

