-- ==== Sys2Proof/Machine/Boundary.lean ====
section
/-! DEFINITION. The boundary work of a tick (R44): steps 5 and 6, the journal latch that follows them (R160), and step 7 with the
power-fail decision (R151). Each is done once for a boundary: by the row that needs it, else by the TICK (log entry 5). -/

namespace Sys2Proof.Machine

/-- How far the boundary work has come. -/
def State.stepDone (s : State) (k : Nat) : State := { s with modes := { s.modes with step := k } }

/-- Steps 5 and 6: the configuration writes that wait and the session replacements; the allocator's latch; the grants that the
guard has set to 0; the events delivered to the sequencers. -/
def State.throughSix (s : State) : State :=
  if 6 ≤ s.modes.step then s
  else
    let t := s.switchBase.applyWrites.replaceSessions
    let t := if t.nextTick % 800 = 720 then t.latchPeloton else t
    (t.guardZero.each t.spokeList State.deliver).stepDone 6

/-- Step 7 while a decision stands: the capture of this boundary (R155). -/
def State.throughSeven (s : State) : State := if 7 ≤ s.modes.step then s else s.repeatCapture

/-- The whole boundary, before the next one begins. -/
def State.boundary (s : State) : State := s.throughSix.throughSeven.stepDone 0

/-- JOURNAL_LATCH (R160): after steps 1-6. With no trigger due nothing is latched. -/
def journalLatch (s : State) : State :=
  let t := s.throughSix
  if t.dueTrigger.isSome then t.latchJournal else s

def execJournalLatch (s : State) : Host.Outcome State Fault Refusal := .next (journalLatch s)

/-- POWER_FAIL_DECISION (R150, R151): step 7 of the boundary at which a criterion is met, with the level that PFW_N has at its
tick edge (log entry 5). -/
def powerFailDecision (s : State) : State :=
  if s.pf.active || s.criterion = 0 || !s.modes.powered then s
  else (s.throughSix.failPower s.criterion).stepDone 7

def execPowerFailDecision (s : State) : Host.Outcome State Fault Refusal := .next (powerFailDecision s)

end Sys2Proof.Machine
end

