-- ==== Sys2Proof/Machine/ChlPhy.lean ====
section
/-! DEFINITION. The receiver and the transmitter of Chainline (R112, R331-R336, R338): the fast tap of the reference group, the
half-cycles of its phases, symbols, the decoder, frames found at their boundaries, and the pulses on CHL_TRIG. Instants are in ticks of
CC, corrected for the delays of their samples. Log entry 36. -/

namespace Sys2Proof.Machine

def State.modPhy (s : State) (f : ChlPhy → ChlPhy) : State := s.modChl fun c => { c with phy := f c.phy }
def State.chlPhase (s : State) (ph : Nat) : ChlPhase := s.chainline.phy.phases.getD ph {}
def State.modPhase (s : State) (ph : Nat) (f : ChlPhase → ChlPhase) : State :=
  s.modPhy fun p => { p with phases := p.phases.modify ph f }

/-! ### The fast tap (R112, R331) -/

/-- The delay of the fast tap: 31 µs. -/
def fastDelay : Rat := 31 / 125

/-- The tick whose samples the running frame works on. -/
def State.tapTick (s : State) : Nat := (s.cc + ccMod - 1) % ccMod

/-- Samples are numbered through: those of the frame latched at tick `k` are 8k - 7 to 8k. The corrected instant of one. -/
def tapInstant (n : Int) : Rat := (n : Rat) / 8 - fastDelay

/-- The sample nearest to an instant. -/
def tapNearest (u : Rat) : Int := roundQ ((u + fastDelay) * 8)

/-- Frames of samples that are kept: five cycles of the longest half-periods. -/
def fastKept : Nat := 1024

/-- The samples of a frame enter; those of a discarded frame are lost (R21). A new reference group starts afresh. -/
def State.takeTaps (s : State) : State :=
  let g := s.getN k09ReferenceGroup
  let chans := (List.range 3).map (120 + 4 * g + ·)
  let x : FastTick := match s.linkA.up with
    | some f => ⟨s.tapTick, false, chans.map fun n => s.flag (k08Clipped n), chans.map fun n => (f.fastTap.drop (8 * (n - 120))).take 8⟩
    | none => ⟨s.tapTick, true, [], []⟩
  s.modPhy fun p =>
    let p : ChlPhy := if p.group = g then p else { group := g }
    { p with fast := (x :: p.fast).take fastKept }

/-- The frame that holds a sample. -/
def State.tapFrame (s : State) (n : Int) : Option FastTick :=
  s.chainline.phy.fast.find? fun x => (x.tick : Int) = (n + 7) / 8

/-- Magnitude of a sample of a phase; 0 where it is not kept. -/
def State.tapSize (s : State) (ph : Nat) (n : Int) : Nat :=
  match s.tapFrame n with
  | some x => ((x.taps.getD ph []).getD ((n + 7) % 8).toNat 0).natAbs
  | none => 0

/-! ### The half-cycles (R130, R131, R331) -/

/-- A half-cycle of a phase closes at a crossing; one whose crossing was synthesised, or in which one was rejected, bears no symbol (R335). -/
def State.closeHalf (s : State) (ph : Nat) (t : Rat) (positive stands : Bool) : State :=
  s.modPhase ph fun x =>
    { x with crossings := ((t, positive) :: x.crossings).take 12, windows := x.windows ++ [(t, stands && !x.rejected)],
             rejected := false, missing := if stands then 0 else x.missing + 1 }

/-- The delay of the samples in which L1 is detected: that of the chain (R111) and of step 3 (R128), in ticks (DEDUCED, log entry 36). -/
def State.l1Delay (s : State) : Rat := 773 / 125 + 2 + unQ48 (s.get (k0DPhase (120 + 4 * s.getN k09ReferenceGroup)))

/-- The crossings of L1 are those of the metering engine. -/
def State.takeL1 (s : State) : State :=
  s.each s.chainline.ends fun s e =>
    let t := e.instant - s.l1Delay
    match (s.chlPhase 0).crossings with
    | (t0, _) :: _ => if t0 < t then s.closeHalf 0 t e.positive e.stands else s
    | [] => s.closeHalf 0 t e.positive e.stands

/-- Is a phase free-running: eight crossings in a row are missing (R131)? -/
def ChlPhase.free (x : ChlPhase) : Bool := 8 ≤ x.missing

/-- A crossing of L2 or L3 is detected: valid within 15 % of H, else rejected; a free-running phase locks again at two of opposite polarity
a nominal half-period apart. -/
def State.tapDetected (s : State) (ph : Nat) (t : Rat) (positive : Bool) : State :=
  let g := s.getN k09ReferenceGroup
  let x := s.chlPhase ph
  let near := match x.crossings with
    | (t0, _) :: _ => within15 (t - t0) (s.halfOf g)
    | [] => true
  let back := match x.lastSeen with
    | some (t0, p0) => p0 ≠ positive && within15 (t - t0) (s.nominalHalfOf g)
    | none => false
  let u := if (if x.free then back else near) then s.closeHalf ph t positive true
    else s.modPhase ph fun x => { x with rejected := true }
  u.modPhase ph fun x => { x with lastSeen := some (t, positive) }

/-- A sample of L2 or L3, by its number: detection with the hysteresis of 10 % of the nominal peak. The channel's full scale turns its
16-bit code into mV. -/
def State.tapSample (s : State) (ph : Nat) (n : Int) (v : Int) : State :=
  let g := s.getN k09ReferenceGroup
  let x := s.chlPhase ph
  let pos := x.prev < 0 && 0 ≤ v && x.passedLow
  let neg := 0 < x.prev && v ≤ 0 && x.passedHigh
  let mv : Rat := (v : Rat) * s.getN (k08FullScale (120 + 4 * g + ph)) / 32768
  let nom : Rat := s.getN (k09NominalVoltage g)
  let far := decide (20000 * nom * nom < mv * mv)
  let at_ := tapInstant (n - 1) + (roundQ ((x.prev : Rat) / ((x.prev - v : Int) : Rat) * 8) : Rat) / 64
  (if pos || neg then s.tapDetected ph at_ pos else s).modPhase ph fun y =>
    { y with prev := v,
             passedHigh := (if pos || neg then false else y.passedHigh) || (far && 0 < v),
             passedLow := (if pos || neg then false else y.passedLow) || (far && v < 0) }

/-- A crossing of L2 or L3 that is missing 1.15 H after the previous one is synthesised at H (R131). -/
def State.tapMissing (s : State) (ph : Nat) : State :=
  let h := s.halfOf (s.getN k09ReferenceGroup)
  match (s.chlPhase ph).crossings with
  | (t0, p0) :: _ => if t0 + h * 23 / 20 ≤ tapInstant (8 * s.tapTick) then s.closeHalf ph (t0 + h) (!p0) false else s
  | [] => s

/-- The samples of a frame on L2 and L3. After a lost frame no two samples are consecutive. -/
def State.takeHalves (s : State) : State :=
  [1, 2].foldl (fun s ph =>
    match s.chainline.phy.fast with
    | x :: _ =>
      let t := if x.lost then s.modPhase ph fun y => { y with prev := 0 }
        else s.each (x.taps.getD ph []).zipIdx fun s p => s.tapSample ph (8 * (x.tick : Int) - 7 + p.2) p.1
      t.tapMissing ph
    | [] => s) s

/-! ### Symbols (R332, R334, R335) -/

/-- Ticks of a window: 1,200 µs. -/
def windowTicks : Rat := 48 / 5

/-- Start of a chip from its crossing, in ticks. -/
def chipTicks (channel p : Nat) : Rat := (chipStart channel p : Rat) / 125000

/-- The samples of a chip of the window that ends at `t`: those within it or within 15.625 µs after it. -/
def chipSamples (t : Rat) (channel p : Nat) : List Int :=
  let a := t + chipTicks channel p
  ((List.range 8).map fun (i : Nat) => tapNearest a - 1 + (i : Int)).filter fun n => a ≤ tapInstant n && tapInstant n ≤ a + 17 / 40

/-- The crossings that closed the same half-cycle in the four previous cycles. -/
def ChlPhase.cycles (x : ChlPhase) (t : Rat) : List Rat :=
  let l := x.crossings.dropWhile fun c => c.1 ≠ t
  [2, 4, 6, 8].filterMap fun i => (l[i]?).map Prod.fst

/-- The largest magnitude at an offset from the crossing among the four previous cycles. -/
def State.reference (s : State) (ph : Nat) (t : Rat) (n : Int) : Nat :=
  ((s.chlPhase ph).cycles t).foldl (fun a c => max a (s.tapSize ph (tapNearest (c + (tapInstant n - t))))) 0

/-- The notch metric of a chip. -/
def State.chipMetric (s : State) (ph : Nat) (t : Rat) (channel p : Nat) : Nat :=
  notchMetric ((chipSamples t channel p).map fun n => (s.reference ph t n, s.tapSize ph n))

/-- The frames whose samples a window takes. -/
def windowFrames (t : Rat) : List Int :=
  let a := (tapNearest (t - windowTicks) + 7) / 8
  let b := (tapNearest (t + 1 / 8) + 7) / 8
  (List.range (b + 1 - a).toNat).map fun (i : Nat) => a + (i : Int)

/-- Does a frame of a window fail a test? One that is not kept counts as lost. -/
def State.anyFrame (s : State) (t : Rat) (f : FastTick → Bool) : Bool :=
  (windowFrames t).any fun k => match s.chainline.phy.fast.find? fun x => (x.tick : Int) = k with
    | some x => f x
    | none => true

/-- Does the device send on a channel and a phase? -/
def State.sendsOn (s : State) (channel ph : Nat) : Bool := s.chainline.sending.any fun x => x.channel = channel && x.phase = ph

/-- The symbol of a channel with its margin. -/
def State.symbolOf (s : State) (ph : Nat) (t : Rat) (stands : Bool) (channel : Nat) : Option (Nat × Nat) :=
  let thr := s.getN k20DetectionThreshold
  let m := (List.range 4).map (s.chipMetric ph t channel)
  (receivedSymbol thr stands (s.anyFrame t fun x => x.clip.getD ph true) (s.anyFrame t FastTick.lost) m).map fun p =>
    (p, symbolMargin thr (m.getD p 0))

/-- Half-cycles that the longest frame takes. -/
def symbolsKept : Nat := 512

/-- The symbols of a window: each erasure counts (R335), but on a channel and phase on which the device sends it receives nothing
(R333). -/
def State.readWindow20 (s : State) (ph : Nat) (w : Rat × Bool) : State :=
  let l := (List.range 8).map fun c => if s.sendsOn c ph then none else s.symbolOf ph w.1 w.2 c
  let erased := ((List.range 8).filter fun c => !s.sendsOn c ph && (l.getD c none).isNone).length
  (s.countBy k20Erasures erased).modPhase ph fun x =>
    { x with windows := x.windows.erase w, symbols := ((w.1, l) :: x.symbols).take symbolsKept }

/-- The windows whose last samples have come. -/
def State.takeSymbols (s : State) : State :=
  s.each [0, 1, 2] fun s ph =>
    s.each ((s.chlPhase ph).windows.filter fun w => decide (w.1 + 1 / 8 ≤ tapInstant (8 * s.tapTick))) fun s w => s.readWindow20 ph w

/-! ### The decoder (R336) -/

/-- The coded bit of a generator over the seven bits of a register, the newest highest. -/
def genBit (g r : Nat) : Bool := (List.range 7).foldl (fun b i => xor b (bit g i && bit r i)) false

/-- Bits in which the pair of a register differs from a symbol; an erasure has no weight. -/
def pairCost (rx : Option Nat) (r : Nat) : Nat :=
  match rx with
  | none => 0
  | some p => (if (grayBits p).1 = genBit 0o171 r then 0 else 1) + (if (grayBits p).2 = genBit 0o133 r then 0 else 1)

/-- One step of the search: for each state the cheaper of the two paths that lead to it, with its info bits. -/
def trellisStep (l : List (Nat × Nat)) (rx : Option Nat) : List (Nat × Nat) :=
  (List.range 64).map fun k =>
    let via := fun (b : Nat) =>
      let r := 2 * k + b
      let x := l.getD (r % 64) (0, 0)
      (x.1 + pairCost rx r, 2 * x.2 + r / 64)
    if (via 1).1 < (via 0).1 then via 1 else via 0

/-- A cost above that of any path. -/
def noPath : Nat := 1048576

/-- The cheapest path from a state back to it: the code bites its tail. -/
def searchFrom (rx : List (Option Nat)) (start : Nat) : Nat × Nat :=
  (rx.foldl trellisStep ((List.range 64).map fun k => (if k = start then 0 else noPath, 0))).getD start (noPath, 0)

/-- The info bits of a block from its pairs in order: the path that differs least; of equals the one of the lowest start (DESIGN CHOICE, log
entry 36). -/
def viterbi (rx : List (Option Nat)) : Nat :=
  ((List.range 64).foldl (fun (b : Nat × Nat) k => let x := searchFrom rx k; if x.1 < b.1 then x else b) (noPath, 0)).2

/-- A block of `n` info bits from the symbols of its half-cycles: pair `j` came in half-cycle 37 j mod n. -/
def decodeBlock (n : Nat) (l : List (Option (Nat × Nat))) : Nat :=
  viterbi ((List.range n).map fun j => (l.getD (37 * j % n) none).map Prod.fst)

/-! ### Frames (R337, R338) -/

/-- The last `n` symbols of a channel on a phase whose windows had ended by `t`, oldest first; none while there are fewer. -/
def State.lastSymbols (s : State) (ph channel n : Nat) (t : Rat) : Option (List (Option (Nat × Nat))) :=
  let l := ((s.chlPhase ph).symbols.filter fun x => decide (x.1 ≤ t)).take n
  if l.length = n then some (l.reverse.map fun x => x.2.getD channel none) else none

/-- A frame from its 96 header bits, its body and the margins of its symbols: the margin of its header is the mean of them. -/
def frameOf (h body len margin : Nat) : ChlFrame :=
  { ver := field h 95 92, type := field h 91 88, len := field h 87 84, slot := field h 83 81, addr := field h 80 41, unit := field h 40 36
    seq := field h 35 24, relay := field h 23 17, crc := field h 15 0
    payload := (List.range len).map fun i => body / 2 ^ (32 + 48 * (len - 1 - i)) % 2 ^ 48
    mac := body % 2 ^ 32, margin := margin }

/-- Does a header stand for a frame: version, type and CRC? -/
def headerStands (h : Nat) : Bool :=
  let f := frameOf h 0 0 0
  f.ver = 1 && f.type ≤ 1 && 1 ≤ f.len && f.len ≤ 8 && field h 16 16 = 0 && f.crc = chlCrc f

/-- The header in 96 symbols; symbols that are all erased hold none. -/
def headerIn (l : List (Option (Nat × Nat))) : Option Nat :=
  let h := decodeBlock 96 l
  if l.any Option.isSome && headerStands h then some h else none

/-- The frame of LEN words that ends at a boundary on a channel and phase. -/
def State.frameIn (s : State) (t : Rat) (ph channel len : Nat) : Option ChlFrame :=
  (s.lastSymbols ph channel (128 + 48 * len) t).bind fun l =>
    (headerIn (l.take 96)).bind fun h =>
      if field h 87 84 = len then
        some (frameOf h (decodeBlock (48 * len + 32) (l.drop 96)) len (meanOf ((l.take 96).filterMap fun x => x.map Prod.snd)))
      else none

/-- One frame heard on several phases is one frame, with the best of its margins. -/
def mergeFrame (l : List ChlFrame) (f : ChlFrame) : List ChlFrame :=
  if l.any fun g => { g with margin := f.margin } = f then
    l.map fun g => if { g with margin := f.margin } = f then { g with margin := max g.margin f.margin } else g
  else l ++ [f]

/-- Every channel on every phase. -/
def chlPaths : List (Nat × Nat) := [0, 1, 2].flatMap fun ph => (List.range 8).map fun c => (ph, c)

/-- The frames that end at a boundary. -/
def State.framesAt (s : State) (t : Rat) : List ChlFrame :=
  (chlPaths.flatMap fun p => (List.range' 1 8).filterMap fun len => s.frameIn t p.1 p.2 len).foldl mergeFrame []

/-- A positive crossing of L1 (R338): at a boundary the frames that end there are passed on; before a boundary has been found every crossing
may end a header. -/
def State.tryFrames (s : State) (e : ChlEnd) : State :=
  let t := e.instant - s.l1Delay
  if !e.positive then s
  else if 2 ≤ s.mcState || s.chainline.found then
    if e.mc % 8 = 0 then
      s.each (s.framesAt t) fun s f => if f.type = 0 then s.takeOutbound f else s.takeInbound f
    else s
  else if chlPaths.any fun p => ((s.lastSymbols p.1 p.2 96 t).bind headerIn).isSome then s.findBoundary
  else s

/-! ### Sending (R333) -/

/-- Is a phase locked (R131)? -/
def State.phaseLocked (s : State) (ph : Nat) : Bool :=
  let x := s.chlPhase ph
  x.crossings ≠ [] && (if ph = 0 then (s.group (s.getN k09ReferenceGroup)).state = 0 else x.missing = 0)

/-- After a crossing of its phase the next symbol of a frame is placed in the window of the predicted crossing; the first window is the first
that ends after the frame's boundary (R338). -/
def State.placePulse (s : State) (x : ChlSending) : ChlSending :=
  let h := s.halfOf (s.getN k09ReferenceGroup)
  match (s.chlPhase x.phase).crossings with
  | (t, _) :: _ =>
    if x.placed = some t || t + h ≤ x.boundary then x
    else
      let l := if x.placed.isNone && x.boundary < t then x.positions.drop 1 else x.positions
      { x with placed := some t, positions := l.drop 1, pending := l.head?.map fun p => t + h + chipTicks x.channel p }
  | [] => x

/-- A pulse that falls due in the coming tick is fired, unless its phase is not locked or the engine overran in its half-cycle. -/
def State.firePulse (s : State) (x : ChlSending) : State :=
  match x.pending with
  | some u =>
    let late := match s.chainline.phy.overran, x.placed with
      | some o, some t => decide (t ≤ (o : Rat))
      | _, _ => false
    if (s.cc : Rat) ≤ u && u < s.cc + 1 && s.phaseLocked x.phase && !late then s.send (.trigger u (s.getN k20PulseWidth)) else s
  | none => s

/-- The frames that are being sent. -/
def State.sendPulses (s : State) : State :=
  let l := s.chainline.sending.map s.placePulse
  let t := s.each l State.firePulse
  let rest := l.map fun x => { x with pending := x.pending.filter fun u => decide ((s.cc : Rat) + 1 ≤ u) }
  t.modChl fun c => { c with sending := rest.filter fun x => x.positions ≠ [] || x.pending.isSome }

/-! ### The frame of the engine -/

/-- The Chainline engine in a frame: samples, half-cycles, symbols, frames, pulses. -/
def State.phyTick (s : State) : State :=
  let ends := s.chainline.ends
  if !s.chlOn then s.modChl fun c => { c with ends := [], phy := {}, sending := [] }
  else
    let t := (((s.takeTaps).takeHalves).takeL1).takeSymbols
    let t := (t.modChl fun c => { c with ends := [] }).each ends State.tryFrames
    t.sendPulses

end Sys2Proof.Machine
end

