-- ==== Sys2Proof/Machine/Tick.lean ====
section
/-! DEFINITION. The tick (R17, R28-R33, R44): what is left of the boundary work, the tick edge, and the engine work of the frame that
begins: metering, pilots, pedal sequencers, safety evaluation, the downstream frames, the capture ring, the recorder and the
engines that need no command. The rows of boundary steps 1-4 stand before the TICK of their tick (log entry 5). -/

namespace Sys2Proof.Machine

/-! ### The tick edge (R17) -/

/-- The spoke word that the die of a spoke holds. -/
def State.heldWord (s : State) (sp : Nat) : Option Nat :=
  let l := s.dieLink (dieOf sp)
  l.held[sp - dieBase (dieOf sp)]?

/-- A die marks whether the frame that it applies at this edge is fresh: only then do its OPT bits act (R279). A discarded one
shows in the header of the upstream frame that it latches here (R19). -/
def SpokeLink.edge (l : SpokeLink) : SpokeLink :=
  { l with edgeFresh := l.fresh, edgeDiscarded := l.discarded, fresh := false, discarded := false }

/-- CC counts, and wall time with it (R30, R167). -/
def State.countTick (s : State) : State := (s.put k02CadenceCount s.nextTick).advanceWall

/-- A spoke's pilot takes the held word of its die (R204). -/
def State.applyWord (s : State) (sp : Nat) : State :=
  match s.heldWord sp with
  | some w => s.holdPilot sp w
  | none => s

/-- The reading of safety input `n` at a level in mV, true = clear: inside the band between its thresholds it keeps its reading (R490). -/
def inputReads (n mv : Nat) (was : Bool) : Bool :=
  if 9000 + Config.inputRises n % 2001 < mv then true
  else if mv < 5000 + Config.inputFalls n % 2001 then false
  else was

/-- The core die latches the safety inputs, SEAL and PFW_N. -/
def State.latchInputs (s : State) (i : TickIn) : State :=
  let t := s.each (List.range 4) fun t f =>
    t.latchFn f (inputReads (2 * f) (i.safety.getD (2 * f) 0) (t.fn f).a) (inputReads (2 * f + 1) (i.safety.getD (2 * f + 1) 0) (t.fn f).b)
  (t.sealSample (!i.sealHigh)).latchCriteria i.pfwN

/-- The tick edge: the dies remember the waveform of the frame that ended, CC counts, the held commands are applied, the
inputs of the core die are latched. -/
def State.edge (s : State) (i : TickIn) : State :=
  let t := { s with linkA := s.linkA.edge, linkB := s.linkB.edge }
  let t := (t.each t.spokeList State.rememberWave).countTick
  ((t.each t.spokeList State.applyWord).applySwitches).latchInputs i

/-! ### Metering and the pedal slot -/

/-- The longest cycles an engine has used in one frame (02h/1-9/1). -/
def State.worstSeen (s : State) (cycles : List Nat) : State :=
  s.each cycles.zipIdx fun s p =>
    let k := k02EngineWorstSeen (1 + p.2)
    if p.2 < 9 then s.put k (max (s.get k) (p.1 : Nat)) else s

/-- The most slots used in one frame (02h/16-19/1): those that the frame which ended used on ports 1-3, and on port 0 the
fixed use of R33 while a plan runs. -/
def State.portUse (s : State) : State :=
  let most := fun (t : State) (p n : Nat) =>
    t.put (k02PortSlotsWorstSeen (16 + p)) (max (t.get (k02PortSlotsWorstSeen (16 + p))) (n : Nat))
  let t := s.each [1, 2, 3] fun t p => (most t p (t.port p).used).modPort p fun x => { x with used := 0 }
  if s.plan.running.isEmpty then t else most t 0 (portZero s.variant)

/-- The metering slot: errors met on port 0, a running ADC test, the channels and windows, the criteria of R150. -/
def State.meterSlot (s : State) (i : TickIn) : State :=
  let at_ := (s.cc + ccMod - 1) % ccMod
  let t := (s.each i.errors State.error0).worstSeen i.cycles
  ((t.adcTick at_ t.rawSample).meterFrame).watchSag

/-- The pedal slot (R224): the sequencers that the slot before did not reach come first. -/
def State.pedalSlot (s : State) : State :=
  let l := s.spokeList
  s.each ((l.filter fun sp => (s.pedal sp).late) ++ l.filter fun sp => !(s.pedal sp).late) State.pedalTurn

/-! ### Safety evaluation (R300) -/

/-- Every cause and every condition first, then the gates, the ends of sessions, and AX from its sink (R231); the
results stand for the next frame (R225). -/
def State.safetyEvaluation (s : State) : State :=
  let l := s.spokeList
  let t := s.each l fun t sp => (t.evalPilot sp).evalResidual sp
  let t := t.evalSwitches
  let t := t.each l fun t sp => (((t.serveLock sp).watchLock sp).weldStep sp)
  let t := t.evalGuard
  let t := t.each l State.evalLink
  let t := t.each l State.evalGate
  t.sessionEnds.each l fun t sp =>
    let n := 4 * sp + 3
    ((t.command n (if t.faulted sp then 0 else (t.pedal sp).aux)).showSwitch n).latchSeen sp

/-- The samples that the recorder takes of its fixed quantities every 80 and every 8,000 ticks (R403, R405). -/
def State.fixedSamples (s : State) : State :=
  let t := if s.cc % 80 = 0 then
      s.each s.spokeList fun t sp =>
        let v := t.get (k1DResidualACEstimate (16 + sp))
        let t := if t.gateState sp = 2 then t.histogram (104 + sp) v 0 1000 else t
        t.extreme (56 + sp) v
    else s
  if s.cc % 8000 = 0 then
    ([Die.a, Die.b].zipIdx.foldl (fun (t : State) (p : Die × Nat) =>
      match (t.dieLink p.1).up with
      | some f => t.extreme (80 + p.2) (Config.dieTemperature f.temp)
      | none => t) t)
  else t

/-- Is a host definition with this period sampled at the tick (R404)? -/
def State.sampled (s : State) (period : Nat) : Bool := period ≠ 0 && s.cc % period = 0

/-- Does a source hold a number? The default source 00h/0/0 is text, which a write of a source refuses (R404): it gives no sample. -/
def State.hasNumber (s : State) (k : Nat) : Bool :=
  match s.object k with
  | some r => r.ty.numeric
  | none => false

/-- The host-defined histograms and extremes (R404, R405); they pause while the firmware does not run (R401). -/
def State.hostSamples (s : State) : State :=
  if !s.firmwareUp then s
  else
    let t := s.each (List.range' 256 768) fun t h =>
      if t.sampled (t.getN (k29Period h)) && t.hasNumber (t.getN (k29Source h) % 16777216) then
        t.histogram h (t.value (t.getN (k29Source h) % 16777216)) (t.get (k29Low h)) (t.get (k29Width h))
      else t
    t.each (List.range' 256 256) fun t x =>
      if t.sampled (t.getN (k2APeriod x)) && t.hasNumber (t.getN (k2ASource x) % 16777216) then t.extreme x (t.value (t.getN (k2ASource x) % 16777216)) else t

/-! ### The downstream frames (R17, R20, R29, R42, R43, R296) -/

/-- The channels that are to be pulsed at the next tick (R288). -/
def State.choosePulses (s : State) : State :=
  if s.driveOff then s
  else s.each s.switchList fun s n =>
    if s.pulseWanted n && (96 ≤ n || !s.faulted (chSpoke n)) then s.modSwitch n fun w => { w with pulseReq := true } else s

/-- The code of a channel in the frame; a clear drives nothing and is sent with switch drive off too (R287). -/
def State.frameCode (s : State) (n : Nat) : Nat := if s.driveOff && !(s.switch n).clearing then 0 else s.sendCode n

/-- PMODE of a spoke: steady -12 V under a device fault and for a welded outlet, steady +12 V in Coast, else the sink. -/
def State.framePmode (s : State) (sp : Nat) : Nat :=
  if s.faulted sp || s.getN (k1CWeldCheck (4 * sp)) = 2 then 3 else if s.coasting then 1 else (s.pedal sp).pmode

/-- OPT of a spoke: bit 3 KH, bit 2 KL, bit 1 LK, bit 0 AX. -/
def State.frameOpt (s : State) (sp : Nat) : Nat :=
  maskOf ((List.range 4).filterMap fun c => if (s.switch (4 * sp + c)).pulseReq then some (3 - c) else none)

/-- The word of a spoke (R20). -/
def State.spokeWord (s : State) (sp : Nat) : Nat :=
  (packFields [(11, (s.pedal sp).duty), (3, s.framePmode sp), (4, s.frameCode (4 * sp)), (4, s.frameCode (4 * sp + 1)),
    (4, s.frameCode (4 * sp + 2)), (4, s.frameCode (4 * sp + 3)), (2, if s.driveOff then 0 else s.twField sp), (4, s.frameOpt sp),
    (12, 0)]).2

/-- The frame of a die. -/
def State.downOf (s : State) (d : Die) : DownFrame :=
  { header := Config.downHeader (dieNum d) s.cc, words := (List.range 12).map fun n => s.spokeWord (dieBase d + n),
    hx := if d = Die.a then (packFields ((List.range 8).map fun h => (4, s.frameCode (96 + h)))).2 else 0 }

def State.assemble (s : State) (d : Die) : State := s.modDie d fun l => { l with outgoing := some (s.downOf d) }

/-- The frames leave with the commands decided in this frame; a clear has then been sent (R287). -/
def State.sendFrames (s : State) : State :=
  let t := s.choosePulses.assemble .a
  let t := if t.diePresent .b then t.assemble .b else t
  t.each t.switchList fun t n => t.modSwitch n fun w => { w with clearing := false }

/-! ### The rest of the frame -/

/-- The core-domain engines that work without a command: keypad, serial memory, display, the
stations of the vehicle link, Chainline. -/
def State.coreEngines (s : State) (i : TickIn) : State :=
  if !s.lease.fwUp then s
  else
    let t := s.keyColumn i.keys
    t.startOp.panelTick.plcaBeacons.slacTick.phyTick.chlTick

/-- The upstream frames of the last tick have been used (R18). -/
def SpokeLink.used (l : SpokeLink) : SpokeLink := { l with up := none, upLost := false }

/-- The frame that begins with a tick. -/
def State.frame (s : State) (i : TickIn) : State :=
  let t := s.exitTick.cryptoTick.portUse.meterSlot i
  let t := (t.each t.spokeList State.senseSpoke).pedalSlot.safetyEvaluation
  let t := t.fixedSamples.hostSamples.sendFrames
  let t := (t.captureSlot ((t.cc + ccMod - 1) % ccMod)).runTriggers
  let t := ((t.bistSlice i.bistDone i.bistFail).coreEngines i).tagTick
  let t := t.countMode.modeTick.saveTick.flushNotices
  { t with linkA := t.linkA.used, linkB := t.linkB.used }

/-- In Kickstand CC stands still; the tag lives on its field, and what it was programming is done by the next tick that the
model sees. -/
def State.unpoweredTick (s : State) : State :=
  { s with tag := { s.tag with progEnd := s.cc } }.tagTick

/-- TICK (R17). -/
def tick (i : TickIn) (s : State) : State :=
  if !s.modes.powered then s.unpoweredTick else (s.boundary.edge i).frame i

def execTick (i : TickIn) (s : State) : Host.Outcome State Fault Refusal := .next (tick i s)

end Sys2Proof.Machine
end

