-- ==== Sys2Proof/Machine/Dispatch.lean ====
section
/-! DEFINITION. The dispatch: one arm for each command, each one direct call of its meaning. -/

namespace Sys2Proof.Machine

def exec (i : Instr) (s : State) : Host.Outcome State Fault Refusal :=
  match i with
  | .tick x => Sys2Proof.Machine.execTick x s
  | .upstreamFrame die f crc => Sys2Proof.Machine.execUpstreamFrame die f crc s
  | .downstreamFrame die f crc => Sys2Proof.Machine.execDownstreamFrame die f crc s
  | .spokeLinkFailed die dir => Sys2Proof.Machine.execSpokeLinkFailed die dir s
  | .linkRetrained die => Sys2Proof.Machine.execLinkRetrained die s
  | .planSwitch => Sys2Proof.Machine.execPlanSwitch s
  | .overrun engine unreached => Sys2Proof.Machine.execOverrun engine unreached s
  | .derailleurRound port r => Sys2Proof.Machine.execDerailleurRound port r s
  | .watchdogBite port r => Sys2Proof.Machine.execWatchdogBite port r s
  | .postTriggerEnd => Sys2Proof.Machine.execPostTriggerEnd s
  | .manualTrigger sid v => Sys2Proof.Machine.execManualTrigger sid v s
  | .release sid v => Sys2Proof.Machine.execRelease sid v s
  | .mapSwitch => Sys2Proof.Machine.execMapSwitch s
  | .newSpare failRows => Sys2Proof.Machine.execNewSpare failRows s
  | .dwellEnd => Sys2Proof.Machine.execDwellEnd s
  | .dmaStart sid ch => Sys2Proof.Machine.execDmaStart sid ch s
  | .dmaAbort sid ch => Sys2Proof.Machine.execDmaAbort sid ch s
  | .descriptorComplete ch => Sys2Proof.Machine.execDescriptorComplete ch s
  | .queueResume ch fill ended => Sys2Proof.Machine.execQueueResume ch fill ended s
  | .descriptorWindowData sid w => Sys2Proof.Machine.execDescriptorWindowData sid w s
  | .hostAreaData sid => Sys2Proof.Machine.execHostAreaData sid s
  | .clearCount sid addr v => Sys2Proof.Machine.execClearCount sid addr v s
  | .writeSetting sid addr type v => Sys2Proof.Machine.execWriteSetting sid addr type v s
  | .settingLogAppend => Sys2Proof.Machine.execSettingLogAppend s
  | .canFdFrame ctrl f => Sys2Proof.Machine.execCanFdFrame ctrl f s
  | .reassemblyTimeout ctrl node => Sys2Proof.Machine.execReassemblyTimeout ctrl node s
  | .kodDatagram addr port dest data => Sys2Proof.Machine.execKodDatagram addr port dest data s
  | .read r addrs => Sys2Proof.Machine.execRead r addrs s
  | .write r items => Sys2Proof.Machine.execWrite r items s
  | .readRun r addr count => Sys2Proof.Machine.execReadRun r addr count s
  | .writeRun r addr type values => Sys2Proof.Machine.execWriteRun r addr type values s
  | .loginBegin r role hostNonce => Sys2Proof.Machine.execLoginBegin r role hostNonce s
  | .loginProof r proof => Sys2Proof.Machine.execLoginProof r proof s
  | .lockoutEnd role => Sys2Proof.Machine.execLockoutEnd role s
  | .pendingLoginExpiry sid => Sys2Proof.Machine.execPendingLoginExpiry sid s
  | .logout r => Sys2Proof.Machine.execLogout r s
  | .keepalive r => Sys2Proof.Machine.execKeepalive r s
  | .subscribe r b => Sys2Proof.Machine.execSubscribe r b s
  | .unsubscribe r n => Sys2Proof.Machine.execUnsubscribe r n s
  | .discover r => Sys2Proof.Machine.execDiscover r s
  | .idleTimeout sid => Sys2Proof.Machine.execIdleTimeout sid s
  | .close sid target v => Sys2Proof.Machine.execClose sid target v s
  | .controllerChange inst => Sys2Proof.Machine.execControllerChange inst s
  | .kodEnable sid ctrl v => Sys2Proof.Machine.execKodEnable sid ctrl v s
  | .subscriptionEvaluation => Sys2Proof.Machine.execSubscriptionEvaluation s
  | .bulkOpen sid region => Sys2Proof.Machine.execBulkOpen sid region s
  | .bulkData sid region word => Sys2Proof.Machine.execBulkData sid region word s
  | .bulkOffset sid region off => Sys2Proof.Machine.execBulkOffset sid region off s
  | .bulkFinish sid region => Sys2Proof.Machine.execBulkFinish sid region s
  | .bulkCommit sid region => Sys2Proof.Machine.execBulkCommit sid region s
  | .bulkAbort sid region => Sys2Proof.Machine.execBulkAbort sid region s
  | .stagingFlush region => Sys2Proof.Machine.execStagingFlush region s
  | .sensorType sid ch v => Sys2Proof.Machine.execSensorType sid ch v s
  | .spokeGroup sid sp v => Sys2Proof.Machine.execSpokeGroup sid sp v s
  | .groupEnable sid g v => Sys2Proof.Machine.execGroupEnable sid g v s
  | .referenceGroup sid v => Sys2Proof.Machine.execReferenceGroup sid v s
  | .calibrationWrite sid addr type v => Sys2Proof.Machine.execCalibrationWrite sid addr type v s
  | .sealOpening => Sys2Proof.Machine.execSealOpening s
  | .sealClosing => Sys2Proof.Machine.execSealClosing s
  | .missingCrossing g => Sys2Proof.Machine.execMissingCrossing g s
  | .snapshotRequest sid v => Sys2Proof.Machine.execSnapshotRequest sid v s
  | .snapshotLatch => Sys2Proof.Machine.execSnapshotLatch s
  | .pulseOutputChange sid po mem v => Sys2Proof.Machine.execPulseOutputChange sid po mem v s
  | .jitterFreeEnd po => Sys2Proof.Machine.execJitterFreeEnd po s
  | .clearRegisters sid v => Sys2Proof.Machine.execClearRegisters sid v s
  | .powerFailDecision => Sys2Proof.Machine.execPowerFailDecision s
  | .flashPowerFailRecord => Sys2Proof.Machine.execFlashPowerFailRecord s
  | .flashRecordCommit => Sys2Proof.Machine.execFlashRecordCommit s
  | .powerFailResume => Sys2Proof.Machine.execPowerFailResume s
  | .journalLatch => Sys2Proof.Machine.execJournalLatch s
  | .journalCommit => Sys2Proof.Machine.execJournalCommit s
  | .journalWriteFailure => Sys2Proof.Machine.execJournalWriteFailure s
  | .slew sid v => Sys2Proof.Machine.execSlew sid v s
  | .step sid v => Sys2Proof.Machine.execStep sid v s
  | .stepEffect => Sys2Proof.Machine.execStepEffect s
  | .tariffActivation => Sys2Proof.Machine.execTariffActivation s
  | .rateSwitch => Sys2Proof.Machine.execRateSwitch s
  | .demandIntervalClose => Sys2Proof.Machine.execDemandIntervalClose s
  | .billingPeriodClose => Sys2Proof.Machine.execBillingPeriodClose s
  | .closeNow sid v => Sys2Proof.Machine.execCloseNow sid v s
  | .authoriseSpoke sid v => Sys2Proof.Machine.execAuthoriseSpoke sid v s
  | .stop sid slot v => Sys2Proof.Machine.execStop sid slot v s
  | .collect sid slot v => Sys2Proof.Machine.execCollect sid slot v s
  | .costRecomputation => Sys2Proof.Machine.execCostRecomputation s
  | .tokenEntry sid v => Sys2Proof.Machine.execTokenEntry sid v s
  | .tokenLockoutEnd => Sys2Proof.Machine.execTokenLockoutEnd s
  | .pilotPeriodStart sp => Sys2Proof.Machine.execPilotPeriodStart sp s
  | .pedNop sp => Sys2Proof.Machine.execPedNop sp s
  | .pedLdi sp d imm => Sys2Proof.Machine.execPedLdi sp d imm s
  | .pedLdu sp d imm => Sys2Proof.Machine.execPedLdu sp d imm s
  | .pedMov sp d a => Sys2Proof.Machine.execPedMov sp d a s
  | .pedAdd sp d a b => Sys2Proof.Machine.execPedAdd sp d a b s
  | .pedSub sp d a b => Sys2Proof.Machine.execPedSub sp d a b s
  | .pedAddi sp d a imm => Sys2Proof.Machine.execPedAddi sp d a imm s
  | .pedAnd sp d a b => Sys2Proof.Machine.execPedAnd sp d a b s
  | .pedOr sp d a b => Sys2Proof.Machine.execPedOr sp d a b s
  | .pedMin sp d a b => Sys2Proof.Machine.execPedMin sp d a b s
  | .pedMax sp d a b => Sys2Proof.Machine.execPedMax sp d a b s
  | .pedEnc sp d a => Sys2Proof.Machine.execPedEnc sp d a s
  | .pedBr sp cond a b target => Sys2Proof.Machine.execPedBr sp cond a b target s
  | .pedBf sp mask target => Sys2Proof.Machine.execPedBf sp mask target s
  | .pedWait sp start mask => Sys2Proof.Machine.execPedWait sp start mask s
  | .pedYield sp => Sys2Proof.Machine.execPedYield sp s
  | .pedTake sp d start mask => Sys2Proof.Machine.execPedTake sp d start mask s
  | .pedIn sp d src => Sys2Proof.Machine.execPedIn sp d src s
  | .pedOut sp a sink => Sys2Proof.Machine.execPedOut sp a sink s
  | .pedOuti sp imm sink => Sys2Proof.Machine.execPedOuti sp imm sink s
  | .pedTset sp n a => Sys2Proof.Machine.execPedTset sp n a s
  | .pedTseti sp n imm => Sys2Proof.Machine.execPedTseti sp n imm s
  | .pedNote sp a code => Sys2Proof.Machine.execPedNote sp a code s
  | .pedHalt sp => Sys2Proof.Machine.execPedHalt sp s
  | .timerExpiry sp n => Sys2Proof.Machine.execTimerExpiry sp n s
  | .programSwitch sp => Sys2Proof.Machine.execProgramSwitch sp s
  | .pedalRestart sid sp v => Sys2Proof.Machine.execPedalRestart sid sp v s
  | .broadcast sid v => Sys2Proof.Machine.execBroadcast sid v s
  | .offerLapse sp => Sys2Proof.Machine.execOfferLapse sp s
  | .softGraceEnd sp => Sys2Proof.Machine.execSoftGraceEnd sp s
  | .seccDiscovery sp => Sys2Proof.Machine.execSeccDiscovery sp s
  | .supportedAppProtocol sp offered => Sys2Proof.Machine.execSupportedAppProtocol sp offered s
  | .cmSlacParmReq rx run mac => Sys2Proof.Machine.execCmSlacParmReq rx run mac s
  | .cmStartAttenCharInd rx run mac => Sys2Proof.Machine.execCmStartAttenCharInd rx run mac s
  | .cmMnbcSoundInd run atten => Sys2Proof.Machine.execCmMnbcSoundInd run atten s
  | .soundingWindowEnd run => Sys2Proof.Machine.execSoundingWindowEnd run s
  | .cmSlacMatchReq sp run mac => Sys2Proof.Machine.execCmSlacMatchReq sp run mac s
  | .cmValidateReq sp => Sys2Proof.Machine.execCmValidateReq sp s
  | .matchTimeout sp => Sys2Proof.Machine.execMatchTimeout sp s
  | .sessionSetup sp evccid => Sys2Proof.Machine.execSessionSetup sp evccid s
  | .serviceDiscovery sp => Sys2Proof.Machine.execServiceDiscovery sp s
  | .serviceDetail sp service => Sys2Proof.Machine.execServiceDetail sp service s
  | .paymentServiceSelection sp contract => Sys2Proof.Machine.execPaymentServiceSelection sp contract s
  | .paymentDetails sp emaid chain => Sys2Proof.Machine.execPaymentDetails sp emaid chain s
  | .authorizationSetup sp => Sys2Proof.Machine.execAuthorizationSetup sp s
  | .authorization sp contract => Sys2Proof.Machine.execAuthorization sp contract s
  | .serviceSelection sp bpt => Sys2Proof.Machine.execServiceSelection sp bpt s
  | .chargeParameterDiscovery sp asked => Sys2Proof.Machine.execChargeParameterDiscovery sp asked s
  | .acChargeParameterDiscovery sp vmax vdis => Sys2Proof.Machine.execAcChargeParameterDiscovery sp vmax vdis s
  | .scheduleExchange asked => Sys2Proof.Machine.execScheduleExchange asked s
  | .powerDelivery sp p => Sys2Proof.Machine.execPowerDelivery sp p s
  | .powerDeliveryTimeout sp => Sys2Proof.Machine.execPowerDeliveryTimeout sp s
  | .chargingStatus sp => Sys2Proof.Machine.execChargingStatus sp s
  | .acChargeLoop sp vmax vdis => Sys2Proof.Machine.execAcChargeLoop sp vmax vdis s
  | .meteringReceipt sp => Sys2Proof.Machine.execMeteringReceipt sp s
  | .meteringConfirmation sp => Sys2Proof.Machine.execMeteringConfirmation sp s
  | .sessionStop sp => Sys2Proof.Machine.execSessionStop sp s
  | .unsupportedMessage sp => Sys2Proof.Machine.execUnsupportedMessage sp s
  | .abnormalLoss sp tcpClosed => Sys2Proof.Machine.execAbnormalLoss sp tcpClosed s
  | .orderlyStopTimeout sp => Sys2Proof.Machine.execOrderlyStopTimeout sp s
  | .tlsHandshake sp o => Sys2Proof.Machine.execTlsHandshake sp o s
  | .tlsFallbackTimeout sp => Sys2Proof.Machine.execTlsFallbackTimeout sp s
  | .contractDecision sid sp v => Sys2Proof.Machine.execContractDecision sid sp v s
  | .contractDecisionTimeout sp => Sys2Proof.Machine.execContractDecisionTimeout sp s
  | .allocationPeriod finished => Sys2Proof.Machine.execAllocationPeriod finished s
  | .guardStage1 c ph => Sys2Proof.Machine.execGuardStage1 c ph s
  | .guardStage2 c ph => Sys2Proof.Machine.execGuardStage2 c ph s
  | .guardStage3 c ph => Sys2Proof.Machine.execGuardStage3 c ph s
  | .guardRecovery c ph => Sys2Proof.Machine.execGuardRecovery c ph s
  | .capActivation slot => Sys2Proof.Machine.execCapActivation slot s
  | .capEnd slot => Sys2Proof.Machine.execCapEnd slot s
  | .reboundDelayEnd => Sys2Proof.Machine.execReboundDelayEnd s
  | .underVoltage bank => Sys2Proof.Machine.execUnderVoltage bank s
  | .channelRestart ch => Sys2Proof.Machine.execChannelRestart ch s
  | .thermalLatch ch => Sys2Proof.Machine.execThermalLatch ch s
  | .clearLatch sid ch v => Sys2Proof.Machine.execClearLatch sid ch v s
  | .offPulse ch => Sys2Proof.Machine.execOffPulse ch s
  | .strokeEnd sp => Sys2Proof.Machine.execStrokeEnd sp s
  | .brakeEnd sp => Sys2Proof.Machine.execBrakeEnd sp s
  | .lkOvertimeStop sp => Sys2Proof.Machine.execLkOvertimeStop sp s
  | .weldLockout sp => Sys2Proof.Machine.execWeldLockout sp s
  | .clearWeldLockout sid sp v => Sys2Proof.Machine.execClearWeldLockout sid sp v s
  | .hxCommand sid h v => Sys2Proof.Machine.execHxCommand sid h v s
  | .functionDemand f => Sys2Proof.Machine.execFunctionDemand f s
  | .functionClear f => Sys2Proof.Machine.execFunctionClear f s
  | .functionReset sid f v => Sys2Proof.Machine.execFunctionReset sid f v s
  | .discrepancy f => Sys2Proof.Machine.execDiscrepancy f s
  | .residualTrip sp pt => Sys2Proof.Machine.execResidualTrip sp pt s
  | .crossCheckFailure sp => Sys2Proof.Machine.execCrossCheckFailure sp s
  | .testWinding sp => Sys2Proof.Machine.execTestWinding sp s
  | .testWindingResult sp => Sys2Proof.Machine.execTestWindingResult sp s
  | .earthFault g => Sys2Proof.Machine.execEarthFault g s
  | .earthClear g => Sys2Proof.Machine.execEarthClear g s
  | .clearLockout sid sp v => Sys2Proof.Machine.execClearLockout sid sp v s
  | .clearDeviceFault sid v => Sys2Proof.Machine.execClearDeviceFault sid v s
  | .safetyDomainFault => Sys2Proof.Machine.execSafetyDomainFault s
  | .tandemSend => Sys2Proof.Machine.execTandemSend s
  | .tandemCopy net msg => Sys2Proof.Machine.execTandemCopy net msg s
  | .missingTwin m seq => Sys2Proof.Machine.execMissingTwin m seq s
  | .tandemSilence m => Sys2Proof.Machine.execTandemSilence m s
  | .firmwareRestart => Sys2Proof.Machine.execFirmwareRestart s
  | .leaseReclaim => Sys2Proof.Machine.execLeaseReclaim s
  | .leaseExpiry => Sys2Proof.Machine.execLeaseExpiry s
  | .outboundFrame f => Sys2Proof.Machine.execOutboundFrame f s
  | .timeAlign h mc => Sys2Proof.Machine.execTimeAlign h mc s
  | .timeSet h target mcLow slewOk => Sys2Proof.Machine.execTimeSet h target mcLow slewOk s
  | .snapshot h mc => Sys2Proof.Machine.execSnapshot h mc s
  | .billingClose h mc => Sys2Proof.Machine.execBillingClose h mc s
  | .mcTargetReached => Sys2Proof.Machine.execMcTargetReached s
  | .drCap h ident target mask cap duration start => Sys2Proof.Machine.execDrCap h ident target mask cap duration start s
  | .drCancel h ident => Sys2Proof.Machine.execDrCancel h ident s
  | .tariffBegin h tid size => Sys2Proof.Machine.execTariffBegin h tid size s
  | .tariffData h tid off words => Sys2Proof.Machine.execTariffData h tid off words s
  | .tariffEnd h tid => Sys2Proof.Machine.execTariffEnd h tid s
  | .tariffAbort h tid => Sys2Proof.Machine.execTariffAbort h tid s
  | .tariffIdleTimeout => Sys2Proof.Machine.execTariffIdleTimeout s
  | .chainlineRead h shadow idx => Sys2Proof.Machine.execChainlineRead h shadow idx s
  | .reregister h window => Sys2Proof.Machine.execReregister h window s
  | .registration => Sys2Proof.Machine.execRegistration s
  | .repeater h relay vetoHours => Sys2Proof.Machine.execRepeater h relay vetoHours s
  | .ack h seq => Sys2Proof.Machine.execAck h seq s
  | .inboundFrame f => Sys2Proof.Machine.execInboundFrame f s
  | .inboundSend => Sys2Proof.Machine.execInboundSend s
  | .ackTimeout seq => Sys2Proof.Machine.execAckTimeout seq s
  | .orphanCall => Sys2Proof.Machine.execOrphanCall s
  | .hello => Sys2Proof.Machine.execHello s
  | .neighbourExpiry addr => Sys2Proof.Machine.execNeighbourExpiry addr s
  | .ping a response field => Sys2Proof.Machine.execPing a response field s
  | .polling a cards limit => Sys2Proof.Machine.execPolling a cards limit s
  | .settleEnd a => Sys2Proof.Machine.execSettleEnd a s
  | .decision sid a v => Sys2Proof.Machine.execDecision sid a v s
  | .decisionTimeout a => Sys2Proof.Machine.execDecisionTimeout a s
  | .apduCommand sid a apdu => Sys2Proof.Machine.execApduCommand sid a apdu s
  | .waitingTimeCap a => Sys2Proof.Machine.execWaitingTimeCap a s
  | .emulationApdu apdu => Sys2Proof.Machine.execEmulationApdu apdu s
  | .emulationWtx => Sys2Proof.Machine.execEmulationWtx s
  | .externalField => Sys2Proof.Machine.execExternalField s
  | .fieldAbsent => Sys2Proof.Machine.execFieldAbsent s
  | .keyPress key => Sys2Proof.Machine.execKeyPress key s
  | .keyRelease key => Sys2Proof.Machine.execKeyRelease key s
  | .entryTimeout => Sys2Proof.Machine.execEntryTimeout s
  | .reqa => Sys2Proof.Machine.execReqa s
  | .wupa => Sys2Proof.Machine.execWupa s
  | .anticollision level bits uid => Sys2Proof.Machine.execAnticollision level bits uid s
  | .hlta => Sys2Proof.Machine.execHlta s
  | .tagRead page => Sys2Proof.Machine.execTagRead page s
  | .tagWrite page data supplyOk => Sys2Proof.Machine.execTagWrite page data supplyOk s
  | .commitMarkerWrite page data supplyOk => Sys2Proof.Machine.execCommitMarkerWrite page data supplyOk s
  | .fdetRelease => Sys2Proof.Machine.execFdetRelease s
  | .fdetLow => Sys2Proof.Machine.execFdetLow s
  | .identityRewrite => Sys2Proof.Machine.execIdentityRewrite s
  | .tamper source => Sys2Proof.Machine.execTamper source s
  | .bump sid x v => Sys2Proof.Machine.execBump sid x v s
  | .keyInstall sid slot nonce cipher len tag => Sys2Proof.Machine.execKeyInstall sid slot nonce cipher len tag s
  | .replaceRoot sid v => Sys2Proof.Machine.execReplaceRoot sid v s
  | .ownerKey sid len point => Sys2Proof.Machine.execOwnerKey sid len point s
  | .randomGeneratorFailure => Sys2Proof.Machine.execRandomGeneratorFailure s
  | .histogramDefinition sid addr v => Sys2Proof.Machine.execHistogramDefinition sid addr v s
  | .freeze sid v => Sys2Proof.Machine.execFreeze sid v s
  | .freezeEnd => Sys2Proof.Machine.execFreezeEnd s
  | .clearHistogram sid h v => Sys2Proof.Machine.execClearHistogram sid h v s
  | .clearExtreme sid x v => Sys2Proof.Machine.execClearExtreme sid x v s
  | .clearRing sid v => Sys2Proof.Machine.execClearRing sid v s
  | .saveNow sid v => Sys2Proof.Machine.execSaveNow sid v s
  | .saveComplete ok => Sys2Proof.Machine.execSaveComplete ok s
  | .updateRequest sid v => Sys2Proof.Machine.execUpdateRequest sid v s
  | .displayAdmission loopLow loopHigh => Sys2Proof.Machine.execDisplayAdmission loopLow loopHigh s
  | .panelFrame underruns => Sys2Proof.Machine.execPanelFrame underruns s
  | .powerGood reg temp => Sys2Proof.Machine.execPowerGood reg temp s
  | .powerGoodTimeout => Sys2Proof.Machine.execPowerGoodTimeout s
  | .displayIdle => Sys2Proof.Machine.execDisplayIdle s
  | .panelTemperatureRead temp => Sys2Proof.Machine.execPanelTemperatureRead temp s
  | .clearCrack sid v loopLow loopHigh => Sys2Proof.Machine.execClearCrack sid v loopLow loopHigh s
  | .drawData sid w => Sys2Proof.Machine.execDrawData sid w s
  | .flashOperationComplete ok => Sys2Proof.Machine.execFlashOperationComplete ok s
  | .powerFailAreaErase slot ok => Sys2Proof.Machine.execPowerFailAreaErase slot ok s
  | .boot b => Sys2Proof.Machine.execBoot b s
  | .imageVerification region => Sys2Proof.Machine.execImageVerification region s
  | .commitEffect region => Sys2Proof.Machine.execCommitEffect region s
  | .trialWindowEnd => Sys2Proof.Machine.execTrialWindowEnd s
  | .confirm sid v => Sys2Proof.Machine.execConfirm sid v s
  | .selfConfirmation => Sys2Proof.Machine.execSelfConfirmation s
  | .rejectTrial sid v => Sys2Proof.Machine.execRejectTrial sid v s
  | .knownEventExit => Sys2Proof.Machine.execKnownEventExit s
  | .wake src => Sys2Proof.Machine.execWake src s
  | .workstand sid v => Sys2Proof.Machine.execWorkstand sid v s
  | .restart sid v => Sys2Proof.Machine.execRestart sid v s
  | .commandedRestart => Sys2Proof.Machine.execCommandedRestart s
  | .softwareRestart => Sys2Proof.Machine.execSoftwareRestart s
  | .controlCoreWatchdog core => Sys2Proof.Machine.execControlCoreWatchdog core s
  | .pllLockLoss pll => Sys2Proof.Machine.execPllLockLoss pll s
  | .powerOnReset => Sys2Proof.Machine.execPowerOnReset s
  | .brownOut mainLost => Sys2Proof.Machine.execBrownOut mainLost s
  | .rstN => Sys2Proof.Machine.execRstN s
  | .bistPassDue t => Sys2Proof.Machine.execBistPassDue t s
  | .adcTest sp => Sys2Proof.Machine.execAdcTest sp s
  | .adcTestEnd => Sys2Proof.Machine.execAdcTestEnd s
  | .programFuses sid v => Sys2Proof.Machine.execProgramFuses sid v s
  | .apduResponse a wtx resp => Sys2Proof.Machine.execApduResponse a wtx resp s
  | .tagFieldLost => Sys2Proof.Machine.execTagFieldLost s
  | .vbatLow => Sys2Proof.Machine.execVbatLow s
  | .echoRequest v6 src payload => Sys2Proof.Machine.execEchoRequest v6 src payload s
  | .neighbourDiscovery src => Sys2Proof.Machine.execNeighbourDiscovery src s
  | .arpRequest src target => Sys2Proof.Machine.execArpRequest src target s

end Sys2Proof.Machine
end

