-- ==== Sys2Proof/Safety.lean ====
section
/-! DEFINITION. The terms in which the claims speak: what a command sets and what it leaves, when a gate is safe. -/

namespace Sys2Proof.Machine

/-- The objects of `t` are those of `s` but for the ones listed, which have the values listed. -/
def objects (s t : State) (l : List (Nat × Int)) : Prop :=
  (∀ p ∈ l, t.get p.1 = p.2) ∧ ∀ k, (∀ p ∈ l, p.1 ≠ k) → t.get k = s.get k

/-- The objects of `t` are those of `s` but for the ones listed. -/
def keepsObjects (s t : State) (l : List Nat) : Prop := ∀ k, k ∉ l → t.get k = s.get k

/-- A count after one more event: it holds at its largest value (R107). -/
def oneMore (s : State) (k : Nat) : Int := if objMax k ≤ s.get k then s.get k else s.get k + 1

/-- `t` carries one more notice than `s`, and it is this one (R407). -/
def noticed (s t : State) (n : Notice) : Prop := t.recorder.raised = s.recorder.raised ++ [n]

/-- The gate of a spoke is not closed while the spoke is locked out (R300). -/
def gateSafe (s : State) (sp : Nat) : Prop := s.safety sp = 2 → s.gateState sp ≠ 2

/-- One pedal instruction ran on spoke `sp`: its sequencer is `p` with one more instruction counted, it is running, and nothing
else of the machine is another (R224, R229). -/
def pedalRan (s t : State) (sp : Nat) (p : Pedal) : Prop :=
  t.spoke sp = { s.spoke sp with pedal := { p with count := p.count + 1 } } ∧ t.getN (k19RunState sp) = 1 ∧
    keepsObjects s t [k19RunState sp] ∧ (∀ j, j ≠ sp → t.spoke j = s.spoke j) ∧
    { t with obj := s.obj, spokes := s.spokes } = s

/-- The sequencer of a spoke with its program counter on the next instruction. -/
def nextPc (s : State) (sp : Nat) : Pedal := { s.pedal sp with pc := (s.pedal sp).pc + 1 }

/-- The spoke exists and its sequencer executes (R224). -/
def pedalReady (s : State) (sp : Nat) : Prop := s.executes sp = true ∧ sp < s.spokes.length

/-- The vehicle on spoke `sp` was answered with message `m`: the stop notification (R243) and the figures. -/
def answered (s t : State) (sp : Nat) (m : String) (figures : List Int) : Prop :=
  t.out = s.out ++ [.vehicle sp m (b1 (s.vlink sp).stopping :: figures)]

/-- A valid message of the vehicle has come: a record's key is loaded, its time is noted, an orderly stop that waits begins. -/
def messaged (s : State) (sp : Nat) : State :=
  (s.forRecord sp).modVLink sp fun l =>
    { l with lastMsg := s.cc, stopAt := if l.stopping && l.stopAt.isNone then some s.cc else l.stopAt }

/-- The PDU of a request on a logged-in session passes every check of R76, R78, R79, R88 and R90. -/
def accepts (s : State) (r : KodReq) (service : Nat) (body : List Nat) : Prop :=
  s.kodUp = true ∧ s.carries r.ep = true ∧ r.broadcast = false ∧ r.sid ≠ 0 ∧ s.sessionState r.sid = 2 ∧
    (s.session r.sid).ep = some r.ep ∧
    r.tag = some (kodTag (s.session r.sid).key service (pduBytes 0 true r.sid r.seq body)) ∧
    (s.session r.sid).busy = false ∧ r.seq = ((s.session r.sid).last + 1) % 65536 ∧
    (s.session r.sid).under = s.vault.bootKey

/-- The state in which the service of an accepted request begins: the PDU is taken, the session's key is loaded, its sequence
number and its idle time follow the request. -/
def begun (s : State) (r : KodReq) (service : Nat) (body : List Nat) : State :=
  ((s.taken r service body).useKey (s.session r.sid).key).modSession r.sid fun x => { x with last := r.seq, since := s.cc }

/-- The Chainline command that waits first is taken by the firmware. -/
def chlTaken (s : State) (rest : List (Nat × ChlHdr × List Nat × Nat)) : State :=
  { s with chainline := { s.chainline with commands := rest } }

/-- A command row that writes one object with the rights of a session: behind WRITEs that wait it takes its
place as one more of them; else it changes nothing when the checks of a write fail, and their status is the whole answer (R28,
R82). -/
def refusesItem (s : State) (sid : Nat) (c : Instr) (it : WItem) : Prop :=
  (s.writesOpen = false → exec c s = .next (s.queueRow sid it)) ∧
  (s.writesOpen = true → s.checkWrite sid it ≠ stOk →
    exec c s = .next (s.answer sid it.addr (s.checkWrite sid it)).atStep5)

/-- The same for a row that names no TYPE. -/
def refusesAlone (s : State) (sid : Nat) (c : Instr) (k : Nat) (v : Int) : Prop := refusesItem s sid c ⟨k, ownType, v⟩

/-! ### Frames -/

/-- Every object of a class that is not listed keeps its value. -/
def keepsClasses (s t : State) (cs : List Nat) : Prop := ∀ k, keyClass k ∉ cs → t.get k = s.get k

/-- What the rows of the spoke links, the plan, Pannier and DMA, the safety functions, the gates, the switches, the pilot, the
pedal sequencers, the allocator, the vehicle link and tandem leave as it was: every part of the machine that is not put back
here, and every object outside the classes listed. The rows of the other families stand in `recordFrame` and `serviceFrame`. -/
def spokeFrame : Instr → State → State → Prop
  | .upstreamFrame .. => fun s t =>
    { t with obj := s.obj, linkA := s.linkA, linkB := s.linkB, chans := s.chans, recorder := s.recorder } = s
  | .downstreamFrame .. => fun s t =>
    { t with obj := s.obj, linkA := s.linkA, linkB := s.linkB, recorder := s.recorder } = s ∧ keepsClasses s t [0x00]
  | .spokeLinkFailed .. => fun s t =>
    { t with obj := s.obj, linkA := s.linkA, linkB := s.linkB, pannier := s.pannier, spokes := s.spokes, switches := s.switches,
             lease := s.lease, recorder := s.recorder } = s ∧ keepsClasses s t [0x00, 0x18, 0x1D]
  | .linkRetrained .. => fun s t =>
    { t with obj := s.obj, linkA := s.linkA, linkB := s.linkB } = s ∧ keepsClasses s t [0x00]
  | .planSwitch => fun s t =>
    { t with obj := s.obj, plan := s.plan, pannier := s.pannier, modes := s.modes } = s
  | .overrun .. => fun s t =>
    { t with obj := s.obj, pannier := s.pannier, chans := s.chans, spokes := s.spokes, chainline := s.chainline,
             recorder := s.recorder } = s ∧ keepsClasses s t [0x02, 0x1D]
  | .derailleurRound .. => fun s t =>
    { t with obj := s.obj, out := s.out, ports := s.ports, pannier := s.pannier, dma := s.dma, recorder := s.recorder,
             display := s.display } = s
  | .postTriggerEnd => fun s t =>
    { t with obj := s.obj } = s ∧ keepsClasses s t [0x03]
  | .manualTrigger .. | .descriptorWindowData .. => fun s t =>
    { t with obj := s.obj, out := s.out, draw := s.draw, pannier := s.pannier, kod := s.kod, recorder := s.recorder,
             flash := s.flash, modes := s.modes } = s ∧ keepsClasses s t [0x03]
  | .release .. => fun s t =>
    { t with obj := s.obj, out := s.out, draw := s.draw, kod := s.kod, recorder := s.recorder, flash := s.flash, modes := s.modes
             } = s ∧ keepsClasses s t [0x03]
  | .mapSwitch => fun s t =>
    { t with obj := s.obj, pannier := s.pannier } = s
  | .dwellEnd => fun s t =>
    { t with obj := s.obj, pannier := s.pannier } = s ∧ keepsClasses s t [0x03]
  | .dmaStart .. => fun s t =>
    { t with obj := s.obj, out := s.out, draw := s.draw, pannier := s.pannier, dma := s.dma, kod := s.kod, recorder := s.recorder,
             flash := s.flash, modes := s.modes } = s ∧ keepsClasses s t [0x03]
  | .dmaAbort .. => fun s t =>
    { t with obj := s.obj, out := s.out, draw := s.draw, dma := s.dma, kod := s.kod, recorder := s.recorder, flash := s.flash,
             modes := s.modes } = s ∧ keepsClasses s t [0x03]
  | .descriptorComplete .. => fun s t =>
    { t with obj := s.obj, pannier := s.pannier, dma := s.dma, recorder := s.recorder } = s ∧ keepsClasses s t [0x03]
  | .queueResume .. => fun s t =>
    { t with obj := s.obj } = s
  | .hostAreaData .. => fun s t =>
    { t with obj := s.obj, out := s.out, draw := s.draw, pannier := s.pannier, recorder := s.recorder } = s ∧ keepsClasses s t
             [0x03]
  | .pilotPeriodStart .. => fun s t =>
    { t with obj := s.obj, spokes := s.spokes } = s ∧ keepsClasses s t [0x18]
  | .pedNop .. | .pedLdi .. | .pedLdu .. | .pedMov .. | .pedAdd .. | .pedSub .. | .pedAddi .. | .pedAnd .. | .pedOr .. |
    .pedMin .. | .pedMax .. | .pedEnc .. | .pedBr .. | .pedBf .. | .pedWait .. | .pedYield .. | .pedTake .. | .pedIn .. |
    .pedTset .. | .pedTseti .. => fun s t =>
    { t with obj := s.obj, spokes := s.spokes } = s ∧ keepsClasses s t [0x19]
  | .pedOut .. | .pedOuti .. | .pedNote .. | .pedHalt .. | .programSwitch .. => fun s t =>
    { t with obj := s.obj, spokes := s.spokes, recorder := s.recorder } = s ∧ keepsClasses s t [0x19]
  | .timerExpiry .. | .powerDeliveryTimeout .. => fun s t =>
    { t with spokes := s.spokes } = s
  | .pedalRestart .. | .broadcast .. => fun s t =>
    { t with obj := s.obj, out := s.out, draw := s.draw, kod := s.kod, spokes := s.spokes, recorder := s.recorder,
             flash := s.flash, modes := s.modes } = s ∧ keepsClasses s t [0x19]
  | .offerLapse .. => fun s t =>
    { t with spokes := s.spokes, recorder := s.recorder } = s
  | .softGraceEnd .. | .underVoltage .. => fun s t =>
    { t with obj := s.obj, spokes := s.spokes, switches := s.switches, recorder := s.recorder } = s ∧ keepsClasses s t
             [0x19, 0x1C, 0x1D]
  | .seccDiscovery .. => fun s t =>
    { t with out := s.out, draw := s.draw } = s
  | .supportedAppProtocol .. | .serviceDiscovery .. => fun s t =>
    { t with obj := s.obj, out := s.out, spokes := s.spokes, vault := s.vault, recorder := s.recorder } = s ∧ keepsClasses s t
             [0x1A]
  | .cmSlacParmReq .. => fun s t =>
    { t with obj := s.obj, out := s.out, spokes := s.spokes, slac := s.slac, recorder := s.recorder, modes := s.modes } = s ∧
             keepsClasses s t [0x01]
  | .cmStartAttenCharInd .. | .cmMnbcSoundInd .. => fun s t =>
    { t with slac := s.slac } = s
  | .soundingWindowEnd .. => fun s t =>
    { t with obj := s.obj, out := s.out, draw := s.draw, spokes := s.spokes, slac := s.slac, recorder := s.recorder } = s
  | .cmSlacMatchReq .. => fun s t =>
    { t with obj := s.obj, out := s.out, draw := s.draw, spokes := s.spokes, slac := s.slac, recorder := s.recorder } = s ∧
             keepsClasses s t [0x1A]
  | .cmValidateReq .. => fun s t =>
    { t with out := s.out } = s
  | .matchTimeout .. | .abnormalLoss .. | .tlsFallbackTimeout .. => fun s t =>
    { t with obj := s.obj, spokes := s.spokes, recorder := s.recorder } = s ∧ keepsClasses s t [0x1A]
  | .sessionSetup .. | .paymentServiceSelection .. | .serviceSelection .. | .acChargeParameterDiscovery .. | .powerDelivery ..
    | .acChargeLoop .. | .sessionStop .. => fun s t =>
    { t with obj := s.obj, out := s.out, spokes := s.spokes, vault := s.vault } = s ∧ keepsClasses s t [0x1A]
  | .serviceDetail .. | .authorizationSetup .. | .scheduleExchange .. | .chargingStatus .. | .meteringReceipt .. |
    .meteringConfirmation .. | .unsupportedMessage .. => fun s t =>
    { t with out := s.out, spokes := s.spokes, vault := s.vault } = s
  | .paymentDetails .. | .authorization .. => fun s t =>
    { t with obj := s.obj, out := s.out, draw := s.draw, spokes := s.spokes, pf := s.pf, sessions := s.sessions,
             sessionSeq := s.sessionSeq, lowPurses := s.lowPurses, vault := s.vault, recorder := s.recorder } = s
  | .chargeParameterDiscovery .. => fun s t =>
    { t with obj := s.obj, out := s.out, draw := s.draw, spokes := s.spokes, vault := s.vault } = s ∧ keepsClasses s t [0x1A]
  | .orderlyStopTimeout .. => fun s t =>
    { t with obj := s.obj, spokes := s.spokes } = s ∧ keepsClasses s t [0x1A]
  | .tlsHandshake .. => fun s t =>
    { t with obj := s.obj, out := s.out, draw := s.draw, pannier := s.pannier, spokes := s.spokes, vault := s.vault,
             recorder := s.recorder } = s ∧ keepsClasses s t [0x1A]
  | .contractDecision .. => fun s t =>
    { t with obj := s.obj, out := s.out, draw := s.draw, kod := s.kod, spokes := s.spokes, pf := s.pf, sessions := s.sessions,
             sessionSeq := s.sessionSeq, lowPurses := s.lowPurses, recorder := s.recorder, flash := s.flash, modes := s.modes
             } = s
  | .contractDecisionTimeout .. => fun s t =>
    { t with obj := s.obj, spokes := s.spokes, pf := s.pf, sessions := s.sessions, sessionSeq := s.sessionSeq,
             lowPurses := s.lowPurses, recorder := s.recorder } = s
  | .allocationPeriod .. => fun s t =>
    { t with obj := s.obj, draw := s.draw, spokes := s.spokes, peloton := s.peloton, recorder := s.recorder } = s ∧
             keepsClasses s t [0x1B]
  | .guardStage1 .. | .guardStage3 .. | .guardRecovery .. => fun s t =>
    { t with obj := s.obj, peloton := s.peloton, recorder := s.recorder } = s ∧ keepsClasses s t [0x1B]
  | .guardStage2 .. => fun s t =>
    { t with obj := s.obj, spokes := s.spokes, peloton := s.peloton, recorder := s.recorder } = s ∧ keepsClasses s t [0x1B]
  | .capActivation .. => fun s t =>
    { t with obj := s.obj, chainline := s.chainline, recorder := s.recorder, flash := s.flash } = s ∧ keepsClasses s t
             [0x1B]
  | .capEnd .. => fun s t =>
    { t with obj := s.obj, draw := s.draw, peloton := s.peloton, chainline := s.chainline, recorder := s.recorder,
             flash := s.flash } = s ∧ keepsClasses s t [0x1B]
  | .reboundDelayEnd => fun s t =>
    { t with peloton := s.peloton } = s
  | .channelRestart .. => fun s t =>
    { t with obj := s.obj, draw := s.draw, linkA := s.linkA, linkB := s.linkB, pannier := s.pannier, spokes := s.spokes,
             switches := s.switches, recorder := s.recorder } = s ∧ keepsClasses s t [0x1C, 0x1D]
  | .thermalLatch .. | .lkOvertimeStop .. => fun s t =>
    { t with obj := s.obj, draw := s.draw, pannier := s.pannier, spokes := s.spokes, switches := s.switches,
             recorder := s.recorder } = s ∧ keepsClasses s t [0x1C, 0x1D]
  | .clearLatch .. => fun s t =>
    { t with obj := s.obj, out := s.out, draw := s.draw, pannier := s.pannier, kod := s.kod, spokes := s.spokes,
             switches := s.switches, recorder := s.recorder, flash := s.flash, modes := s.modes } = s ∧ keepsClasses s t
             [0x1C, 0x1D]
  | .offPulse .. => fun s t =>
    { t with switches := s.switches } = s
  | .strokeEnd .. => fun s t =>
    { t with obj := s.obj, spokes := s.spokes, switches := s.switches, recorder := s.recorder } = s ∧ keepsClasses s t
             [0x1C]
  | .brakeEnd .. => fun s t =>
    { t with obj := s.obj, pannier := s.pannier, spokes := s.spokes, switches := s.switches, recorder := s.recorder } = s ∧
             keepsClasses s t [0x03, 0x1C]
  | .weldLockout .. => fun s t =>
    { t with obj := s.obj, pannier := s.pannier, spokes := s.spokes, recorder := s.recorder } = s ∧ keepsClasses s t [0x03,
             0x19, 0x1C, 0x1D]
  | .clearWeldLockout .. => fun s t =>
    { t with obj := s.obj, out := s.out, draw := s.draw, pannier := s.pannier, kod := s.kod, spokes := s.spokes,
             recorder := s.recorder, flash := s.flash, modes := s.modes } = s ∧ keepsClasses s t [0x03, 0x1C, 0x1D]
  | .hxCommand .. => fun s t =>
    { t with obj := s.obj, out := s.out, draw := s.draw, kod := s.kod, switches := s.switches, recorder := s.recorder,
             flash := s.flash, modes := s.modes } = s ∧ keepsClasses s t [0x1C]
  | .functionDemand .. => fun s t =>
    { t with obj := s.obj, pannier := s.pannier, spokes := s.spokes, recorder := s.recorder } = s ∧ keepsClasses s t [0x1D]
  | .functionClear .. => fun s t =>
    { t with obj := s.obj, pannier := s.pannier, spokes := s.spokes, functions := s.functions } = s ∧ keepsClasses s t
             [0x1D]
  | .functionReset .. => fun s t =>
    { t with out := s.out, draw := s.draw, kod := s.kod, functions := s.functions, recorder := s.recorder, flash := s.flash,
             modes := s.modes } = s
  | .discrepancy .. => fun s t =>
    { t with obj := s.obj, draw := s.draw, pannier := s.pannier, spokes := s.spokes, recorder := s.recorder } = s ∧
             keepsClasses s t [0x1D]
  | .residualTrip .. | .crossCheckFailure .. | .testWindingResult .. => fun s t =>
    { t with obj := s.obj, pannier := s.pannier, spokes := s.spokes, recorder := s.recorder } = s ∧ keepsClasses s t [0x03,
             0x1D]
  | .testWinding .. => fun s t =>
    { t with obj := s.obj, spokes := s.spokes } = s ∧ keepsClasses s t [0x1D]
  | .earthFault .. | .earthClear .. => fun s t =>
    { t with obj := s.obj, pannier := s.pannier, groups := s.groups, spokes := s.spokes, recorder := s.recorder } = s ∧
             keepsClasses s t [0x03, 0x1D]
  | .clearLockout .. | .clearDeviceFault .. => fun s t =>
    { t with obj := s.obj, out := s.out, draw := s.draw, pannier := s.pannier, kod := s.kod, spokes := s.spokes,
             recorder := s.recorder, flash := s.flash, modes := s.modes } = s ∧ keepsClasses s t [0x03, 0x1D]
  | .tandemSend => fun s t =>
    { t with obj := s.obj, out := s.out, tandemAt := s.tandemAt } = s ∧ keepsClasses s t [0x1E]
  | .tandemCopy .. | .missingTwin .. | .tandemSilence .. => fun s t =>
    { t with obj := s.obj, draw := s.draw, pannier := s.pannier, spokes := s.spokes, peers := s.peers, recorder := s.recorder }
             = s ∧ keepsClasses s t [0x1D, 0x1E]
  | .leaseReclaim | .leaseExpiry => fun s t =>
    { t with obj := s.obj, draw := s.draw, spokes := s.spokes, lease := s.lease, recorder := s.recorder } = s ∧ keepsClasses s
             t [0x1D]
  | _ => fun _ _ => True

/-- What the rows of the channels and the metering, the recorder, billing, sessions, power loss, NFC, keypad, tag, vault and
Chainline leave as it was. -/
def recordFrame : Instr → State → State → Prop
  | .sensorType .. => fun s t =>
    { t with obj := s.obj, out := s.out, draw := s.draw, kod := s.kod, chans := s.chans, recorder := s.recorder, flash := s.flash,
             modes := s.modes } = s ∧ keepsClasses s t [0x08, 0x0D]
  | .spokeGroup .. | .referenceGroup .. => fun s t =>
    { t with obj := s.obj, out := s.out, draw := s.draw, pannier := s.pannier, kod := s.kod, chans := s.chans, spokes := s.spokes,
             chainline := s.chainline, recorder := s.recorder, flash := s.flash, modes := s.modes } = s
  | .groupEnable .. => fun s t =>
    { t with obj := s.obj, out := s.out, draw := s.draw, pannier := s.pannier, kod := s.kod, groups := s.groups, chans := s.chans,
             spokes := s.spokes, chainline := s.chainline, recorder := s.recorder, flash := s.flash, modes := s.modes } = s
  | .sealOpening => fun s t =>
    { t with obj := s.obj, draw := s.draw, kod := s.kod, vault := s.vault, sealFilter := s.sealFilter, recorder := s.recorder }
             = s ∧ keepsClasses s t [0x0D]
  | .sealClosing => fun s t =>
    { t with obj := s.obj, draw := s.draw, kod := s.kod, sealFilter := s.sealFilter, recorder := s.recorder } = s ∧
             keepsClasses s t [0x0D]
  | .missingCrossing .. => fun s t =>
    { t with obj := s.obj, out := s.out, draw := s.draw, pannier := s.pannier, groups := s.groups, spokes := s.spokes,
             beacon := s.beacon, chainline := s.chainline, recorder := s.recorder } = s
  | .snapshotRequest .. => fun s t =>
    { t with obj := s.obj, out := s.out, draw := s.draw, kod := s.kod, billing := s.billing, recorder := s.recorder,
             flash := s.flash, modes := s.modes } = s ∧ keepsClasses s t [0x0B]
  | .snapshotLatch => fun s t =>
    { t with obj := s.obj, spokes := s.spokes, pf := s.pf, billing := s.billing, recorder := s.recorder, modes := s.modes } = s
  | .pulseOutputChange .. => fun s t =>
    { t with obj := s.obj, out := s.out, draw := s.draw, kod := s.kod, recorder := s.recorder, flash := s.flash, modes := s.modes
             } = s ∧ keepsClasses s t [0x0C]
  | .jitterFreeEnd .. => fun s t =>
    { t with obj := s.obj, groups := s.groups, pulses := s.pulses } = s ∧ keepsClasses s t [0x0C]
  | .clearRegisters .. => fun s t =>
    { t with obj := s.obj, out := s.out, draw := s.draw, kod := s.kod, spokes := s.spokes, billing := s.billing,
             recorder := s.recorder, flash := s.flash, modes := s.modes } = s
  | .flashPowerFailRecord => fun s t =>
    { t with obj := s.obj, draw := s.draw, pf := s.pf, recorder := s.recorder, flash := s.flash } = s ∧ keepsClasses s t
             [0x30]
  | .flashRecordCommit | .journalCommit => fun s t =>
    { t with pf := s.pf, flash := s.flash } = s
  | .journalWriteFailure => fun s t =>
    { t with obj := s.obj, draw := s.draw, recorder := s.recorder } = s ∧ keepsClasses s t [0x30]
  | .slew .. => fun s t =>
    { t with obj := s.obj, out := s.out, draw := s.draw, kod := s.kod, billing := s.billing, recorder := s.recorder,
             flash := s.flash, modes := s.modes } = s ∧ keepsClasses s t [0x05]
  | .step .. => fun s t =>
    { t with obj := s.obj, out := s.out, draw := s.draw, kod := s.kod, billing := s.billing, vault := s.vault,
             recorder := s.recorder, flash := s.flash, modes := s.modes } = s ∧ keepsClasses s t [0x05]
  | .stepEffect | .tariffActivation | .billingPeriodClose => fun s t =>
    { t with obj := s.obj, spokes := s.spokes, pf := s.pf, billing := s.billing, recorder := s.recorder, flash := s.flash,
             modes := s.modes } = s
  | .rateSwitch => fun s t =>
    { t with obj := s.obj, spokes := s.spokes, pf := s.pf, recorder := s.recorder, modes := s.modes } = s
  | .demandIntervalClose => fun s t =>
    { t with obj := s.obj, spokes := s.spokes, billing := s.billing, recorder := s.recorder, flash := s.flash, modes := s.modes
             } = s
  | .closeNow .. => fun s t =>
    { t with out := s.out, draw := s.draw, kod := s.kod, billing := s.billing, recorder := s.recorder, flash := s.flash,
             modes := s.modes } = s
  | .authoriseSpoke .. => fun s t =>
    { t with obj := s.obj, out := s.out, draw := s.draw, kod := s.kod, spokes := s.spokes, pf := s.pf, sessions := s.sessions,
             sessionSeq := s.sessionSeq, lowPurses := s.lowPurses, recorder := s.recorder, flash := s.flash, modes := s.modes
             } = s
  | .stop .. => fun s t =>
    { t with out := s.out, draw := s.draw, kod := s.kod, spokes := s.spokes, recorder := s.recorder, flash := s.flash,
             modes := s.modes } = s
  | .collect .. => fun s t =>
    { t with obj := s.obj, out := s.out, draw := s.draw, kod := s.kod, recorder := s.recorder, flash := s.flash, modes := s.modes
             } = s ∧ keepsClasses s t [0x12]
  | .costRecomputation => fun s t =>
    { t with obj := s.obj, spokes := s.spokes, sessions := s.sessions, lowPurses := s.lowPurses, recorder := s.recorder } = s
  | .tokenEntry .. => fun s t =>
    { t with obj := s.obj, out := s.out, draw := s.draw, kod := s.kod, lowPurses := s.lowPurses, tokenFails := s.tokenFails,
             tokenLock := s.tokenLock, keypad := s.keypad, vault := s.vault, recorder := s.recorder, flash := s.flash,
             modes := s.modes } = s
  | .tokenLockoutEnd => fun s t =>
    { t with tokenLock := s.tokenLock } = s
  | .outboundFrame .. => fun s t =>
    { t with obj := s.obj, out := s.out, draw := s.draw, chainline := s.chainline, vault := s.vault, recorder := s.recorder } =
             s ∧ keepsClasses s t [0x20]
  | .timeAlign .. | .repeater .. | .inboundFrame .. => fun s t =>
    { t with obj := s.obj, draw := s.draw, chainline := s.chainline, recorder := s.recorder } = s ∧ keepsClasses s t [0x20]
  | .timeSet .. | .snapshot .. | .billingClose .. | .chainlineRead .. | .ack .. | .ackTimeout .. => fun s t =>
    { t with draw := s.draw, chainline := s.chainline, recorder := s.recorder } = s
  | .mcTargetReached => fun s t =>
    { t with obj := s.obj, spokes := s.spokes, pf := s.pf, billing := s.billing, chainline := s.chainline, vault := s.vault,
             recorder := s.recorder, flash := s.flash } = s
  | .drCap .. | .drCancel .. => fun s t =>
    { t with obj := s.obj, draw := s.draw, chainline := s.chainline, recorder := s.recorder, flash := s.flash } = s ∧
             keepsClasses s t [0x1B]
  | .tariffBegin .. | .tariffAbort .. => fun s t =>
    { t with obj := s.obj, draw := s.draw, kod := s.kod, chainline := s.chainline, recorder := s.recorder } = s ∧ keepsClasses
             s t [0x0F, 0x31]
  | .tariffData .. | .tariffEnd .. => fun s t =>
    { t with obj := s.obj, draw := s.draw, kod := s.kod, chainline := s.chainline, recorder := s.recorder } = s ∧ keepsClasses
             s t [0x0F]
  | .tariffIdleTimeout => fun s t =>
    { t with obj := s.obj, draw := s.draw, kod := s.kod, recorder := s.recorder } = s ∧ keepsClasses s t [0x0F, 0x31]
  | .reregister .. => fun s t =>
    { t with obj := s.obj, draw := s.draw, chainline := s.chainline, recorder := s.recorder, flash := s.flash } = s ∧
             keepsClasses s t [0x20]
  | .registration | .orphanCall | .hello => fun s t =>
    { t with draw := s.draw, chainline := s.chainline } = s
  | .inboundSend => fun s t =>
    { t with obj := s.obj, out := s.out, chainline := s.chainline, vault := s.vault, recorder := s.recorder } = s ∧
             keepsClasses s t [0x20]
  | .neighbourExpiry .. => fun s t =>
    { t with obj := s.obj, draw := s.draw, chainline := s.chainline } = s ∧ keepsClasses s t [0x20]
  | .ping .. => fun s t =>
    { t with obj := s.obj, out := s.out, draw := s.draw, frontEnds := s.frontEnds, aerials := s.aerials,
             emulation := s.emulation } = s ∧ keepsClasses s t [0x21]
  | .polling .. => fun s t =>
    { t with obj := s.obj, out := s.out, draw := s.draw, aerials := s.aerials, recorder := s.recorder } = s ∧ keepsClasses s t
             [0x21]
  | .settleEnd .. => fun s t =>
    { t with obj := s.obj, draw := s.draw, spokes := s.spokes, pf := s.pf, sessions := s.sessions, sessionSeq := s.sessionSeq,
             lowPurses := s.lowPurses, aerials := s.aerials, recorder := s.recorder } = s
  | .decision .. => fun s t =>
    { t with obj := s.obj, out := s.out, draw := s.draw, kod := s.kod, spokes := s.spokes, pf := s.pf, sessions := s.sessions,
             sessionSeq := s.sessionSeq, lowPurses := s.lowPurses, aerials := s.aerials, recorder := s.recorder,
             flash := s.flash, modes := s.modes } = s
  | .decisionTimeout .. => fun s t =>
    { t with obj := s.obj, aerials := s.aerials, recorder := s.recorder } = s ∧ keepsClasses s t [0x21]
  | .apduCommand .. => fun s t =>
    { t with obj := s.obj, out := s.out, draw := s.draw, kod := s.kod, frontEnds := s.frontEnds, aerials := s.aerials,
             recorder := s.recorder, flash := s.flash, modes := s.modes } = s ∧ keepsClasses s t [0x21]
  | .waitingTimeCap .. => fun s t =>
    { t with obj := s.obj, out := s.out, frontEnds := s.frontEnds, aerials := s.aerials, recorder := s.recorder } = s ∧
             keepsClasses s t [0x21]
  | .emulationApdu .. => fun s t =>
    { t with out := s.out, kod := s.kod, emulation := s.emulation } = s
  | .emulationWtx => fun s t =>
    { t with out := s.out, draw := s.draw, emulation := s.emulation, recorder := s.recorder } = s
  | .externalField => fun s t =>
    { t with obj := s.obj, out := s.out, frontEnds := s.frontEnds, aerials := s.aerials, emulation := s.emulation } = s ∧
             keepsClasses s t [0x21]
  | .fieldAbsent => fun s t =>
    { t with obj := s.obj, emulation := s.emulation } = s ∧ keepsClasses s t [0x21]
  | .keyPress .. => fun s t =>
    { t with obj := s.obj, draw := s.draw, lowPurses := s.lowPurses, tokenFails := s.tokenFails, tokenLock := s.tokenLock,
             keypad := s.keypad, vault := s.vault, recorder := s.recorder, flash := s.flash } = s
  | .keyRelease .. => fun s t =>
    { t with obj := s.obj, keypad := s.keypad, recorder := s.recorder } = s ∧ keepsClasses s t [0x23]
  | .entryTimeout => fun s t =>
    { t with obj := s.obj, draw := s.draw, keypad := s.keypad, recorder := s.recorder } = s ∧ keepsClasses s t [0x23]
  | .reqa | .wupa | .anticollision .. | .tagWrite .. | .commitMarkerWrite .. => fun s t =>
    { t with out := s.out, tag := s.tag } = s
  | .hlta | .fdetLow | .identityRewrite => fun s t =>
    { t with tag := s.tag } = s
  | .tagRead .. => fun s t =>
    { t with out := s.out } = s
  | .fdetRelease => fun s t =>
    { t with obj := s.obj, tag := s.tag, recorder := s.recorder } = s ∧ keepsClasses s t [0x22]
  | .tamper .. => fun s t =>
    { t with obj := s.obj, draw := s.draw, ports := s.ports, plan := s.plan, pannier := s.pannier, dma := s.dma, kod := s.kod,
             chans := s.chans, spokes := s.spokes, billing := s.billing, slac := s.slac, switches := s.switches,
             lease := s.lease, peers := s.peers, chainline := s.chainline, frontEnds := s.frontEnds, aerials := s.aerials,
             emulation := s.emulation, keypad := s.keypad, vault := s.vault, recorder := s.recorder, display := s.display,
             flash := s.flash, modes := s.modes } = s
  | .bump .. => fun s t =>
    { t with obj := s.obj, out := s.out, draw := s.draw, kod := s.kod, spokes := s.spokes, recorder := s.recorder,
             flash := s.flash, modes := s.modes } = s ∧ keepsClasses s t [0x1A, 0x28]
  | .keyInstall .. => fun s t =>
    { t with obj := s.obj, out := s.out, draw := s.draw, kod := s.kod, vault := s.vault, recorder := s.recorder, flash := s.flash,
             modes := s.modes } = s ∧ keepsClasses s t [0x28]
  | .replaceRoot .. => fun s t =>
    { t with obj := s.obj, out := s.out, draw := s.draw, ports := s.ports, plan := s.plan, pannier := s.pannier, dma := s.dma,
             kod := s.kod, chans := s.chans, spokes := s.spokes, billing := s.billing, slac := s.slac, switches := s.switches,
             lease := s.lease, peers := s.peers, chainline := s.chainline, frontEnds := s.frontEnds, aerials := s.aerials,
             emulation := s.emulation, keypad := s.keypad, vault := s.vault, recorder := s.recorder, display := s.display,
             flash := s.flash, modes := s.modes } = s
  | .ownerKey .. => fun s t =>
    { t with obj := s.obj, out := s.out, draw := s.draw, kod := s.kod, recorder := s.recorder, flash := s.flash, modes := s.modes
             } = s ∧ keepsClasses s t [0x28]
  | .randomGeneratorFailure => fun s t =>
    { t with obj := s.obj, draw := s.draw, recorder := s.recorder } = s ∧ keepsClasses s t [0x28]
  | .histogramDefinition .. => fun s t =>
    { t with obj := s.obj, out := s.out, draw := s.draw, kod := s.kod, recorder := s.recorder, flash := s.flash, modes := s.modes
             } = s
  | .freeze .. | .clearHistogram .. => fun s t =>
    { t with obj := s.obj, out := s.out, draw := s.draw, kod := s.kod, recorder := s.recorder, flash := s.flash, modes := s.modes
             } = s ∧ keepsClasses s t [0x29]
  | .freezeEnd => fun s t =>
    { t with obj := s.obj, recorder := s.recorder } = s ∧ keepsClasses s t [0x29]
  | .clearExtreme .. => fun s t =>
    { t with obj := s.obj, out := s.out, draw := s.draw, kod := s.kod, recorder := s.recorder, flash := s.flash, modes := s.modes
             } = s ∧ keepsClasses s t [0x2A]
  | .clearRing .. | .saveNow .. => fun s t =>
    { t with out := s.out, draw := s.draw, kod := s.kod, recorder := s.recorder, flash := s.flash, modes := s.modes } = s
  | .saveComplete .. => fun s t =>
    { t with obj := s.obj, draw := s.draw, vault := s.vault, recorder := s.recorder } = s ∧ keepsClasses s t [0x29]
  | .powerFailAreaErase .. => fun s t =>
    { t with obj := s.obj, pf := s.pf, recorder := s.recorder } = s ∧ keepsClasses s t [0x30]
  | .apduResponse .. => fun s t =>
    { t with obj := s.obj, out := s.out, frontEnds := s.frontEnds, aerials := s.aerials } = s ∧ keepsClasses s t [0x21]
  | .tagFieldLost => fun s t =>
    { t with obj := s.obj, draw := s.draw, tag := s.tag } = s ∧ keepsClasses s t [0x22]
  | .vbatLow => fun s t =>
    { t with draw := s.draw, vault := s.vault, recorder := s.recorder } = s
  | _ => fun _ _ => True

/-- What the rows of the modes, the transport, the services, bulk transfer and update, the display, the self-test and the
tick leave as it was; the resets of the safety domain keep what `SafetyResetClears` says. -/
def serviceFrame : Instr → State → State → Prop
  | .tick .. => fun s t =>
    t.variant = s.variant ∧ t.pending = s.pending ∧ t.tandemAt = s.tandemAt
  | .watchdogBite .. => fun s t =>
    { t with obj := s.obj, draw := s.draw, ports := s.ports, pannier := s.pannier, dma := s.dma, kod := s.kod,
             peloton := s.peloton, chainline := s.chainline, frontEnds := s.frontEnds, aerials := s.aerials,
             keypad := s.keypad, vault := s.vault, recorder := s.recorder, display := s.display, flash := s.flash,
             bist := s.bist } = s
  | .newSpare .. => fun s t =>
    { t with obj := s.obj, draw := s.draw, pannier := s.pannier, recorder := s.recorder, bist := s.bist } = s
  | .clearCount .. | .writeSetting .. | .write .. | .calibrationWrite .. => fun s t =>
    t.variant = s.variant ∧ t.pending = s.pending ∧ t.linkA = s.linkA ∧ t.linkB = s.linkB ∧
    t.pulses = s.pulses ∧ t.beacon = s.beacon ∧ t.peloton = s.peloton ∧ t.tandemAt = s.tandemAt ∧ t.tag = s.tag ∧
    t.sealFilter = s.sealFilter
  | .settingLogAppend => fun s t =>
    { t with obj := s.obj, flash := s.flash } = s ∧ keepsClasses s t [0x30]
  | .canFdFrame .. | .kodDatagram .. | .loginProof .. | .keepalive .. | .subscribe .. | .unsubscribe .. | .discover .. => fun
    s t =>
    { t with obj := s.obj, out := s.out, kod := s.kod, emulation := s.emulation, vault := s.vault, recorder := s.recorder } = s
  | .reassemblyTimeout .. => fun s t =>
    { t with obj := s.obj, kod := s.kod, recorder := s.recorder } = s ∧ keepsClasses s t [0x04]
  | .read .. | .readRun .. | .writeRun .. => fun s t =>
    { t with obj := s.obj, out := s.out, draw := s.draw, pannier := s.pannier, kod := s.kod, emulation := s.emulation,
             vault := s.vault, recorder := s.recorder, display := s.display } = s
  | .loginBegin .. | .logout .. => fun s t =>
    { t with obj := s.obj, out := s.out, draw := s.draw, kod := s.kod, emulation := s.emulation, vault := s.vault,
             recorder := s.recorder } = s
  | .lockoutEnd .. => fun s t =>
    { t with kod := s.kod } = s
  | .pendingLoginExpiry .. => fun s t =>
    { t with obj := s.obj, kod := s.kod } = s ∧ keepsClasses s t [0x04]
  | .idleTimeout .. => fun s t =>
    { t with obj := s.obj, draw := s.draw, kod := s.kod, recorder := s.recorder } = s ∧ keepsClasses s t [0x04, 0x0F, 0x31]
  | .close .. | .kodEnable .. => fun s t =>
    { t with obj := s.obj, out := s.out, draw := s.draw, kod := s.kod, recorder := s.recorder, flash := s.flash, modes := s.modes
             } = s ∧ keepsClasses s t [0x04, 0x0F, 0x31]
  | .controllerChange .. => fun s t =>
    { t with obj := s.obj, draw := s.draw, kod := s.kod, recorder := s.recorder } = s
  | .subscriptionEvaluation => fun s t =>
    { t with out := s.out, draw := s.draw, kod := s.kod, emulation := s.emulation, vault := s.vault, recorder := s.recorder } =
             s
  | .bulkOpen .. | .bulkFinish .. | .bulkCommit .. | .bulkAbort .. | .rejectTrial .. => fun s t =>
    { t with obj := s.obj, out := s.out, draw := s.draw, kod := s.kod, recorder := s.recorder, flash := s.flash, modes := s.modes
             } = s ∧ keepsClasses s t [0x0F, 0x31]
  | .bulkData .. | .bulkOffset .. => fun s t =>
    { t with obj := s.obj, out := s.out, draw := s.draw, kod := s.kod, recorder := s.recorder, flash := s.flash, modes := s.modes
             } = s ∧ keepsClasses s t [0x0F]
  | .stagingFlush .. => fun s t =>
    { t with obj := s.obj, kod := s.kod } = s ∧ keepsClasses s t [0x0F]
  | .powerFailDecision | .journalLatch => fun s t =>
    t.variant = s.variant ∧ t.pending = s.pending ∧ t.linkA = s.linkA ∧ t.linkB = s.linkB ∧ t.pulses = s.pulses ∧
    t.beacon = s.beacon ∧ t.tandemAt = s.tandemAt ∧ t.tag = s.tag ∧ t.sealFilter = s.sealFilter
  | .boot .. => fun s t =>
    t.variant = s.variant ∧ t.pending = s.pending ∧ t.linkA = s.linkA ∧ t.linkB = s.linkB ∧ t.groups = s.groups ∧
    t.pulses = s.pulses ∧ t.beacon = s.beacon ∧ t.tandemAt = s.tandemAt ∧ t.tag = s.tag ∧ t.sealFilter = s.sealFilter
  | .powerFailResume => fun s t =>
    { t with obj := s.obj, draw := s.draw, pf := s.pf, recorder := s.recorder, display := s.display, flash := s.flash } = s
  | .firmwareRestart => fun s t =>
    { t with obj := s.obj, draw := s.draw, spokes := s.spokes, slac := s.slac, lease := s.lease, vault := s.vault,
             recorder := s.recorder, display := s.display, flash := s.flash, modes := s.modes } = s
  | .updateRequest .. => fun s t =>
    { t with obj := s.obj, out := s.out, draw := s.draw, kod := s.kod, recorder := s.recorder, display := s.display,
             flash := s.flash, modes := s.modes } = s
  | .displayAdmission .. | .powerGoodTimeout => fun s t =>
    { t with obj := s.obj, draw := s.draw, recorder := s.recorder, display := s.display } = s
  | .panelFrame .. | .powerGood .. => fun s t =>
    { t with obj := s.obj, out := s.out, draw := s.draw, recorder := s.recorder, display := s.display } = s
  | .displayIdle => fun s t =>
    { t with obj := s.obj, display := s.display } = s
  | .panelTemperatureRead .. => fun s t =>
    { t with obj := s.obj, display := s.display } = s ∧ keepsClasses s t [0x24]
  | .clearCrack .. => fun s t =>
    { t with obj := s.obj, out := s.out, draw := s.draw, kod := s.kod, recorder := s.recorder, flash := s.flash, modes := s.modes
             } = s
  | .drawData .. => fun s t =>
    { t with obj := s.obj, out := s.out, draw := s.draw, kod := s.kod, recorder := s.recorder, display := s.display,
             flash := s.flash, modes := s.modes } = s ∧ keepsClasses s t [0x24]
  | .flashOperationComplete .. => fun s t =>
    { t with obj := s.obj, out := s.out, draw := s.draw, kod := s.kod, pf := s.pf, emulation := s.emulation, vault := s.vault,
             recorder := s.recorder, flash := s.flash } = s
  | .imageVerification .. => fun s t =>
    { t with obj := s.obj, draw := s.draw, kod := s.kod, chans := s.chans, aerials := s.aerials, recorder := s.recorder,
             flash := s.flash } = s
  | .commitEffect .. => fun s t =>
    { t with obj := s.obj, draw := s.draw, plan := s.plan, pannier := s.pannier, kod := s.kod, groups := s.groups, chans := s.chans,
             spokes := s.spokes, billing := s.billing, switches := s.switches, peers := s.peers, chainline := s.chainline,
             aerials := s.aerials, recorder := s.recorder, flash := s.flash, modes := s.modes } = s
  | .trialWindowEnd => fun s t =>
    { t with obj := s.obj, recorder := s.recorder, flash := s.flash, modes := s.modes } = s ∧ keepsClasses s t [0x0F, 0x31]
  | .confirm .. => fun s t =>
    { t with obj := s.obj, out := s.out, draw := s.draw, kod := s.kod, recorder := s.recorder, flash := s.flash, modes := s.modes
             } = s ∧ keepsClasses s t [0x0F, 0x28, 0x31]
  | .selfConfirmation => fun s t =>
    { t with obj := s.obj, draw := s.draw, recorder := s.recorder, flash := s.flash } = s ∧ keepsClasses s t [0x0F, 0x28,
             0x31]
  | .knownEventExit => fun s t =>
    { t with modes := s.modes } = s
  | .wake .. => fun s t =>
    { t with obj := s.obj, recorder := s.recorder, modes := s.modes } = s ∧ keepsClasses s t [0x01]
  | .workstand .. => fun s t =>
    { t with obj := s.obj, out := s.out, draw := s.draw, kod := s.kod, recorder := s.recorder, flash := s.flash, modes := s.modes
             } = s ∧ keepsClasses s t [0x01]
  | .restart .. => fun s t =>
    { t with out := s.out, draw := s.draw, kod := s.kod, recorder := s.recorder, flash := s.flash, modes := s.modes } = s
  | .commandedRestart | .softwareRestart | .controlCoreWatchdog .. => fun s t =>
    { t with obj := s.obj, draw := s.draw, ports := s.ports, plan := s.plan, pannier := s.pannier, dma := s.dma, kod := s.kod,
             chans := s.chans, spokes := s.spokes, billing := s.billing, slac := s.slac, switches := s.switches,
             lease := s.lease, peers := s.peers, chainline := s.chainline, frontEnds := s.frontEnds, aerials := s.aerials,
             emulation := s.emulation, keypad := s.keypad, vault := s.vault, recorder := s.recorder, display := s.display,
             flash := s.flash, modes := s.modes } = s
  | .bistPassDue .. => fun s t =>
    { t with obj := s.obj, bist := s.bist } = s ∧ keepsClasses s t [0x38]
  | .adcTest .. => fun s t =>
    { t with bist := s.bist } = s
  | .adcTestEnd => fun s t =>
    { t with obj := s.obj, chans := s.chans, recorder := s.recorder, bist := s.bist } = s
  | .programFuses .. => fun s t =>
    { t with obj := s.obj, out := s.out, draw := s.draw, kod := s.kod, recorder := s.recorder, flash := s.flash, modes := s.modes,
             bist := s.bist } = s ∧ keepsClasses s t [0x38]
  | .echoRequest .. | .neighbourDiscovery .. | .arpRequest .. => fun s t =>
    { t with out := s.out } = s
  | _ => fun _ _ => True

end Sys2Proof.Machine
end

