-- ==== Sys2Proof/Certificates/Slice0/Obligations.lean ====
section
/-! DEFINITION. The statements for the provers. Each says where its rows complete (the conclusion is the next state that exec
answers) and what they leave. Rule numbers are those of spec/. -/

open Sys2Proof Sys2Proof.Machine

/-- R7, R28: the step takes the command at the front of the queue and runs it with the queue's rest (the queue is the model's
own, log entry 4); whatever the command and the state, it completes: no command faults and none is refused. -/
def Obligations.StepRunsFront : Prop :=
  (∀ (c : Instr) (s : State) (rest : List Instr), step { s with pending := c :: rest } = exec c { s with pending := rest }) ∧
  (∀ s : State, s.pending = [] → step s = .next s) ∧
  ∀ (c : Instr) (s : State), ∃ t, exec c s = .next t

/-- R13, R104, R224, R299, R306, R314: what a power-on reset leaves: the stores in their canonical form, no command waiting,
no plan, no session, every sequencer in run state 1, every spoke in fault with the causes of functions 2 and 3. -/
def Obligations.ResetLeaves : Prop :=
  Memory.wf State.reset ∧ State.reset.pending = [] ∧ State.reset.out = [] ∧ State.reset.pannier.mem = [] ∧
  (∀ sp, sp < 24 → State.reset.safety sp = 1 ∧ State.reset.causes sp = 12 ∧ State.reset.gateState sp = 0 ∧
    State.reset.runState sp = 1) ∧
  (∀ sid, State.reset.loggedIn sid = false) ∧ State.reset.getN k02PlanState = 0 ∧ State.reset.fnState 2 = 3 ∧
  State.reset.fnState 3 = 3

/-- R7, R49, R53, R63, R104: an object takes the value that is put into it and every other keeps its own; a word written to
Pannier is read back and every other word keeps its value; both stores keep their canonical form. -/
def Obligations.StoreLaws : Prop :=
  (∀ (s : State) (k j : Nat) (v : Int), (s.put k v).get k = v ∧ (j ≠ k → (s.put k v).get j = s.get j) ∧
     (Memory.wf s → Memory.wf (s.put k v)) ∧ (s.clear k).get k = defaultOf s.variant k ∧
     (Memory.wf s → s.put k (s.get k) = s)) ∧
  (∀ (s : State) (a b w : Nat), (s.setWord a w).word a = w % 2 ^ 48 ∧ (b ≠ a → (s.setWord a w).word b = s.word b) ∧
     (Memory.wf s → Memory.wf (s.setWord a w)))

/-- Every command keeps the object store, Pannier and the dormant tag's memory in their canonical form: keys strictly rising
and no entry equal to what an unlisted key reads as (the form is the model's, log entry 11). -/
def Obligations.StepKeepsStores : Prop :=
  ∀ s t : State, Memory.wf s → step s = .next t → Memory.wf t

/-- R28, R81, R82, R90, R101, R103, R105-R107, R434: a row that writes one object changes nothing when the checks of the write
fail, and the status is the whole answer; what the checks require; a setting that is written is stored and waits for its log
entry, or is refused with FULL while the log has no room; a count is cleared. That such a row has its effect at once, at step
5 of the coming boundary, while no WRITE waits is the model's choice (log entry 6). -/
def Obligations.WriteRows : Prop :=
  (∀ (s : State) (sid n m ty : Nat) (v : Int),
     refusesAlone s sid (.manualTrigger sid v) k03ManualTrigger v ∧
     refusesAlone s sid (.release sid v) k03Release v ∧
     refusesAlone s sid (.clearHistogram sid n v) (k29Clear n) v ∧
     refusesAlone s sid (.clearExtreme sid n v) (k2AClear n) v ∧
     refusesAlone s sid (.clearRing sid v) k2BClearRing v ∧
     refusesAlone s sid (.saveNow sid v) k29SaveNow v ∧
     refusesAlone s sid (.freeze sid v) k29Freeze v ∧
     refusesAlone s sid (.functionReset sid n v) (k1DReset n) v ∧
     refusesAlone s sid (.clearLockout sid n v) (k1DClearLockout (16 + n)) v ∧
     refusesAlone s sid (.clearDeviceFault sid v) k1DClearDeviceFault v ∧
     refusesAlone s sid (.clearLatch sid n v) (k1CClearLatch n) v ∧
     refusesAlone s sid (.hxCommand sid n v) (k1CCommand (96 + n)) v ∧
     refusesAlone s sid (.clearWeldLockout sid n v) (k1CClearWeldLockout (4 * n)) v ∧
     refusesAlone s sid (.workstand sid v) k01Workstand v ∧
     refusesAlone s sid (.restart sid v) k01Restart v ∧
     refusesAlone s sid (.programFuses sid v) k38ProgramFuses v ∧
     refusesAlone s sid (.sensorType sid n v) (k08SensorType n) v ∧
     refusesAlone s sid (.spokeGroup sid n v) (k09SpokeGroup (32 + n)) v ∧
     refusesAlone s sid (.groupEnable sid n v) (k09GroupEnable n) v ∧
     refusesAlone s sid (.referenceGroup sid v) k09ReferenceGroup v ∧
     refusesAlone s sid (.snapshotRequest sid v) k0BSnapshotRequest v ∧
     refusesAlone s sid (.clearRegisters sid v) k0BClearRegisters v ∧
     refusesAlone s sid (.pulseOutputChange sid n m v) (key 0x0C n m) v ∧
     refusesAlone s sid (.slew sid v) k05Slew v ∧
     refusesAlone s sid (.step sid v) k05StepTarget v ∧
     refusesAlone s sid (.closeNow sid v) k11CloseNow v ∧
     refusesAlone s sid (.authoriseSpoke sid v) k12AuthoriseSpoke v ∧
     refusesAlone s sid (.stop sid n v) (k12Stop n) v ∧
     refusesAlone s sid (.collect sid n v) (k12Collect n) v ∧
     refusesAlone s sid (.tokenEntry sid v) k13TokenEntry v ∧
     refusesAlone s sid (.pedalRestart sid n v) (k19Restart n) v ∧
     refusesAlone s sid (.broadcast sid v) k19Broadcast v ∧
     refusesAlone s sid (.contractDecision sid n v) (k1AContractDecision n) v ∧
     refusesAlone s sid (.close sid n v) (k04Close (15 + n)) v ∧
     refusesAlone s sid (.kodEnable sid n v) (k04KODEnable n) v ∧
     refusesAlone s sid (.bulkOpen sid n) (k0FCommand n) 1 ∧
     refusesAlone s sid (.bulkFinish sid n) (k0FCommand n) 2 ∧
     refusesAlone s sid (.bulkCommit sid n) (k0FCommand n) 3 ∧
     refusesAlone s sid (.bulkAbort sid n) (k0FCommand n) 4 ∧
     refusesAlone s sid (.bulkData sid n m) (k0FData n) (m : Int) ∧
     refusesAlone s sid (.bulkOffset sid n m) (k0FOffset n) (m : Int) ∧
     refusesAlone s sid (.decision sid n v) (k21Decision (16 + n)) v ∧
     refusesAlone s sid (.bump sid n v) (k28Bump (8 + n)) v ∧
     refusesAlone s sid (.replaceRoot sid v) k28ReplaceRoot v ∧
     refusesAlone s sid (.confirm sid v) k31Confirm v ∧
     refusesAlone s sid (.rejectTrial sid v) k31RejectTrial v ∧
     refusesAlone s sid (.updateRequest sid v) k24UpdateRequest v ∧
     refusesAlone s sid (.drawData sid (some m)) k24DrawData (m : Int) ∧
     refusesItem s sid (.writeSetting sid n ty v) ⟨n, ty, v⟩ ∧
     refusesAlone s sid (.clearCount sid n v) n v ∧
     refusesItem s sid (.calibrationWrite sid n ty v) ⟨n, ty, v⟩) ∧
  (∀ (s : State) (sid : Nat) (it : WItem), (s.loggedIn sid = false → s.checkWrite sid it = stNotLoggedIn) ∧
     (s.loggedIn sid = true → s.object it.addr = none → s.checkWrite sid it = stNoObject) ∧
     (∀ r, s.loggedIn sid = true → s.object it.addr = some r → s.checkWrite sid it = stOk →
       rangeOk r it.value = true ∧ (it.type = ownType ∨ it.type = r.ty.code) ∧ (r.kind = .count → it.value = 0) ∧
       (r.kind = .setting → s.cfgBusy = false) ∧
       (needsSeal r (keyClass it.addr) (keyInst it.addr) (keyMember it.addr) = true → s.sealOpen = true))) ∧
  ((∀ s sid addr ty v, s.writesOpen = true → s.checkWrite sid ⟨addr, ty, v⟩ = stOk →
     s.checkItem sid (s.session sid).last [⟨addr, ty, v⟩] addr v = stOk → isSetting addr = true → s.logFits [(addr, v)] = true →
     exec (.writeSetting sid addr ty v) s = .next
       (((s.effect sid fun u => u.applyItem sid (s.session sid).last addr v).logSetting addr v).answer sid addr stOk).atStep5) ∧
   (∀ s sid addr ty v, s.writesOpen = true → s.checkWrite sid ⟨addr, ty, v⟩ = stOk →
     s.checkItem sid (s.session sid).last [⟨addr, ty, v⟩] addr v = stOk → isSetting addr = true → s.logFits [(addr, v)] = false →
     exec (.writeSetting sid addr ty v) s = .next ((s.noticeOpen 0 0x0F21).answer sid addr stFull).atStep5) ∧
   (∀ s sid addr, s.rowPasses sid addr 0 = true → s.checkItem sid (s.session sid).last [⟨addr, ownType, 0⟩] addr 0 = stOk →
     isSetting addr = false → addr ≠ k13TokenEntry → exec (.clearCount sid addr 0) s = .next
       (((s.effect sid fun u => u.applyItem sid (s.session sid).last addr 0).answer sid addr stOk).atStep5)))

/-- R17, R28, R30: with the supplies present a tick runs the boundary, the tick edge and the frame in this order; at the edge
CC counts by one and wraps at 2^48, each die marks whether its frame is fresh, each safety function latches its two channels;
the frame leaves no upstream frame behind. In Kickstand CC stands still. -/
def Obligations.TickRow : Prop :=
  (∀ i s, s.modes.powered = true → ∃ t,
    exec (.tick i) s = .next t ∧ t = (s.boundary.edge i).frame i ∧ s.boundary.modes.step = 0 ∧
    (s.boundary.edge i).cc = (s.boundary.cc + 1) % 2 ^ 48 ∧
    (s.boundary.edge i).linkA.edgeFresh = s.boundary.linkA.fresh ∧ (s.boundary.edge i).linkA.fresh = false ∧
    (s.boundary.edge i).linkB.edgeFresh = s.boundary.linkB.fresh ∧ (s.boundary.edge i).linkB.fresh = false ∧
    t.linkA.up = none ∧ t.linkA.upLost = false ∧ t.linkB.up = none ∧ t.linkB.upLost = false) ∧
  (∀ i s, s.modes.powered = false → ∃ t, exec (.tick i) s = .next t ∧ t.cc = s.cc ∧ t.obj = s.obj)

/-- R40, R42, R45-R47: the plan switch, overruns, one round of a port, the watchdog. That the bitten owner's own request takes
no part in the round of its bite is the model's choice (log entry 18). -/
def Obligations.CadenceRows : Prop :=
  (∀ s p, s.modes.step ≤ 1 → s.plan.waiting = some p → s.dueNext s.plan.switchTick = true →
    s.getN k03CaptureLength = s.plan.capture → ∃ t, exec .planSwitch s = .next t ∧
      t = { s.runPlan p s.plan.budgets with modes := { s.modes with step := 1 } }) ∧
  (∀ s p, s.modes.step ≤ 1 → s.plan.waiting = some p → s.dueNext s.plan.switchTick = true →
    s.getN k03CaptureLength ≠ s.plan.capture → ∃ t, exec .planSwitch s = .next t ∧
      t = { (s.runPlan p s.plan.budgets).setCapture s.plan.capture with modes := { s.modes with step := 1 } } ∧
      t.getN k03CaptureLength = s.plan.capture ∧ t.pannier.ringSlot = 0) ∧
  (∀ s, 1 < s.modes.step ∨ s.plan.waiting = none → ∃ t, exec .planSwitch s = .next t ∧ t.plan = s.plan ∧ t.obj = s.obj) ∧
  (∀ s e l, e ≤ 8 → ∃ t, exec (.overrun e l) s = .next t ∧ ⟨0x0201 + engineClass e, 0, e⟩ ∈ t.recorder.raised ∧
    t.get (k02OverrunCount (1 + e)) = oneMore s (k02OverrunCount (1 + e))) ∧
  (∀ s port r, 1 ≤ port → port ≤ 3 → (s.port port).grant = none → ∃ t, exec (.derailleurRound port r) s = .next t ∧
    t = ((s.sampleFills r.fills).modPort port fun p =>
      holdRound { p with lock := none, lockCycles := 0 } (r.requests.filter ((s.sampleFills r.fills).mayRequest port)))) ∧
  (∀ s port r q, 1 ≤ port → port ≤ 3 → (s.port port).lock = some q → s.wdogLimit ≤ (s.port port).lockCycles →
    ∃ t u, exec (.watchdogBite port r) s = .next t ∧
      u = ((s.count (k02WatchdogBites (16 + port))).notice 0 0x0207 q).resetEngine q ∧
      t = u.modPort port fun p => holdRound { p with lock := none, lockCycles := 0 }
        ((r.requests.filter (· ≠ q)).filter (u.mayRequest port))) ∧
  (∀ s port r q, 1 ≤ port → port ≤ 3 → (s.port port).lock = some q → s.wdogLimit ≤ (s.port port).lockCycles →
    4 ≤ q → q ≤ 19 → ∃ t, exec (.watchdogBite port r) s = .next t ∧ t.chanState (q - 4) = 6) ∧
  (∀ s : State, (s.resetEngine 29).vault.requests = [] ∧ (s.resetEngine 30).flash.ops = [] ∧
    (s.resetEngine 31).display.queue = [] ∧ (s.resetEngine 22).chainline.queue = [])

/-- R45: the winner of a round is a requester, no requester is older; its age becomes 0, a loser's grows by one up to 15, and
the others keep theirs. -/
def Obligations.RoundWinnerIsOldest : Prop :=
  ∀ (p : Port) (reqs : List Nat) (w : Nat), roundWinner p reqs = some w →
    w ∈ reqs ∧ (∀ r ∈ reqs, p.ages.getD r 0 ≤ p.ages.getD w 0) ∧
    ((holdRound p reqs).grant = some w ∧ (holdRound p reqs).last = w) ∧
    ∀ r, r < p.ages.length → (holdRound p reqs).ages.getD r 0 =
      if r = w then 0 else if r ∈ reqs then min 15 (p.ages.getD r 0 + 1) else p.ages.getD r 0

/-- R17, R19-R25: the frames of the spoke links, the failure of a link and its retraining. The places of die and direction in
the value of a notice, and that a link reads 2 until it is good again, are the model's choice (log entry 12), and so is that a
frame with another header counts as one that failed its CRC (log entry 45). -/
def Obligations.SpokeLinkRows : Prop :=
  (∀ d f s, s.diePresent d = true → s.headerOk d f = true → ∃ t, exec (.upstreamFrame d f (upCrc d f)) s = .next t ∧
    (t.dieLink d).up = some f ∧ (t.dieLink d).upFails = 0 ∧ (t.dieLink d).upLost = false) ∧
  (∀ d f crc s, s.diePresent d = true → crc ≠ upCrc d f ∨ s.headerOk d f = false → ∃ t, exec (.upstreamFrame d f crc) s = .next t ∧
    (t.dieLink d).up = none ∧ (t.dieLink d).upLost = true ∧ (t.dieLink d).upFails = (s.dieLink d).upFails + 1 ∧
    t.recorder.raised.getLast? = some ⟨0x0110, 0, dieNum d * 256⟩) ∧
  (∀ d f s, s.diePresent d = true → exec (.downstreamFrame d f (downCrc d f)) s = .next (s.modDie d fun l =>
    { l with held := f.words, heldHx := if d = Die.a then f.hx else l.heldHx, fresh := true, discarded := false,
             downFails := 0, seen := true, cut := false })) ∧
  (∀ d f crc s, s.diePresent d = true → crc ≠ downCrc d f → ∃ t, exec (.downstreamFrame d f crc) s = .next t ∧
    (t.dieLink d) = { s.dieLink d with discarded := true, fresh := false, downFails := (s.dieLink d).downFails + 1 } ∧
    t.get (kLinkErrors d) = oneMore s (kLinkErrors d) ∧
    t.recorder.raised.getLast? = some ⟨0x0110, 0, dieNum d * 256 + 1⟩) ∧
  (∀ d s, s.diePresent d = true → s.getN (kLinkState d) ≠ 2 → 3 ≤ (s.dieLink d).upFails →
    exec (.spokeLinkFailed d .up) s = .next
      ((((s.put (kLinkState d) 2).deviceFault (dieNum d)).notice 0 0x0111 (dieNum d * 256)).endLease)) ∧
  (∀ d s, s.diePresent d = true → s.getN (kLinkState d) ≠ 2 → 3 ≤ (s.dieLink d).downFails → (s.dieLink d).cut = false →
    exec (.spokeLinkFailed d .down) s = .next
      (((((s.dieCut d).put (kLinkState d) 2).deviceFault (dieNum d)).notice 0 0x0111 (dieNum d * 256 + 1)).endLease)) ∧
  (∀ d s, s.diePresent d = true → s.getN (kLinkState d) = 2 → 3 ≤ (s.dieLink d).downFails → (s.dieLink d).cut = false →
    exec (.spokeLinkFailed d .down) s = .next (s.dieCut d)) ∧
  (∀ d s, s.diePresent d = true → s.getN (kLinkState d) ≠ 1 → exec (.linkRetrained d) s = .next
    ((s.put (kLinkState d) 1).modDie d fun l => { l with upFails := 0, downFails := 0 }))

/-- R57-R59: the capture ring and the spare-bank rotation. -/
def Obligations.PannierRows : Prop :=
  (∀ s, s.getN k03CaptureState = 1 → s.reached s.pannier.ringStop = true →
    exec .postTriggerEnd s = .next (s.put k03CaptureState 2)) ∧
  (∀ s sid, s.rowPasses sid k03ManualTrigger 1 = true →
    exec (.manualTrigger sid 1) s = .next ((s.writeOne sid k03ManualTrigger 1 (applyManualTrigger 1)).atStep5)) ∧
  (∀ s : State, s.getN k03CaptureState = 0 → bit (s.getN k03TriggerMask) 3 = true →
    objects s (applyManualTrigger 1 s) [(k03TriggerCC, s.nextTick), (k03CaptureState, 1)] ∧
    (applyManualTrigger 1 s).pannier.ringStop = (s.nextTick + s.getN k03PostTriggerTime) % 2 ^ 48) ∧
  (∀ s sid, s.rowPasses sid k03Release 1 = true →
    exec (.release sid 1) s = .next ((s.writeOne sid k03Release 1 (applyRelease 1)).atStep5)) ∧
  (∀ s : State, s.getN k03CaptureState = 2 → objects s (applyRelease 1 s) [(k03CaptureState, 0)]) ∧
  (∀ s sp, s.getN k03RotationState = 1 → s.pannier.copied = bankWords → s.pannier.spare = some sp →
    ∃ t, exec .mapSwitch s = .next t ∧
      t.pannier = { s.pannier with map := s.pannier.map.set (s.getN k03RotationBank) sp, spare := none, tested := 0
                                   testing := some (s.pannier.map.getD (s.getN k03RotationBank) 0) } ∧
      { t with obj := s.obj, pannier := s.pannier } = s) ∧
  (∀ s p, s.pannier.testing = some p → s.getN k03RotationState = 2 → 10 * bankWords ≤ s.pannier.tested →
    (s.failingRows 1 p []).2 = true → ∃ t, exec (.newSpare []) s = .next t ∧ t.pannier.spare = some p ∧
      t.pannier.testing = none) ∧
  (∀ s, s.getN k03RotationState = 0 → s.reached s.pannier.dwellEnd = true → s.pannier.spare.isSome = true →
    exec .dwellEnd s = .next { s.put k03RotationState 1 with pannier := { s.pannier with copied := 0 } })

/-- R61-R69: DMA channels and their windows. -/
def Obligations.DmaRows : Prop :=
  (∀ s sid ch, ch < 16 → s.rowPasses sid (k03Control (48 + ch)) 1 = true → s.dmaBusy ch = false →
    exec (.dmaStart sid ch) s = .next ((s.writeOne sid (k03Control (48 + ch)) 1 (applyDmaStart ch)).atStep5)) ∧
  (∀ s sid ch, ch < 16 → s.rowPasses sid (k03Control (48 + ch)) 1 = true → s.dmaBusy ch = true →
    exec (.dmaStart sid ch) s = .next ((s.answer sid (k03Control (48 + ch)) stBusy).atStep5)) ∧
  (∀ (s : State) ch a, a % 4 = 0 → s.regionBase rgDescriptors ≤ a → a < s.regionBase rgDescriptors + s.regionSize rgDescriptors →
    (∀ i, i < 4 → s.pannier.poisoned.contains (a + i) = false) →
    s.dmaCheck ch ((List.range 4).map fun i => s.word (a + i)) = stOk → dPace ((List.range 4).map fun i => s.word (a + i)) = 15 →
    s.dmaLoad ch a = (((s.put (k03CurrentDescriptor (48 + ch)) a).put (k03ChannelState (48 + ch)) 1).modDma ch fun c =>
      { c with desc := (List.range 4).map fun i => s.word (a + i), index := 0, queue := none })) ∧
  (∀ s sid ch, ch < 16 → s.rowPasses sid (k03Control (48 + ch)) 2 = true →
    exec (.dmaAbort sid ch) s = .next ((s.writeOne sid (k03Control (48 + ch)) 2 (applyDmaAbort ch)).atStep5)) ∧
  (∀ (s : State) ch, s.dmaBusy ch = true → dLock (s.dmaChan ch).desc = false → applyDmaAbort ch s = s.dmaStop ch 5) ∧
  (∀ s ch, s.dmaBusy ch = true → dWords (s.dmaChan ch).desc ≤ (s.dmaChan ch).index → dEvt (s.dmaChan ch).desc = true →
    dLast (s.dmaChan ch).desc = true → (s.dmaChan ch).aborting = false →
    exec (.descriptorComplete ch) s = .next ((s.count (k03Completions (48 + ch))).dmaStop ch 3)) ∧
  (∀ s ch, s.dmaBusy ch = true → dWords (s.dmaChan ch).desc ≤ (s.dmaChan ch).index → dEvt (s.dmaChan ch).desc = false →
    dLast (s.dmaChan ch).desc = false → (s.dmaChan ch).aborting = false →
    exec (.descriptorComplete ch) s = .next ((s.modDma ch fun c => { c with queue := none }).dmaLoad ch (dNext (s.dmaChan ch).desc))) ∧
  (∀ s ch fill ended q, (s.dmaChan ch).queue = some q → s.chanState ch = 2 → (s.put (k03Fill (64 + q)) fill).queueResumes q = true →
    exec (.queueResume ch fill ended) s = .next ((s.put (k03Fill (64 + q)) fill).put (k03ChannelState (48 + ch)) 1)) ∧
  (∀ s sid (x : Nat), s.rowPasses sid k03DescriptorWindowData x = true → s.getN k03DescriptorWindowOffset ≤ 16383 →
    exec (.descriptorWindowData sid (some x)) s = .next
      ((s.writeOne sid k03DescriptorWindowData x (applyDescriptorData x)).atStep5)) ∧
  (∀ (s : State) (x : Nat), x < 2 ^ 48 → s.getN k03DescriptorWindowOffset ≤ 16383 → applyDescriptorData x s =
    (s.setWord (s.regionBase rgDescriptors + s.getN k03DescriptorWindowOffset) x).put k03DescriptorWindowOffset
      (s.getN k03DescriptorWindowOffset + 1)) ∧
  (∀ s sid, s.checkRead sid k03DescriptorWindowData = stOk → s.getN k03DescriptorWindowOffset ≤ 16383 →
    s.pannier.poisoned.contains (s.regionBase rgDescriptors + s.getN k03DescriptorWindowOffset) = false →
    exec (.descriptorWindowData sid none) s = .next
      ((s.put k03DescriptorWindowOffset (s.getN k03DescriptorWindowOffset + 1)).send
        (.dataWord sid k03DescriptorWindowData (s.word (s.regionBase rgDescriptors + s.getN k03DescriptorWindowOffset))))) ∧
  (∀ s sid, s.checkRead sid k03HostAreaData = stOk → s.getN k03HostAreaOffset ≤ 32767 →
    s.pannier.poisoned.contains (s.regionBase rgHostArea + s.getN k03HostAreaOffset) = false →
    exec (.hostAreaData sid) s = .next
      ((s.put k03HostAreaOffset (s.getN k03HostAreaOffset + 1)).send
        (.dataWord sid k03HostAreaData (s.word (s.regionBase rgHostArea + s.getN k03HostAreaOffset)))))

/-- R404, R405, R410-R412: definitions, freezing, clearing and saving of the recorder. -/
def Obligations.RecorderRows : Prop :=
  (∀ s sid i (v : Int), 256 ≤ i → i ≤ 1023 → s.rowPasses sid (key 0x29 i 38) v = true → s.checkSource v = stOk →
    exec (.histogramDefinition sid (key 0x29 i 38) v) s = .next
      ((s.writeOne sid (key 0x29 i 38) v fun u => if u.get (key 0x29 i 38) = v then u else (u.put (key 0x29 i 38) v).clearHist sid i).atStep5)) ∧
  (∀ s sid (v : Int), s.rowPasses sid k29Freeze v = true → v ≠ 0 → s.recorder.freezeEnd = none → s.recorder.freezeLast = none →
    exec (.freeze sid v) s = .next ((s.writeOne sid k29Freeze v fun u =>
      ({ u with recorder := { u.recorder with freezeEnd := some (u.after (msTicks v.toNat)) } }).each
        (metrologyHists u.variant) fun t h => t.put (k29Frozen h) 1).atStep5)) ∧
  (∀ s e, s.recorder.freezeEnd = some e → s.reached e = true → ∃ t, exec .freezeEnd s = .next t ∧
    t.recorder.freezeEnd = none ∧ t.recorder.held = [] ∧ t.recorder.freezeLast = some s.cc) ∧
  (∀ s sid h, s.rowPasses sid (k29Clear h) 1 = true → (metrologyHist h = false ∨ s.recorder.freezeEnd = none) →
    exec (.clearHistogram sid h 1) s = .next ((s.writeOne sid (k29Clear h) 1 fun u => u.clearHist sid h).atStep5)) ∧
  (∀ (s : State) sid h m, m < 34 → (s.clearHist sid h).get (key 0x29 h m) = 0) ∧
  (∀ s sid x, s.rowPasses sid (k2AClear x) 1 = true →
    exec (.clearExtreme sid x 1) s = .next ((s.writeOne sid (k2AClear x) 1 fun u => u.clearPair sid x).atStep5)) ∧
  (∀ (s : State) sid x, (s.clearPair sid x).get (k2AMinimum x) = 0 ∧ (s.clearPair sid x).get (k2AMaximum x) = 0 ∧
    (s.clearPair sid x).get (k2AFlags x) = 1) ∧
  (∀ s sid, s.rowPasses sid k2BClearRing 1 = true →
    exec (.clearRing sid 1) s = .next ((s.writeOne sid k2BClearRing 1 fun u =>
      ({ u with recorder := { u.recorder with clearing := u.recorder.clearing ++ [sid] } }).recorderSave).atStep5)) ∧
  (∀ s sid, s.rowPasses sid k29SaveNow 1 = true →
    exec (.saveNow sid 1) s = .next ((s.writeOne sid k29SaveNow 1 State.recorderSave).atStep5)) ∧
  (∀ s slot, s.recorder.saving = some slot → s.recorder.saveDue = false → s.firmwareUp = true → ∃ t, exec (.saveComplete true) s = .next t ∧
    t.get k29SaveCount = ((s.getN k29SaveCount + 1) % 2 ^ 32 : Nat) ∧ t.get k29LastSaveTime = s.stamp ∧ t.recorder.saving = none ∧
    t.recorder.saveSlot = 1 - slot) ∧
  (∀ s slot, s.recorder.saving = some slot → s.firmwareUp = true → ∃ t, exec (.saveComplete false) s = .next t ∧
    t.recorder.saving = some (1 - slot) ∧ t.get k29SaveFailures = oneMore s k29SaveFailures)

/-- R299, R302-R306: the rows of the two-channel safety functions; a demanded function sets its cause bit on every spoke of
its zone, which leaves safety state 0. -/
def Obligations.SafetyFunctionRows : Prop :=
  (∀ s f, f < 4 → s.demands f = true → s.fnState f = 0 → exec (.functionDemand f) s = .next
    ((((s.put (k1DFunctionState f) 1).count (k1DDemands f)).notice 0 0x0A01 f).zoneCause f)) ∧
  (∀ s f, f < 4 → 8 ≤ (s.fn f).clearRun → s.fnState f = 1 → s.getN (k1DRestartMode f) ≠ 1 →
    exec (.functionClear f) s = .next
      (((s.put (k1DFunctionState f) 0).modFn f fun x => { x with resetOk := false }).each
        s.spokeList fun t sp => t.setCause sp f false)) ∧
  (∀ s f, f < 4 → 8 ≤ (s.fn f).clearRun → s.fnState f = 1 → s.getN (k1DRestartMode f) = 1 → (s.fn f).resetOk = false →
    exec (.functionClear f) s = .next (s.put (k1DFunctionState f) 4)) ∧
  (∀ s sid f, s.rowPasses sid (k1DReset f) 1 = true → (s.fn f).a = true → (s.fn f).b = true →
    exec (.functionReset sid f 1) s = .next ((s.writeOne sid (k1DReset f) 1 fun u => u.modFn f fun x => { x with resetOk := true }).atStep5)) ∧
  (∀ s sid f, s.rowPasses sid (k1DReset f) 1 = true → ((s.fn f).a && (s.fn f).b) = false →
    exec (.functionReset sid f 1) s = .next ((s.answer sid (k1DReset f) stNotNow).atStep5)) ∧
  (∀ s f, f < 4 → s.fnState f ≠ 2 → msTicks (s.getN (k1DDiscrepancyTime f)) < (s.fn f).disagree →
    exec (.discrepancy f) s = .next (((s.put (k1DFunctionState f) 2).noticeOpen 0 0x0A02).zoneCause f)) ∧
  (∀ (s : State) (f sp : Nat), f < 4 → sp < s.spokeCount → bit (s.getN (k1DZone f)) sp = true →
     bit ((s.zoneCause f).causes sp) f = true ∧ (s.zoneCause f).safety sp ≠ 0)

/-- R299, R307-R311, R313: residual trips, cross-checks, earth faults and the clear of a device fault. -/
def Obligations.SupervisionRows : Prop :=
  (∀ s sp pt, sp < s.spokeCount → pt < 5 → s.pointDue sp pt = true → (s.resid sp).tripped.getD pt false = false →
    ∃ t, exec (.residualTrip sp pt) s = .next t ∧
      t = (s.inFrame sp fun u => ((((u.modResidual sp fun r => { r with tripped := r.tripped.set pt true }).setCause sp 8
        true).notice 0 0x0A10 (sp * 256 + pt)).count (k1DResidualTrips (16 + sp))).trigger 1) ∧
      bit (t.causes sp) 8 = true ∧ t.get (k1DResidualTrips (16 + sp)) = oneMore s (k1DResidualTrips (16 + sp)) ∧
      ⟨0x0A10, 0, sp * 256 + pt⟩ ∈ t.recorder.raised) ∧
  (∀ s sp pt, s.pointDue sp pt = false ∨ (s.resid sp).tripped.getD pt false = true → exec (.residualTrip sp pt) s = .next s) ∧
  (∀ s sp, 8 ≤ (s.spoke sp).meter.crossRun → ∃ t, exec (.crossCheckFailure sp) s = .next t ∧
    t = (s.inFrame sp fun u => (((u.modMeter sp fun m => { m with crossRun := 0 }).setCause sp 9 true).count
      (k1DCrossCheckFailures (16 + sp))).notice 0 0x0A11 sp) ∧
    bit (t.causes sp) 9 = true ∧ t.get (k1DCrossCheckFailures (16 + sp)) = oneMore s (k1DCrossCheckFailures (16 + sp)) ∧
    ⟨0x0A11, 0, sp⟩ ∈ t.recorder.raised) ∧
  (∀ s sp, (s.spoke sp).meter.crossRun < 8 → exec (.crossCheckFailure sp) s = .next s) ∧
  (∀ s g, s.groupOn g = true → (s.group g).earth = false → 8 ≤ (s.group g).earthHigh → ∃ t, exec (.earthFault g) s = .next t ∧
    t = ((s.modGroup g fun x => { x with earth := true }).notice 0 0x0A13 g).each (s.groupSpokes g)
      (fun t sp => t.inFrame sp fun t => t.setCause sp 5 true) ∧
    (∀ sp ∈ s.groupSpokes g, bit (t.causes sp) 5 = true) ∧ ⟨0x0A13, 0, g⟩ ∈ t.recorder.raised) ∧
  (∀ s g, s.groupOn g = false ∨ (s.group g).earth = true ∨ (s.group g).earthHigh < 8 → exec (.earthFault g) s = .next s) ∧
  (∀ s g, (s.group g).earth = true → 8 ≤ (s.group g).earthLow → ∃ t, exec (.earthClear g) s = .next t ∧
    t = (s.modGroup g fun x => { x with earth := false }).each (s.groupSpokes g)
      (fun t sp => t.inFrame sp fun t => t.setCause sp 5 false) ∧
    ∀ sp ∈ s.groupSpokes g, bit (t.causes sp) 5 = false) ∧
  (∀ s g, (s.group g).earth = false ∨ (s.group g).earthLow < 8 → exec (.earthClear g) s = .next s) ∧
  (∀ s sid, s.rowPasses sid k1DClearDeviceFault 1 = true → s.getN k00LinkAState ≠ 2 → s.getN k00LinkBState ≠ 2 →
    exec (.clearDeviceFault sid 1) s = .next ((s.writeOne sid k1DClearDeviceFault 1 fun u =>
      ((u.put k1DDeviceFaultCauses 0).noticeOpen sid 0x0A21).each u.spokeList fun t sp =>
        t.inFrame sp fun t => t.setCause sp 6 false).atStep5))

/-- R301: an accepted write of 1 to the lockout-clear member of a spoke, which takes the Operator role, is answered OK, clears
bits 8-10 of the spoke's cause word and no other bit, and records notice 0A22h with the spoke as its value; while a residual
timer of the spoke stands above 0 the write is refused with NOT_NOW. -/
def Obligations.LockoutIsCleared : Prop :=
  (∀ sp, sp < 24 → ∃ r, findRow 0x1D (16 + sp) 7 = some r ∧ writeAccess r 0x1D (16 + sp) 7 = .operator) ∧
  (∀ s sid sp, sp < s.spokeCount → s.rowPasses sid (k1DClearLockout (16 + sp)) 1 = true →
    (∀ x ∈ (s.resid sp).timers, x = 0) → ∃ t, exec (.clearLockout sid sp 1) s = .next t ∧
      t.out = s.out ++ [.writeStatus sid (k1DClearLockout (16 + sp)) stOk] ∧
      (∀ b, 8 ≤ b → b ≤ 10 → bit (t.causes sp) b = false) ∧
      (∀ b, b < 8 ∨ 10 < b → bit (t.causes sp) b = bit (s.causes sp) b) ∧
      ∃ i, ⟨0x0A22, i, sp⟩ ∈ t.recorder.raised) ∧
  (∀ s sid sp x, s.rowPasses sid (k1DClearLockout (16 + sp)) 1 = true → x ∈ (s.resid sp).timers → 0 < x →
    exec (.clearLockout sid sp 1) s = .next ((s.answer sid (k1DClearLockout (16 + sp)) 0x08).atStep5))

/-- R310, R312, R323-R325: the test winding, the end of the soft grace, the hold lease. -/
def Obligations.GateRows : Prop :=
  (∀ s sp, sp < s.spokeCount → s.gateState sp = 1 → (s.gate sp).armed = true → s.blockers sp = 0 → s.leaseRuns = false →
    (s.gate sp).stage = .none → (s.gate sp).passed = false → exec (.testWinding sp) s = .next
      ((s.modGate sp fun g => { g with stage := .running s.nextTick, samples := [] }).put (k1DTestWindingResult (16 + sp)) 0)) ∧
  (∀ s sp start, (s.gate sp).stage = .running start → s.reached start = true → 120 < s.since start → s.twPasses sp start = true →
    exec (.testWindingResult sp) s = .next
      ((s.modGate sp fun g => { g with stage := .none, samples := [], passed := true }).put (k1DTestWindingResult (16 + sp)) 1)) ∧
  (∀ s sp start, (s.gate sp).stage = .running start → s.reached start = true → 120 < s.since start → s.twPasses sp start = false →
    exec (.testWindingResult sp) s = .next
      ((s.modGate sp fun g => { g with stage := .none, samples := [], passed := false }).inFrame sp fun u =>
        ((u.put (k1DTestWindingResult (16 + sp)) 2).setCause sp 10 true).notice 0 0x0A12 sp)) ∧
  (∀ s sp t0, t0 ∈ (s.gate sp).graces → s.gateState sp = 2 → s.dueNext ((t0 + 24000) % ccMod) = true →
    exec (.softGraceEnd sp) s = .next (s.openContactsAt sp (s.droppedState sp) s.nextTick)) ∧
  (∀ s, s.leaseRuns = true → s.lease.fwUp = false → exec .leaseReclaim s = .next
    (((({ s with lease := { s.lease with startAt := none } } : State).put k1DLeaseState 0).resumePedals 2).noticeOpen 0 0x0A41)) ∧
  (∀ s, s.leaseRuns = true → s.dueNext s.lease.endAt = true → ∃ t, exec .leaseExpiry s = .next t ∧
    t.lease = { s.lease with startAt := none, unreclaimed := true } ∧ t.getN k1DLeaseState = 3 ∧
    ∀ sp, sp < s.spokeCount → sp < s.spokes.length → (t.pedal sp).pmode = 1 ∧ (t.pedal sp).request = false)

/-- R232, R312: the gate closes the contacts only when nothing is missing and a passed test serves the closure; closed
contacts open in the evaluation that finds a hard condition missing (what the diode status counts for: log entry 53). -/
def Obligations.GateDecides : Prop :=
  (∀ (s : State) sp, s.gateState sp ≠ 2 → (s.evalGate sp).gateState sp = 2 →
    ((s.twSample sp).readRequest sp).blockers sp = 0 ∧ (((s.twSample sp).readRequest sp).gate sp).passed = true ∧
      (((s.twSample sp).readRequest sp).gate sp).armed = true ∧ s.leaseRuns = false) ∧
  (∀ (s : State) sp, s.gateState sp = 2 → ((s.twSample sp).readRequest sp).hardOk sp = false → (s.evalGate sp).gateState sp ≠ 2)

/-- R283-R289, R297: under-voltage, restarts, the thermal latch, clears, the off-pulse, the hub channels. -/
def Obligations.SwitchRows : Prop :=
  (∀ s b n, b < 4 → s.getN (k1CBankState b) = 0 → n ∈ s.switchList → bankOf n = b → n < s.switches.length → ∃ t,
    exec (.underVoltage b) s = .next t ∧ (t.switch n).applied = 0 ∧ (t.switch n).uvOff = true ∧
    ((s.switch n).tlatch = true → (t.switch n).uvSeen = (s.switch n).uvSeen) ∧
    ((s.switch n).tlatch = false → (t.switch n).uvSeen = true ∧
      ((s.switch n).uvSeen = false → s.cmd n ≠ 0 → ⟨0x0901, 0, n⟩ ∈ t.recorder.raised))) ∧
  (∀ s n, s.hasSwitch n = true → s.restartDue n = true →
    7 ≤ ((s.switch n).restarts.filter fun t => s.since t < 480000).length →
    exec (.channelRestart n) s = .next
      (((s.modSwitch n fun w => { w with uvSeen := false }).latchSwitch n 5).noticeOpen 0 0x0903)) ∧
  (∀ s n, s.hasSwitch n = true → s.restartDue n = true →
    ((s.switch n).restarts.filter fun t => s.since t < 480000).length < 7 → ∃ t, exec (.channelRestart n) s = .next t ∧
      (∃ u : State, t = u.noticeOpen 0 0x0902) ∧ t.getN (k1CLatchCause n) = s.getN (k1CLatchCause n) ∧
      t.getN (k1CRestartsAvailable n) = 6 - ((s.switch n).restarts.filter fun x => s.since x < 480000).length ∧
      (s.driveOff = false →
        (t.dieLink (chDie n)).outgoing = (s.dieLink (chDie n)).outgoing.map fun f => frameWith f n (s.cmd n))) ∧
  (∀ s n, s.hasSwitch n = true → (s.switch n).tlatch = false → exec (.thermalLatch n) s = .next
    ((((s.notUv n).modSwitch n fun w => { w with tlatch := true, applied := 0, driveRun := 0 }).latchSwitch n 2).noticeOpen 0 0x0911)) ∧
  (∀ s sid n, s.rowPasses sid (k1CClearLatch n) 1 = true → (s.latchCause n = 2 → s.flag (k1CHot n) = false) →
    (s.latchCause n = 3 → s.rbOut n = false) →
    exec (.clearLatch sid n 1) s = .next ((s.writeOne sid (k1CClearLatch n) 1 (applyClearLatch n 1)).atStep5)) ∧
  (∀ s sid n, s.rowPasses sid (k1CClearLatch n) 1 = true → s.latchCause n = 2 → s.flag (k1CHot n) = true →
    exec (.clearLatch sid n 1) s = .next ((s.answer sid (k1CClearLatch n) stNotNow).atStep5)) ∧
  (∀ s sid n, s.rowPasses sid (k1CClearLatch n) 1 = true → s.latchCause n = 3 → s.rbOut n = true →
    exec (.clearLatch sid n 1) s = .next ((s.answer sid (k1CClearLatch n) stNotNow).atStep5)) ∧
  (∀ s n, s.hasSwitch n = true → (s.switch n).pulseReq = true → s.cc % 8000 = pulseOffset n → s.pulseApplied n = true →
    exec (.offPulse n) s = .next (s.modSwitch n fun w => { w with pulseAt := some s.cc, lastPulse := some s.cc, pulseFirst := false, pulseReq := false })) ∧
  (∀ s sid h v, s.rowPasses sid (k1CCommand (96 + h)) v = true → v = 0 ∨ v = 1 → exec (.hxCommand sid h v) s = .next
    ((s.writeOne sid (k1CCommand (96 + h)) v fun u => (u.commandAt (96 + h) v.toNat u.nextTick).showSwitch (96 + h)).atStep5))

/-- R293-R296: the lock strokes and the weld check. -/
def Obligations.LockRows : Prop :=
  (∀ s sp sink start, (s.spoke sp).lock.phase = .stroke sink start →
    s.dueNext ((start + 8 * s.getN (k1CStrokeTime (4 * sp + 2))) % ccMod) = true → exec (.strokeEnd sp) s = .next
      ((s.modLock sp fun l => { l with phase := .brake sink s.nextTick }).commandAt (4 * sp + 2) 4 s.nextTick)) ∧
  (∀ s sp sink start, (s.spoke sp).lock.phase = .brake sink start → s.reached ((start + 81) % ccMod) = true → 8 ≤ (s.spoke sp).lock.received →
    (s.spoke sp).lock.good = (s.spoke sp).lock.received → exec (.brakeEnd sp) s = .next
      (((s.modLock sp fun l => { l with phase := .idle, endedAt := some s.cc, lostRun := 0 }).command (4 * sp + 2) 0).inFrame sp
        fun u => u.setLockState sp (if sink = 1 then 1 else 0))) ∧
  (∀ s sp sink start, (s.spoke sp).lock.phase = .brake sink start → s.reached ((start + 81) % ccMod) = true → (s.spoke sp).lock.received < 8 →
    exec (.brakeEnd sp) s = .next
      ((((s.modLock sp fun l => { l with phase := .idle, endedAt := some s.cc, lostRun := 0 }).command (4 * sp + 2) 0).inFrame sp
        fun u => u.setLockState sp 3).notice 0 0x0950 (4 * sp + 2))) ∧
  (∀ s sp, sp < s.spokeCount → (s.switch (4 * sp + 2)).ovt = true → s.latchCause (4 * sp + 2) ≠ 6 →
    exec (.lkOvertimeStop sp) s = .next ((s.latchSwitch (4 * sp + 2) 6).noticeOpen 0 0x0952)) ∧
  (∀ s sp w, (s.spoke sp).gate.weldFrom = some w → sp < s.spokeCount → s.getN (k1CWeldCheck (4 * sp)) = 1 →
    801 ≤ s.since w → s.reached w = true → exec (.weldLockout sp) s = .next
      (((((s.put (k1CWeldCheck (4 * sp)) 2).modGate sp fun g => { g with weldFrom := none }).inFrame sp fun u =>
        (u.setCause sp 11 true).setGate sp 5).notice 0 0x0940 sp).count k1CWeldedLockouts)) ∧
  (∀ s sid sp, s.rowPasses sid (k1CClearWeldLockout (4 * sp)) 1 = true → s.getN (k18WeldSenseState sp) = 0 →
    exec (.clearWeldLockout sid sp 1) s = .next ((s.writeOne sid (k1CClearWeldLockout (4 * sp)) 1 (applyClearWeld sid sp 1)).atStep5)) ∧
  (∀ (s : State) sid sp, s.getN (k1CWeldCheck (4 * sp)) = 2 → applyClearWeld sid sp 1 s =
    ((s.put (k1CWeldCheck (4 * sp)) 0).inFrame sp fun u => u.setCause sp 11 false).noticeOpen sid 0x0941)

/-- R261, R268-R271, R348: the allocation period, the stages of the guard, caps and the rebound delay. -/
def Obligations.PelotonRows : Prop :=
  (∀ s, s.nextTick % 800 = 0 → s.peloton.abandoned = false → ∃ t, exec (.allocationPeriod true) s = .next t ∧
    t = s.publishPeriod ∧ t.get k1BLastPeriod = s.nextTick) ∧
  (∀ s f, s.nextTick % 800 = 0 → f = false ∨ s.peloton.abandoned = true → exec (.allocationPeriod f) s = .next
    ((s.count k1BLateComputations).noticeOpen 0 0x0803).raiseTrims.showGuard) ∧
  (∀ s c ph, c ≤ 8 → ph < 3 → 40000 ≤ (s.guard c ph).above → (s.guard c ph).one = false → exec (.guardStage1 c ph) s = .next
    ((s.modGuard c ph fun g => { g with stage := max 1 g.stage, one := true }).notice 0 0x0810 (c * 256 + ph)).showGuard) ∧
  (∀ s c ph, c ≤ 8 → ph < 3 → 80000 ≤ (s.guard c ph).above →
    (s.guard c ph).lastStop = 0 ∨ (s.guard c ph).lastStop + s.lagTicks ≤ (s.guard c ph).above →
    s.guardChoice c ph s.peloActive = none → exec (.guardStage2 c ph) s = .next
      (s.modGuard c ph fun g => { g with stage := max 2 g.stage, lastStop := (s.guard c ph).above }).showGuard) ∧
  (∀ s c ph sp, c ≤ 8 → ph < 3 → 80000 ≤ (s.guard c ph).above →
    (s.guard c ph).lastStop = 0 ∨ (s.guard c ph).lastStop + s.lagTicks ≤ (s.guard c ph).above →
    s.guardChoice c ph s.peloActive = some sp → ∃ t u, exec (.guardStage2 c ph) s = .next t ∧
      u = (s.modGuard c ph fun g => { g with stage := max 2 g.stage, lastStop := (s.guard c ph).above }).showGuard ∧
      t = ((match s.openSlot sp with | some j => applyStop j 1 u | none => u).notice 0 0x0811 sp).guardMark c sp) ∧
  (∀ (s : State) c ph sp, 8000 ≤ (s.guard c ph).above125 → s.guardChoice c ph (fun x => s.gateState x = 2) = some sp →
    s.guardOpens c ph =
      (s.modGuard c ph fun g => { g with above125 := 0, fired := true, opened := some sp }).openContacts sp 3) ∧
  (∀ s c ph sp, c ≤ 8 → ph < 3 → (s.guard c ph).fired = true → (s.guard c ph).opened = some sp →
    exec (.guardStage3 c ph) s = .next
      ((((s.modGuard c ph fun g => { g with stage := 3, fired := false, opened := none }).showGuard).notice 0 0x0812
        sp).guardMark c sp)) ∧
  (∀ s c ph, c ≤ 8 → ph < 3 → (s.guard c ph).fired = true → (s.guard c ph).opened = none →
    exec (.guardStage3 c ph) s = .next
      ((s.modGuard c ph fun g => { g with stage := 3, fired := false, opened := none }).showGuard)) ∧
  (∀ s c ph, c ≤ 8 → ph < 3 → 480000 ≤ (s.guard c ph).below → (s.guard c ph).stage ≠ 0 ∨ (s.guard c ph).trim ≠ 0 → exec (.guardRecovery c ph) s = .next
    ((s.modGuard c ph fun g => { g with stage := 0, trim := 0, below := 0, lastStop := 0, one := false }).notice 0 0x0813
      (c * 256 + ph)).showGuard) ∧
  (∀ s i, i ∈ capSlots → s.getN (k1BCapState i) = 1 → (s.chainline.events.find? fun e => e.2 = ChlEvent.capStart i) = none →
    s.getN (k1BStart i) ≤ s.wallNext → ∃ t, exec (.capActivation i) s = .next t ∧
      objects s t [(k1BCapState i, 2), (k1BStart i, s.stampNext)] ∧ noticed s t ⟨0x0820, 0, s.getN (k1BCapIdentity i)⟩) ∧
  (∀ s i, i ∈ capSlots → s.getN (k1BCapState i) ≠ 0 → s.capOver i = true → exec (.capEnd i) s = .next
    (((s.notice 0 0x0821 (s.getN (k1BCapIdentity i))).freeCap i).rebound)) ∧
  (∀ s e, s.peloton.reboundEnd = some e → s.dueNext e = true → exec .reboundDelayEnd s = .next
    { s with peloton := { s.peloton with reboundEnd := none } })

/-- R204, R205: a current limit of 6 A or more is encoded into the largest duty that decodes to at most that limit, a limit
below is not encoded; a pilot period starts with the held command at the ticks with CC mod 8 = s mod 8. -/
def Obligations.PilotRows : Prop :=
  (∀ i : Int, i < 6000 → encodeDuty i = none) ∧
  (∀ i : Int, 6000 ≤ i → ∃ d, encodeDuty i = some d ∧ 200 ≤ d ∧ d ≤ 1920 ∧ 6000 ≤ decodedCurrent d ∧ (decodedCurrent d : Int) ≤ i ∧
    ∀ e, 160 ≤ e → e ≤ 1920 → (decodedCurrent e : Int) ≤ i → e ≤ d) ∧
  (∀ s sp, sp < s.spokeCount → s.cc % 8 = sp % 8 → ∃ t, exec (.pilotPeriodStart sp) s = .next t ∧
     t.get (k18PilotModeInForce sp) = effMode (s.spoke sp).pilot.heldMode (s.spoke sp).pilot.heldDuty ∧
     (sp < s.spokes.length → (t.spoke sp).pilot.drivenDuty = (s.spoke sp).pilot.heldDuty) ∧
     keepsObjects s t [k18PilotModeInForce sp, k18DecodedCurrent sp])

/-- R224, R226-R229: each instruction that works on the sequencer alone completes, changes its destination and nothing else;
branches, WAIT and TAKE. -/
def Obligations.PedalInstructions : Prop :=
  (∀ (s : State) (sp : Nat), pedalReady s sp →
   (∃ t, exec (.pedNop sp) s = .next t ∧ pedalRan s t sp (nextPc s sp)) ∧
   (∀ d imm, ∃ t, exec (.pedLdi sp d imm) s = .next t ∧ pedalRan s t sp ((nextPc s sp).setWork d (BitVec.ofInt 48 imm))) ∧
   (∀ d imm, ∃ t, exec (.pedLdu sp d imm) s = .next t ∧
     pedalRan s t sp ((nextPc s sp).setWork d ((s.pedal sp).work d <<< 20 + BitVec.ofNat 48 imm))) ∧
   (∀ d a, ∃ t, exec (.pedMov sp d a) s = .next t ∧ pedalRan s t sp ((nextPc s sp).setWork d ((s.pedal sp).work a))) ∧
   (∀ d a b, ∃ t, exec (.pedAdd sp d a b) s = .next t ∧
     pedalRan s t sp ((nextPc s sp).setWork d ((s.pedal sp).work a + (s.pedal sp).work b))) ∧
   (∀ d a b, ∃ t, exec (.pedSub sp d a b) s = .next t ∧
     pedalRan s t sp ((nextPc s sp).setWork d ((s.pedal sp).work a - (s.pedal sp).work b))) ∧
   (∀ d a imm, ∃ t, exec (.pedAddi sp d a imm) s = .next t ∧
     pedalRan s t sp ((nextPc s sp).setWork d ((s.pedal sp).work a + BitVec.ofInt 48 imm))) ∧
   (∀ d a b, ∃ t, exec (.pedAnd sp d a b) s = .next t ∧
     pedalRan s t sp ((nextPc s sp).setWork d ((s.pedal sp).work a &&& (s.pedal sp).work b))) ∧
   (∀ d a b, ∃ t, exec (.pedOr sp d a b) s = .next t ∧
     pedalRan s t sp ((nextPc s sp).setWork d ((s.pedal sp).work a ||| (s.pedal sp).work b))) ∧
   (∀ d a b, ∃ t v, exec (.pedMin sp d a b) s = .next t ∧ pedalRan s t sp ((nextPc s sp).setWork d v) ∧
     v.toInt = min ((s.pedal sp).work a).toInt ((s.pedal sp).work b).toInt) ∧
   (∀ d a b, ∃ t v, exec (.pedMax sp d a b) s = .next t ∧ pedalRan s t sp ((nextPc s sp).setWork d v) ∧
     v.toInt = max ((s.pedal sp).work a).toInt ((s.pedal sp).work b).toInt) ∧
   (∀ d a, ∃ t, exec (.pedEnc sp d a) s = .next t ∧
     pedalRan s t sp ((nextPc s sp).setWork d (BitVec.ofNat 48 ((encodeDuty ((s.pedal sp).work a).toInt).getD 0)))) ∧
   (∃ t, exec (.pedYield sp) s = .next t ∧ pedalRan s t sp (nextPc s sp)) ∧
   (∀ d src, ∃ t, exec (.pedIn sp d src) s = .next t ∧
     pedalRan s t sp ((nextPc s sp).setWork d (BitVec.ofInt 48 (s.input sp src)))) ∧
   (∀ n a, ∃ t, exec (.pedTset sp n a) s = .next t ∧ pedalRan s t sp
     { nextPc s sp with timers := (s.pedal sp).timers.set n (min (2 ^ 24 - 1) ((s.pedal sp).work a).toInt.toNat) }) ∧
   (∀ n imm, ∃ t, exec (.pedTseti sp n imm) s = .next t ∧
     pedalRan s t sp { nextPc s sp with timers := (s.pedal sp).timers.set n imm })) ∧
  (∀ (s : State) (sp : Nat), pedalReady s sp →
   (∀ c a b target, branchTaken (s.pedal sp) c a b = true → ∃ t, exec (.pedBr sp c a b target) s = .next t ∧
     pedalRan s t sp { s.pedal sp with pc := target }) ∧
   (∀ c a b target, branchTaken (s.pedal sp) c a b = false → ∃ t, exec (.pedBr sp c a b target) s = .next t ∧
     pedalRan s t sp (nextPc s sp)) ∧
   (∀ mask target, Nat.land (s.pedal sp).flags (mask % 65536) ≠ 0 → ∃ t, exec (.pedBf sp mask target) s = .next t ∧
     pedalRan s t sp { s.pedal sp with pc := target }) ∧
   (∀ mask target, Nat.land (s.pedal sp).flags (mask % 65536) = 0 → ∃ t, exec (.pedBf sp mask target) s = .next t ∧
     pedalRan s t sp (nextPc s sp)) ∧
   (∀ st mask, flagsIn (s.pedal sp).flags mask st ≠ 0 → ∃ t, exec (.pedWait sp st mask) s = .next t ∧
     pedalRan s t sp (nextPc s sp)) ∧
   (∀ st mask, flagsIn (s.pedal sp).flags mask st = 0 → ∃ t, exec (.pedWait sp st mask) s = .next t ∧
     t.pedal sp = { s.pedal sp with count := (s.pedal sp).count + 1 } ∧ t.getN (k19RunState sp) = 2 ∧
     keepsObjects s t [k19RunState sp] ∧ { t with obj := s.obj, spokes := s.spokes } = s) ∧
   (∀ d st mask, ∃ t, exec (.pedTake sp d st mask) s = .next t ∧ pedalRan s t sp
     { (nextPc s sp).setWork d (BitVec.ofNat 48 (flagsIn (s.pedal sp).flags mask st)) with
       flags := (s.pedal sp).flags - flagsIn (s.pedal sp).flags mask st }))

/-- R229, R231, R232, R234, R235: the sinks, NOTE, HALT; a sequencer that does not execute keeps its state. -/
def Obligations.PedalSinkInstructions : Prop :=
  (∀ s sp imm sink, pedalReady s sp → exec (.pedOuti sp imm sink) s = .next ((((s.modPedal sp fun p =>
    { p with pc := p.pc + 1, count := p.count + 1 }).put (k19RunState sp) 1).writeSink sp sink imm))) ∧
  (∀ s sp a sink, pedalReady s sp → exec (.pedOut sp a sink) s = .next ((((s.modPedal sp fun p =>
    { p with pc := p.pc + 1, count := p.count + 1 }).put (k19RunState sp) 1).writeSink sp sink ((s.pedal sp).work a).toInt))) ∧
  (∀ (s : State) sp sink v, v < 0 ∨ sinkOk sink v.toNat = false → s.writeSink sp sink v =
    (s.count (k19SinkErrors sp)).notice 0 0x0610 (sp * 256 + sink)) ∧
  (∀ (s : State) sp, s.input sp 7 = 1 ∨ s.input sp 7 = 2 ∨ s.input sp 7 = 4 →
    s.writeSink sp 3 2 = s.notice 0 0x0613 sp) ∧
  (∀ (s : State) sp (n : Nat), n ≤ 4 → s.writeSink sp 0 (n : Nat) = s.modPedal sp fun p => { p with pmode := n }) ∧
  (∀ (s : State) sp, s.offerStands sp = true → s.writeSink sp 6 1 = s.modPedal sp fun p => { p with replacing := true }) ∧
  (∀ s sp a code, pedalReady s sp → ∃ t, exec (.pedNote sp a code) s = .next t ∧
    noticed s t ⟨0x0680 + code, 0, sp * 2 ^ 40 + ((s.pedal sp).work a).toNat % 2 ^ 40⟩ ∧
    pedalRan { s with recorder := t.recorder } t sp (nextPc s sp)) ∧
  (∀ s sp, pedalReady s sp → ∃ t, exec (.pedHalt sp) s = .next t ∧ t.getN (k19RunState sp) = 3 ∧
    t.getN (k19HaltAddress sp) = (s.pedal sp).pc % 256 ∧ (t.pedal sp).request = false ∧ (t.pedal sp).pmode = 3 ∧
    (t.pedal sp).pc = (s.pedal sp).pc ∧ noticed s t ⟨0x0611, 0, sp * 256 + (s.pedal sp).pc % 256⟩ ∧
    keepsObjects s t [k19RunState sp, k19HaltAddress sp]) ∧
  (∀ s sp imm sink, s.executes sp = false → exec (.pedOuti sp imm sink) s = .next s ∧ exec (.pedHalt sp) s = .next s ∧
    exec (.pedNop sp) s = .next s)

/-- R228, R229: the word of a well-formed pedal instruction decodes to that instruction, whatever its operands. -/
def Obligations.PedalDecodeEncode : Prop :=
  ∀ (i : Instr) (w : PedalWord), i.wellFormed = true → encodePedal i = some w → ∃ sp, decodePedal sp w = some i

/-- R223, R226, R235, R238: timers, the switch of programs, restart, broadcast and the lapse of an offer. -/
def Obligations.PedalEventRows : Prop :=
  (∀ s sp n, sp < s.spokeCount → n < 4 → s.runState sp ≠ 4 → (s.pedal sp).timers.getD n 0 = 1 → s.modes.step < 6 →
    exec (.timerExpiry sp n) s = .next ((s.modPedal sp fun p => { p with timers := p.timers.set n 0 }).raise sp (fT0 + n))) ∧
  (∀ (s : State) sp, s.runState sp ≠ 4 → (s.pedal sp).resume = none → sp < s.spokes.length →
    (s.deliver sp).pedal sp = (s.pedal sp).boundary ∧ keepsObjects s (s.deliver sp) []) ∧
  (∀ (s : State) sp, s.runState sp = 4 → (s.pedal sp).resume = none → s.deliver sp = s) ∧
  (∀ s sp, s.executes sp = true → (s.pedal sp).next.isSome = true → s.openSlot sp = none → s.gateState sp = 0 →
    exec (.programSwitch sp) s = .next (((s.loadNext sp).startProgram sp 1).notice 0 0x0621 sp)) ∧
  (∀ (s : State) sp cause, sp < s.spokes.length → ((s.startProgram sp cause).pedal sp).pc = 0 ∧
    ((s.startProgram sp cause).pedal sp).timers = [0, 0, 0, 0] ∧ ((s.startProgram sp cause).pedal sp).flags = 0 ∧
    ((s.startProgram sp cause).pedal sp).startCause = cause ∧ (s.startProgram sp cause).runState sp = 1 ∧
    bit ((s.startProgram sp cause).pedal sp).raised fStart = true) ∧
  (∀ s sid sp, s.rowPasses sid (k19Restart sp) 1 = true → s.gateState sp = 0 → exec (.pedalRestart sid sp 1) s = .next
    ((s.writeOne sid (k19Restart sp) 1 fun u => (u.loadNext sp).startProgram sp 1).atStep5)) ∧
  (∀ s sid sp, s.rowPasses sid (k19Restart sp) 1 = true → s.gateState sp ≠ 0 → exec (.pedalRestart sid sp 1) s = .next
    ((s.answer sid (k19Restart sp) stNotNow).atStep5)) ∧
  (∀ s sid v, s.rowPasses sid k19Broadcast v = true → exec (.broadcast sid v) s = .next
    ((s.writeOne sid k19Broadcast v fun u => (u.put k19LastBroadcast v).each u.spokeList fun t sp => t.raise sp fBcast).atStep5)) ∧
  (∀ s sp o, (s.pedal sp).offer = some o → s.dueNext o.until_ = true → (s.pedal sp).replacing = false →
    exec (.offerLapse sp) s = .next
      (((s.modPedal sp fun p => { p with offer := none }).raise sp fSess).notice 0 0x0616 sp))

/-- R454-R459: the exits from a mode, the wakes, Workstand. -/
def Obligations.ModeRows : Prop :=
  (∀ s, s.modes.powered = true → 1 ≤ s.getN k01Mode → s.getN k01Mode ≤ 3 → s.getN k01NextEventKind ≠ 0 →
    125 * s.ticksTo (s.getN k01NextEventTick) < exitLatency (s.getN k01Mode) + s.getN k01Margin + 125 →
    exec .knownEventExit s = .next s.startExit) ∧
  (∀ s src, s.modes.powered = true → (wakeEnds src).contains (s.getN k01Mode) = true → src ≠ .knownEvent →
    exec (.wake src) s = .next (s.count (k01Wakes (16 + s.getN k01Mode))).startExit) ∧
  (∀ s, s.modes.powered = true → (wakeEnds .knownEvent).contains (s.getN k01Mode) = true →
    exec (.wake .knownEvent) s = .next s.startExit) ∧
  (∀ s : State, s.modes.exitEnd = none → s.startExit.modes.exitEnd = some (s.after ((exitLatency (s.getN k01Mode) + 124) / 125)) ∧
    s.startExit.obj = s.obj) ∧
  (∀ s sid, s.rowPasses sid k01Workstand 1 = true →
    (∀ sp, sp < s.spokeCount → s.openSlot sp = none ∧ s.gateState sp = 0) →
    exec (.workstand sid 1) s = .next ((s.writeOne sid k01Workstand 1 (applyWorkstand 1)).atStep5)) ∧
  (∀ s sid sp, s.rowPasses sid k01Workstand 1 = true → sp < s.spokeCount → s.gateState sp ≠ 0 →
    exec (.workstand sid 1) s = .next ((s.answer sid k01Workstand stNotNow).atStep5)) ∧
  (∀ s : State, s.workstand = false → (applyWorkstand 1 s).get k01Mode = 5 ∧ (applyWorkstand 1 s).get k01Workstand = 1) ∧
  (∀ s : State, s.workstand = true → (applyWorkstand 0 s).get k01Mode = 0 ∧ (applyWorkstand 0 s).get k01Workstand = 0)

/-- R14, R104, R153, R324, R397, R440, R463-R468: the resets of both domains, the restart of the firmware and the boot. -/
def Obligations.ResetRows : Prop :=
  (∀ s, s.modes.powered = true → exec .safetyDomainFault s = .next (s.faultCapture.safetyReset 4)) ∧
  (∀ s, s.modes.powered = true → exec .rstN s = .next (s.faultCapture.safetyReset 3)) ∧
  (∀ s : State, s.pf.active = true → s.faultCapture = (s.put k30LastCause 4).capture 4 s.cc s.stamp) ∧
  (∀ s : State, s.pf.active = false → s.faultCapture =
    ({ s.put k30LastCause 4 with pf := { s.pf with seq := 0 } } : State).capture 4 s.cc s.stamp) ∧
  (∀ s, s.modes.powered = true → exec (.brownOut false) s = .next (s.safetyReset 2)) ∧
  (∀ s, s.modes.powered = true → ∃ t, exec (.brownOut true) s = .next t ∧ t.modes.powered = false ∧ t.getN k01Mode = 4) ∧
  (∀ s, ∃ t, exec .powerOnReset s = .next t ∧ t.obj = (s.safetyReset 1).obj ∧ t.modes.powered = true) ∧
  (∀ s, exec .softwareRestart s = .next (s.coreReset 6)) ∧
  (∀ s core, core < 4 → s.firmwareUp = true → s.modes.powered = true → exec (.controlCoreWatchdog core) s = .next
    ((s.notice 0 0x0102 core).coreReset 5)) ∧
  (∀ s pll, pll = 1 ∨ pll = 2 → exec (.pllLockLoss pll) s = exec .safetyDomainFault s) ∧
  (∀ s pll, 3 ≤ pll → pll ≤ 5 → s.modes.powered = true → exec (.pllLockLoss pll) s = .next
    ((s.notice 0 0x0106 pll).coreReset 6)) ∧
  (∀ s, s.modes.coreInReset = true → ∃ t, exec .firmwareRestart s = .next t ∧ t.modes.coreInReset = false ∧
    t.lease.fwUp = true) ∧
  (∀ s b, s.modes.powered = true → s.modes.booted = false → s.modes.rom = false → s.modes.coreInReset = false →
    flashSupported b = true → ∃ t, exec (.boot b) s = .next t ∧
    (((((s.bootVault b.vaultValid).startVault).discoverFlash b).bootFw).modes.rom = false → t.modes.booted = true ∧ t.lease.fwUp = true ∧
      t.getN k31BootTime = b.millis) ∧
    (((((s.bootVault b.vaultValid).startVault).discoverFlash b).bootFw).modes.rom = true → t.modes.rom = true ∧ t.modes.booted = false)) ∧
  (∀ s b, s.modes.powered = true → s.modes.booted = false → s.modes.rom = false → s.modes.coreInReset = false →
    flashSupported b = false → ∃ t, exec (.boot b) s = .next t ∧ t.modes.rom = true ∧ t.modes.booted = false)

/-- R104, R106, R464: after a safety-domain reset an object has its default, but for what flash, the vault, the tag and OTP
hold (log entry 41 lists the members), the safety states (R299, R306), the boot header's and the repairs; the cause waits for
its notice, and of causes that arise at one tick the lowest is latched (R486). -/
def Obligations.SafetyResetClears : Prop :=
  (∀ (s : State) (cause k : Nat), keptMember k = false → k ≠ k0DSealState → keyClass k ≠ 0x1D → keyClass k ≠ 0x31 → keyClass k ≠ 0x38 →
    (s.safetyReset cause).get k = defaultOf s.variant k) ∧
  (∀ (s : State) (cause : Nat), s.modes.booted = true → s.modes.coreInReset = false → (s.safetyReset cause).modes.cause = cause) ∧
  (∀ (s : State) (cause : Nat), s.modes.resetAt ≠ s.cc → (s.safetyReset cause).modes.cause = cause) ∧
  (∀ (s : State) (cause : Nat), s.modes.booted = false → s.modes.resetAt = s.cc → s.modes.cause ≠ 0 →
    (s.safetyReset cause).modes.cause = min s.modes.cause cause) ∧
  (∀ (s : State) (cause : Nat), (s.safetyReset cause).pending = s.pending)

/-- R468: a write of 1 to the restart member, which takes the Installer role, is answered OK; the reset of the core domain
with cause 7 follows 800 ticks (100 ms) later and not before; while a hold lease or a stop order runs the write is refused
with NOT_NOW. -/
def Obligations.CommandedRestartFollows : Prop :=
  (∃ r, findRow 0x01 0 7 = some r ∧ writeAccess r 0x01 0 7 = .installer) ∧
  (∀ s sid, s.rowPasses sid k01Restart 1 = true → s.leaseRuns = false → s.stopOrders = false → ∃ t,
    exec (.restart sid 1) s = .next t ∧ t.out = s.out ++ [.writeStatus sid k01Restart 0] ∧
      t.modes.restartAt = some ((s.cc + 800) % 2 ^ 48) ∧ t.obj = s.obj) ∧
  (∀ s at_, s.modes.restartAt = some at_ → s.reached at_ = false → exec .commandedRestart s = .next s) ∧
  (∀ s at_, s.modes.powered = true → s.modes.booted = true → s.modes.coreInReset = false → s.modes.restartAt = some at_ →
    s.reached at_ = true → ∃ t, exec .commandedRestart s = .next t ∧
    t = s.coreReset 7 ∧ t.modes.cause = 7 ∧ t.modes.coreInReset = true) ∧
  (∀ s sid, s.rowPasses sid k01Restart 1 = true → s.leaseRuns = true ∨ s.stopOrders = true →
    exec (.restart sid 1) s = .next ((s.answer sid k01Restart 0x08).atStep5))

/-- R471, R473-R475, R477: a pass falls due, the test of the ADC channels, the fuses. -/
def Obligations.BistRows : Prop :=
  (∀ s t, 2 ≤ t → t ≤ 6 → s.bistInterval t ≤ s.since (s.bist.lastPass.getD (t - 1) 0) → s.getN (k38TargetState t) ≠ 3 →
    s.passWanted t = false → exec (.bistPassDue t) s = .next
      (({ s with bist := { s.bist with due := s.bist.due.set (t - 1) true } } : State).put (k38TargetState t) 1)) ∧
  (∀ s, s.bistInterval 1 ≤ s.since (s.bist.lastPass.getD 0 0) → s.getN (k38TargetState 1) ≠ 3 → s.passWanted 1 = false →
    exec (.bistPassDue 1) s = .next { s with bist := { s.bist with due := s.bist.due.set 0 true } }) ∧
  (∀ s sp, s.passWanted 4 = true → s.bist.adc = none → s.nextIdle s.bist.adcNext = some sp → bistStopped (s.getN k01Mode) 4 = false →
    ∃ t a, exec (.adcTest sp) s = .next t ∧ t.bist.adc = some a ∧ a.spoke = sp ∧ a.start = s.nextTick ∧
      a.samples.map Prod.fst = [5 * sp, 5 * sp + 1, 5 * sp + 2, 5 * sp + 3, 5 * sp + 4]) ∧
  (∀ s a, s.bist.adc = some a → s.adcOver a = true → ∃ t, exec .adcTestEnd s = .next t ∧ t.bist.adc = none) ∧
  (∀ s sid, s.rowPasses sid k38ProgramFuses 1 = true → s.workstand = true → s.bist.fused.length < fuseMax →
    exec (.programFuses sid 1) s = .next ((s.writeOne sid k38ProgramFuses 1 (applyProgramFuses 1)).atStep5)) ∧
  (∀ s sid, s.rowPasses sid k38ProgramFuses 1 = true → s.workstand = false →
    exec (.programFuses sid 1) s = .next ((s.answer sid k38ProgramFuses stNotNow).atStep5)) ∧
  (∀ s sid, s.rowPasses sid k38ProgramFuses 1 = true → s.workstand = true → fuseMax ≤ s.bist.fused.length →
    exec (.programFuses sid 1) s = .next ((s.answer sid k38ProgramFuses stFull).atStep5)) ∧
  (∀ s : State, (applyProgramFuses 1 s).bist.fused = s.bist.fused ++ s.bist.fuseList.take (fuseMax - s.bist.fused.length))

/-- R114, R116, R118, R119, R122-R125, R137: the settings of the analogue front end, the groups and the seal. -/
def Obligations.MeterSettingRows : Prop :=
  (∀ s sid ch v, s.rowPasses sid (k08SensorType ch) v = true → typePermitted ch v.toNat = true →
    s.typesFit (s.typesWith ch v.toNat) = true → exec (.sensorType sid ch v) s = .next
      ((s.writeOne sid (k08SensorType ch) v fun u => apply08 sid u (k08SensorType ch) ch 0 v).atStep5)) ∧
  (∀ s sid ch v, s.rowPasses sid (k08SensorType ch) v = true → typePermitted ch v.toNat = false →
    exec (.sensorType sid ch v) s = .next ((s.answer sid (k08SensorType ch) stOutOfRange).atStep5)) ∧
  (∀ s sid ch v, s.rowPasses sid (k08SensorType ch) v = true → typePermitted ch v.toNat = true →
    s.typesFit (s.typesWith ch v.toNat) = false → exec (.sensorType sid ch v) s = .next
      ((s.answer sid (k08SensorType ch) stNoFit).atStep5)) ∧
  (∀ s sid sp v, s.rowPasses sid (k09SpokeGroup (32 + sp)) v = true → s.groupOn v.toNat = true →
    exec (.spokeGroup sid sp v) s = .next
      ((s.writeOne sid (k09SpokeGroup (32 + sp)) v fun u => apply09 sid u (k09SpokeGroup (32 + sp)) (32 + sp) 0 v).atStep5)) ∧
  (∀ s sid g v, g < 8 → s.rowPasses sid (k09GroupEnable g) v = true → (v ≠ 0 ∨ s.groupUsed g = false) →
    exec (.groupEnable sid g v) s = .next ((s.writeOne sid (k09GroupEnable g) v fun u => apply09 sid u (k09GroupEnable g) g 0 v).atStep5)) ∧
  (∀ s sid g, g < 8 → s.rowPasses sid (k09GroupEnable g) 0 = true → s.groupUsed g = true →
    exec (.groupEnable sid g 0) s = .next ((s.answer sid (k09GroupEnable g) stOutOfRange).atStep5)) ∧
  (∀ s sid v, s.rowPasses sid k09ReferenceGroup v = true → s.groupOn v.toNat = true →
    exec (.referenceGroup sid v) s = .next
      ((s.writeOne sid k09ReferenceGroup v fun u => apply09 sid u k09ReferenceGroup 8 0 v).atStep5)) ∧
  (∀ s sid addr ty v, s.writesOpen = true → addr ≠ k13TokenEntry → s.checkWrite sid ⟨addr, ty, v⟩ = stOk →
    s.checkItem sid (s.session sid).last [⟨addr, ty, v⟩] addr v = stOk → exec (.calibrationWrite sid addr ty v) s = .next
      ((s.writeOne sid addr v fun u => u.applyItem sid (s.session sid).last addr v).atStep5)) ∧
  (∀ s, s.sealFilter.level = true → 80 ≤ s.sealFilter.run → s.sealFilter.opened = false →
    s.getN k0DMetrologyEventCounter < 65535 → ∃ t, exec .sealOpening s = .next t ∧ t.sealFilter.opened = true ∧
      t.getN k0DMetrologyEventCounter = s.getN k0DMetrologyEventCounter + 1 ∧
      ⟨0x0430, 0, s.getN k0DMetrologyEventCounter + 1⟩ ∈ t.recorder.raised ∧
      t.getN k0DSealState = if s.getN k0DMetrologyEventCounter + 1 = 65535 then 2 else 1) ∧
  (∀ s, s.sealFilter.level = false → 80 ≤ s.sealFilter.run → s.sealFilter.opened = true →
    ∃ t, exec .sealClosing s = .next t ∧ t.sealFilter.opened = false ∧
      t.getN k0DSealState = if s.getN k0DMetrologyEventCounter = 65535 then 2 else 0)

/-- R131, R140, R143-R145: a missing crossing, snapshots, the pulse outputs, the clearing of the registers; a clearing leaves
every register of the spokes served, its wrap count, its shadow and its fine fraction at 0. -/
def Obligations.RegisterRows : Prop :=
  (∀ s g, s.groupOn g = true → (s.group g).state ≠ 2 → 7 ≤ (s.group g).missing → g < s.groups.length →
    ((s.group g).lastCross.getD (0, false)).1 + s.halfOf g * 23 / 20 ≤ (s.cc : Rat) - 1 →
    ∃ t, exec (.missingCrossing g) s = .next t ∧ (t.group g).state = 2 ∧ t.get (k09Frequency g) = 0 ∧
      t.recorder.raised.getLast? = some ⟨0x0402, 0, g⟩) ∧
  (∀ s sid v, s.rowPasses sid k0BSnapshotRequest v = true → s.targetOk v.toNat = true → s.snapshotPending = false →
    exec (.snapshotRequest sid v) s = .next ((s.writeOne sid k0BSnapshotRequest v (applySnapshotRequest v)).atStep5)) ∧
  (∀ s sid v, s.rowPasses sid k0BSnapshotRequest v = true → s.targetOk v.toNat = false →
    exec (.snapshotRequest sid v) s = .next ((s.answer sid k0BSnapshotRequest stOutOfRange).atStep5)) ∧
  (∀ s sid v, s.rowPasses sid k0BSnapshotRequest v = true → s.targetOk v.toNat = true → s.snapshotPending = true →
    exec (.snapshotRequest sid v) s = .next ((s.answer sid k0BSnapshotRequest stBusy).atStep5)) ∧
  (∀ s tk, s.modes.step ≤ 2 → s.billing.snap = some tk → s.dueNext tk = true → ∃ t, exec .snapshotLatch s = .next t ∧ t.billing.snap = none ∧
    t.get k0BSnapshotRequest = 0 ∧ t.get k0BSnapshotTick = s.nextTick ∧ t.get k0BSnapshotSource = 1 ∧
    t.getN k0BSnapshotSequence = (s.getN k0BSnapshotSequence + 1) % 65536 ∧
    t.recorder.raised.getLast? = some ⟨0x0422, 0, (s.getN k0BSnapshotSequence + 1) % 65536⟩) ∧
  (∀ s sid po m v, 2 ≤ m → m ≤ 3 → s.rowPasses sid (key 0x0C po m) v = true → exec (.pulseOutputChange sid po m v) s = .next
    ((s.writeOne sid (key 0x0C po m) v fun u => (u.put (key 0x0C po m) v).put (k0CResidue po) 0).atStep5)) ∧
  (∀ s sid po v, s.rowPasses sid (key 0x0C po 1) v = true → v < s.spokeCount → exec (.pulseOutputChange sid po 1 v) s = .next
    ((s.writeOne sid (key 0x0C po 1) v fun u => (u.put (key 0x0C po 1) v).put (k0CResidue po) 0).atStep5)) ∧
  (∀ s po, (s.pulses.getD po {}).jfUntil ≠ 0 → s.reached (s.pulses.getD po {}).jfUntil = true → ∃ t,
    exec (.jitterFreeEnd po) s = .next t ∧ t.get (k0CMode po) = b1 (s.workstand || s.flag (k0CForceJitterFree po)) ∧
    keepsObjects s t [k0CMode po]) ∧
  (∀ s sid, s.rowPasses sid k0BClearRegisters 1 = true → s.workstand = true → exec (.clearRegisters sid 1) s = .next
    ((s.writeOne sid k0BClearRegisters 1 (applyClearRegisters sid 1)).atStep5)) ∧
  (∀ s sid, s.rowPasses sid k0BClearRegisters 1 = true → s.workstand = false → exec (.clearRegisters sid 1) s = .next
    ((s.answer sid k0BClearRegisters stNotNow).atStep5)) ∧
  (∀ (s : State) (sid r : Nat), r < 24 * s.spokeCount → (applyClearRegisters sid 1 s).get (k0BValue r) = 0 ∧
     (applyClearRegisters sid 1 s).get (k0BWrapCount r) = 0 ∧ (applyClearRegisters sid 1 s).get (k0BSnapshotValue r) = 0 ∧
     (applyClearRegisters sid 1 s).get (k0BSnapshotWrapCount r) = 0 ∧ (applyClearRegisters sid 1 s).get (k0BFineFraction r) = 0)

/-- R150-R152, R158, R160-R162, R433: the power-fail decision and its end, flash power-fail records, the billing journal; with
room for more than one record the journal keeps the newest record with trigger 5 and the newest record. That the decision and
a latch stand as rows before the TICK of their boundary is the model's choice (log entry 5). -/
def Obligations.PowerFailRows : Prop :=
  (∀ s u, s.pf.active = false → s.criterion ≠ 0 → s.modes.powered = true → u = s.throughSix → u.pf.slots.length = 2 →
    ∃ t r, exec .powerFailDecision s = .next t ∧ t.pf.active = true ∧ t.recorder.saving = none ∧
      t.get k30LastCause = s.criterion ∧ t.pf.slots.getD t.pf.newest {} = VaultSlot.filled t.variant r ∧
      r.cause = s.criterion ∧ r.seq = 0 ∧ r.cc = u.nextTick ∧ (t.getN k01Mode = 0 ∨ 3 < t.getN k01Mode)) ∧
  (∀ s : State, 6 ≤ s.modes.step → s.throughSix = s) ∧
  (∀ s, s.pf.active = true → 80 ≤ s.pf.goodTicks → ∃ t, exec .powerFailResume s = .next t ∧ t.pf.active = false ∧
    t.pf.slots = [{}, {}] ∧ ∀ x ∈ t.pf.flash, x.cancelled = true) ∧
  (∀ s k r, s.pf.active = true → s.pfWriting = none → s.freePf = some k → s.vaultRecord = some r →
    ∃ t, exec .flashPowerFailRecord s = .next t ∧ t.pf.flash = s.pf.flash ++ [s.pfFlashOf k r] ∧
      t.flash.current = some (.powerFail k) ∧ t.pf.usedSlots = s.pf.usedSlots ++ [k]) ∧
  (∀ s r, s.pf.active = true → s.pfWriting = none → s.freePf = none → s.vaultRecord = some r →
    exec .flashPowerFailRecord s = .next (s.noticeOpen 0 0x0F31)) ∧
  (∀ s k, s.flash.current = some (.powerFail k) → ∃ t, exec .flashRecordCommit s = .next t ∧ t.flash.current = none ∧
    ∀ x ∈ t.pf.flash, x.slot = k → x.commit = some x.commitWord) ∧
  (∀ s u tr, u = s.throughSix → u.dueTrigger = some tr → ∃ t, exec .journalLatch s = .next t ∧
    t.pf.latched = u.pf.latched ++ [u.formJournal tr] ∧ t.pf.due = [] ∧ t.pf.lastLatch = u.nextTick ∧
    t.pf.nextJseq = (u.pf.nextJseq + 1) % 2 ^ 32) ∧
  (∀ s : State, s.throughSix.dueTrigger = none → exec .journalLatch s = .next s) ∧
  (∀ s r rest, s.pf.latched = r :: rest → s.journalTurn = true → ∃ t, exec .journalCommit s = .next t ∧
    t.pf.latched = rest ∧ t.pf.newBase = some { r with commit := some r.commitWord } ∧
    t.pf.journal = ringAfter s.journalSlots s.pf.journal { r with commit := some r.commitWord }) ∧
  (∀ s, s.journalTurn = true → exec .journalWriteFailure s = .next ((s.count k30JournalWriteFailures).noticeOpen 0 0x0F30)) ∧
  (∀ s k, s.pf.active = false → k ∈ s.pf.usedSlots → k ∉ s.pf.badSlots → (∀ x ∈ s.pf.flash, x.slot = k → x.cancelled = true) →
    6 ∉ s.pf.due → ∃ t, exec (.powerFailAreaErase k true) s = .next t ∧ k ∉ t.pf.usedSlots ∧ ∀ x ∈ t.pf.flash, x.slot ≠ k) ∧
  (∀ s k, s.pf.active = false → k ∈ s.pf.usedSlots → k ∉ s.pf.badSlots → (∀ x ∈ s.pf.flash, x.slot = k → x.cancelled = true) →
    6 ∉ s.pf.due → ∃ t, exec (.powerFailAreaErase k false) s = .next t ∧ t.pf.badSlots = s.pf.badSlots ++ [k] ∧
      t.get k30EraseFailures = oneMore s k30EraseFailures) ∧
  (∀ (n : Nat) (l : List JRecord) (r : JRecord), l.length ≤ n → 1 < n →
     (ringAfter n l r).getLast? = some r ∧ (ringAfter n l r).length ≤ n ∧
     ((l ++ [r]).filter fun x => x.trigger = 5).getLast? = ((ringAfter n l r).filter fun x => x.trigger = 5).getLast?)

/-- R168-R170, R173, R179-R185: slew, step and its effect, the tariff, the rate, demand intervals and billing closes; a
billing close gives the closed period its end and its cause, and opens the next one with the next number. -/
def Obligations.BillingRows : Prop :=
  (∀ s sid v, s.rowPasses sid k05Slew v = true → -2000 ≤ v → v ≤ 2000 → s.timeValid = true →
    exec (.slew sid v) s = .next ((s.writeOne sid k05Slew v fun u =>
      { u.put k05Slew v with billing := { u.billing with slewNs := v * 1000000 } }).atStep5)) ∧
  (∀ s sid v, s.rowPasses sid k05Slew v = true → -2000 ≤ v → v ≤ 2000 → s.timeValid = false →
    exec (.slew sid v) s = .next ((s.answer sid k05Slew stNotNow).atStep5)) ∧
  (∀ s sid v, s.rowPasses sid k05StepTarget v = true →
    (s.timeValid = false ∨ s.roleOf sid = 3 ∨ (v - s.wallNext).natAbs ≤ 3600000) →
    exec (.step sid v) s = .next ((s.writeOne sid k05StepTarget v (applyStep sid v)).atStep5)) ∧
  (∀ s sid v, s.rowPasses sid k05StepTarget v = true → s.timeValid = true → s.roleOf sid ≠ 3 →
    3600000 < (v - s.wallNext).natAbs → exec (.step sid v) s = .next ((s.answer sid k05StepTarget stDenied).atStep5)) ∧
  (∀ (s : State) (i v : Nat), objects s (s.stepTo i v) [(k05HighWaterTime, s.hwNext), (k05WallTime, v), (k05TimeValid, 1),
      (k05Slew, 0)] ∧ (s.stepTo i v).vault.rtc = some v ∧
    noticed s (s.stepTo i v) ⟨0x0501, i, pattern 48 ((v : Int) - s.wallBefore)⟩) ∧
  (∀ s old valid tick, s.modes.step ≤ 3 → s.billing.stepped = some (old, valid, tick) → s.dueNext ((tick + 1) % ccMod) = true →
    ∃ t : State, exec .stepEffect s = .next t ∧ t.billing.stepped = none ∧
      t.getN k10CurrentRate = rateAt s.tariff (some s.wallNext)) ∧
  (∀ s w, s.modes.step ≤ 4 → s.boundaryWall = some w → s.billing.pendingImage ≠ [] → tActivate s.billing.pendingImage ≤ w → ∃ t,
    exec .tariffActivation s = .next t ∧ t.billing.active = s.billing.pendingImage ∧ t.billing.pendingImage = [] ∧
      t.getN k10PendingTariff = 0 ∧ t.getN k10CurrentRate = rateAt s.billing.pendingImage (some w)) ∧
  (∀ s, s.modes.step ≤ 4 → s.billing.stepped = none → rateAt s.tariff s.boundaryWall = s.getN k10CurrentRate →
    exec .rateSwitch s = .next (s.stepDone 4)) ∧
  (∀ s, s.modes.step ≤ 4 → s.billing.stepped = none → rateAt s.tariff s.boundaryWall ≠ s.getN k10CurrentRate →
    exec .rateSwitch s = .next (((((s.closeSegments.put k10CurrentRate (rateAt s.tariff s.boundaryWall)).noteRate
      (rateAt s.tariff s.boundaryWall)).journal 1)).stepDone 4)) ∧
  (∀ s w, s.modes.step ≤ 3 → s.boundaryWall = some w → s.billing.stepped = none → s.intervalEnd ≤ w →
    exec .demandIntervalClose s = .next ((s.closeInterval s.intervalEnd false).stepDone 3)) ∧
  (∀ s w x, s.modes.step ≤ 3 → s.boundaryWall = some w → s.billing.closeCauses = [] → s.billing.stepped = none → s.scheduledClose = some x → x ≤ w →
    exec .billingPeriodClose s = .next (((s.billingClose 0 x).put k05HighWaterTime (max x (s.getN k05HighWaterTime) : Nat)).stepDone 3)) ∧
  (∀ s sid, s.rowPasses sid k11CloseNow 1 = true → exec (.closeNow sid 1) s = .next
    ((s.writeOne sid k11CloseNow 1 (applyCloseNow 1)).atStep5)) ∧
  (∀ (s : State) (cause stamp : Nat), (s.billingClose cause stamp).getN (k11End (hubPeriod 1)) = stamp ∧
     (s.billingClose cause stamp).getN (k11Cause (hubPeriod 1)) = cause ∧ (s.billingClose cause stamp).getN (k11Start 31) = stamp ∧
     (s.billingClose cause stamp).getN (k11Sequence (hubPeriod 1)) = s.getN (k11Sequence 31) ∧
     (s.billingClose cause stamp).getN (k11Sequence 31) = (s.getN (k11Sequence 31) + 1) % 2 ^ 32 ∧
     ∀ sp, sp < s.spokeCount → (s.billingClose cause stamp).get (k11MaximumDemand sp) = 0)

/-- R187-R189, R195, R199, R235: authorisation, stop and collection, costs, the token lockout. -/
def Obligations.SessionRows : Prop :=
  (∀ s sid v, s.rowPasses sid k12AuthoriseSpoke v = true → s.authStatus v.toNat (s.getN k12Purse64) = stOk →
    exec (.authoriseSpoke sid v) s = .next ((s.writeOne sid k12AuthoriseSpoke v fun u =>
      u.openSession v.toNat (u.get k12Identity64) (u.getN k12Purse64)).atStep5)) ∧
  (∀ s sid (v : Nat), s.rowPasses sid k12AuthoriseSpoke v = true → v < s.spokeCount → s.workstand = false →
    (s.openSlot v).isSome = true → exec (.authoriseSpoke sid v) s = .next
      ((s.answer sid k12AuthoriseSpoke stNotNow).atStep5.offer v (s.get k12Identity64) (s.getN k12Purse64))) ∧
  (∀ s sid j, s.rowPasses sid (k12Stop j) 1 = true → s.getN (k12State j) = 1 → exec (.stop sid j 1) s = .next
    ((s.writeOne sid (k12Stop j) 1 (applyStop j 1)).atStep5)) ∧
  (∀ s : State, ∀ j, s.getN (k12State j) = 1 → applyStop j 1 s = s.raise (s.getN (k12Spoke j)) fStop) ∧
  (∀ s sid j, s.rowPasses sid (k12Collect j) 1 = true → exec (.collect sid j 1) s = .next
    ((s.writeOne sid (k12Collect j) 1 (applyCollect j 1)).atStep5)) ∧
  (∀ s : State, ∀ j, s.getN (k12State j) = 2 → applyCollect j 1 s = s.put (k12State j) 3) ∧
  (∀ s, (∀ j, j < 48 → s.getN (k12State j) = 1 → s.reached (s.slot j).costAt = false) → exec .costRecomputation s = .next s) ∧
  (∀ s j, j < 48 → s.getN (k12State j) = 1 → s.reached (s.slot j).costAt = true → (∃ t, exec .costRecomputation s = .next t ∧
    t.get (k12Cost j) = (s.priceSlot j s.cc).get (k12Cost j) ∧
    t.get (k13Balance (s.getN (k12Purse0 j))) = s.get (k13Balance (s.getN (k12Purse0 j))))) ∧
  (∀ s, s.tokenLock ≠ 0 → s.reached s.tokenLock = true → exec .tokenLockoutEnd s = .next { s with tokenLock := 0 })

/-- R192-R195: a token is entered; the answer is the status of the checks; an accepted credit token moves the balance once and
marks its number, a refused one leaves the balance. -/
def Obligations.TokenRows : Prop :=
  (∀ s sid v, s.rowPasses sid k13TokenEntry v = true → s.flag k23TokenEntry = false → exec (.tokenEntry sid v) s = .next
    ((if s.tokenStatus (txtChars v) = stOk then
      (s.enterToken sid (txtChars v)).holdAnswer (s.rowAsWrite sid ⟨k13TokenEntry, ownType, v⟩)
    else (s.enterToken sid (txtChars v)).answer sid k13TokenEntry (s.tokenStatus (txtChars v))).atStep5)) ∧
  (∀ s sid v, s.rowPasses sid k13TokenEntry v = true → s.flag k23TokenEntry = true →
    exec (.tokenEntry sid v) s = .next ((keyPress 14 s).tokenRow sid v).atStep5) ∧
  (∀ s sid v, s.writesOpen = true → s.checkWrite sid ⟨k13TokenEntry, ownType, v⟩ ≠ stOk → exec (.tokenEntry sid v) s = .next
    ((s.answer sid k13TokenEntry (s.checkWrite sid ⟨k13TokenEntry, ownType, v⟩)).atStep5)) ∧
  (∀ s sid v, s.writesOpen = false → exec (.tokenEntry sid v) s = .next
    (s.queueRow sid ⟨k13TokenEntry, ownType, v⟩)) ∧
  (∀ (s : State) sid l x, tokenValue l = some x → s.enterToken sid l =
    if s.tokenStatus l = stOk then (s.loadTokenKey x).acceptToken sid x
    else (s.loadTokenKey x).refuseToken sid l (s.tokenStatus l)) ∧
  (∀ (s : State) i x, tokClass x = 0 → (s.acceptToken i x).get (k13Balance (tokPurse x)) =
    s.get (k13Balance (tokPurse x)) + tokAmount x * s.getN (k13UnitValue (tokPurse x))) ∧
  (∀ (s : State) i x, tokClass x < 2 → s.getN (k13Floor (tokPurse x)) ≤ tokTid x →
    (s.acceptToken i x).tidUsable (tokPurse x) (tokTid x) = false) ∧
  (∀ (s : State) i l st p, (s.refuseToken i l st).get (k13Balance p) = s.get (k13Balance p))

/-- R242, R245, R246, R249, R251, R252: SLAC, the match, its timeouts, TLS and the fallbacks; a third failed attempt leads to
link state 5, an earlier one back to state 1. -/
def Obligations.SlacRows : Prop :=
  (∀ s rx run mac, s.lease.fwUp = true → rx ≠ [] → (∀ x ∈ rx, s.stationHears true x = true) → ∃ t,
    exec (.cmSlacParmReq rx run mac) s = .next t ∧ ∃ r ∈ t.slac, r.run = run ∧ r.mac = mac ∧ ∀ x ∈ rx, x ∈ r.heard) ∧
  (∀ s rx run mac, s.lease.fwUp = true → rx ≠ [] → (∀ x ∈ rx, s.stationHears false x = true) → ∃ t,
    exec (.cmStartAttenCharInd rx run mac) s = .next t ∧ ∃ r ∈ t.slac, r.run = run ∧ r.mac = mac ∧ r.start.isSome = true ∧
      ∀ x ∈ rx, x ∈ r.heard) ∧
  (∀ s run mac (atten : List (Nat × List Nat)), s.lease.fwUp = true → exec (.cmMnbcSoundInd ⟨run, mac⟩ atten) s = .next
    { s with slac := s.slac.map fun r => if r.run = run ∧ r.mac = mac ∧ s.windowOpen r = true then
        { r with sounds := ((atten.filter fun a => s.stationHears false a.1).foldl
            (fun l a => addSound l a.1 (a.2.take 58).sum) r.sounds) }
      else r }) ∧
  (∀ (s : State) r t0, r.start = some t0 → s.windowOpen r = !s.reached ((t0 + 4800) % ccMod)) ∧
  (∀ s run mac r t0, (s.slac.find? fun r => r.same run mac && r.chosen.isNone) = some r → r.start = some t0 →
    s.lease.fwUp = true → s.reached ((t0 + 4800) % ccMod) = true → exec (.soundingWindowEnd ⟨run, mac⟩) s = .next (s.decideRun r)) ∧
  (∀ s sp run mac r, s.vehicleUp sp = true → s.linkState sp = 1 → s.rngOk = true → s.listening = false → r ∈ s.slac →
    r.run = run → r.mac = mac → r.chosen = some sp →
    ∃ t, exec (.cmSlacMatchReq sp run mac) s = .next t ∧ t.linkState sp = 2 ∧ t.get (k1AVehicleMAC sp) = mac ∧
      t.out = s.out ++ [.vehicle sp "CM_SLAC_MATCH.CNF" [run, mac]] ∧ ∀ x ∈ t.slac, ¬(x.run = run ∧ x.mac = mac)) ∧
  (∀ s sp, s.vehicleUp sp = true → s.stationHears false sp = true → s.getN (k1ALinkControlInForce sp) ≠ 0 → exec (.cmValidateReq sp) s = .next
    (s.say sp "CM_VALIDATE.CNF not required" [])) ∧
  (∀ s sp t0, (s.vlink sp).matchedAt = some t0 → s.vehicleUp sp = true → s.linkState sp = 2 →
    s.reached ((t0 + 160000) % ccMod) = true → exec (.matchTimeout sp) s = .next (s.failedAttempt sp)) ∧
  (∀ s sp, s.vehicleUp sp = true → 2 ≤ s.linkState sp → s.linkState sp ≤ 4 → ∃ t p, exec (.seccDiscovery sp) s = .next t ∧
    t.out = s.out ++ [.vehicle sp "SECCDiscoveryRes" [p]] ∧ t.obj = s.obj) ∧
  (∀ s sp o, s.vehicleUp sp = true → s.linkState sp = 2 → tlsCommon o = true →
    (s.slotKey (if o.version = 2 then 26 else 27)).isSome = true → s.cryptoOk = true → s.rngOk = true → ∃ t,
    exec (.tlsHandshake sp o) s = .next t ∧ objects s t [(k1ATLS sp, (o.version - 1 : Nat))] ∧
      t.vault.keyRegister = s.slotKey (if o.version = 2 then 26 else 27) ∧
      (sp < s.spokes.length → ((t.vlink sp).tlsKey.bind t.unwrap).isSome = true) ∧
      t.out = s.out ++ [.vehicle sp "TLS" [(o.version : Int), b1 (s.asksClient sp o), 0]]) ∧
  (∀ s sp o, s.vehicleUp sp = true → s.linkState sp = 2 → tlsCommon o = false → ∃ t, exec (.tlsHandshake sp o) s = .next t ∧
    t.obj = s.obj ∧ t.out = s.out ++ [.vehicle sp "alert handshake_failure" []]) ∧
  (∀ s sp t0, (s.vlink sp).tlsFailedAt = some t0 → s.vehicleUp sp = true → s.linkState sp = 2 →
    s.reached ((t0 + 160000) % ccMod) = true → exec (.tlsFallbackTimeout sp) s = .next
      ((s.leaveLink sp 5).notice 0 0x0706 (sp * 256 + 3))) ∧
  (∀ (s : State) (sp : Nat), (s.failedAttempt sp).linkState sp = (if 2 ≤ s.getN (k1AFailedAttempts sp) then 5 else 1) ∧
     (2 ≤ s.getN (k1AFailedAttempts sp) → ⟨0x0702, 0, sp⟩ ∈ (s.failedAttempt sp).recorder.raised))

/-- R247: the protocol that is chosen is one the vehicle offered and the device enables, and fits the TLS in use; with any
such protocol one is chosen. -/
def Obligations.ProtocolChoiceIsCommon : Prop :=
  ∀ offered enabled tls prio : Nat, protocolChoice offered enabled tls prio ≤ 3 ∧
    (∀ p, protocolChoice offered enabled tls prio = p + 1 → bit offered p = true ∧ bit enabled p = true ∧
      (p = 0 → tls = 0) ∧ (p = 1 → tls ≤ 1) ∧ (p = 2 → tls = 2)) ∧
    (∀ p, p ≤ 2 → bit offered p = true → bit enabled p = true → (p = 0 → tls = 0) → (p = 1 → tls ≤ 1) → (p = 2 → tls = 2) →
      protocolChoice offered enabled tls prio ≠ 0)

/-- R242, R243, R247, R248, R250, R254, R398: the messages of a vehicle's session up to the schedule; a contract that is
presented: a chain that fails is turned away with notice 0707h, a listed one whose entry is not usable is refused, one that
the list does not name is shown and waits for the host. That a contract presented again in one session is decided again is the
model's choice (log entry 34). -/
def Obligations.VehicleSetupRows : Prop :=
  (∀ s sp offered p, s.vehicleUp sp = true → s.linkState sp = 2 → p ≠ 0 →
    protocolChoice offered (s.getN (k1AProtocolEnable sp)) (s.getN (k1ATLS sp)) (s.getN k1AProtocolPriority) = p →
    ∃ t, exec (.supportedAppProtocol sp offered) s = .next t ∧ objects s t [(k1AProtocol sp, p)] ∧
      t.out = s.out ++ [.vehicle sp "supportedAppProtocolRes" [(p : Int)]]) ∧
  (∀ s sp evccid, s.inSession sp [1, 2, 3, 4] [2] = true → ∃ t, exec (.sessionSetup sp evccid) s = .next t ∧
    t.linkState sp = 3 ∧ answered s t sp "SessionSetupRes" [] ∧
    t.get (k1AEVCCID sp) = (txtOf (hexText (bytesBE 6 evccid)) : Nat)) ∧
  (∀ s sp, s.inSession sp [2, 3, 4] [3] = true → ∃ t, exec (.serviceDiscovery sp) s = .next t ∧ t.obj = s.obj ∧
    answered s t sp "ServiceDiscoveryRes" ([(s.proto sp : Int), b1 (s.pncOffered sp), b1 (s.bptOffered sp)] ++ s.transferModes sp)) ∧
  (∀ s sp, s.inSession sp [1] [3] = true → ∃ t, exec (.serviceDiscovery sp) s = .next t ∧ t.linkState sp = 5 ∧
    ⟨0x0706, 0, sp * 256 + 1⟩ ∈ t.recorder.raised) ∧
  (∀ s sp n, s.inSession sp [2, 3, 4] [3] = true → ∃ t, exec (.serviceDetail sp n) s = .next t ∧ t.obj = s.obj ∧
    answered s t sp "ServiceDetailRes" [(n : Int)]) ∧
  (∀ s sp, s.inSession sp [2] [3] = true → ∃ t, exec (.paymentServiceSelection sp false) s = .next t ∧
    objects s t [(k1AIdentification sp, 1)] ∧ answered s t sp "PaymentServiceSelectionRes" [1]) ∧
  (∀ s sp, s.inSession sp [2] [3] = true → s.pncOffered sp = true → ∃ t, exec (.paymentServiceSelection sp true) s = .next t ∧
    objects s t [(k1AIdentification sp, 2)] ∧ answered s t sp "PaymentServiceSelectionRes" [1]) ∧
  (∀ s sp emaid chain, s.inSession sp [2] [3] = true → s.getN (k1AIdentification sp) = 2 →
    exec (.paymentDetails sp emaid chain) s = .next (((messaged s sp).presentContract sp emaid chain).1.say sp "PaymentDetailsRes"
      [b1 ((messaged s sp).vlink sp).stopping, (((messaged s sp).presentContract sp emaid chain).2 : Int)])) ∧
  (∀ s sp emaid chain, s.inSession sp [3, 4] [3] = true → s.pncOffered sp = true → ∃ (u : State) (n : Nat),
    exec (.authorization sp (some (emaid, chain))) s = .next (u.say sp "AuthorizationRes"
      [b1 ((messaged s sp).vlink sp).stopping, if n = 0 then 3 else u.authProgress sp]) ∧
    (u, n) = ((messaged s sp).put (k1AIdentification sp) 2).presentContract sp emaid chain) ∧
  (∀ s sp, s.inSession sp [3, 4] [3] = true → ∃ t, exec (.authorizationSetup sp) s = .next t ∧ t.obj = s.obj ∧
    answered s t sp "AuthorizationSetupRes" [b1 (s.pncOffered sp)]) ∧
  (∀ s sp, s.inSession sp [2] [3] = true → ∃ t, exec (.authorization sp none) s = .next t ∧ t.obj = s.obj ∧
    answered s t sp "AuthorizationRes" [s.authProgress sp]) ∧
  (∀ s sp, s.inSession sp [3, 4] [3] = true → ∃ t, exec (.serviceSelection sp false) s = .next t ∧
    objects s t [(k1AProtocol sp, 3)] ∧ answered s t sp "ServiceSelectionRes" [1]) ∧
  (∀ (s : State) (sp emaid : Nat) (chain : List Nat), (s.vlink sp).contract ≠ some emaid → sp < s.spokes.length →
     if chain.length ≤ 4 ∧ s.timeValid = true ∧ s.cryptoOk = true ∧ Config.chainOk (s.payload 5) chain s.wall = true then
       (s.presentContract sp emaid chain).2 = 1 ∧
       match authEntry (s.payload 3) (contractIdent emaid) with
       | none =>
         objects s (s.presentContract sp emaid chain).1 [(k1AContractIdentity sp, emaid), (k1AContractPending sp, 1)] ∧
           ((s.presentContract sp emaid chain).1.vlink sp).contractEnd =
             some (s.after (secTicks (s.getN k1AContractDecisionTime)))
       | some e =>
         if s.authUsable e = true then
           ((s.presentContract sp emaid chain).1.vlink sp).contractResult =
             if ((s.modVLink sp fun l => { l with contract := some emaid }).authorise sp (contractIdent emaid)
               (authPurse (s.payload 3) e)).2 = 1 then 1 else 2
         else (s.presentContract sp emaid chain).1.obj = s.obj ∧
           ((s.presentContract sp emaid chain).1.vlink sp).contractResult = 2
     else (s.presentContract sp emaid chain).2 = 0 ∧ (s.presentContract sp emaid chain).1.obj = s.obj ∧
       ∃ n ∈ (s.presentContract sp emaid chain).1.recorder.raised, n.code = 0x0707)

/-- R243, R248, R249, R254: charge parameters, power delivery, the charge loop, receipts and the end of the session. The power
of the PMaxSchedule entry is free (log entry 34). -/
def Obligations.VehicleChargeRows : Prop :=
  (∀ s sp mode vmax, s.inSession sp [2] [3] = true → mode ≠ .other → ∃ t p,
    exec (.chargeParameterDiscovery sp ⟨mode, vmax⟩) s = .next t ∧ t.getN (k1AVehicleMaximumCurrent sp) = smallest vmax ∧
    answered s t sp "ChargeParameterDiscoveryRes" [s.evseMax sp, 1, 1, p]) ∧
  (∀ s sp vmax (vdis : Nat), s.inSession sp [4] [3] = true → ∃ t, exec (.acChargeParameterDiscovery sp vmax vdis) s = .next t ∧
    t.getN (k1AVehicleMaximumCurrent sp) = smallest vmax ∧ t.get (k1AVehicleMaximumDischarge sp) = vdis ∧
    answered s t sp "AC_ChargeParameterDiscoveryRes" [s.evseMax sp, s.dischargeMax sp]) ∧
  (∀ s sp dyn, s.inSession sp [3, 4] [3, 4] = true → ∃ t, exec (.scheduleExchange ⟨sp, dyn⟩) s = .next t ∧ t.obj = s.obj ∧
    answered s t sp "ScheduleExchangeRes" [b1 dyn, s.evseMax sp]) ∧
  (∀ s sp, s.inSession sp [2, 3, 4] [3, 4] = true → 0 < s.evseMax sp → ∃ t, exec (.powerDelivery sp .start) s = .next t ∧
    t.linkState sp = 4 ∧ answered s t sp "PowerDeliveryRes" [1]) ∧
  (∀ s sp, s.inSession sp [2, 3, 4] [3, 4] = true → s.evseMax sp ≤ 0 → ∃ t, exec (.powerDelivery sp .start) s = .next t ∧
    t.obj = s.obj ∧ answered s t sp "PowerDeliveryRes" [0]) ∧
  (∀ s sp, s.inSession sp [2, 3, 4] [3, 4] = true → sp < s.spokes.length → ∃ t, exec (.powerDelivery sp .stop) s = .next t ∧
    t.linkState sp = 3 ∧ bit (t.pedal sp).raised fStop = true ∧ answered s t sp "PowerDeliveryRes" [1]) ∧
  (∀ s sp, s.inSession sp [2] [3, 4] = true → ∃ t, exec (.powerDelivery sp .renegotiate) s = .next t ∧
    objects s t [(k1ALinkState sp, 3)] ∧ (t.pedal sp).raised = (s.pedal sp).raised ∧ answered s t sp "PowerDeliveryRes" [1]) ∧
  (∀ s sp t0, (s.vlink sp).startAt = some t0 → s.vehicleUp sp = true → s.linkState sp = 3 → s.evseMax sp = 0 →
    s.reached ((t0 + 480000) % ccMod) = true → exec (.powerDeliveryTimeout sp) s = .next
      (s.modVLink sp fun l => { l with startAt := none, stopping := true })) ∧
  (∀ s sp, s.inSession sp [2] [4] = true → ∃ t, exec (.chargingStatus sp) s = .next t ∧ t.obj = s.obj ∧
    answered s t sp "ChargingStatusRes" (s.evseMax sp :: s.meterInfo sp)) ∧
  (∀ s sp vmax vdis, s.inSession sp [3, 4] [4] = true → ∃ t, exec (.acChargeLoop sp vmax vdis) s = .next t ∧
    t.getN (k1AVehicleMaximumCurrent sp) = smallest vmax ∧
    answered s t sp "AC_ChargeLoopRes" ([s.evseMax sp, s.dischargeMax sp] ++ s.meterInfo sp)) ∧
  (∀ s sp, s.inSession sp [2] [3, 4] = true → ∃ t, exec (.meteringReceipt sp) s = .next t ∧ t.obj = s.obj ∧
    answered s t sp "MeteringReceiptRes" []) ∧
  (∀ s sp, s.inSession sp [3, 4] [3, 4] = true → ∃ t, exec (.meteringConfirmation sp) s = .next t ∧ t.obj = s.obj ∧
    answered s t sp "MeteringConfirmationRes" []) ∧
  (∀ s sp, s.inSession sp [2, 3, 4] [3, 4] = true → ∃ t, exec (.sessionStop sp) s = .next t ∧ t.linkState sp = 1 ∧
    answered s t sp "SessionStopRes" [])

/-- R242, R243, R248, R250: an unsupported message, losses, the orderly stop, the host's decision on a contract. -/
def Obligations.VehicleEndRows : Prop :=
  (∀ s sp, s.vehicleUp sp = true → (s.vlink sp).tcp = true → 2 ≤ s.linkState sp → s.linkState sp ≤ 4 →
    exec (.unsupportedMessage sp) s = .next (((s.forRecord sp).say sp "FAILED" [(s.proto sp : Int)]).modVLink sp fun l =>
      { l with stopping := true, stopAt := some s.cc, lastMsg := s.cc })) ∧
  (∀ s sp, s.vehicleUp sp = true → s.linkState sp = 3 ∨ s.linkState sp = 4 → exec (.abnormalLoss sp true) s = .next
    ((s.leaveLink sp (if s.pilotBcd sp = true then 1 else 0)).notice 0 0x0705 sp)) ∧
  (∀ s sp, s.vehicleUp sp = true → s.linkState sp = 3 ∨ s.linkState sp = 4 →
    s.reached (((s.vlink sp).lastMsg + 480000) % ccMod) = true → exec (.abnormalLoss sp false) s = .next
    ((s.leaveLink sp (if s.pilotBcd sp = true then 1 else 0)).notice 0 0x0705 sp)) ∧
  (∀ s sp t0, (s.vlink sp).stopAt = some t0 → s.vehicleUp sp = true → s.reached ((t0 + 40000) % ccMod) = true →
    exec (.orderlyStopTimeout sp) s = .next (s.leaveLink sp 1)) ∧
  (∀ (s : State) sp st, (s.leaveLink sp st).linkState sp = st ∧ (s.leaveLink sp st).get (k1AProtocol sp) = 0 ∧
    (s.leaveLink sp st).get (k1ATLS sp) = 0 ∧ (s.leaveLink sp st).getN (k1AVehicleMaximumCurrent sp) = 0) ∧
  (∀ s sid sp v, s.rowPasses sid (k1AContractDecision sp) v = true → v = 1 ∨ v = 2 → s.getN (k1AContractPending sp) ≠ 0 →
    exec (.contractDecision sid sp v) s = .next ((s.writeOne sid (k1AContractDecision sp) v (applyContract sp v)).atStep5)) ∧
  (∀ s sp t0, (s.vlink sp).contractEnd = some t0 → s.getN (k1AContractPending sp) = 1 → s.vehicleUp sp = true →
    s.reached t0 = true →
    exec (.contractDecisionTimeout sp) s = .next ((((s.put (k1AContractPending sp) 0).modVLink sp fun l =>
      { l with contractEnd := none }).modVLink sp fun l => { l with contractResult := 2 })))

/-- R317-R321: a message at every eightieth tick, copies and pairs, a missing twin, silence; a copy with a good check sum, of
this group, from a supervised peer, newer than the last, demanding nothing and without its twin is kept and stops nothing. -/
def Obligations.TandemRows : Prop :=
  (∀ s, s.flag k1EEnable = true → s.lease.fwUp = true → s.cc % 80 = 0 → s.tandemAt ≠ some s.cc → ∃ t, exec .tandemSend s = .next t ∧
    t.getN k1ESequenceSent = (s.getN k1ESequenceSent + 1) % 2 ^ 32 ∧ t.tandemAt = some s.cc ∧
    ∃ b : List Nat, b = s.tandemBytes (t.getN k1ESequenceSent) ∧ b.length = 28 ∧ t.out = s.out ++
      [.canFrame 1 (canIdent 0 0x1F 0 (s.getN (k04NodeID 1)) (s.getN k1EMemberNumber)) (tandemMessage 0 b),
        .tandem (s.getN k1ETandemPort) (tandemMessage 1 b)]) ∧
  (∀ s net msg, s.flag k1EEnable = true → s.lease.fwUp = true → msg.length = 32 →
    numBE ((natBytes msg).drop 28) ≠ crc32From (tandemInit net) ((natBytes msg).take 28) → exec (.tandemCopy net msg) s = .next
      (s.count (k1ECRCFailures (16 + (natBytes msg).headD 0 % 16)))) ∧
  (∀ s m seq c, (s.peer m).copies.find? (fun c => c.2.1 = seq) = some c → s.supervised m = true →
    s.compareWindow < s.since c.2.2.1 → exec (.missingTwin m seq) s = .next
      (((s.acceptSeq m seq).count (k1EMissingTwins (16 + m))).losePeer m 0x0A31)) ∧
  (∀ (s : State) m seq, (s.seqOk m seq = true → (s.acceptSeq m seq).getN (k1ELastSEQ (16 + m)) = seq) ∧
    (s.seqOk m seq = false → (s.acceptSeq m seq).getN (k1ELastSEQ (16 + m)) = s.getN (k1ELastSEQ (16 + m))) ∧
    (m < s.peers.length → ((s.acceptSeq m seq).peer m).accepted = true ∧ ∀ c ∈ ((s.acceptSeq m seq).peer m).copies, c.2.1 ≠ seq)) ∧
  (∀ s m, s.supervised m = true → s.getN (k1EPeerState (16 + m)) = 1 → 80 + s.compareWindow < s.since (s.peer m).lastPair →
    exec (.tandemSilence m) s = .next (s.losePeer m 0x0A32)) ∧
  (∀ (s : State) m code, m < 16 → s.flag k1EEnable = true → bit (s.getN k1EPeerMask) m = true →
    (s.losePeer m code).getN (k1EPeerState (16 + m)) = 2 ∧ (s.losePeer m code).getN k1ETandemState = 2) ∧
  (∀ (s : State) (net : Nat) (msg : List Byte) (m seq : Nat), m = (natBytes msg).headD 0 % 16 →
     seq = numBE (((natBytes msg).take 28 |>.drop 4).take 4) → s.flag k1EEnable = true → s.lease.fwUp = true → msg.length = 32 →
     numBE ((natBytes msg).drop 28) = crc32From (tandemInit net) ((natBytes msg).take 28) →
     numBE (((natBytes msg).take 28 |>.drop 2).take 2) = s.getN k1EGroupIdentity → s.supervised m = true →
     s.seqOk m seq = true →
     field (numBE (((natBytes msg).take 28 |>.drop 14).take 2)) 13 10 = 0 → (∀ c ∈ (s.peer m).copies, c.2.1 ≠ seq) →
     exec (.tandemCopy net msg) s = .next (s.modPeer m fun p =>
       { p with copies := p.copies ++ [(net, seq, s.cc, toBytes ((natBytes msg).take 28))] }))

/-- R357, R358, R360, R361, R366: pings, polling, the settled tap, the host's decision, an external field. -/
def Obligations.TapRows : Prop :=
  (∀ s a r, a < 24 → s.cc % 1600 = pingPhase a → s.aerialState a = 0 → s.silenced (feOf a) = false →
    s.holder (feOf a) = none → s.detects = true → s.getN (k21Baseline (16 + a)) ≠ 0 → s.deviation a r < s.getN (k21Threshold (16 + a)) →
    ∃ t, exec (.ping a r false) s = .next t ∧ t.getN (k21Deviation (16 + a)) = s.deviation a r ∧ t.aerialState a = 0 ∧
      t.get (k21Baseline (16 + a)) =
        roundQ ((s.getN (k21Baseline (16 + a)) : Rat) + ((r : Rat) - s.getN (k21Baseline (16 + a))) / 16)) ∧
  (∀ s a r, a < 24 → s.cc % 1600 = pingPhase a → s.aerialState a = 0 → s.silenced (feOf a) = false →
    s.holder (feOf a) = none → s.detects = true → s.getN (k21Threshold (16 + a)) ≤ s.deviation a r →
    ∃ t, exec (.ping a r false) s = .next t ∧ t.aerialState a = 1 ∧
      (a < s.aerials.length → (t.aerial a).pollAt = some (s.after 1))) ∧
  (∀ s a cards, a < 24 → s.aerialState a = 1 → s.reachedOpt (s.aerial a).pollAt = true → s.runsFully = true →
    s.silenced (feOf a) = false → s.holder (feOf a) = some a → cards ≠ [] → cards.length ≤ 255 → a < s.aerials.length → ∃ t, exec (.polling a cards false) s = .next t ∧
      t.getN (k21CardsInField (16 + a)) = cards.length ∧
      (t.aerial a).settleEnd = some (s.after (msTicks (s.getN k21SettleTime))) ∧ (t.aerial a).cards = enumerated cards ∧
      t.get (k21Transactions (feOf a)) = oneMore s (k21Transactions (feOf a)) ∧
      ((∀ p, (s.aerial a).pollAt = some p → s.since p ≤ 2400) →
        t.out = s.out ++ (s.pollFrames cards).map fun x => .reader a x.1 x.2)) ∧
  (∀ s a c, a < 24 → s.reachedOpt (s.aerial a).settleEnd = true → s.firmwareUp = true → (s.aerial a).void = false →
    (s.aerial a).cards = [c] → cardRandom c = true → ∃ t, exec (.settleEnd a) s = .next t ∧ t.aerialState a = 2 ∧
      t.getN (k21LastResult (16 + a)) = 7 ∧ t.get (k21LastIdentity (16 + a)) = cardText c ∧
      ⟨0x0C03, 0, a * 256 + 7⟩ ∈ t.recorder.raised) ∧
  (∀ s a, a < 24 → s.reachedOpt (s.aerial a).settleEnd = true → s.firmwareUp = true → (s.aerial a).void = true →
    ∃ t, exec (.settleEnd a) s = .next t ∧ t.aerialState a = 2 ∧ t.getN (k21LastResult (16 + a)) = 5) ∧
  (∀ s sid a v, s.rowPasses sid (k21Decision (16 + a)) v = true → s.getN (k21LastResult (16 + a)) = 6 →
    exec (.decision sid a v) s = .next ((s.writeOne sid (k21Decision (16 + a)) v (applyDecision a v)).atStep5)) ∧
  (∀ s sid a v, s.rowPasses sid (k21Decision (16 + a)) v = true → s.getN (k21LastResult (16 + a)) ≠ 6 →
    exec (.decision sid a v) s = .next ((s.answer sid (k21Decision (16 + a)) stNotNow).atStep5)) ∧
  (∀ s a, a < 24 → s.getN (k21LastResult (16 + a)) = 6 → s.reachedOpt (s.aerial a).decisionEnd = true → ∃ t,
    exec (.decisionTimeout a) s = .next t ∧ t.getN (k21LastResult (16 + a)) = 3) ∧
  (∀ s, s.emulation.field = false → ∃ t, exec .externalField s = .next t ∧ t.emulation.field = true ∧ t.silenced 0 = true) ∧
  (∀ s, exec .fieldAbsent s = .next (({ s with emulation := {} } : State).showFront 0))

/-- R362, R363, R365: exchanges with a card, the waiting time, card emulation. -/
def Obligations.ExchangeRows : Prop :=
  (∀ s sid a apdu, s.rowPasses sid (k21APDUCommand (16 + a)) (blkOf (natBytes apdu)) = true →
    checkApdu a (blkOf (natBytes apdu)) s = stOk → exec (.apduCommand sid a apdu) s = .next
      ((s.writeOne sid (k21APDUCommand (16 + a)) (blkOf (natBytes apdu)) (applyApdu a (blkOf (natBytes apdu)))).atStep5)) ∧
  (∀ s a m resp, a < 24 → s.awaits a = true → s.speaksIso4 a = true → exec (.apduResponse a (some m) resp) s = .next
    ((s.modAerial a fun x => { x with waitEnd := s.after (max 1 m * frameWait (((s.aerial a).card.map Card.fwi).getD 4)) }).send
      (.card a [0xF2, BitVec.ofNat 8 m]))) ∧
  (∀ s a m resp, a < 24 → s.awaits a = true → s.speaksIso4 a = false → (m ≠ none ∨ resp ≠ []) → ∃ t,
    exec (.apduResponse a m resp) s = .next t ∧ t.getN (k21APDUStatus (16 + a)) = stBadType ∧ t.out = s.out) ∧
  (∀ s a resp, a < 24 → s.awaits a = true → s.speaksIso4 a = true → resp ≠ [] → ∃ t, exec (.apduResponse a none resp) s = .next t ∧
    t.getN (k21APDUStatus (16 + a)) = stOk ∧ t.get (k21APDUResponse (16 + a)) = blkOf ((natBytes resp).take 258) ∧
    t.out = s.out ++ [.card a [0xC2]]) ∧
  (∀ s a, a < 24 → s.awaits a = true → s.speaksIso4 a = true → ∃ t,
    exec (.apduResponse a none []) s = .next t ∧
    t.getN (k21APDUStatus (16 + a)) = stNoObject) ∧
  (∀ s a, a < 24 → s.reachedOpt (s.aerial a).exchangeEnd = true → ∃ t, exec (.waitingTimeCap a) s = .next t ∧
    t.getN (k21APDUStatus (16 + a)) = stExpired ∧ noticed s t ⟨0x0C10, 0, a⟩ ∧ t.out = s.out ++ [.card a [0xC2]]) ∧
  (∀ s, s.emulates = true → exec (.emulationApdu [0x00, 0xA4, 0x04, 0x00, 0x07, 0xF0, 0x54, 0x52, 0x54, 0x4B, 0x4F, 0x44]) s =
    .next (({ s with emulation := { s.emulation with app := 2, file := 0 } } : State).send (.emulation [0x90, 0x00]))) ∧
  (∀ s, s.emulates = true → s.emulation.app = 1 → exec (.emulationApdu [0x00, 0xA4, 0x00, 0x0C, 0x02, 0xE1, 0x04]) s =
    .next (({ s with emulation := { s.emulation with file := 0xE104 } } : State).send (.emulation [0x90, 0x00]))) ∧
  (∀ s t0, s.emulation.waiting = some t0 → 40000 ≤ s.since t0 → ∃ t, exec .emulationWtx s = .next t ∧
    t.emulation.waiting = none ∧ t.out = s.out ++ [.emulation [0x6F, 0x00]]) ∧
  (∀ s t0, s.emulation.waiting = some t0 → s.since t0 < 40000 → 2696 * (s.emulation.wtx + 1) ≤ 10 * s.since t0 →
    exec .emulationWtx s = .next
      (({ s with emulation := { s.emulation with wtx := s.emulation.wtx + 1 } } : State).send .wtx))

/-- R371-R376: the air interface of the dormant tag, its writes, the field and the identity area; a page write programs pages
of the shadow slot alone, so the current record stays readable until its successor is complete. -/
def Obligations.TagRows : Prop :=
  (∀ s, s.tag.picc = .idle → s.tag.prog = none → exec .reqa s = .next
    ((s.modTag fun t => { t with field := true, picc := .ready 1 false }).tagReply [0x44, 0x00])) ∧
  (∀ s, s.tag.picc = .halt → s.tag.prog = none → exec .reqa s = .next s ∧ exec .wupa s = .next
    ((s.modTag fun t => { t with field := true, picc := .ready 1 true }).tagReply [0x44, 0x00])) ∧
  (∀ s l n u, s.tag.prog.isSome = true → exec .reqa s = .next (s.modTag fun t => { t with field := true }) ∧
    exec .wupa s = .next (s.modTag fun t => { t with field := true }) ∧ exec (.anticollision l n u) s = .next s) ∧
  (∀ s h l n u, s.tag.picc = .ready l h → s.tag.prog = none → n < 40 → u % 2 ^ n = levelBits l % 2 ^ n →
    exec (.anticollision l n u) s = .next (s.send (.tagBits (40 - n) (levelBits l / 2 ^ n)))) ∧
  (∀ s h l n u, s.tag.picc = .ready l h → s.tag.prog = none → n ≤ 40 → u % 2 ^ n ≠ levelBits l % 2 ^ n →
    exec (.anticollision l n u) s = .next (s.modTag fun t => { t with picc := if h then .halt else .idle })) ∧
  (∀ s h, s.tag.picc = .ready 1 h → s.tag.prog = none → ∃ t, exec (.anticollision 1 40 (levelBits 1)) s = .next t ∧ t.tag.picc = .ready 2 h ∧
    t.out = s.out ++ [.tagReply [0x04]]) ∧
  (∀ s h, s.tag.picc = .ready 2 h → s.tag.prog = none → ∃ t, exec (.anticollision 2 40 (levelBits 2)) s = .next t ∧ t.tag.picc = .active ∧
    t.out = s.out ++ [.tagReply [0x00]]) ∧
  (∀ s, s.tag.picc = .active → exec .hlta s = .next (s.modTag fun t => { t with picc := .halt })) ∧
  (∀ s page, s.tagServes = true → page < 516 → exec (.tagRead page) s = .next
    (s.tagReply ((List.range 16).map fun i => tagByte s.tag ((4 * page + i) % 2064)))) ∧
  (∀ s page data, s.tagServes = true → inSlot (shadowSlot s.tag) page = true → ∃ t, exec (.tagWrite page data true) s = .next t ∧
    t.tag.prog = some (.page page data) ∧ t.tag.progEnd = s.after 32 ∧ t.tag.mem = s.tag.mem) ∧
  (∀ s page data, s.tagServes = true → page ≠ 133 → page ≠ 134 → inSlot (shadowSlot s.tag) page = false →
    exec (.tagWrite page data true) s = .next (s.tagReply [0x00])) ∧
  (∀ s data, s.tagServes = true → markerAccepted s.tag data = true → ∃ t q,
    exec (.commitMarkerWrite (markerPage (shadowSlot s.tag)) data true) s = .next t ∧
      t.tag.prog = some (.marker (markerPage (shadowSlot s.tag)) data q) ∧ t.tag.mem = s.tag.mem) ∧
  (∀ s, s.tag.prog = none → ∃ t, exec .tagFieldLost s = .next t ∧ t.tag.picc = .idle ∧ t.tag.field = false ∧ t.tag.mem = s.tag.mem ∧
    t.getN k22TagState = 0) ∧
  (∀ s, s.tag.fdet = false → ∃ t, exec .fdetRelease s = .next t ∧ t.tag.fdet = true ∧ t.getN k22TagState = 1 ∧
    t.get k22FieldEvents = oneMore s k22FieldEvents) ∧
  (∀ s t0, s.tag.fieldGone = some t0 → s.tag.fdet = true → s.tag.field = false → s.reached ((t0 + 800) % ccMod) = true →
    exec .fdetLow s = .next (s.modTag fun x => { x with fdet := false, fieldGone := none })) ∧
  (∀ s i, s.modes.powered = true → s.tag.field = false → s.tag.prog = none → tagPage s.tag (4 + i) ≠ (s.identityArea.drop (4 * i)).take 4 →
    i < 128 → (∀ j < i, tagPage s.tag (4 + j) = (s.identityArea.drop (4 * j)).take 4) →
    exec .identityRewrite s = .next (s.startProg (.own (4 + i) (toBytes ((s.identityArea.drop (4 * i)).take 4))))) ∧
  (∀ s, (∀ i < 128, tagPage s.tag (4 + i) = (s.identityArea.drop (4 * i)).take 4) ∨ s.tag.field = true →
    exec .identityRewrite s = .next s) ∧
  (∀ (s : State) (page : Nat) (data : List Byte) (ok : Bool) (t : State), exec (.tagWrite page data ok) s = .next t →
     t.tag.mem = s.tag.mem ∧ t.obj = s.obj ∧ (∀ p d, t.tag.prog = some (.page p d) → t.tag.prog ≠ s.tag.prog →
       inSlot (shadowSlot s.tag) p = true))

/-- R369, R370, R416, R417, R420-R422, R424, R425, R427: keys are accepted after twenty scans, digits are collected, the entry
times out; the rows of the display; a word written through the draw window is read back at its offset and every other word of
the draw buffer keeps its value. -/
def Obligations.PanelRows : Prop :=
  (∀ s k, k < 16 → s.keypad.pressed.getD k false = false → 20 ≤ s.keypad.runs.getD k 0 → exec (.keyPress k) s = .next
    ((s.keyEvent k true).tokenKey k)) ∧
  (∀ s k, k < 16 → s.keypad.pressed.getD k false = true → 20 ≤ s.keypad.runs.getD k 0 → exec (.keyRelease k) s = .next
    (s.keyEvent k false)) ∧
  (∀ (s : State) k (p : Bool), (s.keyEvent k p).getN k23LastKeyEvent =
      (if s.flag k23TokenEntry = true ∧ k % 4 ≠ 3 then 255 else k) * 256 + (if p = true then 1 else 0) ∧
    (s.keyEvent k p).get k23KeyEvents = oneMore s k23KeyEvents ∧ (s.keyEvent k p).keypad.lastKey = s.cc) ∧
  (∀ s : State, s.flag k23TokenEntry = true → s.keypad.digits.length < 20 →
    (s.tokenKey 0).keypad.digits = s.keypad.digits ++ [0x31] ∧ (s.tokenKey 0).getN k23DigitsEntered = s.keypad.digits.length + 1) ∧
  (∀ s : State, s.flag k23TokenEntry = true → (s.tokenKey 12).keypad.digits = []) ∧
  (∀ s : State, s.flag k23TokenEntry = true → s.tokenKey 14 = (s.enterToken 34 s.keypad.digits).setDigits []) ∧
  (∀ s, s.keypad.digits ≠ [] → s.flag k23TokenEntry = true →
    s.reached ((s.keypad.lastKey + secTicks (s.getN k23EntryTimeout)) % ccMod) = true → ∃ t, exec .entryTimeout s = .next t ∧
      t.keypad.digits = [] ∧ t.getN k23DigitsEntered = 0) ∧
  ((∀ s sid (v : Nat), s.rowPasses sid k24UpdateRequest v = true → rectOk (s.getN k24Width) (s.getN k24Height) v = true →
     s.display.queue.length < 16 → s.flag k24CrackState = false → s.pf.active = false → s.getN k24EngineState ≠ 4 →
     exec (.updateRequest sid v) s = .next ((s.writeOne sid k24UpdateRequest v (applyUpdateRequest v)).atStep5)) ∧
   (∀ s sid (v : Nat), s.rowPasses sid k24UpdateRequest v = true → rectOk (s.getN k24Width) (s.getN k24Height) v = true →
     16 ≤ s.display.queue.length → exec (.updateRequest sid v) s = .next ((s.answer sid k24UpdateRequest stFull).atStep5)) ∧
   (∀ (s : State) (v : Nat), (applyUpdateRequest v s).display.queue = s.display.queue ++ [v] ∧
     (applyUpdateRequest v s).getN k24Waiting = s.display.queue.length + 1) ∧
   (∀ s low high r, s.display.queue = [r] → s.pf.active = false → s.firmwareUp = true → s.admissionDue = true →
     s.loadTable.display.table = [] → ∃ t, exec (.displayAdmission low high) s = .next t ∧ t.display.queue = [] ∧
       t.getN k24Waiting = 0) ∧
   (∀ s low high r i, s.display.queue = [r] → s.pf.active = false → s.firmwareUp = true → s.admissionDue = true →
     s.loadTable.display.table ≠ [] → s.loadTable.scanFits = true → s.loadTable.admissible [] r = some i →
     loopClosed low high = true → (s.display.goodAt.isSome = true → s.loadTable.tempRange.isSome = true) → ∃ t,
     exec (.displayAdmission low high) s = .next t ∧ t.getN (k24SlotState (16 + i)) = 1 ∧ t.getN (k24Rectangle (16 + i)) = r ∧
       t.display.queue = [] ∧ t.getN k24Waiting = 0 ∧ t.display.en = true ∧ t.display.draw = s.display.draw) ∧
   (∀ s low high r i, s.display.queue = [r] → s.pf.active = false → s.firmwareUp = true → s.admissionDue = true →
     s.loadTable.display.table ≠ [] → s.loadTable.scanFits = true → s.loadTable.admissible [] r = some i →
     loopClosed low high = false → ∃ t, exec (.displayAdmission low high) s = .next t ∧ t.getN k24CrackState = 1 ∧
       t.display.queue = [] ∧ t.getN (k24SlotState (16 + i)) = 0 ∧ t.display.front = s.display.front) ∧
   (∀ s u n, s.display.nextFrame = some n → s.reached n = true → s.pf.active = false → s.slotsInFlight = [] → ∃ t,
     exec (.panelFrame u) s = .next t ∧ t.display.oe = true ∧ t.out = s.out ++ (if s.display.oe = true then
         [.panel ((List.range (s.getN k24Height)).map (s.scanLine u))] else []) ∧
       t.display.nextFrame = some ((n + wtFrame s.display.table) % ccMod)) ∧
   (∀ s reg temp, s.display.en = true → s.display.goodAt = none → s.display.enOff = none → s.since s.display.enAt ≤ powerTicks →
     s.since s.display.enAt % 8 = 0 → reg &&& s.getN k24PowerGoodMask = s.getN k24PowerGoodMask → s.slotsInFlight = [] → ∃ t,
     exec (.powerGood reg temp) s = .next t ∧ t.display.goodAt = some s.cc ∧ t.display.nextFrame = some (s.after 2)) ∧
   (∀ s, s.display.en = true → s.display.goodAt = none → s.display.enOff = none → powerTicks ≤ s.since s.display.enAt → ∃ t,
     exec .powerGoodTimeout s = .next t ∧ t.display.en = false ∧ t.display.oe = false ∧ t.display.vcom = false) ∧
   (∀ s i, s.display.idleSince = some i → s.slotsInFlight = [] → s.display.queue = [] →
     s.reached ((i + msTicks (s.getN k24IdleTime)) % ccMod) = true → ∃ t, exec .displayIdle s = .next t ∧ t.display.oe = false ∧
       t.display.vcom = false ∧ t.getN k24EngineState = 0) ∧
   (∀ s g v, s.display.goodAt = some g → s.display.en = true → 0 < s.since g → s.since g % 480000 = 0 → ∃ t,
     exec (.panelTemperatureRead (some v)) s = .next t ∧ objects s t [(k24PanelTemperature, v)]) ∧
   (∀ s sid, s.rowPasses sid k24ClearCrack 1 = true → exec (.clearCrack sid 1 false true) s = .next
     ((s.writeOne sid k24ClearCrack 1 fun u => (u.put k24CrackState 0).noticeOpen 0 0x0E02).atStep5)) ∧
   (∀ s sid low high, s.rowPasses sid k24ClearCrack 1 = true → (low = true ∨ high = false) →
     exec (.clearCrack sid 1 low high) s = .next ((s.answer sid k24ClearCrack stNotNow).atStep5)) ∧
   (∀ s sid (x : Nat), s.rowPasses sid k24DrawData x = true → s.getN k24DrawOffset < drawWords → exec (.drawData sid (some x)) s =
     .next ((s.writeOne sid k24DrawData x (applyDrawData x)).atStep5)) ∧
   (∀ s sid, s.checkRead sid k24DrawData = stOk → s.getN k24DrawOffset < drawWords → exec (.drawData sid none) s = .next
     ((s.put k24DrawOffset (s.getN k24DrawOffset + 1)).send
       (.dataWord sid k24DrawData (storeRead whiteWord s.display.draw (s.getN k24DrawOffset)))))) ∧
  (∀ (s : State) (w : Nat), s.getN k24DrawOffset < drawWords →
     storeRead whiteWord (applyDrawData w s).display.draw (s.getN k24DrawOffset) = w ∧
     (applyDrawData w s).getN k24DrawOffset = s.getN k24DrawOffset + 1 ∧
     ∀ j, j ≠ s.getN k24DrawOffset →
       storeRead whiteWord (applyDrawData w s).display.draw j = storeRead whiteWord s.display.draw j)

/-- R383-R386, R390, R391, R395, R396: tamper, the vault's supply, the generator, bumps, keys, the root and the owner key; a
bump advances the generation of its domain by one, leaves no key of the domain installed, and keeps the slots of the other
domains and the vault. -/
def Obligations.VaultRows : Prop :=
  (∀ s source, 1 ≤ source → source ≤ 8 → source ≠ 6 → s.vault.root.isSome = true → ∃ t, exec (.tamper source) s = .next t ∧
    t.vault.root = none ∧ t.getN k28VaultState = 2 ∧ t.vault.keyRegister = none ∧
    (∀ i, i < 8 → t.getN (k28DomainGeneration (8 + i)) = 0) ∧ t.getN k28LastTamperSource = source) ∧
  (∀ s, s.modes.powered = true → s.vault.vbatNoticed = false → exec .vbatLow s = .next
    (({ s with vault := { s.vault with vbatNoticed := true } } : State).noticeOpen 0 0x0D06)) ∧
  (∀ s, s.modes.powered = true → s.rngOk = true → exec .randomGeneratorFailure s = .next
    ((s.put k28RandomGeneratorState 1).noticeOpen 0 0x0D20)) ∧
  (∀ s sid i, s.rowPasses sid (k28Bump (8 + i)) 1 = true → s.generation i < 65535 → exec (.bump sid i 1) s = .next
    ((s.writeOne sid (k28Bump (8 + i)) 1 (applyBump i 1)).atStep5)) ∧
  (∀ s sid i, s.rowPasses sid (k28Bump (8 + i)) 1 = true → 65535 ≤ s.generation i → exec (.bump sid i 1) s = .next
    ((s.answer sid (k28Bump (8 + i)) stFull).atStep5)) ∧
  (∀ s sid k nonce c len tag, s.rowPasses sid (k28SlotValue k) (keyBlk nonce c len tag) = true →
    exec (.keyInstall sid k nonce c len tag) s = .next
      ((if checkKeyInstall sid k (s.session sid).last (keyBlk nonce c len tag) s = stOk then
        s.writeOne sid (k28SlotValue k) (keyBlk nonce c len tag)
          (applyKeyInstall sid k (s.session sid).last (keyBlk nonce c len tag))
      else (s.internalNotice (checkKeyInstall sid k (s.session sid).last (keyBlk nonce c len tag) s)).answer sid (k28SlotValue k)
        (checkKeyInstall sid k (s.session sid).last (keyBlk nonce c len tag) s)).atStep5)) ∧
  (∀ (s : State) sid k q v, 16 ≤ k → match s.openKey sid k q (blkBytes v) with
    | some key => (applyKeyInstall sid k q v s).getN (k28SlotState k) = 1 ∧ (applyKeyInstall sid k q v s).getN k28VaultState = 0 ∧
      (applyKeyInstall sid k q v s).vault.slots =
        s.vault.slots.set (k - 16) (some (s.wrap (slotDomain k) k (keyLength k) key)) ∧
      (applyKeyInstall sid k q v s).vault.keyRegister = some (s.session sid).key ∧
      noticed s (applyKeyInstall sid k q v s) ⟨0x0D04, sid, k⟩
    | none => applyKeyInstall sid k q v s = s) ∧
  (∀ (s : State) d k l key, (s.wrapSecret d).isSome = true → s.unwrap (s.wrap d k l key) = some key) ∧
  (∀ (s : State) b, b.gen ≠ s.wrapGen b.domain ∨ b.groot ≠ s.getN k28RootGeneration → s.unwrap b = none) ∧
  (∀ s sid, s.rowPasses sid k28ReplaceRoot 1 = true → s.workstand = true → exec (.replaceRoot sid 1) s = .next
    ((s.writeOne sid k28ReplaceRoot 1 (applyReplaceRoot 1)).atStep5)) ∧
  (∀ s sid point, s.rowPasses sid k28OwnerKey (blkOf (bytesBE 97 point)) = true → s.workstand = true →
    s.flag k28OwnerKeyProgrammed = false → (blkBytes (blkOf (bytesBE 97 point))).length = 97 →
    exec (.ownerKey sid 97 point) s = .next ((s.writeOne sid k28OwnerKey (blkOf (bytesBE 97 point)) fun u =>
      (u.put k28OwnerKey (blkOf (bytesBE 97 point))).put k28OwnerKeyProgrammed 1).atStep5)) ∧
  (∀ (s : State) (i : Nat), i < 8 → (applyBump i 1 s).generation i = s.generation i + 1 ∧
     (∀ k ∈ keySlots, slotDomain k = i → (applyBump i 1 s).getN (k28SlotState k) ≠ 1 ∧
       (applyBump i 1 s).slotKey k = none) ∧
     (∀ k ∈ keySlots, slotDomain k ≠ i → (applyBump i 1 s).get (k28SlotState k) = s.get (k28SlotState k)) ∧
     (applyBump i 1 s).vault = s.vault)

/-- R436: the key of an image is the 97 bytes at word 20, followed by five zero bytes (R435). For the FW region it is accepted
when its SHA-384 equals H0; for every other region when it equals the owner key, and while no owner key is programmed when its
SHA-384 equals H0. SHA-384 and H0 are constants of Config (log entry 7). -/
def Obligations.ImageKeyIsAccepted : Prop :=
  ∀ (s : State) (r : Nat) (w key : List Nat), key.length = 97 →
    ((w.drop 20).take 17).flatMap wordBytes = key ++ [0, 0, 0, 0, 0] →
    (s.keyAccepted 0 w = true ↔ Config.sha384 key = Config.h0) ∧
    (r ≠ 0 → s.flag k28OwnerKeyProgrammed = true → (s.keyAccepted r w = true ↔ key = s.ownerBytes)) ∧
    (r ≠ 0 → s.flag k28OwnerKeyProgrammed = false → (s.keyAccepted r w = true ↔ Config.sha384 key = Config.h0))

/-- R70-R74, R77: CAN FD frames, reassembly, datagrams and the other messages of the 10BASE-T1S interface. -/
def Obligations.TransportRows : Prop :=
  (∀ s ctrl (f : CanFrame), s.modes.powered = true → s.lease.fwUp = true → s.modes.booted = true →
    s.carries (.can ctrl (field f.ident 13 7)) = true → f.extended = true → f.fdf = true → f.brs = true → field f.ident 28 26 ≠ 0 →
    1 ≤ field f.ident 13 7 → field f.ident 13 7 ≤ 120 →
    (field f.ident 20 14 = s.getN (k04NodeID ctrl) ∨ field f.ident 20 14 = 0) → field f.ident 6 0 = 64 →
    s.reassembly ctrl (field f.ident 13 7) = none → exec (.canFdFrame ctrl f) s = .next
      { s with kod := { s.kod with reasm := (s.kod.reasm.filter fun x => !(x.ctrl = ctrl && x.node = field f.ident 13 7)) ++
        [{ ctrl := ctrl, node := field f.ident 13 7, prio := field f.ident 28 26, service := field f.ident 25 21, next := 1,
           data := f.data, tick := s.cc }] } }) ∧
  (∀ s ctrl (f : CanFrame), f.brs = false ∨ f.fdf = false ∨ f.extended = false → exec (.canFdFrame ctrl f) s = .next s) ∧
  (∀ s ctrl node x, s.reassembly ctrl node = some x → 400 < s.since x.tick → ∃ t, exec (.reassemblyTimeout ctrl node) s = .next t ∧
    t.reassembly ctrl node = none ∧ t.get k04DiscardedPDUs = oneMore s k04DiscardedPDUs ∧
    t.recorder.raised.getLast? = some ⟨0x0301, 0, ctrl * 256 + node⟩) ∧
  (∀ s addr port data p b, s.netUp = true → 2 ^ 32 ≤ addr → data = b :: 1 :: p → 32 ≤ b.toNat → 6 ≤ p.length →
    p.length = pduTotal (natBytes p) → exec (.kodDatagram addr port .unicast data) s = .next
      (s.receive { ep := .udp addr port, broadcast := false, prio := b.toNat / 32, service := b.toNat % 32, data := p })) ∧
  (∀ s src payload, s.netUp = true → exec (.echoRequest true src payload) s = .next (s.send (.net "echo reply" src payload))) ∧
  (∀ s src payload, s.netUp = true → s.getN k04IPv4Address = 0 → exec (.echoRequest false src payload) s = .next s) ∧
  (∀ s src, s.netUp = true → exec (.neighbourDiscovery src) s = .next (s.send (.net "neighbour advertisement" src
    (toBytes (linkLocal ++ bytesBE 6 (Config.deviceMac % 2 ^ 48)))))) ∧
  (∀ s src, s.netUp = true → s.getN k04IPv4Address ≠ 0 → exec (.arpRequest src (s.getN k04IPv4Address)) s = .next
    (s.send (.net "ARP reply" src (toBytes (bytesBE 4 (s.getN k04IPv4Address) ++ bytesBE 6 (Config.deviceMac % 2 ^ 48))))))

/-- R76, R78, R79, R88-R90, R389: what answers a request that is not served: one whose session key cannot be unwrapped gets
INTEGRITY and notice 0D05h, a wrong tag is discarded and counted, a session that waits is BUSY, a wrong sequence number
BAD_SEQUENCE, an unknown session EXPIRED, a request without a session NOT_LOGGED_IN. -/
def Obligations.RequestsTurnedAway : Prop :=
  ∀ (s : State) (r : KodReq) (service : Nat) (body : List Nat) (run : Service), s.kodUp = true → s.carries r.ep = true →
    r.broadcast = false →
    (r.sid = 0 → (scopeOf service).zero = false → s.serve r service body run =
      (s.taken r service body).respond r service none [stNotLoggedIn]) ∧
    (r.sid ≠ 0 → s.sessionState r.sid = 0 → s.serve r service body run =
      (s.taken r service body).respond r service none [stExpired]) ∧
    (r.sid ≠ 0 → s.sessionState r.sid = 2 → (s.session r.sid).ep = some r.ep → r.tag.isSome = true →
      (s.session r.sid).under ≠ s.vault.bootKey → s.serve r service body run = (s.taken r service body).keyLost r service) ∧
    (r.sid ≠ 0 → s.sessionState r.sid = 2 → (s.session r.sid).ep = some r.ep → (s.session r.sid).under = s.vault.bootKey →
      r.tag ≠ some (kodTag (s.session r.sid).key service (pduBytes 0 true r.sid r.seq body)) → s.serve r service body run =
        (((s.taken r service body).forTag (r.tag.map fun _ => (s.session r.sid).key)).count k04DiscardedPDUs).notice 0 0x0302 r.sid) ∧
    (r.sid ≠ 0 → s.sessionState r.sid = 2 → (s.session r.sid).ep = some r.ep → (s.session r.sid).under = s.vault.bootKey →
      r.tag = some (kodTag (s.session r.sid).key service (pduBytes 0 true r.sid r.seq body)) → (s.session r.sid).busy = true →
      ∃ t : State, s.serve r service body run = t.respond r service (some (s.session r.sid).key) [stBusy] ∧ t.obj = s.obj) ∧
    (r.sid ≠ 0 → s.sessionState r.sid = 2 → (s.session r.sid).ep = some r.ep → (s.session r.sid).under = s.vault.bootKey →
      r.tag = some (kodTag (s.session r.sid).key service (pduBytes 0 true r.sid r.seq body)) → (s.session r.sid).busy = false →
      r.seq ≠ (s.session r.sid).last → r.seq ≠ ((s.session r.sid).last + 1) % 65536 →
      ∃ t : State, s.serve r service body run = t.respond r service (some (s.session r.sid).key) [stBadSequence] ∧ t.obj = s.obj)

/-- R78-R84, R91, R92: the services of a logged-in session. -/
def Obligations.ServiceRows : Prop :=
  (∀ s r, accepts s r 8 [] → exec (.keepalive r) s = .next ((begun s r 8 []).conclude r 8 (s.session r.sid).key
    ([stOk] ++ bytesBE 6 s.cc ++ bytesBE 6 s.wall))) ∧
  (∀ s r, accepts s r 7 [] → exec (.logout r) s = .next (((begun s r 7 []).endKod r.sid 0).conclude r 7
    (s.session r.sid).key [stOk])) ∧
  (∀ s r addrs, accepts s r 1 (readBody addrs) → addrs ≠ [] → addrs.length ≤ 32 →
    1 + ((begun s r 1 (readBody addrs)).readItems r.sid addrs).2.length ≤ 1010 → exec (.read r addrs) s = .next
      (((begun s r 1 (readBody addrs)).readItems r.sid addrs).1.conclude r 1 (s.session r.sid).key
        (stOk :: ((begun s r 1 (readBody addrs)).readItems r.sid addrs).2))) ∧
  (∀ s r addrs, accepts s r 1 (readBody addrs) → addrs = [] ∨ 32 < addrs.length → exec (.read r addrs) s = .next
    ((begun s r 1 (readBody addrs)).conclude r 1 (s.session r.sid).key [stOutOfRange])) ∧
  (∀ s r items, accepts s r 2 (writeBody items) → items ≠ [] → items.length ≤ 16 →
    (validateFrom r.sid r.seq items items 0 (begun s r 2 (writeBody items)).withWaiting).1 = stOk →
    exec (.write r items) s = .next
      (({ begun s r 2 (writeBody items) with kod := { (begun s r 2 (writeBody items)).kod with
          writes := s.kod.writes ++ [(⟨r, items, false⟩ : PendingWrite)] } }).modSession r.sid fun x => { x with busy := true })) ∧
  (∀ s r k n, accepts s r 3 (bytesBE 3 k ++ bytesBE 2 n) → s.checkRead r.sid k = stOk → isWindow k = true → n ≠ 0 → n ≤ 167 →
    ∃ (t : State) (st : Nat) (ws : List Nat), exec (.readRun r k n) s = .next (t.conclude r 3 (s.session r.sid).key
        ([st, ObjType.u48.code] ++ bytesBE 2 ws.length ++ ws.flatMap (bytesBE 6))) ∧
      (t, ws, st) = readWords k n (begun s r 3 (bytesBE 3 k ++ bytesBE 2 n))) ∧
  (∀ s r k ws, accepts s r 4 (writeRunBody k ObjType.u48.code ws) → (s.object k).isSome = true → isWindow k = true → ws ≠ [] →
    ws.length ≤ 167 → ∃ (t : State) (n st : Nat), exec (.writeRun r k ObjType.u48.code ws) s = .next (t.conclude r 4 (s.session r.sid).key
        ([st] ++ bytesBE 2 n)) ∧
      (t, n, st) = writeWords r.sid k ObjType.u48.code ws 0 (begun s r 4 (writeRunBody k ObjType.u48.code ws))) ∧
  (∀ s r b, accepts s r 9 (subscribeBody b) → (∀ x ∈ s.kod.subs, x ≠ none) → exec (.subscribe r b) s = .next
    ((begun s r 9 (subscribeBody b)).conclude r 9 (s.session r.sid).key [stFull])) ∧
  (∀ s r b rest o, accepts s r 9 (subscribeBody b) → s.kod.subs = none :: rest → b.all = false → s.object b.addr = some o →
    s.checkRead r.sid b.addr = stOk → (b.chg = true ∨ b.period ≠ 0) → 1 ≤ b.nprio → b.nprio ≤ 7 → b.period ≤ 6000 →
    b.deadband = 0 → ∃ (t : State) (x : Subscription), exec (.subscribe r b) s = .next
      (t.conclude r 9 (s.session r.sid).key [stOk, 0]) ∧ t.kod.subs = some x :: rest ∧ x.sid = r.sid ∧ x.req = b) ∧
  (∀ s r n x, accepts s r 10 [n % 256] → s.kod.subs.getD n none = some x → x.sid = r.sid → ∃ t : State, exec (.unsubscribe r n) s = .next
    (t.conclude r 10 (s.session r.sid).key [stOk]) ∧ t.kod.subs = s.kod.subs.set n none) ∧
  (∀ s r, s.kodUp = true → s.carries r.ep = true → r.sid = 0 → exec (.discover r) s = .next
    ((s.taken r 12 []).respond r 12 none s.discoverBody))

/-- R84-R87, R89, R90: login, lockout and the ends of a session; a session that ends is free, has no role and no subscription,
whatever ended it. -/
def Obligations.LoginRows : Prop :=
  (∀ s r role hn, s.kodUp = true → s.carries r.ep = true → r.broadcast = false → r.sid = 0 → role ≤ 4 →
    s.kod.lockEnd.getD role 0 = 0 → (s.credential role).isSome = true → s.cryptoOk = true → s.rngOk = true →
    s.sessionState 1 = 0 → ∃ (t : State) (nonce : Nat), exec (.loginBegin r role hn) s = .next
      (t.respond r 5 none ([stOk, 1] ++ bytesBE 16 nonce)) ∧ t.sessionState 1 = 1 ∧ t.roleOf 1 = role) ∧
  (∀ s r role hn, s.kodUp = true → s.carries r.ep = true → r.broadcast = false → r.sid = 0 → role ≤ 4 →
    s.kod.lockEnd.getD role 0 ≠ 0 → s.sessionState 1 = 0 → exec (.loginBegin r role hn) s = .next
      ((s.taken r 5 ([role % 256] ++ bytesBE 8 hn)).respond r 5 none [stNotNow])) ∧
  (∀ s r proof, s.kodUp = true → s.carries r.ep = true → r.broadcast = false → r.sid ≠ 0 → s.sessionState r.sid = 1 →
    (s.session r.sid).ep = some r.ep → s.since (s.session r.sid).since ≤ 16000 → r.seq = 1 → s.cryptoOk = true →
    r.sid - 1 < s.kod.sessions.length →
    proof = Config.hmacSha256 (s.session r.sid).key (0x48 :: s.loginM r.ep r.sid (s.roleOf r.sid) (s.session r.sid).hostNonce
      (s.session r.sid).deviceNonce) / 2 ^ 128 → ∃ (t : State) (body : List Nat), exec (.loginProof r proof) s = .next (t.respond r 6 none (stOk :: body)) ∧
      t.sessionState r.sid = 2 ∧ t.roleOf r.sid = s.roleOf r.sid ∧ (t.session r.sid).last = 1 ∧
      (t.session r.sid).under = s.vault.bootKey) ∧
  (∀ s r proof, s.kodUp = true → s.carries r.ep = true → r.broadcast = false → r.sid ≠ 0 → s.sessionState r.sid = 1 →
    (s.session r.sid).ep = some r.ep → s.since (s.session r.sid).since ≤ 16000 → r.seq = 1 → s.cryptoOk = true →
    proof ≠ Config.hmacSha256 (s.session r.sid).key (0x48 :: s.loginM r.ep r.sid (s.roleOf r.sid) (s.session r.sid).hostNonce
      (s.session r.sid).deviceNonce) / 2 ^ 128 → ∃ t : State, exec (.loginProof r proof) s = .next (t.respond r 6 none [stIntegrity]) ∧
      t.sessionState r.sid = 0) ∧
  (∀ s role, s.kod.lockEnd.getD role 0 ≠ 0 → s.reached (s.kod.lockEnd.getD role 0) = true → exec (.lockoutEnd role) s = .next
    { s with kod := { s.kod with lockEnd := s.kod.lockEnd.set role 0 } }) ∧
  (∀ s sid, s.sessionState sid = 1 → 16000 ≤ s.since (s.session sid).since → exec (.pendingLoginExpiry sid) s = .next
    (s.freeSid sid)) ∧
  (∀ s sid, s.sessionState sid = 2 →
    secTicks (s.getN k04IdleTimeout) ≤ s.since (s.session sid).since → exec (.idleTimeout sid) s = .next (s.endKod sid 1)) ∧
  (∀ s sid target, s.rowPasses sid (k04Close (15 + target)) 1 = true → exec (.close sid target 1) s = .next
    ((s.writeOne sid (k04Close (15 + target)) 1 fun u => u.endKod target 2).atStep5)) ∧
  (∀ s sid ctrl v, s.rowPasses sid (k04KODEnable ctrl) v = true → exec (.kodEnable sid ctrl v) s = .next
    ((s.writeOne sid (k04KODEnable ctrl) v fun u => u.setKodEnable ctrl v).atStep5)) ∧
  (∀ s inst, (∀ c ∈ s.kod.changes, keyInst c.1 = inst → s.reached c.2.2 = false) → exec (.controllerChange inst) s = .next s) ∧
  (∀ s k v at_, s.kod.changes = [(k, v, at_)] → s.reached at_ = true → k = k04DataRate 1 → ∃ t,
    exec (.controllerChange 1) s = .next t ∧ t.get k = v ∧ t.kod.changes = []) ∧
  (∀ s, s.cc % 80 = 0 → s.kodUp = true → exec .subscriptionEvaluation s = .next (s.each (List.range 64) fun s n => s.evaluate n)) ∧
  (∀ (s : State) (sid reason : Nat), s.sessionState sid = 2 → sid ≠ 0 →
     (s.endKod sid reason).sessionState sid = 0 ∧ (s.endKod sid reason).loggedIn sid = false ∧
     (∀ x, some x ∈ (s.endKod sid reason).kod.subs → x.sid ≠ sid) ∧
     ⟨0x0305, 0, sid * 256 + reason⟩ ∈ (s.endKod sid reason).recorder.raised)

/-- R94-R97, R443: the commands, the data and the offset of the bulk window; a word that was written through the window is
read back at its offset. -/
def Obligations.BulkRows : Prop :=
  (∀ s sid r, s.rowPasses sid (k0FCommand r) 1 = true → (s.regionState r = 0 ∨ s.regionState r = 5) →
    s.getN (k0FDeclaredSize r) ≠ 0 → s.getN (k0FDeclaredSize r) ≤ s.regionLimit r → exec (.bulkOpen sid r) s = .next
      ((s.writeOne sid (k0FCommand r) 1 fun u => u.openRegion r sid (u.getN (k0FDeclaredSize r))).atStep5)) ∧
  (∀ s sid r, s.rowPasses sid (k0FCommand r) 1 = true → 1 ≤ s.regionState r → s.regionState r ≤ 4 →
    exec (.bulkOpen sid r) s = .next ((s.answer sid (k0FCommand r) stRegionBusy).atStep5)) ∧
  (∀ (s : State) sid r size, (s.openRegion r sid size).regionState r = 1 ∧ (s.openRegion r sid size).regionOwner r = sid ∧
    (s.openRegion r sid size).getN (k0FOffset r) = 0 ∧ (s.openRegion r sid size).getN (k31OtherSlot (16 + r)) = 0) ∧
  (∀ s sid r (w : Nat), s.rowPasses sid (k0FData r) w = true → checkData sid r s = stOk → exec (.bulkData sid r w) s = .next
    ((s.writeOne sid (k0FData r) w fun u => (u.stageWord r (u.getN (k0FOffset r)) (pattern 48 w)).put (k0FOffset r)
      (u.getN (k0FOffset r) + 1 : Nat)).atStep5)) ∧
  (∀ s sid r (o : Nat), s.rowPasses sid (k0FOffset r) o = true → s.get (k0FFlushMark r) ≤ (o : Int) → (o : Int) ≤ s.get (k0FDeclaredSize r) →
    exec (.bulkOffset sid r o) s = .next ((s.writeOne sid (k0FOffset r) o fun u => u.put (k0FOffset r) o).atStep5)) ∧
  (∀ s sid r, s.rowPasses sid (k0FCommand r) 2 = true → s.regionState r = 1 → s.regionOwner r = sid →
    s.getN (k0FDeclaredSize r) ≤ s.getN (k0FHighWater r) → exec (.bulkFinish sid r) s = .next
      ((s.writeOne sid (k0FCommand r) 2 fun u => u.finishRegion r).atStep5)) ∧
  (∀ s sid r, s.rowPasses sid (k0FCommand r) 3 = true → s.regionState r = 3 → (s.region r).committing = false → r ≠ 0 →
    exec (.bulkCommit sid r) s = .next ((s.writeOne sid (k0FCommand r) 3 fun u => u.commitRegion r).atStep5)) ∧
  (∀ s sid r, s.rowPasses sid (k0FCommand r) 4 = true → 1 ≤ s.regionState r → s.regionState r ≤ 3 → s.regionOwner r = sid →
    exec (.bulkAbort sid r) s = .next ((s.writeOne sid (k0FCommand r) 4 fun u => u.abortRegion r).atStep5)) ∧
  (∀ s r, s.regionState r = 1 → s.pf.active = false → exec (.stagingFlush r) s = .next (s.flushRegion r)) ∧
  (∀ (s : State) (r o w : Nat), r < s.kod.regions.length → s.getN (k0FHighWater r) = o →
     (∀ p ∈ (s.region r).staged, p.1 < o) → (s.stageWord r o w).regionWord r o = w ∧
     ∀ j, j ≠ o → (s.stageWord r o w).regionWord r j = s.regionWord r j)

/-- R397, R430, R434, R444, R445, R447, R448: verification, commit, trial, the setting log and the flash operations. -/
def Obligations.UpdateRows : Prop :=
  (∀ s r st i, s.regionState r = 2 → s.pf.active = false →
    (s.flushRegion r).headCheck r ((s.flushRegion r).getN (k0FDeclaredSize r))
      (((s.flushRegion r).region r).words ((s.flushRegion r).otherSlot r)) = some (st, i) → i ≠ 1 →
    exec (.imageVerification r) s = .next ((s.flushRegion r).failRegion r st i)) ∧
  (∀ s, s.regionState 0 = 2 → s.pf.active = false → s.regionOwner 0 ≠ 255 →
    ∃ t, exec (.imageVerification 0) s = .next t ∧
      ((s.flushRegion 0).headCheck 0 ((s.flushRegion 0).getN (k0FDeclaredSize 0))
        (((s.flushRegion 0).region 0).words ((s.flushRegion 0).otherSlot 0)) = none →
        t.regionState 0 = 3 ∧ t.getN (k0FResult 0) = 0 ∧ t.getN (k31OtherSlot 16) = 3)) ∧
  (∀ (s : State) r st i, (s.failRegion r st i).regionState r = 0 ∧ (s.failRegion r st i).getN (k0FResult r) = st ∧
    ⟨0x0F10, 0, r * 2 ^ 40 + st * 2 ^ 32 + i⟩ ∈ (s.failRegion r st i).recorder.raised) ∧
  (∀ s r, 2 ≤ r → r ≤ 5 → (s.region r).committing = true → (s.region r).recorded = true → s.regionState r = 3 → ∃ t,
    exec (.commitEffect r) s = .next t ∧ t.regionState r = 5 ∧ t.regionOwner r = 0 ∧
      t.getN (k31ActiveSlot (16 + r)) = s.otherSlot r ∧ t.get (k31Commits (16 + r)) = oneMore s (k31Commits (16 + r))) ∧
  (∀ s e, s.flash.trialEnd = some e → s.regionState 0 = 4 → s.dueNext e = true → exec .trialWindowEnd s = .next (s.fallBack 1)) ∧
  (∀ s sid, s.rowPasses sid k31Confirm 1 = true → s.regionState 0 = 4 → exec (.confirm sid 1) s = .next
    ((s.writeOne sid k31Confirm 1 State.confirmTrial).atStep5)) ∧
  (∀ s sid, s.rowPasses sid k31RejectTrial 1 = true → s.regionState 0 = 4 → exec (.rejectTrial sid 1) s = .next
    ((s.writeOne sid k31RejectTrial 1 fun u => u.fallBack 4).atStep5)) ∧
  (∀ s, s.regionState 0 = 4 → s.getN k31ConfirmationMode = 0 → s.firmwareUp = true → s.getN k02PlanState = 1 →
    (s.group (s.getN k09ReferenceGroup)).valid = true → exec .selfConfirmation s = .next s.confirmTrial) ∧
  (∀ (s : State) c, (s.fallBack c).regionState 0 = 5 ∧ (s.fallBack c).getN k31LastFallback = c ∧
    (s.fallBack c).flash.fwTrial = false ∧ (s.fallBack c).modes.restartAt = some s.nextTick) ∧
  (∀ s k v rest, s.flash.logDue = (k, v) :: rest → s.logTurn = true → ∃ t e, exec .settingLogAppend s = .next t ∧
    t.flash.logDue = rest ∧ t.flash.log = s.flash.log ++ [e] ∧ e.addr = k ∧ e.value = v ∧ keepsObjects s t [k30SettingLogUse]) ∧
  (∀ s, s.runningOp = some .keyStore → ∃ t, exec (.flashOperationComplete true) s = .next t ∧ t.flash.current = none ∧
    FlashOp.keyStore ∉ t.flash.ops ∧ t.obj = s.obj) ∧
  (∀ s, s.runningOp = some .keyStore → ∃ t, exec (.flashOperationComplete false) s = .next t ∧ t.flash.current = none ∧
    t.flash.ops = s.flash.ops ∧ t.get k30ProgramFailures = oneMore s k30ProgramFailures)

/-- R346-R348: the commands for time, snapshots, billing and caps, and the events that wait for a value of MC. -/
def Obligations.ChainlineTimeRows : Prop :=
  (∀ s h mc w at_ rest, s.firmwareUp = true → s.chainline.commands = (1, h, w, at_) :: rest → w.getD 1 0 = mc → ∃ t,
    exec (.timeAlign h mc) s = .next t ∧ t.getN k20MCState = 2 ∧ t.chainline.commands = rest ∧
      t.mc = (((s.mc : Int) + mcDiff ((mc + (h.slot + 1) * 112) % ccMod) at_ + ccMod) % ccMod).toNat) ∧
  (∀ s h target (mcLow : Nat) ok w at_ rest, s.firmwareUp = true → s.chainline.commands = (2, h, w, at_) :: rest →
    w.getD 1 0 = target → field (w.getD 2 0) 47 8 = mcLow → bit (w.getD 2 0) 0 = ok → s.mcState = 2 → ∃ m, m % 2 ^ 40 = mcLow ∧
    exec (.timeSet h target mcLow ok) s = .next (((chlTaken s rest).schedule m (.timeSet target ok)).result 2 h stOk)) ∧
  (∀ s h target mcLow ok w at_ rest, s.firmwareUp = true → s.chainline.commands = (2, h, w, at_) :: rest →
    w.getD 1 0 = target → field (w.getD 2 0) 47 8 = mcLow → bit (w.getD 2 0) 0 = ok → s.mcState ≠ 2 →
    exec (.timeSet h target mcLow ok) s = .next ((chlTaken s rest).result 2 h stNotNow)) ∧
  (∀ s h mc w at_ rest, s.firmwareUp = true → s.chainline.commands = (3, h, w, at_) :: rest → w.getD 1 0 = mc → s.mcState = 2 →
    s.mcTargetOk mc = true → s.snapshotPending = false → exec (.snapshot h mc) s = .next
      (((chlTaken s rest).schedule mc .snapshot).result 3 h stOk)) ∧
  (∀ s h mc w at_ rest, s.firmwareUp = true → s.chainline.commands = (4, h, w, at_) :: rest → w.getD 1 0 = mc → s.mcState = 2 →
    s.mcTargetOk mc = true → exec (.billingClose h mc) s = .next (((chlTaken s rest).schedule mc .billingClose).result 4 h stOk)) ∧
  (∀ s h ident target mask cap duration start w at_ rest i, s.firmwareUp = true → s.chainline.commands = (5, h, w, at_) :: rest →
    field (w.getD 1 0) 47 16 = ident → field (w.getD 1 0) 15 12 = target → field (w.getD 1 0) 11 9 = mask →
    field (w.getD 2 0) 47 24 = cap → field (w.getD 2 0) 23 0 = duration → w.getD 3 0 = start → s.mcState = 2 →
    target ≤ siteNum → s.timeValid = true → s.capSlotFor ident = some i → i ∈ capSlots → ∃ t,
    exec (.drCap h ident target mask cap duration start) s = .next t ∧ t.getN (k1BCapState i) = 1 ∧ t.getN (k1BTarget i) = target ∧
      t.getN (k1BCap i) = cap ∧ t.getN (k1BCapIdentity i) = ident ∧ (start, ChlEvent.capStart i) ∈ t.chainline.events) ∧
  (∀ s h ident w at_ rest i, s.firmwareUp = true → s.chainline.commands = (6, h, w, at_) :: rest →
    field (w.getD 1 0) 47 16 = ident →
    (capSlots.find? fun i => s.getN (k1BCapState i) ≠ 0 && s.getN (k1BCapIdentity i) = ident) = some i →
    exec (.drCancel h ident) s = .next (((chlTaken s rest).freeCap i).result 6 h stOk)) ∧
  (∀ s, exec .mcTargetReached s = .next (({ s with chainline := { s.chainline with
    events := s.chainline.events.filter fun e => !s.mcReached e.1 } } : State).each
      (s.chainline.events.filter fun e => s.mcReached e.1) fun t e => t.eventEffect e.2))

/-- R342, R344, R345, R349-R351: tariff images, readings, registration, repeaters and acknowledgements. -/
def Obligations.ChainlineServiceRows : Prop :=
  (∀ s h tid size w at_ rest, s.firmwareUp = true → s.chainline.commands = (7, h, w, at_) :: rest →
    field (w.getD 1 0) 47 16 = tid → field (w.getD 1 0) 15 0 = size → (s.regionState 2 = 0 ∨ s.regionState 2 = 5) → size ≠ 0 →
    size ≤ s.regionLimit 2 → 2 < s.kod.regions.length → ∃ t, exec (.tariffBegin h tid size) s = .next t ∧ t.regionState 2 = 1 ∧
      t.ownsTariff tid = true ∧ t.getN (k0FDeclaredSize 2) = size) ∧
  (∀ s h tid off words w at_ rest, s.firmwareUp = true → s.chainline.commands = (8, h, w, at_) :: rest →
    field (w.getD 1 0) 47 16 = tid → field (w.getD 1 0) 15 0 = off → w.drop 2 = words → s.ownsTariff tid = true →
    s.regionState 2 = 1 → exec (.tariffData h tid off words) s = .next
      (((chlTaken s rest).tariffHeard.each words.zipIdx fun s x => s.receiveWord (off + x.2) x.1).result 8 h stOk)) ∧
  (∀ s h tid w at_ rest, s.firmwareUp = true → s.chainline.commands = (9, h, w, at_) :: rest → field (w.getD 1 0) 47 16 = tid →
    s.ownsTariff tid = true → s.regionState 2 = 1 → s.missingWords = [] → exec (.tariffEnd h tid) s = .next
      (((chlTaken s rest).tariffHeard.finishRegion 2).result 9 h stOk)) ∧
  (∀ s h tid w at_ rest, s.firmwareUp = true → s.chainline.commands = (10, h, w, at_) :: rest → field (w.getD 1 0) 47 16 = tid →
    s.ownsTariff tid = true → 1 ≤ s.regionState 2 → s.regionState 2 ≤ 3 → exec (.tariffAbort h tid) s = .next
      (((chlTaken s rest).abortRegion 2).result 10 h stOk)) ∧
  (∀ s, s.regionOwner 2 = 255 → s.regionState 2 = 1 →
    s.reached ((s.chainline.tariffLast + secTicks (s.getN k20TariffIdleTimeout)) % ccMod) = true →
    exec .tariffIdleTimeout s = .next ((s.abortRegion 2).noticeOpen 33 0x0B21)) ∧
  (∀ s h shadow i w at_ rest, s.firmwareUp = true → s.chainline.commands = (11, h, w, at_) :: rest → h.single = true →
    1 ≤ h.unit → i ≤ 23 → w.getD 1 0 = readWord shadow [i] → ∃ t, exec (.chainlineRead h shadow [i]) s = .next t ∧
      t.obj = s.obj ∧ t.chainline.queue.length = s.chainline.queue.length + 1) ∧
  (∀ s h window w at_ rest, s.firmwareUp = true → s.chainline.commands = (12, h, w, at_) :: rest →
    field (w.getD 1 0) 31 0 = window → 1 ≤ window → window ≤ 86400 → s.rngOk = true → ∃ t, exec (.reregister h window) s = .next t ∧
      t.getN k20RegistrationWindow = window ∧ t.chainline.registerAt.isSome = true) ∧
  (∀ s h window w at_ rest, s.firmwareUp = true → s.chainline.commands = (12, h, w, at_) :: rest →
    field (w.getD 1 0) 31 0 = window → 1 ≤ window → window ≤ 86400 → s.rngOk = false →
    exec (.reregister h window) s = .next ((chlTaken s rest).result 12 h stInternal)) ∧
  (∀ s, s.firmwareUp = true → s.chlOn = true → s.reachedOpt s.chainline.registerAt = true → exec .registration s = .next
    (s.modChl fun c => { c with registerAt := none }).register) ∧
  (∀ s, s.firmwareUp = true → s.chlOn = true → s.reachedOpt s.chainline.orphanAt = true → ∃ t, exec .orphanCall s = .next t ∧
    t.chainline.orphanAt = some (s.after 28800000) ∧ t.chainline.queue.length = s.chainline.queue.length + 1) ∧
  (∀ s, s.firmwareUp = true → s.chlOn = true → s.getN k20RelayNumber0 ≠ 0 → s.reachedOpt s.chainline.helloAt = true → ∃ t,
    exec .hello s = .next t ∧ t.chainline.helloAt = some (s.after 172800000) ∧
      t.chainline.queue.length = s.chainline.queue.length + 1) ∧
  (∀ s h relay veto w at_ rest, s.firmwareUp = true → s.chainline.commands = (13, h, w, at_) :: rest →
    field (w.getD 1 0) 47 41 = relay → field (w.getD 1 0) 40 25 = veto → 1 ≤ relay → relay ≤ 126 → ∃ t,
    exec (.repeater h relay veto) s = .next t ∧ t.getN k20RelayNumber0 = relay ∧ t.chainline.candidate = false) ∧
  (∀ s h seq w at_ rest, s.firmwareUp = true → s.chainline.commands = (14, h, w, at_) :: rest → field (w.getD 1 0) 11 0 = seq →
    exec (.ack h seq) s = .next (((chlTaken s rest).modChl fun c =>
      { c with queue := c.queue.filter fun m => !(m.own && m.frame.seq = seq && m.sendings ≠ 0) }).result 14 h stOk))

/-- R339, R341, R344: frames from and to the head-end, the timeout of an acknowledgement, the neighbour table. -/
def Obligations.ChainlineFrameRows : Prop :=
  (∀ s f, s.chlOn = true → f.ver = 1 → f.type = 0 → 1 ≤ f.len → f.len ≤ 8 → chlHeadOk f 0 = false →
    exec (.outboundFrame f) s = .next (((s.countBy k20Erasures (s.erasuresOf f)).count k20FramesFailed).noticeOpen 33 0x0B10)) ∧
  (∀ s f k, s.chlOn = true → chlHeadOk f 0 = true → s.chainlineKey = some k → chlMac k f = f.mac → f.addr = s.nodeAddr →
    s.mcState = 2 → (s.mc + ccMod - chlMcref f) % 2 ^ 40 ≤ 4096 → s.chainline.accepted.contains (chlMcref f, f.seq) = false →
    s.commandStatus f = stOk → s.nodeAddr ≠ allNodes → ∃ t, exec (.outboundFrame f) s = .next t ∧
      t.chainline.commands = s.chainline.commands ++ [(chlCmd f, { single := true, unit := f.unit, seq := f.seq, slot := f.slot },
        f.payload, s.mc)] ∧ (chlMcref f, f.seq) ∈ t.chainline.accepted ∧
      t.get k20FramesAccepted = oneMore s k20FramesAccepted) ∧
  (∀ s f, s.chlOn = true → chlHeadOk f 1 = true → exec (.inboundFrame f) s = .next
    ((((((s.countBy k20Erasures (s.erasuresOf f)).findBoundary.put k20LastMargin f.margin).hearNode f).hearOrphan
      f).candidacy).forward f)) ∧
  (∀ s f, s.chlOn = true → f.ver = 1 → f.type = 1 → 1 ≤ f.len → f.len ≤ 8 → chlHeadOk f 1 = false →
    exec (.inboundFrame f) s = .next (((s.countBy k20Erasures (s.erasuresOf f)).count k20FramesFailed).noticeOpen 33 0x0B10)) ∧
  (∀ s m rest, s.chainline.queue = m :: rest → m.backoff = 0 → m.sentAt = none → m.own = true → m ∉ rest → s.mayStart = true → ∃ t f,
    exec .inboundSend s = .next t ∧ f.seq = m.frame.seq ∧ f.relay = s.parentOf ∧
      t.chainline.queue = { m with frame := f, sendings := m.sendings + 1, sentAt := some s.cc } :: rest ∧
      t.chainline.sendEnd = some ((s.mc + frameMcs f.len) % ccMod) ∧ ∃ x, t.chainline.sending = s.chainline.sending ++ [x] ∧
      x.channel = s.uplinkChannel ∧ x.positions = framePositions { f with margin := 0, erased := 0, crc := chlCrc f }) ∧
  (∀ s seq m t0 rest, s.chainline.queue = m :: rest → m.own = true → m.frame.seq = seq → m.sentAt = some t0 → m ∉ rest →
    s.reached ((t0 + secTicks (s.getN k20AckTimeout)) % ccMod) = true → 4 ≤ m.sendings → ∃ t, exec (.ackTimeout seq) s = .next t ∧
      t.chainline.queue = rest) ∧
  (∀ s seq m t0 rest, s.chainline.queue = m :: rest → m.own = true → m.frame.seq = seq → m.sentAt = some t0 → m ∉ rest →
    s.reached ((t0 + secTicks (s.getN k20AckTimeout)) % ccMod) = true → m.sendings < 4 → ∃ t b, exec (.ackTimeout seq) s = .next t ∧
      b < min 64 (2 * m.cw) + (if m.cw = 0 then 1 else 0) ∧
      t.chainline.queue = { m with cw := min 64 (2 * m.cw), backoff := b, sentAt := none } :: rest) ∧
  (∀ s addr i, ((List.range 64).find? fun i => (s.chainline.neighbours.getD i {}).used &&
      decide (s.getN (k20Address (neighbourInst i)) = addr)) = some i → s.nominalHz = 50 →
    30240000 ≤ (s.mc + ccMod - s.getN (k20LastHeard (neighbourInst i))) % ccMod → i < s.chainline.neighbours.length → ∃ t,
    exec (.neighbourExpiry addr) s = .next t ∧ (t.chainline.neighbours.getD i {}).used = false ∧
      t.getN (k20Address (neighbourInst i)) = 0)

/-- What a well-formed row of the spoke links, the plan, Pannier and DMA, the safety functions, gates and switches, the pilot,
the pedal sequencers, the allocator, the vehicle link and tandem leaves as it was, with every register outside the classes of
its family. -/
def Obligations.SpokeRowsKeepTheRest : Prop :=
  ∀ (c : Instr) (s t : State), c.wellFormed = true → exec c s = .next t → spokeFrame c s t

/-- What a well-formed row of the channels and the metering, the recorder, billing, sessions, power loss, NFC, keypad, tag,
vault and Chainline leaves as it was, with every register outside the classes of its family. -/
def Obligations.RecordRowsKeepTheRest : Prop :=
  ∀ (c : Instr) (s t : State), c.wellFormed = true → exec c s = .next t → recordFrame c s t

/-- What a well-formed row of the modes, the transport, the services, bulk transfer and update, the display, the self-test and
the tick leaves as it was, with every register outside the classes of its family. -/
def Obligations.ServiceRowsKeepTheRest : Prop :=
  ∀ (c : Instr) (s t : State), c.wellFormed = true → exec c s = .next t → serviceFrame c s t
end

