-- ==== Sys2Proof/Laws/Store.lean ====
section
/-! SUPPORT. The canonical stores: a read after a write gives the value written, a write leaves every other key alone, and a
write keeps the canonical form; the same of the object store (R104). -/

namespace Sys2Proof.Machine

section Store
variable {α : Type}

theorem storeRead_insert_same (d : α) (l : List (Nat × α)) (k : Nat) (v : α) :
    storeRead d (storeInsert l k v) k = v := by
  induction l with
  | nil => simp [storeInsert, storeRead]
  | cons p t ih =>
    obtain ⟨a, w⟩ := p
    rcases Nat.lt_trichotomy k a with h | h | h
    · simp [storeInsert, storeRead, h]
    · simp [storeInsert, storeRead, h]
    · have h1 : ¬ k < a := by omega
      have h2 : k ≠ a := by omega
      simp [storeInsert, storeRead, h1, h2, Ne.symm h2, ih]

theorem storeRead_insert_other (d : α) (l : List (Nat × α)) (k j : Nat) (v : α) (hj : j ≠ k) :
    storeRead d (storeInsert l k v) j = storeRead d l j := by
  induction l with
  | nil => simp [storeInsert, storeRead, Ne.symm hj]
  | cons p t ih =>
    obtain ⟨a, w⟩ := p
    rcases Nat.lt_trichotomy k a with h | h | h
    · simp [storeInsert, storeRead, h, Ne.symm hj]
    · subst h
      simp [storeInsert, storeRead, Ne.symm hj]
    · have h1 : ¬ k < a := by omega
      have h2 : k ≠ a := by omega
      simp [storeInsert, storeRead, h1, h2, ih]

theorem storeRead_filter_same (d : α) (l : List (Nat × α)) (k : Nat) :
    storeRead d (l.filter fun p => p.1 ≠ k) k = d := by
  induction l with
  | nil => rfl
  | cons p t ih =>
    obtain ⟨a, w⟩ := p
    by_cases h : a = k <;> simp_all [storeRead]

theorem storeRead_filter_other (d : α) (l : List (Nat × α)) (k j : Nat) (hj : j ≠ k) :
    storeRead d (l.filter fun p => p.1 ≠ k) j = storeRead d l j := by
  induction l with
  | nil => rfl
  | cons p t ih =>
    obtain ⟨a, w⟩ := p
    by_cases h : a = k
    · have hne : ¬ a = j := fun e => hj (e ▸ h)
      simp_all [storeRead]
    · simp_all [storeRead]

variable [DecidableEq α]

theorem storeRead_write_same (d : α) (l : List (Nat × α)) (k : Nat) (v : α) :
    storeRead d (storeWrite d l k v) k = v := by
  unfold storeWrite
  split
  · next h => rw [storeRead_filter_same, h]
  · exact storeRead_insert_same d l k v

theorem storeRead_write_other (e d : α) (l : List (Nat × α)) (k j : Nat) (v : α) (hj : j ≠ k) :
    storeRead e (storeWrite d l k v) j = storeRead e l j := by
  unfold storeWrite
  split
  · exact storeRead_filter_other e l k j hj
  · exact storeRead_insert_other e l k j v hj

omit [DecidableEq α] in
theorem storeInsert_mem (l : List (Nat × α)) (k : Nat) (v : α) (p : Nat × α) (h : p ∈ storeInsert l k v) :
    p = (k, v) ∨ p ∈ l := by
  induction l with
  | nil => simpa [storeInsert] using h
  | cons q t ih =>
    obtain ⟨a, w⟩ := q
    unfold storeInsert at h
    split at h
    · simpa using h
    · split at h
      · rcases List.mem_cons.1 h with h | h
        · exact .inl h
        · exact .inr (List.mem_cons_of_mem _ h)
      · rcases List.mem_cons.1 h with h | h
        · exact .inr (h ▸ List.mem_cons_self)
        · rcases ih h with h | h
          · exact .inl h
          · exact .inr (List.mem_cons_of_mem _ h)

omit [DecidableEq α] in
theorem storeInsert_sorted (l : List (Nat × α)) (k : Nat) (v : α) (h : (l.map Prod.fst).Pairwise (· < ·)) :
    ((storeInsert l k v).map Prod.fst).Pairwise (· < ·) := by
  induction l with
  | nil => simp [storeInsert]
  | cons q t ih =>
    obtain ⟨a, w⟩ := q
    rw [List.map_cons, List.pairwise_cons] at h
    unfold storeInsert
    split
    · next hk =>
      rw [List.map_cons, List.pairwise_cons]
      refine ⟨fun b hb => ?_, by rw [List.map_cons, List.pairwise_cons]; exact h⟩
      rcases List.mem_cons.1 hb with rfl | hb
      · exact hk
      · exact Nat.lt_trans hk (h.1 b hb)
    · split
      · next hk => rw [List.map_cons, List.pairwise_cons]; exact ⟨hk ▸ h.1, h.2⟩
      · next h1 h2 =>
        rw [List.map_cons, List.pairwise_cons]
        refine ⟨fun b hb => ?_, ih h.2⟩
        obtain ⟨p, hp, rfl⟩ := List.mem_map.1 hb
        rcases storeInsert_mem t k v p hp with rfl | hp
        · show a < k
          omega
        · exact h.1 _ (List.mem_map_of_mem hp)

theorem storeWrite_wf (dflt : Nat → α) (l : List (Nat × α)) (k : Nat) (v : α) (h : storeWf dflt l) :
    storeWf dflt (storeWrite (dflt k) l k v) := by
  unfold storeWrite
  split
  · refine ⟨?_, fun p hp => h.2 p (List.mem_of_mem_filter hp)⟩
    exact h.1.sublist (List.filter_sublist.map _)
  · next hv =>
    refine ⟨storeInsert_sorted l k v h.1, fun p hp => ?_⟩
    rcases storeInsert_mem l k v p hp with rfl | hp
    · exact hv
    · exact h.2 p hp

end Store

/-! ### The object store -/

variable (s : State)

@[simp] theorem get_put_same (k : Nat) (v : Int) : (s.put k v).get k = v := storeRead_write_same _ _ k v

theorem get_put_other (k j : Nat) (v : Int) (h : j ≠ k) : (s.put k v).get j = s.get j :=
  storeRead_write_other _ _ _ k j v h

theorem get_put (k j : Nat) (v : Int) : (s.put k v).get j = if j = k then v else s.get j := by
  split
  · next h => rw [h, get_put_same]
  · next h => exact get_put_other s k j v h

@[simp] theorem puts_nil : s.puts [] = s := rfl
@[simp] theorem puts_cons (p : Nat × Int) (l : List (Nat × Int)) : s.puts (p :: l) = (s.put p.1 p.2).puts l := rfl

/-- Writing several objects changes no object beside them. -/
theorem get_puts_other (l : List (Nat × Int)) (j : Nat) (h : ∀ p ∈ l, p.1 ≠ j) : (s.puts l).get j = s.get j := by
  induction l generalizing s with
  | nil => rfl
  | cons p t ih =>
    rw [puts_cons, ih _ fun q hq => h q (List.mem_cons_of_mem _ hq)]
    exact get_put_other s p.1 j p.2 (Ne.symm (h p List.mem_cons_self))

/-- Writing an object keeps the canonical forms. -/
theorem put_wf (k : Nat) (v : Int) (h : Memory.wf s) : Memory.wf (s.put k v) :=
  ⟨storeWrite_wf (defaultOf s.variant) s.obj k v h.1, h.2⟩

theorem puts_wf (l : List (Nat × Int)) (h : Memory.wf s) : Memory.wf (s.puts l) := by
  induction l generalizing s with
  | nil => exact h
  | cons p t ih => exact ih _ (put_wf s p.1 p.2 h)

end Sys2Proof.Machine
end

