-- ==== Sys2Proof/Laws/State.lean ====
section
/-! SUPPORT. What each plain update of `State` leaves: one lemma per field and update, true by unfolding a record update, so that
no later proof unfolds one. -/

namespace Sys2Proof.Machine

variable (s : State)

/-! `put` -/
@[simp] theorem put_variant (k : Nat) (v : Int) : (s.put k v).variant = s.variant := rfl
@[simp] theorem put_pending (k : Nat) (v : Int) : (s.put k v).pending = s.pending := rfl
@[simp] theorem put_out (k : Nat) (v : Int) : (s.put k v).out = s.out := rfl
@[simp] theorem put_draw (k : Nat) (v : Int) : (s.put k v).draw = s.draw := rfl
@[simp] theorem put_linkA (k : Nat) (v : Int) : (s.put k v).linkA = s.linkA := rfl
@[simp] theorem put_linkB (k : Nat) (v : Int) : (s.put k v).linkB = s.linkB := rfl
@[simp] theorem put_ports (k : Nat) (v : Int) : (s.put k v).ports = s.ports := rfl
@[simp] theorem put_plan (k : Nat) (v : Int) : (s.put k v).plan = s.plan := rfl
@[simp] theorem put_pannier (k : Nat) (v : Int) : (s.put k v).pannier = s.pannier := rfl
@[simp] theorem put_dma (k : Nat) (v : Int) : (s.put k v).dma = s.dma := rfl
@[simp] theorem put_kod (k : Nat) (v : Int) : (s.put k v).kod = s.kod := rfl
@[simp] theorem put_chans (k : Nat) (v : Int) : (s.put k v).chans = s.chans := rfl
@[simp] theorem put_groups (k : Nat) (v : Int) : (s.put k v).groups = s.groups := rfl
@[simp] theorem put_spokes (k : Nat) (v : Int) : (s.put k v).spokes = s.spokes := rfl
@[simp] theorem put_pulses (k : Nat) (v : Int) : (s.put k v).pulses = s.pulses := rfl
@[simp] theorem put_beacon (k : Nat) (v : Int) : (s.put k v).beacon = s.beacon := rfl
@[simp] theorem put_pf (k : Nat) (v : Int) : (s.put k v).pf = s.pf := rfl
@[simp] theorem put_billing (k : Nat) (v : Int) : (s.put k v).billing = s.billing := rfl
@[simp] theorem put_sessions (k : Nat) (v : Int) : (s.put k v).sessions = s.sessions := rfl
@[simp] theorem put_sessionSeq (k : Nat) (v : Int) : (s.put k v).sessionSeq = s.sessionSeq := rfl
@[simp] theorem put_lowPurses (k : Nat) (v : Int) : (s.put k v).lowPurses = s.lowPurses := rfl
@[simp] theorem put_tokenFails (k : Nat) (v : Int) : (s.put k v).tokenFails = s.tokenFails := rfl
@[simp] theorem put_tokenLock (k : Nat) (v : Int) : (s.put k v).tokenLock = s.tokenLock := rfl
@[simp] theorem put_slac (k : Nat) (v : Int) : (s.put k v).slac = s.slac := rfl
@[simp] theorem put_peloton (k : Nat) (v : Int) : (s.put k v).peloton = s.peloton := rfl
@[simp] theorem put_switches (k : Nat) (v : Int) : (s.put k v).switches = s.switches := rfl
@[simp] theorem put_functions (k : Nat) (v : Int) : (s.put k v).functions = s.functions := rfl
@[simp] theorem put_lease (k : Nat) (v : Int) : (s.put k v).lease = s.lease := rfl
@[simp] theorem put_peers (k : Nat) (v : Int) : (s.put k v).peers = s.peers := rfl
@[simp] theorem put_tandemAt (k : Nat) (v : Int) : (s.put k v).tandemAt = s.tandemAt := rfl
@[simp] theorem put_chainline (k : Nat) (v : Int) : (s.put k v).chainline = s.chainline := rfl
@[simp] theorem put_frontEnds (k : Nat) (v : Int) : (s.put k v).frontEnds = s.frontEnds := rfl
@[simp] theorem put_aerials (k : Nat) (v : Int) : (s.put k v).aerials = s.aerials := rfl
@[simp] theorem put_emulation (k : Nat) (v : Int) : (s.put k v).emulation = s.emulation := rfl
@[simp] theorem put_keypad (k : Nat) (v : Int) : (s.put k v).keypad = s.keypad := rfl
@[simp] theorem put_tag (k : Nat) (v : Int) : (s.put k v).tag = s.tag := rfl
@[simp] theorem put_vault (k : Nat) (v : Int) : (s.put k v).vault = s.vault := rfl
@[simp] theorem put_sealFilter (k : Nat) (v : Int) : (s.put k v).sealFilter = s.sealFilter := rfl
@[simp] theorem put_recorder (k : Nat) (v : Int) : (s.put k v).recorder = s.recorder := rfl
@[simp] theorem put_display (k : Nat) (v : Int) : (s.put k v).display = s.display := rfl
@[simp] theorem put_flash (k : Nat) (v : Int) : (s.put k v).flash = s.flash := rfl
@[simp] theorem put_modes (k : Nat) (v : Int) : (s.put k v).modes = s.modes := rfl
@[simp] theorem put_bist (k : Nat) (v : Int) : (s.put k v).bist = s.bist := rfl

/-! `notice` -/
@[simp] theorem notice_variant (i c v : Nat) : (s.notice i c v).variant = s.variant := rfl
@[simp] theorem notice_obj (i c v : Nat) : (s.notice i c v).obj = s.obj := rfl
@[simp] theorem notice_pending (i c v : Nat) : (s.notice i c v).pending = s.pending := rfl
@[simp] theorem notice_out (i c v : Nat) : (s.notice i c v).out = s.out := rfl
@[simp] theorem notice_draw (i c v : Nat) : (s.notice i c v).draw = s.draw := rfl
@[simp] theorem notice_linkA (i c v : Nat) : (s.notice i c v).linkA = s.linkA := rfl
@[simp] theorem notice_linkB (i c v : Nat) : (s.notice i c v).linkB = s.linkB := rfl
@[simp] theorem notice_ports (i c v : Nat) : (s.notice i c v).ports = s.ports := rfl
@[simp] theorem notice_plan (i c v : Nat) : (s.notice i c v).plan = s.plan := rfl
@[simp] theorem notice_pannier (i c v : Nat) : (s.notice i c v).pannier = s.pannier := rfl
@[simp] theorem notice_dma (i c v : Nat) : (s.notice i c v).dma = s.dma := rfl
@[simp] theorem notice_kod (i c v : Nat) : (s.notice i c v).kod = s.kod := rfl
@[simp] theorem notice_chans (i c v : Nat) : (s.notice i c v).chans = s.chans := rfl
@[simp] theorem notice_groups (i c v : Nat) : (s.notice i c v).groups = s.groups := rfl
@[simp] theorem notice_spokes (i c v : Nat) : (s.notice i c v).spokes = s.spokes := rfl
@[simp] theorem notice_pulses (i c v : Nat) : (s.notice i c v).pulses = s.pulses := rfl
@[simp] theorem notice_beacon (i c v : Nat) : (s.notice i c v).beacon = s.beacon := rfl
@[simp] theorem notice_pf (i c v : Nat) : (s.notice i c v).pf = s.pf := rfl
@[simp] theorem notice_billing (i c v : Nat) : (s.notice i c v).billing = s.billing := rfl
@[simp] theorem notice_sessions (i c v : Nat) : (s.notice i c v).sessions = s.sessions := rfl
@[simp] theorem notice_sessionSeq (i c v : Nat) : (s.notice i c v).sessionSeq = s.sessionSeq := rfl
@[simp] theorem notice_lowPurses (i c v : Nat) : (s.notice i c v).lowPurses = s.lowPurses := rfl
@[simp] theorem notice_tokenFails (i c v : Nat) : (s.notice i c v).tokenFails = s.tokenFails := rfl
@[simp] theorem notice_tokenLock (i c v : Nat) : (s.notice i c v).tokenLock = s.tokenLock := rfl
@[simp] theorem notice_slac (i c v : Nat) : (s.notice i c v).slac = s.slac := rfl
@[simp] theorem notice_peloton (i c v : Nat) : (s.notice i c v).peloton = s.peloton := rfl
@[simp] theorem notice_switches (i c v : Nat) : (s.notice i c v).switches = s.switches := rfl
@[simp] theorem notice_functions (i c v : Nat) : (s.notice i c v).functions = s.functions := rfl
@[simp] theorem notice_lease (i c v : Nat) : (s.notice i c v).lease = s.lease := rfl
@[simp] theorem notice_peers (i c v : Nat) : (s.notice i c v).peers = s.peers := rfl
@[simp] theorem notice_tandemAt (i c v : Nat) : (s.notice i c v).tandemAt = s.tandemAt := rfl
@[simp] theorem notice_chainline (i c v : Nat) : (s.notice i c v).chainline = s.chainline := rfl
@[simp] theorem notice_frontEnds (i c v : Nat) : (s.notice i c v).frontEnds = s.frontEnds := rfl
@[simp] theorem notice_aerials (i c v : Nat) : (s.notice i c v).aerials = s.aerials := rfl
@[simp] theorem notice_emulation (i c v : Nat) : (s.notice i c v).emulation = s.emulation := rfl
@[simp] theorem notice_keypad (i c v : Nat) : (s.notice i c v).keypad = s.keypad := rfl
@[simp] theorem notice_tag (i c v : Nat) : (s.notice i c v).tag = s.tag := rfl
@[simp] theorem notice_vault (i c v : Nat) : (s.notice i c v).vault = s.vault := rfl
@[simp] theorem notice_sealFilter (i c v : Nat) : (s.notice i c v).sealFilter = s.sealFilter := rfl
@[simp] theorem notice_display (i c v : Nat) : (s.notice i c v).display = s.display := rfl
@[simp] theorem notice_flash (i c v : Nat) : (s.notice i c v).flash = s.flash := rfl
@[simp] theorem notice_modes (i c v : Nat) : (s.notice i c v).modes = s.modes := rfl
@[simp] theorem notice_bist (i c v : Nat) : (s.notice i c v).bist = s.bist := rfl
@[simp] theorem get_notice (i c v : Nat) (j : Nat) : (s.notice i c v).get j = s.get j := rfl
@[simp] theorem getN_notice (i c v : Nat) (j : Nat) : (s.notice i c v).getN j = s.getN j := rfl
@[simp] theorem flag_notice (i c v : Nat) (j : Nat) : (s.notice i c v).flag j = s.flag j := rfl

/-! `noticeOpen` -/
@[simp] theorem noticeOpen_variant (i c : Nat) : (s.noticeOpen i c).variant = s.variant := rfl
@[simp] theorem noticeOpen_obj (i c : Nat) : (s.noticeOpen i c).obj = s.obj := rfl
@[simp] theorem noticeOpen_pending (i c : Nat) : (s.noticeOpen i c).pending = s.pending := rfl
@[simp] theorem noticeOpen_out (i c : Nat) : (s.noticeOpen i c).out = s.out := rfl
@[simp] theorem noticeOpen_linkA (i c : Nat) : (s.noticeOpen i c).linkA = s.linkA := rfl
@[simp] theorem noticeOpen_linkB (i c : Nat) : (s.noticeOpen i c).linkB = s.linkB := rfl
@[simp] theorem noticeOpen_ports (i c : Nat) : (s.noticeOpen i c).ports = s.ports := rfl
@[simp] theorem noticeOpen_plan (i c : Nat) : (s.noticeOpen i c).plan = s.plan := rfl
@[simp] theorem noticeOpen_pannier (i c : Nat) : (s.noticeOpen i c).pannier = s.pannier := rfl
@[simp] theorem noticeOpen_dma (i c : Nat) : (s.noticeOpen i c).dma = s.dma := rfl
@[simp] theorem noticeOpen_kod (i c : Nat) : (s.noticeOpen i c).kod = s.kod := rfl
@[simp] theorem noticeOpen_chans (i c : Nat) : (s.noticeOpen i c).chans = s.chans := rfl
@[simp] theorem noticeOpen_groups (i c : Nat) : (s.noticeOpen i c).groups = s.groups := rfl
@[simp] theorem noticeOpen_spokes (i c : Nat) : (s.noticeOpen i c).spokes = s.spokes := rfl
@[simp] theorem noticeOpen_pulses (i c : Nat) : (s.noticeOpen i c).pulses = s.pulses := rfl
@[simp] theorem noticeOpen_beacon (i c : Nat) : (s.noticeOpen i c).beacon = s.beacon := rfl
@[simp] theorem noticeOpen_pf (i c : Nat) : (s.noticeOpen i c).pf = s.pf := rfl
@[simp] theorem noticeOpen_billing (i c : Nat) : (s.noticeOpen i c).billing = s.billing := rfl
@[simp] theorem noticeOpen_sessions (i c : Nat) : (s.noticeOpen i c).sessions = s.sessions := rfl
@[simp] theorem noticeOpen_sessionSeq (i c : Nat) : (s.noticeOpen i c).sessionSeq = s.sessionSeq := rfl
@[simp] theorem noticeOpen_lowPurses (i c : Nat) : (s.noticeOpen i c).lowPurses = s.lowPurses := rfl
@[simp] theorem noticeOpen_tokenFails (i c : Nat) : (s.noticeOpen i c).tokenFails = s.tokenFails := rfl
@[simp] theorem noticeOpen_tokenLock (i c : Nat) : (s.noticeOpen i c).tokenLock = s.tokenLock := rfl
@[simp] theorem noticeOpen_slac (i c : Nat) : (s.noticeOpen i c).slac = s.slac := rfl
@[simp] theorem noticeOpen_peloton (i c : Nat) : (s.noticeOpen i c).peloton = s.peloton := rfl
@[simp] theorem noticeOpen_switches (i c : Nat) : (s.noticeOpen i c).switches = s.switches := rfl
@[simp] theorem noticeOpen_functions (i c : Nat) : (s.noticeOpen i c).functions = s.functions := rfl
@[simp] theorem noticeOpen_lease (i c : Nat) : (s.noticeOpen i c).lease = s.lease := rfl
@[simp] theorem noticeOpen_peers (i c : Nat) : (s.noticeOpen i c).peers = s.peers := rfl
@[simp] theorem noticeOpen_tandemAt (i c : Nat) : (s.noticeOpen i c).tandemAt = s.tandemAt := rfl
@[simp] theorem noticeOpen_chainline (i c : Nat) : (s.noticeOpen i c).chainline = s.chainline := rfl
@[simp] theorem noticeOpen_frontEnds (i c : Nat) : (s.noticeOpen i c).frontEnds = s.frontEnds := rfl
@[simp] theorem noticeOpen_aerials (i c : Nat) : (s.noticeOpen i c).aerials = s.aerials := rfl
@[simp] theorem noticeOpen_emulation (i c : Nat) : (s.noticeOpen i c).emulation = s.emulation := rfl
@[simp] theorem noticeOpen_keypad (i c : Nat) : (s.noticeOpen i c).keypad = s.keypad := rfl
@[simp] theorem noticeOpen_tag (i c : Nat) : (s.noticeOpen i c).tag = s.tag := rfl
@[simp] theorem noticeOpen_vault (i c : Nat) : (s.noticeOpen i c).vault = s.vault := rfl
@[simp] theorem noticeOpen_sealFilter (i c : Nat) : (s.noticeOpen i c).sealFilter = s.sealFilter := rfl
@[simp] theorem noticeOpen_display (i c : Nat) : (s.noticeOpen i c).display = s.display := rfl
@[simp] theorem noticeOpen_flash (i c : Nat) : (s.noticeOpen i c).flash = s.flash := rfl
@[simp] theorem noticeOpen_modes (i c : Nat) : (s.noticeOpen i c).modes = s.modes := rfl
@[simp] theorem noticeOpen_bist (i c : Nat) : (s.noticeOpen i c).bist = s.bist := rfl
@[simp] theorem get_noticeOpen (i c : Nat) (j : Nat) : (s.noticeOpen i c).get j = s.get j := rfl
@[simp] theorem getN_noticeOpen (i c : Nat) (j : Nat) : (s.noticeOpen i c).getN j = s.getN j := rfl
@[simp] theorem flag_noticeOpen (i c : Nat) (j : Nat) : (s.noticeOpen i c).flag j = s.flag j := rfl

/-! `drew` -/
@[simp] theorem drew_variant : (s.drew).variant = s.variant := rfl
@[simp] theorem drew_obj : (s.drew).obj = s.obj := rfl
@[simp] theorem drew_pending : (s.drew).pending = s.pending := rfl
@[simp] theorem drew_out : (s.drew).out = s.out := rfl
@[simp] theorem drew_linkA : (s.drew).linkA = s.linkA := rfl
@[simp] theorem drew_linkB : (s.drew).linkB = s.linkB := rfl
@[simp] theorem drew_ports : (s.drew).ports = s.ports := rfl
@[simp] theorem drew_plan : (s.drew).plan = s.plan := rfl
@[simp] theorem drew_pannier : (s.drew).pannier = s.pannier := rfl
@[simp] theorem drew_dma : (s.drew).dma = s.dma := rfl
@[simp] theorem drew_kod : (s.drew).kod = s.kod := rfl
@[simp] theorem drew_chans : (s.drew).chans = s.chans := rfl
@[simp] theorem drew_groups : (s.drew).groups = s.groups := rfl
@[simp] theorem drew_spokes : (s.drew).spokes = s.spokes := rfl
@[simp] theorem drew_pulses : (s.drew).pulses = s.pulses := rfl
@[simp] theorem drew_beacon : (s.drew).beacon = s.beacon := rfl
@[simp] theorem drew_pf : (s.drew).pf = s.pf := rfl
@[simp] theorem drew_billing : (s.drew).billing = s.billing := rfl
@[simp] theorem drew_sessions : (s.drew).sessions = s.sessions := rfl
@[simp] theorem drew_sessionSeq : (s.drew).sessionSeq = s.sessionSeq := rfl
@[simp] theorem drew_lowPurses : (s.drew).lowPurses = s.lowPurses := rfl
@[simp] theorem drew_tokenFails : (s.drew).tokenFails = s.tokenFails := rfl
@[simp] theorem drew_tokenLock : (s.drew).tokenLock = s.tokenLock := rfl
@[simp] theorem drew_slac : (s.drew).slac = s.slac := rfl
@[simp] theorem drew_peloton : (s.drew).peloton = s.peloton := rfl
@[simp] theorem drew_switches : (s.drew).switches = s.switches := rfl
@[simp] theorem drew_functions : (s.drew).functions = s.functions := rfl
@[simp] theorem drew_lease : (s.drew).lease = s.lease := rfl
@[simp] theorem drew_peers : (s.drew).peers = s.peers := rfl
@[simp] theorem drew_tandemAt : (s.drew).tandemAt = s.tandemAt := rfl
@[simp] theorem drew_chainline : (s.drew).chainline = s.chainline := rfl
@[simp] theorem drew_frontEnds : (s.drew).frontEnds = s.frontEnds := rfl
@[simp] theorem drew_aerials : (s.drew).aerials = s.aerials := rfl
@[simp] theorem drew_emulation : (s.drew).emulation = s.emulation := rfl
@[simp] theorem drew_keypad : (s.drew).keypad = s.keypad := rfl
@[simp] theorem drew_tag : (s.drew).tag = s.tag := rfl
@[simp] theorem drew_vault : (s.drew).vault = s.vault := rfl
@[simp] theorem drew_sealFilter : (s.drew).sealFilter = s.sealFilter := rfl
@[simp] theorem drew_recorder : (s.drew).recorder = s.recorder := rfl
@[simp] theorem drew_display : (s.drew).display = s.display := rfl
@[simp] theorem drew_flash : (s.drew).flash = s.flash := rfl
@[simp] theorem drew_modes : (s.drew).modes = s.modes := rfl
@[simp] theorem drew_bist : (s.drew).bist = s.bist := rfl
@[simp] theorem get_drew (j : Nat) : (s.drew).get j = s.get j := rfl
@[simp] theorem getN_drew (j : Nat) : (s.drew).getN j = s.getN j := rfl
@[simp] theorem flag_drew (j : Nat) : (s.drew).flag j = s.flag j := rfl

/-! `send` -/
@[simp] theorem send_variant (o : Output) : (s.send o).variant = s.variant := rfl
@[simp] theorem send_obj (o : Output) : (s.send o).obj = s.obj := rfl
@[simp] theorem send_pending (o : Output) : (s.send o).pending = s.pending := rfl
@[simp] theorem send_draw (o : Output) : (s.send o).draw = s.draw := rfl
@[simp] theorem send_linkA (o : Output) : (s.send o).linkA = s.linkA := rfl
@[simp] theorem send_linkB (o : Output) : (s.send o).linkB = s.linkB := rfl
@[simp] theorem send_ports (o : Output) : (s.send o).ports = s.ports := rfl
@[simp] theorem send_plan (o : Output) : (s.send o).plan = s.plan := rfl
@[simp] theorem send_pannier (o : Output) : (s.send o).pannier = s.pannier := rfl
@[simp] theorem send_dma (o : Output) : (s.send o).dma = s.dma := rfl
@[simp] theorem send_kod (o : Output) : (s.send o).kod = s.kod := rfl
@[simp] theorem send_chans (o : Output) : (s.send o).chans = s.chans := rfl
@[simp] theorem send_groups (o : Output) : (s.send o).groups = s.groups := rfl
@[simp] theorem send_spokes (o : Output) : (s.send o).spokes = s.spokes := rfl
@[simp] theorem send_pulses (o : Output) : (s.send o).pulses = s.pulses := rfl
@[simp] theorem send_beacon (o : Output) : (s.send o).beacon = s.beacon := rfl
@[simp] theorem send_pf (o : Output) : (s.send o).pf = s.pf := rfl
@[simp] theorem send_billing (o : Output) : (s.send o).billing = s.billing := rfl
@[simp] theorem send_sessions (o : Output) : (s.send o).sessions = s.sessions := rfl
@[simp] theorem send_sessionSeq (o : Output) : (s.send o).sessionSeq = s.sessionSeq := rfl
@[simp] theorem send_lowPurses (o : Output) : (s.send o).lowPurses = s.lowPurses := rfl
@[simp] theorem send_tokenFails (o : Output) : (s.send o).tokenFails = s.tokenFails := rfl
@[simp] theorem send_tokenLock (o : Output) : (s.send o).tokenLock = s.tokenLock := rfl
@[simp] theorem send_slac (o : Output) : (s.send o).slac = s.slac := rfl
@[simp] theorem send_peloton (o : Output) : (s.send o).peloton = s.peloton := rfl
@[simp] theorem send_switches (o : Output) : (s.send o).switches = s.switches := rfl
@[simp] theorem send_functions (o : Output) : (s.send o).functions = s.functions := rfl
@[simp] theorem send_lease (o : Output) : (s.send o).lease = s.lease := rfl
@[simp] theorem send_peers (o : Output) : (s.send o).peers = s.peers := rfl
@[simp] theorem send_tandemAt (o : Output) : (s.send o).tandemAt = s.tandemAt := rfl
@[simp] theorem send_chainline (o : Output) : (s.send o).chainline = s.chainline := rfl
@[simp] theorem send_frontEnds (o : Output) : (s.send o).frontEnds = s.frontEnds := rfl
@[simp] theorem send_aerials (o : Output) : (s.send o).aerials = s.aerials := rfl
@[simp] theorem send_emulation (o : Output) : (s.send o).emulation = s.emulation := rfl
@[simp] theorem send_keypad (o : Output) : (s.send o).keypad = s.keypad := rfl
@[simp] theorem send_tag (o : Output) : (s.send o).tag = s.tag := rfl
@[simp] theorem send_vault (o : Output) : (s.send o).vault = s.vault := rfl
@[simp] theorem send_sealFilter (o : Output) : (s.send o).sealFilter = s.sealFilter := rfl
@[simp] theorem send_recorder (o : Output) : (s.send o).recorder = s.recorder := rfl
@[simp] theorem send_display (o : Output) : (s.send o).display = s.display := rfl
@[simp] theorem send_flash (o : Output) : (s.send o).flash = s.flash := rfl
@[simp] theorem send_modes (o : Output) : (s.send o).modes = s.modes := rfl
@[simp] theorem send_bist (o : Output) : (s.send o).bist = s.bist := rfl
@[simp] theorem get_send (o : Output) (j : Nat) : (s.send o).get j = s.get j := rfl
@[simp] theorem getN_send (o : Output) (j : Nat) : (s.send o).getN j = s.getN j := rfl
@[simp] theorem flag_send (o : Output) (j : Nat) : (s.send o).flag j = s.flag j := rfl

/-! `journal` -/
@[simp] theorem journal_variant (n : Nat) : (s.journal n).variant = s.variant := rfl
@[simp] theorem journal_obj (n : Nat) : (s.journal n).obj = s.obj := rfl
@[simp] theorem journal_pending (n : Nat) : (s.journal n).pending = s.pending := rfl
@[simp] theorem journal_out (n : Nat) : (s.journal n).out = s.out := rfl
@[simp] theorem journal_draw (n : Nat) : (s.journal n).draw = s.draw := rfl
@[simp] theorem journal_linkA (n : Nat) : (s.journal n).linkA = s.linkA := rfl
@[simp] theorem journal_linkB (n : Nat) : (s.journal n).linkB = s.linkB := rfl
@[simp] theorem journal_ports (n : Nat) : (s.journal n).ports = s.ports := rfl
@[simp] theorem journal_plan (n : Nat) : (s.journal n).plan = s.plan := rfl
@[simp] theorem journal_pannier (n : Nat) : (s.journal n).pannier = s.pannier := rfl
@[simp] theorem journal_dma (n : Nat) : (s.journal n).dma = s.dma := rfl
@[simp] theorem journal_kod (n : Nat) : (s.journal n).kod = s.kod := rfl
@[simp] theorem journal_chans (n : Nat) : (s.journal n).chans = s.chans := rfl
@[simp] theorem journal_groups (n : Nat) : (s.journal n).groups = s.groups := rfl
@[simp] theorem journal_spokes (n : Nat) : (s.journal n).spokes = s.spokes := rfl
@[simp] theorem journal_pulses (n : Nat) : (s.journal n).pulses = s.pulses := rfl
@[simp] theorem journal_beacon (n : Nat) : (s.journal n).beacon = s.beacon := rfl
@[simp] theorem journal_billing (n : Nat) : (s.journal n).billing = s.billing := rfl
@[simp] theorem journal_sessions (n : Nat) : (s.journal n).sessions = s.sessions := rfl
@[simp] theorem journal_sessionSeq (n : Nat) : (s.journal n).sessionSeq = s.sessionSeq := rfl
@[simp] theorem journal_lowPurses (n : Nat) : (s.journal n).lowPurses = s.lowPurses := rfl
@[simp] theorem journal_tokenFails (n : Nat) : (s.journal n).tokenFails = s.tokenFails := rfl
@[simp] theorem journal_tokenLock (n : Nat) : (s.journal n).tokenLock = s.tokenLock := rfl
@[simp] theorem journal_slac (n : Nat) : (s.journal n).slac = s.slac := rfl
@[simp] theorem journal_peloton (n : Nat) : (s.journal n).peloton = s.peloton := rfl
@[simp] theorem journal_switches (n : Nat) : (s.journal n).switches = s.switches := rfl
@[simp] theorem journal_functions (n : Nat) : (s.journal n).functions = s.functions := rfl
@[simp] theorem journal_lease (n : Nat) : (s.journal n).lease = s.lease := rfl
@[simp] theorem journal_peers (n : Nat) : (s.journal n).peers = s.peers := rfl
@[simp] theorem journal_tandemAt (n : Nat) : (s.journal n).tandemAt = s.tandemAt := rfl
@[simp] theorem journal_chainline (n : Nat) : (s.journal n).chainline = s.chainline := rfl
@[simp] theorem journal_frontEnds (n : Nat) : (s.journal n).frontEnds = s.frontEnds := rfl
@[simp] theorem journal_aerials (n : Nat) : (s.journal n).aerials = s.aerials := rfl
@[simp] theorem journal_emulation (n : Nat) : (s.journal n).emulation = s.emulation := rfl
@[simp] theorem journal_keypad (n : Nat) : (s.journal n).keypad = s.keypad := rfl
@[simp] theorem journal_tag (n : Nat) : (s.journal n).tag = s.tag := rfl
@[simp] theorem journal_vault (n : Nat) : (s.journal n).vault = s.vault := rfl
@[simp] theorem journal_sealFilter (n : Nat) : (s.journal n).sealFilter = s.sealFilter := rfl
@[simp] theorem journal_recorder (n : Nat) : (s.journal n).recorder = s.recorder := rfl
@[simp] theorem journal_display (n : Nat) : (s.journal n).display = s.display := rfl
@[simp] theorem journal_flash (n : Nat) : (s.journal n).flash = s.flash := rfl
@[simp] theorem journal_modes (n : Nat) : (s.journal n).modes = s.modes := rfl
@[simp] theorem journal_bist (n : Nat) : (s.journal n).bist = s.bist := rfl
@[simp] theorem get_journal (n : Nat) (j : Nat) : (s.journal n).get j = s.get j := rfl
@[simp] theorem getN_journal (n : Nat) (j : Nat) : (s.journal n).getN j = s.getN j := rfl
@[simp] theorem flag_journal (n : Nat) (j : Nat) : (s.journal n).flag j = s.flag j := rfl

/-! `modSpoke` -/
@[simp] theorem modSpoke_variant (i : Nat) (f : Spoke → Spoke) : (s.modSpoke i f).variant = s.variant := rfl
@[simp] theorem modSpoke_obj (i : Nat) (f : Spoke → Spoke) : (s.modSpoke i f).obj = s.obj := rfl
@[simp] theorem modSpoke_pending (i : Nat) (f : Spoke → Spoke) : (s.modSpoke i f).pending = s.pending := rfl
@[simp] theorem modSpoke_out (i : Nat) (f : Spoke → Spoke) : (s.modSpoke i f).out = s.out := rfl
@[simp] theorem modSpoke_draw (i : Nat) (f : Spoke → Spoke) : (s.modSpoke i f).draw = s.draw := rfl
@[simp] theorem modSpoke_linkA (i : Nat) (f : Spoke → Spoke) : (s.modSpoke i f).linkA = s.linkA := rfl
@[simp] theorem modSpoke_linkB (i : Nat) (f : Spoke → Spoke) : (s.modSpoke i f).linkB = s.linkB := rfl
@[simp] theorem modSpoke_ports (i : Nat) (f : Spoke → Spoke) : (s.modSpoke i f).ports = s.ports := rfl
@[simp] theorem modSpoke_plan (i : Nat) (f : Spoke → Spoke) : (s.modSpoke i f).plan = s.plan := rfl
@[simp] theorem modSpoke_pannier (i : Nat) (f : Spoke → Spoke) : (s.modSpoke i f).pannier = s.pannier := rfl
@[simp] theorem modSpoke_dma (i : Nat) (f : Spoke → Spoke) : (s.modSpoke i f).dma = s.dma := rfl
@[simp] theorem modSpoke_kod (i : Nat) (f : Spoke → Spoke) : (s.modSpoke i f).kod = s.kod := rfl
@[simp] theorem modSpoke_chans (i : Nat) (f : Spoke → Spoke) : (s.modSpoke i f).chans = s.chans := rfl
@[simp] theorem modSpoke_groups (i : Nat) (f : Spoke → Spoke) : (s.modSpoke i f).groups = s.groups := rfl
@[simp] theorem modSpoke_pulses (i : Nat) (f : Spoke → Spoke) : (s.modSpoke i f).pulses = s.pulses := rfl
@[simp] theorem modSpoke_beacon (i : Nat) (f : Spoke → Spoke) : (s.modSpoke i f).beacon = s.beacon := rfl
@[simp] theorem modSpoke_pf (i : Nat) (f : Spoke → Spoke) : (s.modSpoke i f).pf = s.pf := rfl
@[simp] theorem modSpoke_billing (i : Nat) (f : Spoke → Spoke) : (s.modSpoke i f).billing = s.billing := rfl
@[simp] theorem modSpoke_sessions (i : Nat) (f : Spoke → Spoke) : (s.modSpoke i f).sessions = s.sessions := rfl
@[simp] theorem modSpoke_sessionSeq (i : Nat) (f : Spoke → Spoke) : (s.modSpoke i f).sessionSeq = s.sessionSeq := rfl
@[simp] theorem modSpoke_lowPurses (i : Nat) (f : Spoke → Spoke) : (s.modSpoke i f).lowPurses = s.lowPurses := rfl
@[simp] theorem modSpoke_tokenFails (i : Nat) (f : Spoke → Spoke) : (s.modSpoke i f).tokenFails = s.tokenFails := rfl
@[simp] theorem modSpoke_tokenLock (i : Nat) (f : Spoke → Spoke) : (s.modSpoke i f).tokenLock = s.tokenLock := rfl
@[simp] theorem modSpoke_slac (i : Nat) (f : Spoke → Spoke) : (s.modSpoke i f).slac = s.slac := rfl
@[simp] theorem modSpoke_peloton (i : Nat) (f : Spoke → Spoke) : (s.modSpoke i f).peloton = s.peloton := rfl
@[simp] theorem modSpoke_switches (i : Nat) (f : Spoke → Spoke) : (s.modSpoke i f).switches = s.switches := rfl
@[simp] theorem modSpoke_functions (i : Nat) (f : Spoke → Spoke) : (s.modSpoke i f).functions = s.functions := rfl
@[simp] theorem modSpoke_lease (i : Nat) (f : Spoke → Spoke) : (s.modSpoke i f).lease = s.lease := rfl
@[simp] theorem modSpoke_peers (i : Nat) (f : Spoke → Spoke) : (s.modSpoke i f).peers = s.peers := rfl
@[simp] theorem modSpoke_tandemAt (i : Nat) (f : Spoke → Spoke) : (s.modSpoke i f).tandemAt = s.tandemAt := rfl
@[simp] theorem modSpoke_chainline (i : Nat) (f : Spoke → Spoke) : (s.modSpoke i f).chainline = s.chainline := rfl
@[simp] theorem modSpoke_frontEnds (i : Nat) (f : Spoke → Spoke) : (s.modSpoke i f).frontEnds = s.frontEnds := rfl
@[simp] theorem modSpoke_aerials (i : Nat) (f : Spoke → Spoke) : (s.modSpoke i f).aerials = s.aerials := rfl
@[simp] theorem modSpoke_emulation (i : Nat) (f : Spoke → Spoke) : (s.modSpoke i f).emulation = s.emulation := rfl
@[simp] theorem modSpoke_keypad (i : Nat) (f : Spoke → Spoke) : (s.modSpoke i f).keypad = s.keypad := rfl
@[simp] theorem modSpoke_tag (i : Nat) (f : Spoke → Spoke) : (s.modSpoke i f).tag = s.tag := rfl
@[simp] theorem modSpoke_vault (i : Nat) (f : Spoke → Spoke) : (s.modSpoke i f).vault = s.vault := rfl
@[simp] theorem modSpoke_sealFilter (i : Nat) (f : Spoke → Spoke) : (s.modSpoke i f).sealFilter = s.sealFilter := rfl
@[simp] theorem modSpoke_recorder (i : Nat) (f : Spoke → Spoke) : (s.modSpoke i f).recorder = s.recorder := rfl
@[simp] theorem modSpoke_display (i : Nat) (f : Spoke → Spoke) : (s.modSpoke i f).display = s.display := rfl
@[simp] theorem modSpoke_flash (i : Nat) (f : Spoke → Spoke) : (s.modSpoke i f).flash = s.flash := rfl
@[simp] theorem modSpoke_modes (i : Nat) (f : Spoke → Spoke) : (s.modSpoke i f).modes = s.modes := rfl
@[simp] theorem modSpoke_bist (i : Nat) (f : Spoke → Spoke) : (s.modSpoke i f).bist = s.bist := rfl
@[simp] theorem get_modSpoke (i : Nat) (f : Spoke → Spoke) (j : Nat) : (s.modSpoke i f).get j = s.get j := rfl
@[simp] theorem getN_modSpoke (i : Nat) (f : Spoke → Spoke) (j : Nat) : (s.modSpoke i f).getN j = s.getN j := rfl
@[simp] theorem flag_modSpoke (i : Nat) (f : Spoke → Spoke) (j : Nat) : (s.modSpoke i f).flag j = s.flag j := rfl

/-! `modSwitch` -/
@[simp] theorem modSwitch_variant (i : Nat) (f : Switch → Switch) : (s.modSwitch i f).variant = s.variant := rfl
@[simp] theorem modSwitch_obj (i : Nat) (f : Switch → Switch) : (s.modSwitch i f).obj = s.obj := rfl
@[simp] theorem modSwitch_pending (i : Nat) (f : Switch → Switch) : (s.modSwitch i f).pending = s.pending := rfl
@[simp] theorem modSwitch_out (i : Nat) (f : Switch → Switch) : (s.modSwitch i f).out = s.out := rfl
@[simp] theorem modSwitch_draw (i : Nat) (f : Switch → Switch) : (s.modSwitch i f).draw = s.draw := rfl
@[simp] theorem modSwitch_linkA (i : Nat) (f : Switch → Switch) : (s.modSwitch i f).linkA = s.linkA := rfl
@[simp] theorem modSwitch_linkB (i : Nat) (f : Switch → Switch) : (s.modSwitch i f).linkB = s.linkB := rfl
@[simp] theorem modSwitch_ports (i : Nat) (f : Switch → Switch) : (s.modSwitch i f).ports = s.ports := rfl
@[simp] theorem modSwitch_plan (i : Nat) (f : Switch → Switch) : (s.modSwitch i f).plan = s.plan := rfl
@[simp] theorem modSwitch_pannier (i : Nat) (f : Switch → Switch) : (s.modSwitch i f).pannier = s.pannier := rfl
@[simp] theorem modSwitch_dma (i : Nat) (f : Switch → Switch) : (s.modSwitch i f).dma = s.dma := rfl
@[simp] theorem modSwitch_kod (i : Nat) (f : Switch → Switch) : (s.modSwitch i f).kod = s.kod := rfl
@[simp] theorem modSwitch_chans (i : Nat) (f : Switch → Switch) : (s.modSwitch i f).chans = s.chans := rfl
@[simp] theorem modSwitch_groups (i : Nat) (f : Switch → Switch) : (s.modSwitch i f).groups = s.groups := rfl
@[simp] theorem modSwitch_spokes (i : Nat) (f : Switch → Switch) : (s.modSwitch i f).spokes = s.spokes := rfl
@[simp] theorem modSwitch_pulses (i : Nat) (f : Switch → Switch) : (s.modSwitch i f).pulses = s.pulses := rfl
@[simp] theorem modSwitch_beacon (i : Nat) (f : Switch → Switch) : (s.modSwitch i f).beacon = s.beacon := rfl
@[simp] theorem modSwitch_pf (i : Nat) (f : Switch → Switch) : (s.modSwitch i f).pf = s.pf := rfl
@[simp] theorem modSwitch_billing (i : Nat) (f : Switch → Switch) : (s.modSwitch i f).billing = s.billing := rfl
@[simp] theorem modSwitch_sessions (i : Nat) (f : Switch → Switch) : (s.modSwitch i f).sessions = s.sessions := rfl
@[simp] theorem modSwitch_sessionSeq (i : Nat) (f : Switch → Switch) : (s.modSwitch i f).sessionSeq = s.sessionSeq := rfl
@[simp] theorem modSwitch_lowPurses (i : Nat) (f : Switch → Switch) : (s.modSwitch i f).lowPurses = s.lowPurses := rfl
@[simp] theorem modSwitch_tokenFails (i : Nat) (f : Switch → Switch) : (s.modSwitch i f).tokenFails = s.tokenFails := rfl
@[simp] theorem modSwitch_tokenLock (i : Nat) (f : Switch → Switch) : (s.modSwitch i f).tokenLock = s.tokenLock := rfl
@[simp] theorem modSwitch_slac (i : Nat) (f : Switch → Switch) : (s.modSwitch i f).slac = s.slac := rfl
@[simp] theorem modSwitch_peloton (i : Nat) (f : Switch → Switch) : (s.modSwitch i f).peloton = s.peloton := rfl
@[simp] theorem modSwitch_functions (i : Nat) (f : Switch → Switch) : (s.modSwitch i f).functions = s.functions := rfl
@[simp] theorem modSwitch_lease (i : Nat) (f : Switch → Switch) : (s.modSwitch i f).lease = s.lease := rfl
@[simp] theorem modSwitch_peers (i : Nat) (f : Switch → Switch) : (s.modSwitch i f).peers = s.peers := rfl
@[simp] theorem modSwitch_tandemAt (i : Nat) (f : Switch → Switch) : (s.modSwitch i f).tandemAt = s.tandemAt := rfl
@[simp] theorem modSwitch_chainline (i : Nat) (f : Switch → Switch) : (s.modSwitch i f).chainline = s.chainline := rfl
@[simp] theorem modSwitch_frontEnds (i : Nat) (f : Switch → Switch) : (s.modSwitch i f).frontEnds = s.frontEnds := rfl
@[simp] theorem modSwitch_aerials (i : Nat) (f : Switch → Switch) : (s.modSwitch i f).aerials = s.aerials := rfl
@[simp] theorem modSwitch_emulation (i : Nat) (f : Switch → Switch) : (s.modSwitch i f).emulation = s.emulation := rfl
@[simp] theorem modSwitch_keypad (i : Nat) (f : Switch → Switch) : (s.modSwitch i f).keypad = s.keypad := rfl
@[simp] theorem modSwitch_tag (i : Nat) (f : Switch → Switch) : (s.modSwitch i f).tag = s.tag := rfl
@[simp] theorem modSwitch_vault (i : Nat) (f : Switch → Switch) : (s.modSwitch i f).vault = s.vault := rfl
@[simp] theorem modSwitch_sealFilter (i : Nat) (f : Switch → Switch) : (s.modSwitch i f).sealFilter = s.sealFilter := rfl
@[simp] theorem modSwitch_recorder (i : Nat) (f : Switch → Switch) : (s.modSwitch i f).recorder = s.recorder := rfl
@[simp] theorem modSwitch_display (i : Nat) (f : Switch → Switch) : (s.modSwitch i f).display = s.display := rfl
@[simp] theorem modSwitch_flash (i : Nat) (f : Switch → Switch) : (s.modSwitch i f).flash = s.flash := rfl
@[simp] theorem modSwitch_modes (i : Nat) (f : Switch → Switch) : (s.modSwitch i f).modes = s.modes := rfl
@[simp] theorem modSwitch_bist (i : Nat) (f : Switch → Switch) : (s.modSwitch i f).bist = s.bist := rfl
@[simp] theorem get_modSwitch (i : Nat) (f : Switch → Switch) (j : Nat) : (s.modSwitch i f).get j = s.get j := rfl
@[simp] theorem getN_modSwitch (i : Nat) (f : Switch → Switch) (j : Nat) : (s.modSwitch i f).getN j = s.getN j := rfl
@[simp] theorem flag_modSwitch (i : Nat) (f : Switch → Switch) (j : Nat) : (s.modSwitch i f).flag j = s.flag j := rfl

/-! `modChan` -/
@[simp] theorem modChan_variant (i : Nat) (f : Chan → Chan) : (s.modChan i f).variant = s.variant := rfl
@[simp] theorem modChan_obj (i : Nat) (f : Chan → Chan) : (s.modChan i f).obj = s.obj := rfl
@[simp] theorem modChan_pending (i : Nat) (f : Chan → Chan) : (s.modChan i f).pending = s.pending := rfl
@[simp] theorem modChan_out (i : Nat) (f : Chan → Chan) : (s.modChan i f).out = s.out := rfl
@[simp] theorem modChan_draw (i : Nat) (f : Chan → Chan) : (s.modChan i f).draw = s.draw := rfl
@[simp] theorem modChan_linkA (i : Nat) (f : Chan → Chan) : (s.modChan i f).linkA = s.linkA := rfl
@[simp] theorem modChan_linkB (i : Nat) (f : Chan → Chan) : (s.modChan i f).linkB = s.linkB := rfl
@[simp] theorem modChan_ports (i : Nat) (f : Chan → Chan) : (s.modChan i f).ports = s.ports := rfl
@[simp] theorem modChan_plan (i : Nat) (f : Chan → Chan) : (s.modChan i f).plan = s.plan := rfl
@[simp] theorem modChan_pannier (i : Nat) (f : Chan → Chan) : (s.modChan i f).pannier = s.pannier := rfl
@[simp] theorem modChan_dma (i : Nat) (f : Chan → Chan) : (s.modChan i f).dma = s.dma := rfl
@[simp] theorem modChan_kod (i : Nat) (f : Chan → Chan) : (s.modChan i f).kod = s.kod := rfl
@[simp] theorem modChan_groups (i : Nat) (f : Chan → Chan) : (s.modChan i f).groups = s.groups := rfl
@[simp] theorem modChan_spokes (i : Nat) (f : Chan → Chan) : (s.modChan i f).spokes = s.spokes := rfl
@[simp] theorem modChan_pulses (i : Nat) (f : Chan → Chan) : (s.modChan i f).pulses = s.pulses := rfl
@[simp] theorem modChan_beacon (i : Nat) (f : Chan → Chan) : (s.modChan i f).beacon = s.beacon := rfl
@[simp] theorem modChan_pf (i : Nat) (f : Chan → Chan) : (s.modChan i f).pf = s.pf := rfl
@[simp] theorem modChan_billing (i : Nat) (f : Chan → Chan) : (s.modChan i f).billing = s.billing := rfl
@[simp] theorem modChan_sessions (i : Nat) (f : Chan → Chan) : (s.modChan i f).sessions = s.sessions := rfl
@[simp] theorem modChan_sessionSeq (i : Nat) (f : Chan → Chan) : (s.modChan i f).sessionSeq = s.sessionSeq := rfl
@[simp] theorem modChan_lowPurses (i : Nat) (f : Chan → Chan) : (s.modChan i f).lowPurses = s.lowPurses := rfl
@[simp] theorem modChan_tokenFails (i : Nat) (f : Chan → Chan) : (s.modChan i f).tokenFails = s.tokenFails := rfl
@[simp] theorem modChan_tokenLock (i : Nat) (f : Chan → Chan) : (s.modChan i f).tokenLock = s.tokenLock := rfl
@[simp] theorem modChan_slac (i : Nat) (f : Chan → Chan) : (s.modChan i f).slac = s.slac := rfl
@[simp] theorem modChan_peloton (i : Nat) (f : Chan → Chan) : (s.modChan i f).peloton = s.peloton := rfl
@[simp] theorem modChan_switches (i : Nat) (f : Chan → Chan) : (s.modChan i f).switches = s.switches := rfl
@[simp] theorem modChan_functions (i : Nat) (f : Chan → Chan) : (s.modChan i f).functions = s.functions := rfl
@[simp] theorem modChan_lease (i : Nat) (f : Chan → Chan) : (s.modChan i f).lease = s.lease := rfl
@[simp] theorem modChan_peers (i : Nat) (f : Chan → Chan) : (s.modChan i f).peers = s.peers := rfl
@[simp] theorem modChan_tandemAt (i : Nat) (f : Chan → Chan) : (s.modChan i f).tandemAt = s.tandemAt := rfl
@[simp] theorem modChan_chainline (i : Nat) (f : Chan → Chan) : (s.modChan i f).chainline = s.chainline := rfl
@[simp] theorem modChan_frontEnds (i : Nat) (f : Chan → Chan) : (s.modChan i f).frontEnds = s.frontEnds := rfl
@[simp] theorem modChan_aerials (i : Nat) (f : Chan → Chan) : (s.modChan i f).aerials = s.aerials := rfl
@[simp] theorem modChan_emulation (i : Nat) (f : Chan → Chan) : (s.modChan i f).emulation = s.emulation := rfl
@[simp] theorem modChan_keypad (i : Nat) (f : Chan → Chan) : (s.modChan i f).keypad = s.keypad := rfl
@[simp] theorem modChan_tag (i : Nat) (f : Chan → Chan) : (s.modChan i f).tag = s.tag := rfl
@[simp] theorem modChan_vault (i : Nat) (f : Chan → Chan) : (s.modChan i f).vault = s.vault := rfl
@[simp] theorem modChan_sealFilter (i : Nat) (f : Chan → Chan) : (s.modChan i f).sealFilter = s.sealFilter := rfl
@[simp] theorem modChan_recorder (i : Nat) (f : Chan → Chan) : (s.modChan i f).recorder = s.recorder := rfl
@[simp] theorem modChan_display (i : Nat) (f : Chan → Chan) : (s.modChan i f).display = s.display := rfl
@[simp] theorem modChan_flash (i : Nat) (f : Chan → Chan) : (s.modChan i f).flash = s.flash := rfl
@[simp] theorem modChan_modes (i : Nat) (f : Chan → Chan) : (s.modChan i f).modes = s.modes := rfl
@[simp] theorem modChan_bist (i : Nat) (f : Chan → Chan) : (s.modChan i f).bist = s.bist := rfl
@[simp] theorem get_modChan (i : Nat) (f : Chan → Chan) (j : Nat) : (s.modChan i f).get j = s.get j := rfl
@[simp] theorem getN_modChan (i : Nat) (f : Chan → Chan) (j : Nat) : (s.modChan i f).getN j = s.getN j := rfl
@[simp] theorem flag_modChan (i : Nat) (f : Chan → Chan) (j : Nat) : (s.modChan i f).flag j = s.flag j := rfl

/-! `modGroup` -/
@[simp] theorem modGroup_variant (i : Nat) (f : Group → Group) : (s.modGroup i f).variant = s.variant := rfl
@[simp] theorem modGroup_obj (i : Nat) (f : Group → Group) : (s.modGroup i f).obj = s.obj := rfl
@[simp] theorem modGroup_pending (i : Nat) (f : Group → Group) : (s.modGroup i f).pending = s.pending := rfl
@[simp] theorem modGroup_out (i : Nat) (f : Group → Group) : (s.modGroup i f).out = s.out := rfl
@[simp] theorem modGroup_draw (i : Nat) (f : Group → Group) : (s.modGroup i f).draw = s.draw := rfl
@[simp] theorem modGroup_linkA (i : Nat) (f : Group → Group) : (s.modGroup i f).linkA = s.linkA := rfl
@[simp] theorem modGroup_linkB (i : Nat) (f : Group → Group) : (s.modGroup i f).linkB = s.linkB := rfl
@[simp] theorem modGroup_ports (i : Nat) (f : Group → Group) : (s.modGroup i f).ports = s.ports := rfl
@[simp] theorem modGroup_plan (i : Nat) (f : Group → Group) : (s.modGroup i f).plan = s.plan := rfl
@[simp] theorem modGroup_pannier (i : Nat) (f : Group → Group) : (s.modGroup i f).pannier = s.pannier := rfl
@[simp] theorem modGroup_dma (i : Nat) (f : Group → Group) : (s.modGroup i f).dma = s.dma := rfl
@[simp] theorem modGroup_kod (i : Nat) (f : Group → Group) : (s.modGroup i f).kod = s.kod := rfl
@[simp] theorem modGroup_chans (i : Nat) (f : Group → Group) : (s.modGroup i f).chans = s.chans := rfl
@[simp] theorem modGroup_spokes (i : Nat) (f : Group → Group) : (s.modGroup i f).spokes = s.spokes := rfl
@[simp] theorem modGroup_pulses (i : Nat) (f : Group → Group) : (s.modGroup i f).pulses = s.pulses := rfl
@[simp] theorem modGroup_beacon (i : Nat) (f : Group → Group) : (s.modGroup i f).beacon = s.beacon := rfl
@[simp] theorem modGroup_pf (i : Nat) (f : Group → Group) : (s.modGroup i f).pf = s.pf := rfl
@[simp] theorem modGroup_billing (i : Nat) (f : Group → Group) : (s.modGroup i f).billing = s.billing := rfl
@[simp] theorem modGroup_sessions (i : Nat) (f : Group → Group) : (s.modGroup i f).sessions = s.sessions := rfl
@[simp] theorem modGroup_sessionSeq (i : Nat) (f : Group → Group) : (s.modGroup i f).sessionSeq = s.sessionSeq := rfl
@[simp] theorem modGroup_lowPurses (i : Nat) (f : Group → Group) : (s.modGroup i f).lowPurses = s.lowPurses := rfl
@[simp] theorem modGroup_tokenFails (i : Nat) (f : Group → Group) : (s.modGroup i f).tokenFails = s.tokenFails := rfl
@[simp] theorem modGroup_tokenLock (i : Nat) (f : Group → Group) : (s.modGroup i f).tokenLock = s.tokenLock := rfl
@[simp] theorem modGroup_slac (i : Nat) (f : Group → Group) : (s.modGroup i f).slac = s.slac := rfl
@[simp] theorem modGroup_peloton (i : Nat) (f : Group → Group) : (s.modGroup i f).peloton = s.peloton := rfl
@[simp] theorem modGroup_switches (i : Nat) (f : Group → Group) : (s.modGroup i f).switches = s.switches := rfl
@[simp] theorem modGroup_functions (i : Nat) (f : Group → Group) : (s.modGroup i f).functions = s.functions := rfl
@[simp] theorem modGroup_lease (i : Nat) (f : Group → Group) : (s.modGroup i f).lease = s.lease := rfl
@[simp] theorem modGroup_peers (i : Nat) (f : Group → Group) : (s.modGroup i f).peers = s.peers := rfl
@[simp] theorem modGroup_tandemAt (i : Nat) (f : Group → Group) : (s.modGroup i f).tandemAt = s.tandemAt := rfl
@[simp] theorem modGroup_chainline (i : Nat) (f : Group → Group) : (s.modGroup i f).chainline = s.chainline := rfl
@[simp] theorem modGroup_frontEnds (i : Nat) (f : Group → Group) : (s.modGroup i f).frontEnds = s.frontEnds := rfl
@[simp] theorem modGroup_aerials (i : Nat) (f : Group → Group) : (s.modGroup i f).aerials = s.aerials := rfl
@[simp] theorem modGroup_emulation (i : Nat) (f : Group → Group) : (s.modGroup i f).emulation = s.emulation := rfl
@[simp] theorem modGroup_keypad (i : Nat) (f : Group → Group) : (s.modGroup i f).keypad = s.keypad := rfl
@[simp] theorem modGroup_tag (i : Nat) (f : Group → Group) : (s.modGroup i f).tag = s.tag := rfl
@[simp] theorem modGroup_vault (i : Nat) (f : Group → Group) : (s.modGroup i f).vault = s.vault := rfl
@[simp] theorem modGroup_sealFilter (i : Nat) (f : Group → Group) : (s.modGroup i f).sealFilter = s.sealFilter := rfl
@[simp] theorem modGroup_recorder (i : Nat) (f : Group → Group) : (s.modGroup i f).recorder = s.recorder := rfl
@[simp] theorem modGroup_display (i : Nat) (f : Group → Group) : (s.modGroup i f).display = s.display := rfl
@[simp] theorem modGroup_flash (i : Nat) (f : Group → Group) : (s.modGroup i f).flash = s.flash := rfl
@[simp] theorem modGroup_modes (i : Nat) (f : Group → Group) : (s.modGroup i f).modes = s.modes := rfl
@[simp] theorem modGroup_bist (i : Nat) (f : Group → Group) : (s.modGroup i f).bist = s.bist := rfl
@[simp] theorem get_modGroup (i : Nat) (f : Group → Group) (j : Nat) : (s.modGroup i f).get j = s.get j := rfl
@[simp] theorem getN_modGroup (i : Nat) (f : Group → Group) (j : Nat) : (s.modGroup i f).getN j = s.getN j := rfl
@[simp] theorem flag_modGroup (i : Nat) (f : Group → Group) (j : Nat) : (s.modGroup i f).flag j = s.flag j := rfl

/-! `modPelo` -/
@[simp] theorem modPelo_variant (i : Nat) (f : PeloSpoke → PeloSpoke) : (s.modPelo i f).variant = s.variant := rfl
@[simp] theorem modPelo_obj (i : Nat) (f : PeloSpoke → PeloSpoke) : (s.modPelo i f).obj = s.obj := rfl
@[simp] theorem modPelo_pending (i : Nat) (f : PeloSpoke → PeloSpoke) : (s.modPelo i f).pending = s.pending := rfl
@[simp] theorem modPelo_out (i : Nat) (f : PeloSpoke → PeloSpoke) : (s.modPelo i f).out = s.out := rfl
@[simp] theorem modPelo_draw (i : Nat) (f : PeloSpoke → PeloSpoke) : (s.modPelo i f).draw = s.draw := rfl
@[simp] theorem modPelo_linkA (i : Nat) (f : PeloSpoke → PeloSpoke) : (s.modPelo i f).linkA = s.linkA := rfl
@[simp] theorem modPelo_linkB (i : Nat) (f : PeloSpoke → PeloSpoke) : (s.modPelo i f).linkB = s.linkB := rfl
@[simp] theorem modPelo_ports (i : Nat) (f : PeloSpoke → PeloSpoke) : (s.modPelo i f).ports = s.ports := rfl
@[simp] theorem modPelo_plan (i : Nat) (f : PeloSpoke → PeloSpoke) : (s.modPelo i f).plan = s.plan := rfl
@[simp] theorem modPelo_pannier (i : Nat) (f : PeloSpoke → PeloSpoke) : (s.modPelo i f).pannier = s.pannier := rfl
@[simp] theorem modPelo_dma (i : Nat) (f : PeloSpoke → PeloSpoke) : (s.modPelo i f).dma = s.dma := rfl
@[simp] theorem modPelo_kod (i : Nat) (f : PeloSpoke → PeloSpoke) : (s.modPelo i f).kod = s.kod := rfl
@[simp] theorem modPelo_chans (i : Nat) (f : PeloSpoke → PeloSpoke) : (s.modPelo i f).chans = s.chans := rfl
@[simp] theorem modPelo_groups (i : Nat) (f : PeloSpoke → PeloSpoke) : (s.modPelo i f).groups = s.groups := rfl
@[simp] theorem modPelo_spokes (i : Nat) (f : PeloSpoke → PeloSpoke) : (s.modPelo i f).spokes = s.spokes := rfl
@[simp] theorem modPelo_pulses (i : Nat) (f : PeloSpoke → PeloSpoke) : (s.modPelo i f).pulses = s.pulses := rfl
@[simp] theorem modPelo_beacon (i : Nat) (f : PeloSpoke → PeloSpoke) : (s.modPelo i f).beacon = s.beacon := rfl
@[simp] theorem modPelo_pf (i : Nat) (f : PeloSpoke → PeloSpoke) : (s.modPelo i f).pf = s.pf := rfl
@[simp] theorem modPelo_billing (i : Nat) (f : PeloSpoke → PeloSpoke) : (s.modPelo i f).billing = s.billing := rfl
@[simp] theorem modPelo_sessions (i : Nat) (f : PeloSpoke → PeloSpoke) : (s.modPelo i f).sessions = s.sessions := rfl
@[simp] theorem modPelo_sessionSeq (i : Nat) (f : PeloSpoke → PeloSpoke) : (s.modPelo i f).sessionSeq = s.sessionSeq := rfl
@[simp] theorem modPelo_lowPurses (i : Nat) (f : PeloSpoke → PeloSpoke) : (s.modPelo i f).lowPurses = s.lowPurses := rfl
@[simp] theorem modPelo_tokenFails (i : Nat) (f : PeloSpoke → PeloSpoke) : (s.modPelo i f).tokenFails = s.tokenFails := rfl
@[simp] theorem modPelo_tokenLock (i : Nat) (f : PeloSpoke → PeloSpoke) : (s.modPelo i f).tokenLock = s.tokenLock := rfl
@[simp] theorem modPelo_slac (i : Nat) (f : PeloSpoke → PeloSpoke) : (s.modPelo i f).slac = s.slac := rfl
@[simp] theorem modPelo_switches (i : Nat) (f : PeloSpoke → PeloSpoke) : (s.modPelo i f).switches = s.switches := rfl
@[simp] theorem modPelo_functions (i : Nat) (f : PeloSpoke → PeloSpoke) : (s.modPelo i f).functions = s.functions := rfl
@[simp] theorem modPelo_lease (i : Nat) (f : PeloSpoke → PeloSpoke) : (s.modPelo i f).lease = s.lease := rfl
@[simp] theorem modPelo_peers (i : Nat) (f : PeloSpoke → PeloSpoke) : (s.modPelo i f).peers = s.peers := rfl
@[simp] theorem modPelo_tandemAt (i : Nat) (f : PeloSpoke → PeloSpoke) : (s.modPelo i f).tandemAt = s.tandemAt := rfl
@[simp] theorem modPelo_chainline (i : Nat) (f : PeloSpoke → PeloSpoke) : (s.modPelo i f).chainline = s.chainline := rfl
@[simp] theorem modPelo_frontEnds (i : Nat) (f : PeloSpoke → PeloSpoke) : (s.modPelo i f).frontEnds = s.frontEnds := rfl
@[simp] theorem modPelo_aerials (i : Nat) (f : PeloSpoke → PeloSpoke) : (s.modPelo i f).aerials = s.aerials := rfl
@[simp] theorem modPelo_emulation (i : Nat) (f : PeloSpoke → PeloSpoke) : (s.modPelo i f).emulation = s.emulation := rfl
@[simp] theorem modPelo_keypad (i : Nat) (f : PeloSpoke → PeloSpoke) : (s.modPelo i f).keypad = s.keypad := rfl
@[simp] theorem modPelo_tag (i : Nat) (f : PeloSpoke → PeloSpoke) : (s.modPelo i f).tag = s.tag := rfl
@[simp] theorem modPelo_vault (i : Nat) (f : PeloSpoke → PeloSpoke) : (s.modPelo i f).vault = s.vault := rfl
@[simp] theorem modPelo_sealFilter (i : Nat) (f : PeloSpoke → PeloSpoke) : (s.modPelo i f).sealFilter = s.sealFilter := rfl
@[simp] theorem modPelo_recorder (i : Nat) (f : PeloSpoke → PeloSpoke) : (s.modPelo i f).recorder = s.recorder := rfl
@[simp] theorem modPelo_display (i : Nat) (f : PeloSpoke → PeloSpoke) : (s.modPelo i f).display = s.display := rfl
@[simp] theorem modPelo_flash (i : Nat) (f : PeloSpoke → PeloSpoke) : (s.modPelo i f).flash = s.flash := rfl
@[simp] theorem modPelo_modes (i : Nat) (f : PeloSpoke → PeloSpoke) : (s.modPelo i f).modes = s.modes := rfl
@[simp] theorem modPelo_bist (i : Nat) (f : PeloSpoke → PeloSpoke) : (s.modPelo i f).bist = s.bist := rfl
@[simp] theorem get_modPelo (i : Nat) (f : PeloSpoke → PeloSpoke) (j : Nat) : (s.modPelo i f).get j = s.get j := rfl
@[simp] theorem getN_modPelo (i : Nat) (f : PeloSpoke → PeloSpoke) (j : Nat) : (s.modPelo i f).getN j = s.getN j := rfl
@[simp] theorem flag_modPelo (i : Nat) (f : PeloSpoke → PeloSpoke) (j : Nat) : (s.modPelo i f).flag j = s.flag j := rfl

theorem notice_raised (i c v : Nat) : (s.notice i c v).recorder.raised = s.recorder.raised ++ [⟨c, i, v⟩] := rfl
theorem send_out (o : Output) : (s.send o).out = s.out ++ [o] := rfl

end Sys2Proof.Machine
end

