-- ==== Sys2Proof/Laws/Objects.lean ====
section
/-! SUPPORT. How `objects` and `keepsObjects` follow from writes of the object store; what one more of a count reads. -/

namespace Sys2Proof.Machine

theorem objects_refl (s : State) : objects s s [] := ⟨by simp, fun _ _ => rfl⟩

theorem objects_put (s : State) (k : Nat) (v : Int) : objects s (s.put k v) [(k, v)] :=
  ⟨by simp, fun j h => get_put_other s k j v fun e => h (k, v) (by simp) e.symm⟩

/-- Several objects with different keys. -/
theorem objects_puts (s : State) (l : List (Nat × Int)) (h : (l.map Prod.fst).Nodup) : objects s (s.puts l) l := by
  refine ⟨?_, fun j hj => get_puts_other s l j hj⟩
  induction l generalizing s with
  | nil => simp
  | cons p t ih =>
    rw [List.map_cons, List.nodup_cons] at h
    intro q hq
    rcases List.mem_cons.1 hq with rfl | hq
    · rw [puts_cons, get_puts_other _ _ _ fun r hr e => h.1 (by rw [← e]; exact List.mem_map_of_mem hr), get_put_same]
    · exact ih _ h.2 q hq

theorem get_count (s : State) (k : Nat) (hk : k ≠ k00LastSaturatedCount) : (s.count k).get k = oneMore s k := by
  unfold State.count oneMore
  simp only [ge_iff_le]
  split
  · rfl
  · split
    · simp [State.saturated, get_put_other _ _ _ _ hk]
    · simp

theorem get_count_other (s : State) (k j : Nat) (h : j ≠ k) (hj : j ≠ k00LastSaturatedCount) :
    (s.count k).get j = s.get j := by
  unfold State.count
  simp only
  split
  · rfl
  · split
    · simp [State.saturated, get_put_other _ _ _ _ hj, get_put_other _ _ _ _ h]
    · exact get_put_other _ _ _ _ h

/-- A count changes objects and the raised notices, nothing else. -/
theorem count_rest (s : State) (k : Nat) : { s.count k with obj := s.obj, recorder := s.recorder } = s := by
  unfold State.count
  simp only
  split
  · rfl
  · split <;> rfl

/-- Counting several at once changes objects and the raised notices, nothing else. -/
theorem countBy_rest (s : State) (k n : Nat) : { s.countBy k n with obj := s.obj, recorder := s.recorder } = s := by
  unfold State.countBy
  simp only
  split
  · rfl
  · split <;> rfl

theorem get_countBy_other (s : State) (k n j : Nat) (h : j ≠ k) (hj : j ≠ k00LastSaturatedCount) :
    (s.countBy k n).get j = s.get j := by
  unfold State.countBy
  simp only
  split
  · rfl
  · split
    · simp [State.saturated, get_put_other _ _ _ _ hj, get_put_other _ _ _ _ h]
    · exact get_put_other _ _ _ _ h

end Sys2Proof.Machine
end

