-- ==== Sys2Proof/Laws/Each.lean ====
section
/-! SUPPORT. `State.each`: what every step of a walk keeps, the walk keeps. -/

namespace Sys2Proof.Machine

variable {α : Type}

@[simp] theorem each_nil (s : State) (f : State → α → State) : s.each [] f = s := rfl
@[simp] theorem each_cons (s : State) (a : α) (l : List α) (f : State → α → State) :
    s.each (a :: l) f = (f s a).each l f := rfl
theorem each_append (s : State) (l m : List α) (f : State → α → State) :
    s.each (l ++ m) f = (s.each l f).each m f := List.foldl_append

/-- A property that every step keeps. -/
theorem each_keeps (P : State → Prop) (s : State) (l : List α) (f : State → α → State)
    (h : ∀ t a, a ∈ l → P t → P (f t a)) (hs : P s) : P (s.each l f) := by
  induction l generalizing s with
  | nil => exact hs
  | cons a l ih =>
    exact ih (f s a) (fun t b hb => h t b (List.mem_cons_of_mem _ hb)) (h s a List.mem_cons_self hs)

/-- A view of the state that no step changes. -/
theorem each_view {β : Type} (g : State → β) (s : State) (l : List α) (f : State → α → State)
    (h : ∀ t a, a ∈ l → g (f t a) = g t) : g (s.each l f) = g s :=
  each_keeps (fun t => g t = g s) s l f (fun t a ha ht => (h t a ha).trans ht) rfl

end Sys2Proof.Machine
end

