-- ==== Sys2Proof/Laws/Rows.lean ====
section
/-! SUPPORT. What a row that writes one object can do, said once: it waits behind WRITEs that wait, it is refused by the checks of
R82, it is refused by the rule of its chapter, or its effect stands and its status is answered. -/

namespace Sys2Proof.Machine

variable (s : State) (sid k : Nat) (v : Int) (chk : State → Nat) (eff : State → State)

theorem rowPasses_iff : s.rowPasses sid k v = true ↔ s.writesOpen = true ∧ s.checkWrite sid ⟨k, ownType, v⟩ = stOk := by
  simp [State.rowPasses]

/-- A row behind WRITEs that wait takes its place as one of them. -/
theorem writeRow_waits (h : s.writesOpen = false) : s.writeRow sid k v chk eff = s.queueRow sid ⟨k, ownType, v⟩ := by
  simp [State.writeRow, State.inTurn, h]

/-- The checks of R82 refuse it. -/
theorem writeRow_refused (h : s.writesOpen = true) (hc : s.checkWrite sid ⟨k, ownType, v⟩ ≠ stOk) :
    s.writeRow sid k v chk eff = (s.answer sid k (s.checkWrite sid ⟨k, ownType, v⟩)).atStep5 := by
  simp [State.writeRow, State.inTurn, State.rowEffect, h, hc]

/-- The rule of its chapter refuses it. -/
theorem writeRow_barred (h : s.rowPasses sid k v = true) (hc : chk s ≠ stOk) :
    s.writeRow sid k v chk eff = ((s.internalNotice (chk s)).answer sid k (chk s)).atStep5 := by
  obtain ⟨ho, hw⟩ := (rowPasses_iff s sid k v).1 h
  simp [State.writeRow, State.inTurn, State.rowEffect, ho, hw, hc]

/-- It is accepted. -/
theorem writeRow_passes (h : s.rowPasses sid k v = true) (hc : chk s = stOk) :
    s.writeRow sid k v chk eff = (s.writeOne sid k v eff).atStep5 := by
  obtain ⟨ho, hw⟩ := (rowPasses_iff s sid k v).1 h
  simp [State.writeRow, State.inTurn, State.rowEffect, ho, hw, hc]

theorem internalNotice_other {st : Nat} (h : st ≠ stInternal) : s.internalNotice st = s := by
  simp [State.internalNotice, h]

@[simp] theorem get_atStep5 (k : Nat) : s.atStep5.get k = s.get k := rfl
@[simp] theorem out_atStep5 : s.atStep5.out = s.out := rfl
@[simp] theorem recorder_atStep5 : s.atStep5.recorder = s.recorder := rfl
@[simp] theorem atStep5_rest : { s.atStep5 with modes := s.modes } = s := rfl

end Sys2Proof.Machine
end

