-- ==== Sys2Proof/Laws/Runs.lean ====
section
/-! SUPPORT. What the shared operations of the pedal sequencers, of a KOD service and of a Chainline command do, said once. -/

namespace Sys2Proof.Machine

/-! ### The sequencer of a spoke -/

theorem spoke_modSpoke_same (s : State) (i : Nat) (f : Spoke → Spoke) (h : i < s.spokes.length) :
    (s.modSpoke i f).spoke i = f (s.spoke i) := by
  simp [State.spoke, State.modSpoke, List.getD, h]

theorem spoke_modSpoke_other (s : State) (i j : Nat) (f : Spoke → Spoke) (h : j ≠ i) :
    (s.modSpoke i f).spoke j = s.spoke j := by
  simp [State.spoke, State.modSpoke, List.getD, Ne.symm h]

theorem spoke_put (s : State) (k : Nat) (v : Int) (j : Nat) : (s.put k v).spoke j = s.spoke j := rfl

/-- An instruction that works on its sequencer alone: one more instruction counted, the program counter on the next one. -/
theorem pedalOp_ran (s : State) (sp : Nat) (f : Pedal → Pedal) (h : pedalReady s sp)
    (hc : ∀ p : Pedal, (f p).count = p.count ∧ (f p).pc = p.pc) :
    pedalRan s (s.pedalOp sp f) sp { f (s.pedal sp) with pc := (s.pedal sp).pc + 1 } := by
  obtain ⟨h1, h2⟩ := h
  simp only [State.pedalOp, h1, if_true]
  refine ⟨?_, ?_, ?_, ?_, ?_⟩
  · simp only [State.modPedal, spoke_put]
    rw [spoke_modSpoke_same _ _ _ h2]
    simp [State.pedal, hc]
  · simp [State.getN]
  · intro k hk
    rw [get_put_other]
    · rfl
    · simpa using hk
  · exact fun j hj => spoke_modSpoke_other _ _ _ _ hj
  · rfl

/-! ### A request that passes the gate -/

/-- The service of an accepted request runs on the state in which it begins, and its answer concludes the request. -/
theorem serve_accepted (s : State) (r : KodReq) (n : Nat) (b : List Nat) (run : Service) (h : accepts s r n b)
    (hs : (scopeOf n).logged = true) :
    s.serve r n b run = match (run (begun s r n b)).2 with
      | some x => (run (begun s r n b)).1.conclude r n (s.session r.sid).key x
      | none => (run (begun s r n b)).1 := by
  obtain ⟨h1, h2, h3, h4, h5, h6, h7, h8, h9, h10⟩ := h
  have e1 : (s.taken r n b).kodUp = true := h1
  have e2 : (s.taken r n b).carries r.ep = true := by rw [← h2]; cases r.ep <;> rfl
  have e3 : (s.taken r n b).sessionState r.sid = 2 := h5
  have e4 : (s.taken r n b).session r.sid = s.session r.sid := rfl
  have e6 : (s.taken r n b).keyHeld r.sid = true := by rw [State.keyHeld, e4, h10]; simp [State.taken]
  have e5 : r.seq ≠ (s.session r.sid).last := by omega
  simp [State.serve, e1, e2, h3, h4, e3, e4, h6, State.serveLogged, h7, h8, e5, e6, ← h9, hs]
  rfl

/-! ### A Chainline command that waits first -/

theorem carryOut_front (s : State) (n : Nat) (h : ChlHdr) (w : List Nat) (a : Nat)
    (rest : List (Nat × ChlHdr × List Nat × Nat)) (isIt : List Nat → Bool) (f : State → Nat → State)
    (hf : s.firmwareUp = true) (hc : s.chainline.commands = (n, h, w, a) :: rest) (hi : isIt w = true) :
    s.carryOut n h isIt f = f (chlTaken s rest) a := by
  simp [State.carryOut, hc, hi, hf, chlTaken, State.modChl]

end Sys2Proof.Machine
end

