-- ==== Sys2Proof/Laws/Shared.lean ====
section
/-! SUPPORT. What each shared operation can change, said once: the state after it, with the parts it may change put back, is
the state before it. A view of any other part follows by `congrArg`. -/

namespace Sys2Proof.Machine

variable (s : State)

/-! ### The link of a die -/

@[simp] theorem dieLink_modDie_same (d : Die) (f : SpokeLink → SpokeLink) :
    (s.modDie d f).dieLink d = f (s.dieLink d) := by cases d <;> rfl

@[simp] theorem get_modDie (d : Die) (f : SpokeLink → SpokeLink) (k : Nat) : (s.modDie d f).get k = s.get k := by
  cases d <;> rfl

@[simp] theorem recorder_modDie (d : Die) (f : SpokeLink → SpokeLink) : (s.modDie d f).recorder = s.recorder := by
  cases d <;> rfl

@[simp] theorem dieLink_put (d : Die) (k : Nat) (v : Int) : (s.put k v).dieLink d = s.dieLink d := by cases d <;> rfl
@[simp] theorem dieLink_notice (d : Die) (i c v : Nat) : (s.notice i c v).dieLink d = s.dieLink d := by cases d <;> rfl
@[simp] theorem dieLink_count (d : Die) (k : Nat) : (s.count k).dieLink d = s.dieLink d := by
  cases d
  · have h := congrArg State.linkA (count_rest s k)
    exact h
  · have h := congrArg State.linkB (count_rest s k)
    exact h

/-! ### Writes of several objects -/

theorem puts_rest (l : List (Nat × Int)) : { s.puts l with obj := s.obj } = s := by
  induction l generalizing s with
  | nil => rfl
  | cons p t ih => exact congrArg (fun u => { u with obj := s.obj }) (ih (s.put p.1 p.2))

/-! ### Causes and faults (R299, R313) -/

theorem raise_rest (sp n : Nat) : { s.raise sp n with spokes := s.spokes } = s := rfl

theorem trigger_rest (n : Nat) : { s.trigger n with pannier := s.pannier } = s := by
  unfold State.trigger
  split <;> rfl

theorem setCauses_rest (sp w : Nat) :
    { s.setCauses sp w with obj := s.obj, spokes := s.spokes, pannier := s.pannier } = s := by
  unfold State.setCauses
  simp only
  split
  · rfl
  · split
    · unfold State.trigger
      split <;> rfl
    · rfl

theorem setCause_rest (sp b : Nat) (on : Bool) :
    { s.setCause sp b on with obj := s.obj, spokes := s.spokes, pannier := s.pannier } = s := setCauses_rest s sp _

/-- A walk whose every step keeps a part of the state keeps it. -/
theorem each_rest {α : Type} (l : List α) (f : State → α → State) (back : State → State → State)
    (hb : ∀ u v w, back (back u v) w = back u w) (hs : ∀ u, back u u = u)
    (h : ∀ t a, back (f t a) t = t) : back (s.each l f) s = s := by
  have key : ∀ t, back t s = s → back (t.each l f) s = s := by
    induction l with
    | nil => exact fun t ht => ht
    | cons a l ih =>
      intro t ht
      refine ih (f t a) ?_
      have := congrArg (fun u => back u s) (h t a)
      simpa [hb, ht] using this
  exact key s (hs s)

theorem deviceFault_rest (c : Nat) :
    { s.deviceFault c with obj := s.obj, spokes := s.spokes, pannier := s.pannier, recorder := s.recorder } = s := by
  unfold State.deviceFault
  simp only
  have h := each_rest ((s.put k1DDeviceFaultCauses (setBit (s.getN k1DDeviceFaultCauses) c true)).notice byDevice 0x0A20 c)
    (faultSpokes ((s.put k1DDeviceFaultCauses (setBit (s.getN k1DDeviceFaultCauses) c true)).notice byDevice 0x0A20 c) c)
    (fun t sp => t.setCause sp cDevice true)
    (fun u v => { u with obj := v.obj, spokes := v.spokes, pannier := v.pannier })
    (fun _ _ _ => rfl) (fun _ => rfl) (fun t sp => setCause_rest t sp cDevice true)
  exact congrArg (fun u => { u with obj := s.obj, spokes := s.spokes, pannier := s.pannier, recorder := s.recorder }) h

/-! ### Switch channels (R276-R297) -/

theorem startProfile_rest (n at_ : Nat) : { s.startProfile n at_ with switches := s.switches } = s := rfl

theorem operation_rest (n : Nat) :
    { s.operation n with obj := s.obj, recorder := s.recorder, switches := s.switches } = s := by
  unfold State.operation
  simp only
  split
  · exact congrArg (fun u => { u with obj := s.obj, recorder := s.recorder, switches := s.switches }) (count_rest s _)
  · exact congrArg (fun u => { u with obj := s.obj, recorder := s.recorder, switches := s.switches }) (count_rest s _)

theorem commandAt_rest (n c f : Nat) :
    { s.commandAt n c f with obj := s.obj, recorder := s.recorder, switches := s.switches } = s := by
  unfold State.commandAt
  simp only
  repeat' split
  all_goals first
    | rfl
    | exact congrArg (fun u => { u with obj := s.obj, recorder := s.recorder, switches := s.switches }) (operation_rest _ n)

theorem command_rest (n c : Nat) :
    { s.command n c with obj := s.obj, recorder := s.recorder, switches := s.switches } = s := commandAt_rest s n c s.cc

end Sys2Proof.Machine
end

