-- ==== Sys2Proof/Tests/Slice0.lean ====
section
/-! SUPPORT. Tests of the model: worked examples of the spec, ill-formed commands, and one witness for each clause of each
statement, a state and operands that meet its hypotheses together. -/

section
set_option Elab.async false
open Sys2Proof Sys2Proof.Machine

namespace Sys2Proof.Tests

/-! ### Small states -/

/-- The state after reset with some objects put. -/
def w0 (l : List (Nat × Int)) : State := State.reset.puts l

/-- A booted device with session 1 logged in under a role. -/
def wr (role : Nat) (l : List (Nat × Int)) : State :=
  ({ State.reset with modes := { booted := true } } : State).puts ([(k04SessionState 16, 2), (k04SessionRole 16, (role : Int))] ++ l)

/-- The same under the Metrology role with the seal open. -/
def wm (l : List (Nat × Int)) : State := wr 4 ((k0DSealState, 1) :: l)

/-- A fill descriptor of one word with PACE 15 at the base of the descriptor region, and the regions it needs. -/
def dmaState : State :=
  ((w0 []).setWord ((w0 []).regionBase rgDescriptors) (2 ^ 44 + 2 ^ 43 + 2 ^ 17 + 15)).setWord
    ((w0 []).regionBase rgDescriptors + 2) ((w0 []).regionBase rgHostArea)

/-- A spoke at the point of closing: nothing is missing. -/
def gateReady (l : List (Nat × Int)) : State :=
  (w0 ([(k19GateState 0, 1), (k18PilotCondition 0, 1), (k1CLockState 2, 1), (k1BGrantedCurrent 16, 16000), (k1DSafetyState 16, 0),
    (k1DCauses 16, 0), (k18PilotState 0, 2), (k18DiodeStatus 0, 1), (k08SensorType 4, 3), (k18WeldSenseState 0, 0), (k1CWeldCheck 0, 0)] ++ l)).modGate 0
    fun g => { g with armed := true, lastReq := true }

/-- A test winding that has run: each stage showed one sample. -/
def twState (e : Rat) : State :=
  (w0 [(k1DTestExpected 16, 2000), (k1DTestTolerance 16, 20), (k02CadenceCount, 121)]).modGate 0
    fun g => { g with stage := .running 0, samples := [(40, e), (80, -e), (120, 0)] }

/-- A motor channel of spoke 0 that asks for an off-pulse, and the frame that commands it. -/
def pulseState : State :=
  ({ w0 [(k02CadenceCount, 6000)] with linkA := { edgeFresh := true, held := [2 ^ 12] } } : State).modSwitch 3
    fun w => { w with pulseReq := true }

/-- Spoke 0 charges on feeder 0. -/
def guardState : State := w0 [(k12State 0, 1), (k12Spoke 0, 0), (k1DSafetyState 16, 0), (k1DCauses 16, 0), (k19GateState 0, 2),
  (k08SensorType 0, 1), (k08SensorType 1, 1), (k08SensorType 2, 1)]


/-- The loader has not run yet. -/
def bootIn : BootIn := ⟨true, 32, 0, 0, false, 0, true, 900⟩


/-- An upstream frame with a header. -/
def upFrame (h : Nat × Nat) : UpFrame := ⟨0, h.1, h.2, [], [], [], [], [], [], [], [], [], 0, 0⟩

/-- A power-fail decision stands and the second vault slot holds a record. -/
def pfState (r : PfRecord) (used : List Nat) : State :=
  { w0 [] with pf := { active := true, slots := [{}, VaultSlot.filled .trt24 r], usedSlots := used } }

theorem filled_valid (v : Variant) (r : PfRecord) : (VaultSlot.filled v r).valid v = some r := by
  simp only [VaultSlot.valid, VaultSlot.filled, Option.filter_some]
  generalize r.crcOf v = c
  simp

theorem pfState_record (r : PfRecord) (used : List Nat) : (pfState r used).vaultRecord = some r := by
  have h0 : (pfState r used).vaultSlot 0 = none := rfl
  have h1 : (pfState r used).vaultSlot 1 = some r := filled_valid .trt24 r
  simp [State.vaultRecord, State.newestSlot, h0, h1]

/-- Wall time is valid and a tariff image that closes a period on the first day of each month is active. -/
def monthly : State :=
  { w0 [(k05TimeValid, 1), (k05WallTime, 10 ^ 13)] with billing := { active := [0, 0, 0, 0, 0, 2 ^ 44 + 2 ^ 39], pendingImage := [0] } }

/-- Spoke 0 in a link state with a protocol and an open connection. -/
def vs (link proto : Nat) (l : List (Nat × Int)) (f : VLink → VLink) : State :=
  (w0 ([(k1ALinkState 0, (link : Int)), (k1AProtocol 0, (proto : Int))] ++ l)).modVLink 0 fun v => f { v with tcp := true }

/-- A vault with its root and one key slot filled. -/
def keyed (k : Nat) (s : State) : State :=
  let b : Blob :=
    { domain := slotDomain k, kind := k, gen := 0, groot := 0, nonce := 0, len := 32, key := 0, under := some 7 }
  { s.put (k28SlotState k) 1 with vault := { root := some 7, slots := (List.replicate 12 none).set (k - 16) (some b) } }

/-- A hub that supervises peer 3, at a tick that is a multiple of 80. -/
def hub (l : List (Nat × Int)) : State := w0 ([(k1EEnable, 1), (k1EPeerMask, 8), (k02CadenceCount, 10 ^ 6)] ++ l)

/-- A message of peer 3 with sequence number 1 and no demand. -/
def tandemMsg : List Byte := tandemMessage 0 ([3, 0, 0, 1, 0, 0, 0, 1] ++ List.replicate 20 0)

/-- Aerial 3 at its ping phase. -/
def pingState (l : List (Nat × Int)) : State := w0 ([(k02CadenceCount, 600), (k21Baseline 19, 1000), (k21Threshold 19, 50)] ++ l)

/-- A field is present and emulation is enabled. -/
def emuState (app : Nat) (l : List (Nat × Int)) : State :=
  { w0 ((k21EmulationEnable, 1) :: l) with emulation := { field := true, app := app } }

/-- A tag whose shadow slot holds a record of zeros with its CRC, and the marker that commits it. -/
def markerState : State :=
  { w0 [] with tag := tagSet { picc := .active } (slotPage 0 + 189) (toBytes (bytesBE 4 2065997298)) }
def markerData : List Byte := toBytes [0, 0, 0xA5, crc8 [0, 0, 0xA5]]

/-- The CRC register over a run of zeros, 63 bytes at a time. -/
theorem zeros_step (n a b : Nat) (h : (List.replicate 63 0).foldl crc32Byte a = b) :
    (List.replicate (n + 63) 0).foldl crc32Byte a = (List.replicate n 0).foldl crc32Byte b := by
  rw [Nat.add_comm, ← List.replicate_append_replicate, List.foldl_append, h]

theorem zeros_crc : crc32 (List.replicate 756 0) = 2065997298 := by
  have h : (List.replicate 756 0).foldl crc32Byte 0xFFFFFFFF = 2228969997 :=
    (zeros_step 693 _ 391456027 (by decide +kernel)).trans <|
    (zeros_step 630 _ 4113275612 (by decide +kernel)).trans <|
    (zeros_step 567 _ 3400186493 (by decide +kernel)).trans <|
    (zeros_step 504 _ 1503438350 (by decide +kernel)).trans <|
    (zeros_step 441 _ 3202263897 (by decide +kernel)).trans <|
    (zeros_step 378 _ 2332753250 (by decide +kernel)).trans <|
    (zeros_step 315 _ 1979151359 (by decide +kernel)).trans <|
    (zeros_step 252 _ 3994423072 (by decide +kernel)).trans <|
    (zeros_step 189 _ 3298919474 (by decide +kernel)).trans <|
    (zeros_step 126 _ 3189232758 (by decide +kernel)).trans <|
    (zeros_step 63 _ 2348860241 (by decide +kernel)).trans <|
    (zeros_step 0 _ 2228969997 (by decide +kernel)).trans <|
    rfl
  rw [crc32, h]; decide +kernel

theorem marker_record : tagSlotCrc markerState.tag 0 = true := by
  have h : tagBytes markerState.tag (slotPage 0) 189 = List.replicate 756 0 := by decide +kernel
  rw [tagSlotCrc, h, zeros_crc]; decide +kernel

theorem marker_accepted : markerAccepted markerState.tag markerData = true := by
  have hs : shadowSlot markerState.tag = 0 := by decide +kernel
  have hc : currentSeq markerState.tag = none := by decide +kernel
  have hm : markerSeq (natBytes markerData) = some 0 := by decide +kernel
  have hq : tagSlotSeq markerState.tag 0 = 0 := by decide +kernel
  rw [markerAccepted, hm]
  simp [hs, hc, hq, marker_record]

/-- A booted device whose session 1 belongs to a UDP endpoint, and its next request. -/
def ks (l : List (Nat × Int)) (subs : List (Option Subscription)) : State :=
  { wr 2 l with kod := { sessions := [{ ep := some (.udp 1 1) }], subs := subs } }
def kreq (service : Nat) (body : List Nat) : KodReq :=
  ⟨.udp 1 1, false, 1, 1, 1, some (kodTag 0 service (pduBytes 0 true 1 1 body))⟩

theorem kreq_accepted (s : State) (service : Nat) (body : List Nat) (h : s.kodUp = true ∧ s.sessionState 1 = 2 ∧
    (s.session 1).ep = some (.udp 1 1) ∧ (s.session 1).busy = false ∧ (s.session 1).last = 0 ∧ (s.session 1).key = 0 ∧
    (s.session 1).under = s.vault.bootKey) :
    accepts s (kreq service body) service body :=
  And.intro h.1 ⟨rfl, rfl, (by decide : (1 : Nat) ≠ 0), h.2.1, h.2.2.1, by simp [kreq, h.2.2.2.2.2.1], h.2.2.2.1, by simp [kreq, h.2.2.2.2.1], h.2.2.2.2.2.2⟩

/-- A booted device without a session. -/
def up (l : List (Nat × Int)) (k : Kod) : State := { w0 l with modes := { booted := true }, kod := k }
def loginReq (sid : Nat) : KodReq := ⟨.udp 1 1, false, 1, sid, 1, none⟩

/-- Session 1 stands pending. -/
def pend (l : List (Nat × Int)) : State := up ((k04SessionState 16, 1) :: l) { sessions := [{ ep := some (.udp 1 1) }] }

/-- A Chainline command frame REGISTER to node 77 before its CRC and MAC are set, one with them, and a node that takes it. -/
def chlFrame0 : ChlFrame := ⟨1, 0, 2, 0, 77, 0, 5, 0, 0, [2 ^ 40, 100], 0, 0, 0⟩
def chlKey : Nat := Config.hmacSha256 0 (lblChl ++ bytesBE 5 77)
def chlGood : ChlFrame := { chlFrame0 with crc := chlCrc chlFrame0, mac := chlMac chlKey chlFrame0 }
def chlOfType (t : Nat) : ChlFrame := { chlFrame0 with type := t, crc := chlCrc { chlFrame0 with type := t } }
def chlState : State := keyed 24 (w0 [(k20Enable, 1), (k20NodeAddress, 77), (k20MCState, 2)])

theorem chlKey_derived : chlState.chainlineKey = some chlKey := by
  have h : chlState.slotKey 24 = some 0 := by decide +kernel
  have n : chlState.nodeAddr = 77 := by decide +kernel
  simp [State.chainlineKey, h, n, chlKey]
theorem chlMac_good : chlMac chlKey chlGood = chlGood.mac := by
  simp only [chlGood, chlMac, chlMacBytes, chlHeader]

/-! ### Worked examples of the spec -/

/-- R499: the CRC-32 of the nine ASCII bytes "123456789". -/
theorem test_crc32 : crc32 [0x31, 0x32, 0x33, 0x34, 0x35, 0x36, 0x37, 0x38, 0x39] = 0xCBF43926 := by decide +kernel

/-- R205: 16 A and 63 A and the currents they decode to; the reduced grant of the pedal example. -/
theorem test_duty : encodeDuty 16000 = some 533 ∧ decodedCurrent 533 = 15990 ∧ encodeDuty 63000 = some 1784 ∧
    decodedCurrent 1784 = 63000 ∧ encodeDuty 10000 = some 333 ∧ encodeDuty 5999 = none := by decide +kernel

/-- The six words of the pedal example of spoke 5. -/
theorem test_pedal_words :
    decodePedal 5 0x54000020 = some (.pedTake 5 0 false 0x20) ∧ decodePedal 5 0x58800008 = some (.pedIn 5 1 8) ∧
    decodePedal 5 0x2D100000 = some (.pedEnc 5 2 1) ∧ decodePedal 5 0x42A0003C = some (.pedBr 5 5 2 0 60) ∧
    decodePedal 5 0x5C200001 = some (.pedOut 5 2 1) ∧ decodePedal 5 0x50000000 = some (.pedYield 5) := by decide +kernel

/-- R229: a word with a reserved bit set, and an operation code without an instruction. -/
theorem test_pedal_reserved : decodePedal 0 0x00000001 = none ∧ decodePedal 0 0xC0000000 = none := by decide +kernel

/-- The derailleur example: the rounds of cycles 100-103 on port 2. -/
def round (p : Port) (reqs : List Nat) : Port := holdRound p reqs
theorem test_derailleur :
    (let p := round { last := 33 } [4, 5, 25]
     let q := round p [4, 5, 25, 33]
     let r := round q [4, 25, 33]
     let u := round r [4, 33]
     [p.grant, q.grant, r.grant, u.grant] = [some 4, some 5, some 25, some 33] ∧
      [u.ages.getD 4 0, u.ages.getD 5 0, u.ages.getD 25 0, u.ages.getD 33 0] = [3, 0, 0, 0]) := by decide +kernel

/-- R189: the session of the example costs 5,420,000 money units. -/
theorem test_cost :
    (((w0 [(key 0x0B 8 0, 8400000), (key 0x0B 10 0, 2150000), (k12Spoke 0, 0)]).modSlot 0 fun x =>
      { x with fee := 500000, tprice := 10000, prices := [(3000, 0), (2000, 0)],
               startRegs := List.replicate 18 (0, 0) }).priceSlot 0 (197 * 480000)).get (k12Cost 0) = 5420000 := by decide +kernel

/-- R109: the delta across a wrap. -/
theorem test_wrap_delta :
    (w0 [(k0BValue 120, 39344), (k0BWrapCount 120, 1)]).since109 120 (281474976700000, 0) = 50000 := by decide +kernel

/-- R332: the last chip of the last position ends at the crossing, the first opens the window. -/
theorem test_chips : chipStart 7 3 + 37500 = 0 ∧ chipStart 0 0 = -1200000 ∧ chipStart 2 1 = -825000 := by decide

/-- R334: the largest metric decides when it is at least the threshold and twice the next. -/
theorem test_decision :
    decidedPosition 64 [10, 20, 100, 50] = some 2 ∧ decidedPosition 64 [10, 20, 100, 51] = none ∧
      decidedPosition 64 [10, 63, 0, 0] = none := by decide

/-- R336: the impulse response is the generators' bits 1111001 and 1011011, and 37 j mod n meets every half-cycle. -/
theorem test_code :
    (List.range 7).map (codedPair 96 (2 ^ 95)) =
      [(true, true), (true, false), (true, true), (true, true), (false, false), (false, true), (true, true)] := by decide +kernel

theorem test_interleave :
    (96 :: (List.range 8).map fun l => 48 * (l + 1) + 32).all (fun n =>
      (List.range n).all fun h => (List.range n).any fun j => 37 * j % n = h) = true := by decide +kernel

/-! ### Commands -/

/-- A step takes the command at the front of the queue. -/
theorem test_step_front :
    step { w0 [] with pending := [.sealOpening, .reqa] } = exec .sealOpening { w0 [] with pending := [.reqa] } := rfl

/-- An empty queue idles. -/
theorem test_step_idle : step (w0 []) = .next (w0 []) := rfl

/-! ### Ill-formed commands -/

abbrev refused (i : Instr) : Prop := i.wellFormed = false

theorem test_illformed_1 :
    refused (.overrun 9 []) ∧
    refused (.derailleurRound 0 ⟨[], [], false, 0, none, none, []⟩) ∧
    refused (.derailleurRound 4 ⟨[], [], false, 0, none, none, []⟩) ∧
    refused (.watchdogBite 0 ⟨[], [], false, 0, none, none, []⟩) ∧
    refused (.watchdogBite 4 ⟨[], [], false, 0, none, none, []⟩) ∧
    refused (.manualTrigger 33 0) ∧
    refused (.release 33 0) ∧
    refused (.dmaStart 33 0) ∧
    refused (.dmaStart 0 16) ∧
    refused (.dmaAbort 33 0) ∧
    refused (.dmaAbort 0 16) ∧
    refused (.descriptorComplete 16) ∧
    refused (.queueResume 16 0 false) ∧
    refused (.descriptorWindowData 33 none) ∧
    refused (.hostAreaData 33) ∧
    refused (.clearCount 33 0 0) ∧
    refused (.clearCount 0 16777216 0) ∧
    refused (.writeSetting 33 0 0 0) ∧
    refused (.writeSetting 0 16777216 0 0) ∧
    refused (.canFdFrame 0 ⟨true, true, true, 0, []⟩) ∧
    refused (.canFdFrame 3 ⟨true, true, true, 0, []⟩) ∧
    refused (.reassemblyTimeout 0 0) ∧
    refused (.reassemblyTimeout 3 0) ∧
    refused (.readRun ⟨.udp 1 1, false, 1, 1, 1, none⟩ 16777216 0) ∧
    refused (.writeRun ⟨.udp 1 1, false, 1, 1, 1, none⟩ 16777216 0 []) ∧
    refused (.lockoutEnd 6) ∧
    refused (.pendingLoginExpiry 33) ∧
    refused (.idleTimeout 33) ∧
    refused (.close 33 1 0) ∧
    refused (.close 0 0 0) := by decide +kernel

theorem test_illformed_2 :
    refused (.close 0 33 0) ∧
    refused (.controllerChange 0) ∧
    refused (.controllerChange 4) ∧
    refused (.kodEnable 33 1 0) ∧
    refused (.kodEnable 0 0 0) ∧
    refused (.kodEnable 0 3 0) ∧
    refused (.bulkOpen 33 0) ∧
    refused (.bulkOpen 0 6) ∧
    refused (.bulkData 33 0 0) ∧
    refused (.bulkData 0 6 0) ∧
    refused (.bulkOffset 33 0 0) ∧
    refused (.bulkOffset 0 6 0) ∧
    refused (.bulkFinish 33 0) ∧
    refused (.bulkFinish 0 6) ∧
    refused (.bulkCommit 33 0) ∧
    refused (.bulkCommit 0 6) ∧
    refused (.bulkAbort 33 0) ∧
    refused (.bulkAbort 0 6) ∧
    refused (.stagingFlush 6) ∧
    refused (.sensorType 33 0 0) ∧
    refused (.sensorType 0 152 0) ∧
    refused (.spokeGroup 33 0 0) ∧
    refused (.spokeGroup 0 24 0) ∧
    refused (.groupEnable 33 0 0) ∧
    refused (.groupEnable 0 8 0) ∧
    refused (.referenceGroup 33 0) ∧
    refused (.calibrationWrite 33 0 0 0) ∧
    refused (.calibrationWrite 0 16777216 0 0) ∧
    refused (.missingCrossing 8) ∧
    refused (.snapshotRequest 33 0) := by decide +kernel

theorem test_illformed_3 :
    refused (.pulseOutputChange 33 0 0 0) ∧
    refused (.pulseOutputChange 0 4 0 0) ∧
    refused (.pulseOutputChange 0 0 8 0) ∧
    refused (.jitterFreeEnd 4) ∧
    refused (.clearRegisters 33 0) ∧
    refused (.slew 33 0) ∧
    refused (.step 33 0) ∧
    refused (.closeNow 33 0) ∧
    refused (.authoriseSpoke 33 0) ∧
    refused (.stop 33 0 0) ∧
    refused (.stop 0 48 0) ∧
    refused (.collect 33 0 0) ∧
    refused (.collect 0 48 0) ∧
    refused (.tokenEntry 33 0) ∧
    refused (.pilotPeriodStart 24) ∧
    refused (.pedNop 24) ∧
    refused (.pedLdi 24 0 0) ∧
    refused (.pedLdi 0 8 0) ∧
    refused (.pedLdi 0 0 (-4194305)) ∧
    refused (.pedLdi 0 0 4194304) ∧
    refused (.pedLdu 24 0 0) ∧
    refused (.pedLdu 0 8 0) ∧
    refused (.pedLdu 0 0 1048576) ∧
    refused (.pedMov 24 0 0) ∧
    refused (.pedMov 0 8 0) ∧
    refused (.pedMov 0 0 8) ∧
    refused (.pedAdd 24 0 0 0) ∧
    refused (.pedAdd 0 8 0 0) ∧
    refused (.pedAdd 0 0 8 0) ∧
    refused (.pedAdd 0 0 0 8) := by decide +kernel

theorem test_illformed_4 :
    refused (.pedSub 24 0 0 0) ∧
    refused (.pedSub 0 8 0 0) ∧
    refused (.pedSub 0 0 8 0) ∧
    refused (.pedSub 0 0 0 8) ∧
    refused (.pedAddi 24 0 0 0) ∧
    refused (.pedAddi 0 8 0 0) ∧
    refused (.pedAddi 0 0 8 0) ∧
    refused (.pedAddi 0 0 0 (-65537)) ∧
    refused (.pedAddi 0 0 0 65536) ∧
    refused (.pedAnd 24 0 0 0) ∧
    refused (.pedAnd 0 8 0 0) ∧
    refused (.pedAnd 0 0 8 0) ∧
    refused (.pedAnd 0 0 0 8) ∧
    refused (.pedOr 24 0 0 0) ∧
    refused (.pedOr 0 8 0 0) ∧
    refused (.pedOr 0 0 8 0) ∧
    refused (.pedOr 0 0 0 8) ∧
    refused (.pedMin 24 0 0 0) ∧
    refused (.pedMin 0 8 0 0) ∧
    refused (.pedMin 0 0 8 0) ∧
    refused (.pedMin 0 0 0 8) ∧
    refused (.pedMax 24 0 0 0) ∧
    refused (.pedMax 0 8 0 0) ∧
    refused (.pedMax 0 0 8 0) ∧
    refused (.pedMax 0 0 0 8) ∧
    refused (.pedEnc 24 0 0) ∧
    refused (.pedEnc 0 8 0) ∧
    refused (.pedEnc 0 0 8) ∧
    refused (.pedBr 24 0 0 0 0) ∧
    refused (.pedBr 0 8 0 0 0) := by decide +kernel

theorem test_illformed_5 :
    refused (.pedBr 0 1 8 0 0) ∧
    refused (.pedBr 0 1 0 8 0) ∧
    refused (.pedBr 0 0 1 0 0) ∧
    refused (.pedBr 0 5 0 1 0) ∧
    refused (.pedBr 0 0 0 0 256) ∧
    refused (.pedBf 24 0 0) ∧
    refused (.pedBf 0 65536 0) ∧
    refused (.pedBf 0 0 256) ∧
    refused (.pedWait 24 false 0) ∧
    refused (.pedWait 0 false 65536) ∧
    refused (.pedYield 24) ∧
    refused (.pedTake 24 0 false 0) ∧
    refused (.pedTake 0 8 false 0) ∧
    refused (.pedTake 0 0 false 65536) ∧
    refused (.pedIn 24 0 0) ∧
    refused (.pedIn 0 8 0) ∧
    refused (.pedIn 0 0 18) ∧
    refused (.pedOut 24 0 0) ∧
    refused (.pedOut 0 8 0) ∧
    refused (.pedOut 0 0 8) ∧
    refused (.pedOuti 24 0 0) ∧
    refused (.pedOuti 0 5 0) ∧
    refused (.pedOuti 0 0 6) ∧
    refused (.pedOuti 0 0 8) ∧
    refused (.pedTset 24 0 0) ∧
    refused (.pedTset 0 4 0) ∧
    refused (.pedTset 0 0 8) ∧
    refused (.pedTseti 24 0 0) ∧
    refused (.pedTseti 0 4 0) ∧
    refused (.pedTseti 0 0 1048576) := by decide +kernel

theorem test_illformed_6 :
    refused (.pedNote 24 0 0) ∧
    refused (.pedNote 0 8 0) ∧
    refused (.pedNote 0 0 128) ∧
    refused (.pedHalt 24) ∧
    refused (.timerExpiry 24 0) ∧
    refused (.timerExpiry 0 4) ∧
    refused (.programSwitch 24) ∧
    refused (.pedalRestart 33 0 0) ∧
    refused (.pedalRestart 0 24 0) ∧
    refused (.broadcast 33 0) ∧
    refused (.offerLapse 24) ∧
    refused (.softGraceEnd 24) ∧
    refused (.seccDiscovery 24) ∧
    refused (.supportedAppProtocol 24 0) ∧
    refused (.cmSlacMatchReq 24 0 0) ∧
    refused (.cmValidateReq 24) ∧
    refused (.matchTimeout 24) ∧
    refused (.sessionSetup 24 0) ∧
    refused (.serviceDiscovery 24) ∧
    refused (.serviceDetail 24 0) ∧
    refused (.paymentServiceSelection 24 false) ∧
    refused (.paymentDetails 24 0 []) ∧
    refused (.authorizationSetup 24) ∧
    refused (.authorization 24 none) ∧
    refused (.serviceSelection 24 false) ∧
    refused (.chargeParameterDiscovery 24 ⟨.acThreePhaseCore, []⟩) ∧
    refused (.acChargeParameterDiscovery 24 [] 0) ∧
    refused (.scheduleExchange ⟨24, true⟩) ∧
    refused (.powerDelivery 24 .start) ∧
    refused (.powerDeliveryTimeout 24) := by decide +kernel

theorem test_illformed_7 :
    refused (.chargingStatus 24) ∧
    refused (.acChargeLoop 24 [] 0) ∧
    refused (.meteringReceipt 24) ∧
    refused (.meteringConfirmation 24) ∧
    refused (.sessionStop 24) ∧
    refused (.unsupportedMessage 24) ∧
    refused (.abnormalLoss 24 false) ∧
    refused (.orderlyStopTimeout 24) ∧
    refused (.tlsHandshake 24 ⟨2, [], [], [], false⟩) ∧
    refused (.tlsFallbackTimeout 24) ∧
    refused (.contractDecision 33 0 0) ∧
    refused (.contractDecision 0 24 0) ∧
    refused (.contractDecisionTimeout 24) ∧
    refused (.guardStage1 9 0) ∧
    refused (.guardStage1 0 3) ∧
    refused (.guardStage2 9 0) ∧
    refused (.guardStage2 0 3) ∧
    refused (.guardStage3 9 0) ∧
    refused (.guardStage3 0 3) ∧
    refused (.guardRecovery 9 0) ∧
    refused (.guardRecovery 0 3) ∧
    refused (.capActivation 47) ∧
    refused (.capActivation 56) ∧
    refused (.capEnd 47) ∧
    refused (.capEnd 56) ∧
    refused (.underVoltage 4) ∧
    refused (.channelRestart 104) ∧
    refused (.thermalLatch 104) ∧
    refused (.clearLatch 33 0 0) ∧
    refused (.clearLatch 0 104 0) := by decide +kernel

theorem test_illformed_8 :
    refused (.offPulse 104) ∧
    refused (.strokeEnd 24) ∧
    refused (.brakeEnd 24) ∧
    refused (.lkOvertimeStop 24) ∧
    refused (.weldLockout 24) ∧
    refused (.clearWeldLockout 33 0 0) ∧
    refused (.clearWeldLockout 0 24 0) ∧
    refused (.hxCommand 33 0 0) ∧
    refused (.hxCommand 0 8 0) ∧
    refused (.functionDemand 4) ∧
    refused (.functionClear 4) ∧
    refused (.functionReset 33 0 0) ∧
    refused (.functionReset 0 4 0) ∧
    refused (.discrepancy 4) ∧
    refused (.residualTrip 24 0) ∧
    refused (.residualTrip 0 5) ∧
    refused (.crossCheckFailure 24) ∧
    refused (.testWinding 24) ∧
    refused (.testWindingResult 24) ∧
    refused (.earthFault 8) ∧
    refused (.earthClear 8) ∧
    refused (.clearLockout 33 0 0) ∧
    refused (.clearLockout 0 24 0) ∧
    refused (.clearDeviceFault 33 0) ∧
    refused (.tandemCopy 2 []) ∧
    refused (.missingTwin 16 0) ∧
    refused (.tandemSilence 16) ∧
    refused (.ping 24 0 false) ∧
    refused (.polling 24 [] false) ∧
    refused (.settleEnd 24) := by decide +kernel

theorem test_illformed_9 :
    refused (.decision 33 0 0) ∧
    refused (.decision 0 24 0) ∧
    refused (.decisionTimeout 24) ∧
    refused (.apduCommand 33 0 []) ∧
    refused (.apduCommand 0 24 []) ∧
    refused (.waitingTimeCap 24) ∧
    refused (.keyPress 16) ∧
    refused (.keyRelease 16) ∧
    refused (.anticollision 0 0 0) ∧
    refused (.anticollision 3 0 0) ∧
    refused (.tagRead 516) ∧
    refused (.tagWrite 516 [] false) ∧
    refused (.commitMarkerWrite 516 [] false) ∧
    refused (.tamper 256) ∧
    refused (.bump 33 0 0) ∧
    refused (.bump 0 8 0) ∧
    refused (.keyInstall 33 16 0 0 0 0) ∧
    refused (.keyInstall 0 15 0 0 0 0) ∧
    refused (.keyInstall 0 28 0 0 0 0) ∧
    refused (.replaceRoot 33 0) ∧
    refused (.ownerKey 33 0 0) ∧
    refused (.histogramDefinition 33 0 0) ∧
    refused (.histogramDefinition 0 16777216 0) ∧
    refused (.freeze 33 0) ∧
    refused (.clearHistogram 33 0 0) ∧
    refused (.clearHistogram 0 1024 0) ∧
    refused (.clearExtreme 33 0 0) ∧
    refused (.clearExtreme 0 512 0) ∧
    refused (.clearRing 33 0) ∧
    refused (.saveNow 33 0) := by decide +kernel

theorem test_illformed_10 :
    refused (.updateRequest 33 0) ∧
    refused (.powerGood 256 none) ∧
    refused (.powerGood 0 (some 128)) ∧
    refused (.powerGood 0 (some (-129))) ∧
    refused (.panelTemperatureRead (some 128)) ∧
    refused (.panelTemperatureRead (some (-129))) ∧
    refused (.clearCrack 33 0 false false) ∧
    refused (.drawData 33 none) ∧
    refused (.powerFailAreaErase 32 false) ∧
    refused (.imageVerification 6) ∧
    refused (.commitEffect 6) ∧
    refused (.confirm 33 0) ∧
    refused (.rejectTrial 33 0) ∧
    refused (.workstand 33 0) ∧
    refused (.restart 33 0) ∧
    refused (.controlCoreWatchdog 4) ∧
    refused (.pllLockLoss 0) ∧
    refused (.pllLockLoss 6) ∧
    refused (.bistPassDue 0) ∧
    refused (.bistPassDue 7) ∧
    refused (.adcTest 24) ∧
    refused (.programFuses 33 0) ∧
    refused (.apduResponse 24 none []) := by decide +kernel

/-! ### Witnesses of the hypotheses of the statements -/

theorem witness_StepRunsFront :
    (∃ s : State, s.pending = []) :=
  ⟨w0 [], by decide +kernel⟩

theorem witness_ResetLeaves :
    (∃ sp : Nat, sp < 24) :=
  ⟨23, by decide +kernel⟩

theorem witness_StepKeepsStores :
    (∃ s : State, ∃ t : State, Memory.wf s ∧ step s = .next t) :=
  ⟨w0 [], w0 [], ⟨by decide +kernel, rfl⟩⟩

theorem witness_WriteRows :
    (∃ s : State, ∃ sid : Nat, ∃ it : WItem, ∃ r : ObjRow, s.loggedIn sid = true ∧ s.object it.addr = some r ∧ s.checkWrite sid it = stOk) ∧
    (∃ s : State, ∃ sid : Nat, ∃ addr : Nat, ∃ ty : Nat, ∃ v : Int, s.writesOpen = true ∧ s.checkWrite sid ⟨addr, ty, v⟩ = stOk ∧ s.checkItem sid (s.session sid).last [⟨addr, ty, v⟩] addr v = stOk ∧ isSetting addr = true ∧ s.logFits [(addr, v)] = true) ∧
    (∃ s : State, ∃ sid : Nat, ∃ addr : Nat, ∃ ty : Nat, ∃ v : Int, s.writesOpen = true ∧ s.checkWrite sid ⟨addr, ty, v⟩ = stOk ∧ s.checkItem sid (s.session sid).last [⟨addr, ty, v⟩] addr v = stOk ∧ isSetting addr = true ∧ s.logFits [(addr, v)] = false) ∧
    (∃ s : State, ∃ sid : Nat, ∃ addr : Nat, s.rowPasses sid addr 0 = true ∧ s.checkItem sid (s.session sid).last [⟨addr, ownType, 0⟩] addr 0 = stOk ∧ isSetting addr = false ∧ addr ≠ k13TokenEntry) :=
  ⟨⟨wr 2 [], 1, ⟨k29SaveNow, ownType, 1⟩, _, ⟨by decide +kernel, rfl, by decide +kernel⟩⟩,
    ⟨wr 2 [], 1, key 0x01 0 3, 3, 20, by decide +kernel⟩,
    ⟨wr 2 [(k30SettingLogUse, 400000)], 1, key 0x01 0 3, 3, 20, by decide +kernel⟩,
    ⟨wr 2 [], 1, key 0x00 0 10, by decide +kernel⟩⟩

theorem witness_TickRow :
    (∃ i : TickIn, ∃ s : State, s.modes.powered = true) ∧
    (∃ i : TickIn, ∃ s : State, s.modes.powered = false) :=
  ⟨⟨⟨[], true, false, [], [], [], false, []⟩, w0 [], by decide +kernel⟩,
    ⟨⟨[], true, false, [], [], [], false, []⟩, { w0 [] with modes := { powered := false } }, by decide +kernel⟩⟩

theorem witness_CadenceRows :
    (∃ s : State, ∃ p : List Nat, s.modes.step ≤ 1 ∧ s.plan.waiting = some p ∧ s.dueNext s.plan.switchTick = true ∧ s.getN k03CaptureLength = s.plan.capture) ∧
    (∃ s : State, ∃ p : List Nat, s.modes.step ≤ 1 ∧ s.plan.waiting = some p ∧ s.dueNext s.plan.switchTick = true ∧ s.getN k03CaptureLength ≠ s.plan.capture) ∧
    (∃ s : State, (1 < s.modes.step ∨ s.plan.waiting = none)) ∧
    (∃ s : State, ∃ e : Nat, ∃ l : Nat, e ≤ 8) ∧
    (∃ s : State, ∃ port : Nat, ∃ r : RoundIn, 1 ≤ port ∧ port ≤ 3 ∧ (s.port port).grant = none) ∧
    (∃ s : State, ∃ port : Nat, ∃ r : RoundIn, ∃ q : Nat, 1 ≤ port ∧ port ≤ 3 ∧ (s.port port).lock = some q ∧ s.wdogLimit ≤ (s.port port).lockCycles) ∧
    (∃ s : State, ∃ port : Nat, ∃ r : RoundIn, ∃ q : Nat, 1 ≤ port ∧ port ≤ 3 ∧ (s.port port).lock = some q ∧ s.wdogLimit ≤ (s.port port).lockCycles ∧ 4 ≤ q ∧ q ≤ 19) :=
  ⟨⟨{ w0 [(k03CaptureLength, 4000)] with plan := { waiting := some [], switchTick := 1, capture := 4000 } }, [], by decide +kernel⟩,
    ⟨{ w0 [(k03CaptureLength, 4000)] with plan := { waiting := some [], switchTick := 1, capture := 8000 } }, [], by decide +kernel⟩,
    ⟨w0 [], by decide +kernel⟩,
    ⟨w0 [], 8, 0, by decide +kernel⟩,
    ⟨w0 [], 3, ⟨[], [], false, 0, none, none, []⟩, by decide +kernel⟩,
    ⟨(w0 [(k02C3Watchdog, 0)]).modPort 1 fun p => { p with lock := some 3 }, 1, ⟨[], [], false, 0, none, none, []⟩, 3, by decide +kernel⟩,
    ⟨(w0 [(k02C3Watchdog, 0)]).modPort 1 fun p => { p with lock := some 19 }, 1, ⟨[], [], false, 0, none, none, []⟩, 19, by decide +kernel⟩⟩

theorem witness_RoundWinnerIsOldest :
    (∃ p : Port, ∃ reqs : List Nat, ∃ w : Nat, roundWinner p reqs = some w) ∧
    (∃ p : Port, ∃ reqs : List Nat, ∃ w : Nat, ∃ r : Nat, roundWinner p reqs = some w ∧ r < p.ages.length) :=
  ⟨⟨{}, [4, 7], 4, by decide +kernel⟩,
    ⟨{}, [4, 7], 4, 39, by decide +kernel⟩⟩

theorem witness_SpokeLinkRows :
    (∃ d : Die, ∃ f : UpFrame, ∃ s : State, s.diePresent d = true ∧ s.headerOk d f = true) ∧
    (∃ d : Die, ∃ f : UpFrame, ∃ crc : Nat, ∃ s : State, s.diePresent d = true ∧ (crc ≠ upCrc d f ∨ s.headerOk d f = false)) ∧
    (∃ d : Die, ∃ f : DownFrame, ∃ s : State, s.diePresent d = true) ∧
    (∃ d : Die, ∃ f : DownFrame, ∃ crc : Nat, ∃ s : State, s.diePresent d = true ∧ crc ≠ downCrc d f) ∧
    (∃ d : Die, ∃ s : State, s.diePresent d = true ∧ s.getN (kLinkState d) ≠ 2 ∧ 3 ≤ (s.dieLink d).upFails) ∧
    (∃ d : Die, ∃ s : State, s.diePresent d = true ∧ s.getN (kLinkState d) ≠ 2 ∧ 3 ≤ (s.dieLink d).downFails ∧ (s.dieLink d).cut = false) ∧
    (∃ d : Die, ∃ s : State, s.diePresent d = true ∧ s.getN (kLinkState d) = 2 ∧ 3 ≤ (s.dieLink d).downFails ∧ (s.dieLink d).cut = false) ∧
    (∃ d : Die, ∃ s : State, s.diePresent d = true ∧ s.getN (kLinkState d) ≠ 1) :=
  ⟨⟨.b, upFrame ((w0 []).upHeader .b), w0 [], by decide +kernel⟩,
    ⟨.a, (⟨0, 0, 0, [], [], [], [], [], [], [], [], [], 0, 0⟩ : UpFrame), upCrc .a (⟨0, 0, 0, [], [], [], [], [], [], [], [], [], 0, 0⟩ : UpFrame) + 1, w0 [], by decide +kernel⟩,
    ⟨.a, (⟨0, [], 0⟩ : DownFrame), w0 [], by decide +kernel⟩,
    ⟨.a, (⟨0, [], 0⟩ : DownFrame), downCrc .a (⟨0, [], 0⟩ : DownFrame) + 1, w0 [], by decide +kernel⟩,
    ⟨.a, (w0 []).modDie .a fun l => { l with upFails := 3 }, by decide +kernel⟩,
    ⟨.b, (w0 []).modDie .b fun l => { l with downFails := 3 }, by decide +kernel⟩,
    ⟨.b, (w0 [(k00LinkBState, 2)]).modDie .b fun l => { l with downFails := 3 }, by decide +kernel⟩,
    ⟨.a, w0 [(k00LinkAState, 2)], by decide +kernel⟩⟩

theorem witness_PannierRows :
    (∃ s : State, s.getN k03CaptureState = 1 ∧ s.reached s.pannier.ringStop = true) ∧
    (∃ s : State, ∃ sid : Nat, s.rowPasses sid k03ManualTrigger 1 = true) ∧
    (∃ s : State, s.getN k03CaptureState = 0 ∧ bit (s.getN k03TriggerMask) 3 = true) ∧
    (∃ s : State, ∃ sid : Nat, s.rowPasses sid k03Release 1 = true) ∧
    (∃ s : State, s.getN k03CaptureState = 2) ∧
    (∃ s : State, ∃ sp : Nat, s.getN k03RotationState = 1 ∧ s.pannier.copied = bankWords ∧ s.pannier.spare = some sp) ∧
    (∃ s : State, ∃ p : Nat, s.pannier.testing = some p ∧ s.getN k03RotationState = 2 ∧ 10 * bankWords ≤ s.pannier.tested ∧ (s.failingRows 1 p []).2 = true) ∧
    (∃ s : State, s.getN k03RotationState = 0 ∧ s.reached s.pannier.dwellEnd = true ∧ s.pannier.spare.isSome = true) :=
  ⟨⟨w0 [(k03CaptureState, 1)], by decide +kernel⟩,
    ⟨wr 2 [], 1, by decide +kernel⟩,
    ⟨w0 [(k03CaptureState, 0), (k03TriggerMask, 8)], by decide +kernel⟩,
    ⟨wr 2 [], 1, by decide +kernel⟩,
    ⟨w0 [(k03CaptureState, 2)], by decide +kernel⟩,
    ⟨{ w0 [(k03RotationState, 1)] with pannier := { copied := bankWords } }, 16, by decide +kernel⟩,
    ⟨{ w0 [(k03RotationState, 2)] with pannier := { testing := some 3, tested := 10 * bankWords } }, 3, by decide +kernel⟩,
    ⟨w0 [(k03RotationState, 0), (k02CadenceCount, 8000)], by decide +kernel⟩⟩

theorem witness_DmaRows :
    (∃ s : State, ∃ sid : Nat, ∃ ch : Nat, ch < 16 ∧ s.rowPasses sid (k03Control (48 + ch)) 1 = true ∧ s.dmaBusy ch = false) ∧
    (∃ s : State, ∃ sid : Nat, ∃ ch : Nat, ch < 16 ∧ s.rowPasses sid (k03Control (48 + ch)) 1 = true ∧ s.dmaBusy ch = true) ∧
    (∃ s : State, ∃ ch : Nat, ∃ a : Nat, a % 4 = 0 ∧ s.regionBase rgDescriptors ≤ a ∧ a < s.regionBase rgDescriptors + s.regionSize rgDescriptors ∧ ((∀ i, i < 4 → s.pannier.poisoned.contains (a + i) = false)) ∧ s.dmaCheck ch ((List.range 4).map fun i => s.word (a + i)) = stOk ∧ dPace ((List.range 4).map fun i => s.word (a + i)) = 15) ∧
    (∃ s : State, ∃ sid : Nat, ∃ ch : Nat, ch < 16 ∧ s.rowPasses sid (k03Control (48 + ch)) 2 = true) ∧
    (∃ s : State, ∃ ch : Nat, s.dmaBusy ch = true ∧ dLock (s.dmaChan ch).desc = false) ∧
    (∃ s : State, ∃ ch : Nat, s.dmaBusy ch = true ∧ dWords (s.dmaChan ch).desc ≤ (s.dmaChan ch).index ∧ dEvt (s.dmaChan ch).desc = true ∧ dLast (s.dmaChan ch).desc = true ∧ (s.dmaChan ch).aborting = false) ∧
    (∃ s : State, ∃ ch : Nat, s.dmaBusy ch = true ∧ dWords (s.dmaChan ch).desc ≤ (s.dmaChan ch).index ∧ dEvt (s.dmaChan ch).desc = false ∧ dLast (s.dmaChan ch).desc = false ∧ (s.dmaChan ch).aborting = false) ∧
    (∃ s : State, ∃ ch : Nat, ∃ fill : Nat, ∃ ended : Bool, ∃ q : Nat, (s.dmaChan ch).queue = some q ∧ s.chanState ch = 2 ∧ (s.put (k03Fill (64 + q)) fill).queueResumes q = true) ∧
    (∃ s : State, ∃ sid : Nat, ∃ x : Nat, s.rowPasses sid k03DescriptorWindowData x = true ∧ s.getN k03DescriptorWindowOffset ≤ 16383) ∧
    (∃ s : State, ∃ x : Nat, x < 2 ^ 48 ∧ s.getN k03DescriptorWindowOffset ≤ 16383) ∧
    (∃ s : State, ∃ sid : Nat, s.checkRead sid k03DescriptorWindowData = stOk ∧ s.getN k03DescriptorWindowOffset ≤ 16383 ∧ s.pannier.poisoned.contains (s.regionBase rgDescriptors + s.getN k03DescriptorWindowOffset) = false) ∧
    (∃ s : State, ∃ sid : Nat, s.checkRead sid k03HostAreaData = stOk ∧ s.getN k03HostAreaOffset ≤ 32767 ∧ s.pannier.poisoned.contains (s.regionBase rgHostArea + s.getN k03HostAreaOffset) = false) :=
  ⟨⟨wr 2 [], 1, 15, by decide +kernel⟩,
    ⟨wr 2 [(k03ChannelState 63, 1)], 1, 15, by decide +kernel⟩,
    ⟨dmaState, 0, dmaState.regionBase rgDescriptors, by decide +kernel⟩,
    ⟨wr 2 [], 1, 12, by decide +kernel⟩,
    ⟨w0 [(k03ChannelState 48, 2)], 0, by decide +kernel⟩,
    ⟨(w0 [(k03ChannelState 48, 1)]).modDma 0 fun c => { c with desc := [2 ^ 43 + 2 ^ 42] }, 0, by decide +kernel⟩,
    ⟨(w0 [(k03ChannelState 48, 1)]).modDma 0 fun c => { c with desc := [0] }, 0, by decide +kernel⟩,
    ⟨(w0 [(k03ChannelState 48, 2)]).modDma 0 fun c => { c with queue := some 2 }, 0, 65535, false, 2, by decide +kernel⟩,
    ⟨wr 2 [], 1, 5, by decide +kernel⟩,
    ⟨w0 [], 5, by decide +kernel⟩,
    ⟨wr 2 [], 1, by decide +kernel⟩,
    ⟨wr 2 [], 1, by decide +kernel⟩⟩

theorem witness_RecorderRows :
    (∃ s : State, ∃ sid : Nat, ∃ i : Nat, ∃ v : Int, 256 ≤ i ∧ i ≤ 1023 ∧ s.rowPasses sid (key 0x29 i 38) v = true ∧ s.checkSource v = stOk) ∧
    (∃ s : State, ∃ sid : Nat, ∃ v : Int, s.rowPasses sid k29Freeze v = true ∧ v ≠ 0 ∧ s.recorder.freezeEnd = none ∧ s.recorder.freezeLast = none) ∧
    (∃ s : State, ∃ e : Nat, s.recorder.freezeEnd = some e ∧ s.reached e = true) ∧
    (∃ s : State, ∃ sid : Nat, ∃ h : Nat, s.rowPasses sid (k29Clear h) 1 = true ∧ ((metrologyHist h = false ∨ s.recorder.freezeEnd = none))) ∧
    (∃ s : State, ∃ sid : Nat, ∃ h : Nat, ∃ m : Nat, m < 34) ∧
    (∃ s : State, ∃ sid : Nat, ∃ x : Nat, s.rowPasses sid (k2AClear x) 1 = true) ∧
    (∃ s : State, ∃ sid : Nat, s.rowPasses sid k2BClearRing 1 = true) ∧
    (∃ s : State, ∃ sid : Nat, s.rowPasses sid k29SaveNow 1 = true) ∧
    (∃ s : State, ∃ slot : Nat, s.recorder.saving = some slot ∧ s.recorder.saveDue = false ∧ s.firmwareUp = true) ∧
    (∃ s : State, ∃ slot : Nat, s.recorder.saving = some slot ∧ s.firmwareUp = true) :=
  ⟨⟨wr 2 [], 1, 256, (k0AIXACRms 0 : Int), by decide +kernel⟩,
    ⟨wr 4 [], 1, 10, by decide +kernel⟩,
    ⟨{ w0 [] with recorder := { freezeEnd := some 0 } }, 0, by decide +kernel⟩,
    ⟨wr 2 [], 1, 256, by decide +kernel⟩,
    ⟨w0 [], 1, 0, 33, by decide +kernel⟩,
    ⟨wr 4 [], 1, 0, by decide +kernel⟩,
    ⟨wr 4 [], 1, by decide +kernel⟩,
    ⟨wr 4 [], 1, by decide +kernel⟩,
    ⟨{ w0 [] with recorder := { saving := some 1 } }, 1, by decide +kernel⟩,
    ⟨{ w0 [] with recorder := { saving := some 0 } }, 0, by decide +kernel⟩⟩

theorem witness_SafetyFunctionRows :
    (∃ s : State, ∃ f : Nat, f < 4 ∧ s.demands f = true ∧ s.fnState f = 0) ∧
    (∃ s : State, ∃ f : Nat, f < 4 ∧ 8 ≤ (s.fn f).clearRun ∧ s.fnState f = 1 ∧ s.getN (k1DRestartMode f) ≠ 1) ∧
    (∃ s : State, ∃ f : Nat, f < 4 ∧ 8 ≤ (s.fn f).clearRun ∧ s.fnState f = 1 ∧ s.getN (k1DRestartMode f) = 1 ∧ (s.fn f).resetOk = false) ∧
    (∃ s : State, ∃ sid : Nat, ∃ f : Nat, s.rowPasses sid (k1DReset f) 1 = true ∧ (s.fn f).a = true ∧ (s.fn f).b = true) ∧
    (∃ s : State, ∃ sid : Nat, ∃ f : Nat, s.rowPasses sid (k1DReset f) 1 = true ∧ ((s.fn f).a && (s.fn f).b) = false) ∧
    (∃ s : State, ∃ f : Nat, f < 4 ∧ s.fnState f ≠ 2 ∧ msTicks (s.getN (k1DDiscrepancyTime f)) < (s.fn f).disagree) ∧
    (∃ s : State, ∃ f : Nat, ∃ sp : Nat, f < 4 ∧ sp < s.spokeCount ∧ bit (s.getN (k1DZone f)) sp = true) :=
  ⟨⟨(w0 [(k1DFunctionState 3, 0)]).modFn 3 fun x => { x with runA := 5, runB := 5 }, 3, by decide +kernel⟩,
    ⟨(w0 [(k1DFunctionState 3, 1)]).modFn 3 fun x => { x with clearRun := 8 }, 3, by decide +kernel⟩,
    ⟨(w0 [(k1DFunctionState 3, 1), (k1DRestartMode 3, 1)]).modFn 3 fun x => { x with clearRun := 8 }, 3, by decide +kernel⟩,
    ⟨(wr 1 []).modFn 0 fun x => { x with a := true, b := true }, 1, 0, by decide +kernel⟩,
    ⟨wr 1 [], 1, 0, by decide +kernel⟩,
    ⟨(w0 [(k1DFunctionState 3, 0)]).modFn 3 fun x => { x with disagree := 20000 }, 3, by decide +kernel⟩,
    ⟨w0 [(k1DZone 0, 1)], 0, 0, by decide +kernel⟩⟩

theorem witness_SupervisionRows :
    (∃ s : State, ∃ sp : Nat, ∃ pt : Nat, sp < s.spokeCount ∧ pt < 5 ∧ s.pointDue sp pt = true ∧ (s.resid sp).tripped.getD pt false = false) ∧
    (∃ s : State, ∃ sp : Nat, ∃ pt : Nat, (s.pointDue sp pt = false ∨ (s.resid sp).tripped.getD pt false = true)) ∧
    (∃ s : State, ∃ sp : Nat, 8 ≤ (s.spoke sp).meter.crossRun) ∧
    (∃ s : State, ∃ sp : Nat, (s.spoke sp).meter.crossRun < 8) ∧
    (∃ s : State, ∃ g : Nat, s.groupOn g = true ∧ (s.group g).earth = false ∧ 8 ≤ (s.group g).earthHigh) ∧
    (∃ s : State, ∃ g : Nat, (s.groupOn g = false ∨ (s.group g).earth = true ∨ (s.group g).earthHigh < 8)) ∧
    (∃ s : State, ∃ g : Nat, (s.group g).earth = true ∧ 8 ≤ (s.group g).earthLow) ∧
    (∃ s : State, ∃ g : Nat, ((s.group g).earth = false ∨ (s.group g).earthLow < 8)) ∧
    (∃ s : State, ∃ sid : Nat, s.rowPasses sid k1DClearDeviceFault 1 = true ∧ s.getN k00LinkAState ≠ 2 ∧ s.getN k00LinkBState ≠ 2) :=
  ⟨⟨(w0 [(k08SensorType 4, 3), (k1DTestExpected 16, 0)]).modResidual 0 fun r => { r with timers := [60000, 60000, 60000, 60000, 60000], acSq := 10 ^ 12, dc := 10 ^ 6 }, 0, 4, by decide +kernel⟩,
    ⟨w0 [], 0, 0, by decide +kernel⟩,
    ⟨(w0 []).modMeter 0 fun m => { m with crossRun := 8 }, 0, by decide +kernel⟩,
    ⟨w0 [], 0, by decide +kernel⟩,
    ⟨(w0 [(k09GroupEnable 7, 1)]).modGroup 7 fun g => { g with earthHigh := 8 }, 7, by decide +kernel⟩,
    ⟨w0 [], 0, by decide +kernel⟩,
    ⟨(w0 []).modGroup 0 fun g => { g with earth := true, earthLow := 8 }, 0, by decide +kernel⟩,
    ⟨w0 [], 0, by decide +kernel⟩,
    ⟨wr 2 [], 1, by decide +kernel⟩⟩

theorem witness_LockoutIsCleared :
    (∃ sp : Nat, sp < 24) ∧
    (∃ s : State, ∃ sid : Nat, ∃ sp : Nat, sp < s.spokeCount ∧ s.rowPasses sid (k1DClearLockout (16 + sp)) 1 = true ∧ (∀ x ∈ (s.resid sp).timers, x = 0)) ∧
    (∃ s : State, ∃ sid : Nat, ∃ sp : Nat, ∃ x : Nat, s.rowPasses sid (k1DClearLockout (16 + sp)) 1 = true ∧ x ∈ (s.resid sp).timers ∧ 0 < x) :=
  ⟨⟨23, by decide +kernel⟩,
    ⟨wr 1 [], 1, 23, by decide +kernel⟩,
    ⟨(wr 1 []).modResidual 23 fun r => { r with timers := [0, 1, 0, 0, 0] }, 1, 23, 1, ⟨by decide +kernel, by decide +kernel, by decide +kernel⟩⟩⟩

theorem witness_GateRows :
    (∃ s : State, ∃ sp : Nat, sp < s.spokeCount ∧ s.gateState sp = 1 ∧ (s.gate sp).armed = true ∧ s.blockers sp = 0 ∧ s.leaseRuns = false ∧ (s.gate sp).stage = .none ∧ (s.gate sp).passed = false) ∧
    (∃ s : State, ∃ sp : Nat, ∃ start : Nat, (s.gate sp).stage = .running start ∧ s.reached start = true ∧ 120 < s.since start ∧ s.twPasses sp start = true) ∧
    (∃ s : State, ∃ sp : Nat, ∃ start : Nat, (s.gate sp).stage = .running start ∧ s.reached start = true ∧ 120 < s.since start ∧ s.twPasses sp start = false) ∧
    (∃ s : State, ∃ sp : Nat, ∃ t0 : Nat, t0 ∈ (s.gate sp).graces ∧ s.gateState sp = 2 ∧ s.dueNext ((t0 + 24000) % ccMod) = true) ∧
    (∃ s : State, s.leaseRuns = true ∧ s.lease.fwUp = false) ∧
    (∃ s : State, s.leaseRuns = true ∧ s.dueNext s.lease.endAt = true) :=
  ⟨⟨gateReady [], 0, by decide +kernel⟩,
    ⟨twState 2000, 0, 0, by decide +kernel⟩,
    ⟨twState 0, 0, 0, by decide +kernel⟩,
    ⟨(w0 [(k19GateState 0, 2), (k02CadenceCount, 23999)]).modGate 0 fun g => { g with softPilot := some 0 }, 0, 0, by decide +kernel⟩,
    ⟨{ w0 [] with lease := { startAt := some 0, fwUp := false } }, by decide +kernel⟩,
    ⟨{ w0 [] with lease := { startAt := some 0, endAt := 1 } }, by decide +kernel⟩⟩

theorem witness_GateDecides :
    (∃ s : State, ∃ sp : Nat, s.gateState sp ≠ 2 ∧ (s.evalGate sp).gateState sp = 2) ∧
    (∃ s : State, ∃ sp : Nat, s.gateState sp = 2 ∧ ((s.twSample sp).readRequest sp).hardOk sp = false) :=
  ⟨⟨((gateReady []).modGate 0 fun g => { g with passed := true }).modPedal 0 (fun p => { p with request := true }), 0, by decide +kernel⟩,
    ⟨w0 [(k19GateState 0, 2)], 0, by decide +kernel⟩⟩

theorem witness_SwitchRows :
    (∃ s : State, ∃ b : Nat, ∃ n : Nat, b < 4 ∧ s.getN (k1CBankState b) = 0 ∧ n ∈ s.switchList ∧ bankOf n = b ∧ n < s.switches.length) ∧
    (∃ s : State, ∃ n : Nat, s.hasSwitch n = true ∧ s.restartDue n = true ∧ 7 ≤ ((s.switch n).restarts.filter fun t => s.since t < 480000).length) ∧
    (∃ s : State, ∃ n : Nat, s.hasSwitch n = true ∧ s.restartDue n = true ∧ ((s.switch n).restarts.filter fun t => s.since t < 480000).length < 7) ∧
    (∃ s : State, ∃ n : Nat, s.hasSwitch n = true ∧ (s.switch n).tlatch = false) ∧
    (∃ s : State, ∃ sid : Nat, ∃ n : Nat, s.rowPasses sid (k1CClearLatch n) 1 = true ∧ ((s.latchCause n = 2 → s.flag (k1CHot n) = false)) ∧ ((s.latchCause n = 3 → s.rbOut n = false))) ∧
    (∃ s : State, ∃ sid : Nat, ∃ n : Nat, s.rowPasses sid (k1CClearLatch n) 1 = true ∧ s.latchCause n = 2 ∧ s.flag (k1CHot n) = true) ∧
    (∃ s : State, ∃ sid : Nat, ∃ n : Nat, s.rowPasses sid (k1CClearLatch n) 1 = true ∧ s.latchCause n = 3 ∧ s.rbOut n = true) ∧
    (∃ s : State, ∃ n : Nat, s.hasSwitch n = true ∧ (s.switch n).pulseReq = true ∧ s.cc % 8000 = pulseOffset n ∧ s.pulseApplied n = true) ∧
    (∃ s : State, ∃ sid : Nat, ∃ h : Nat, ∃ v : Int, s.rowPasses sid (k1CCommand (96 + h)) v = true ∧ (v = 0 ∨ v = 1)) :=
  ⟨⟨w0 [], 3, 50, by decide +kernel⟩,
    ⟨((w0 [(k02CadenceCount, 100)]).modSwitch 96 fun w => { w with uvSeen := true, uvClear := 8, restarts := [1, 2, 3, 4, 5, 6, 7] }).command 96 1, 96, by decide +kernel⟩,
    ⟨((w0 [(k02CadenceCount, 100)]).modSwitch 96 fun w => { w with uvSeen := true, uvClear := 8 }).command 96 1, 96, by decide +kernel⟩,
    ⟨w0 [], 103, by decide +kernel⟩,
    ⟨wr 2 [(k1CLatchCause 3, 1)], 1, 3, by decide +kernel⟩,
    ⟨wr 2 [(k1CLatchCause 3, 2), (k1CHot 3, 1)], 1, 3, by decide +kernel⟩,
    ⟨wr 2 [(k1CLatchCause 3, 3), (k1CReadback 3, 32768)], 1, 3, by decide +kernel⟩,
    ⟨pulseState, 3, by decide +kernel⟩,
    ⟨wr 1 [], 1, 7, 1, by decide +kernel⟩⟩

theorem witness_LockRows :
    (∃ s : State, ∃ sp : Nat, ∃ sink : Nat, ∃ start : Nat, (s.spoke sp).lock.phase = .stroke sink start ∧ s.dueNext ((start + 8 * s.getN (k1CStrokeTime (4 * sp + 2))) % ccMod) = true) ∧
    (∃ s : State, ∃ sp : Nat, ∃ sink : Nat, ∃ start : Nat, (s.spoke sp).lock.phase = .brake sink start ∧ s.reached ((start + 81) % ccMod) = true ∧ 8 ≤ (s.spoke sp).lock.received ∧ (s.spoke sp).lock.good = (s.spoke sp).lock.received) ∧
    (∃ s : State, ∃ sp : Nat, ∃ sink : Nat, ∃ start : Nat, (s.spoke sp).lock.phase = .brake sink start ∧ s.reached ((start + 81) % ccMod) = true ∧ (s.spoke sp).lock.received < 8) ∧
    (∃ s : State, ∃ sp : Nat, sp < s.spokeCount ∧ (s.switch (4 * sp + 2)).ovt = true ∧ s.latchCause (4 * sp + 2) ≠ 6) ∧
    (∃ s : State, ∃ sp : Nat, ∃ w : Nat, (s.spoke sp).gate.weldFrom = some w ∧ sp < s.spokeCount ∧ s.getN (k1CWeldCheck (4 * sp)) = 1 ∧ 801 ≤ s.since w ∧ s.reached w = true) ∧
    (∃ s : State, ∃ sid : Nat, ∃ sp : Nat, s.rowPasses sid (k1CClearWeldLockout (4 * sp)) 1 = true ∧ s.getN (k18WeldSenseState sp) = 0) ∧
    (∃ s : State, ∃ sid : Nat, ∃ sp : Nat, s.getN (k1CWeldCheck (4 * sp)) = 2) :=
  ⟨⟨(w0 [(k02CadenceCount, 80000)]).modLock 0 fun l => { l with phase := .stroke 1 0 }, 0, 1, 0, by decide +kernel⟩,
    ⟨(w0 [(k02CadenceCount, 81)]).modLock 0 fun l => { l with phase := .brake 1 0, received := 8, good := 8 }, 0, 1, 0, by decide +kernel⟩,
    ⟨(w0 [(k02CadenceCount, 81)]).modLock 0 fun l => { l with phase := .brake 1 0, received := 7 }, 0, 1, 0, by decide +kernel⟩,
    ⟨(w0 []).modSwitch 94 fun w => { w with ovt := true }, 23, by decide +kernel⟩,
    ⟨(w0 [(k02CadenceCount, 802), (k1CWeldCheck 0, 1)]), 0, 0, by decide +kernel⟩,
    ⟨wr 2 [(k18WeldSenseState 0, 0)], 1, 0, by decide +kernel⟩,
    ⟨w0 [(k1CWeldCheck 0, 2)], 1, 0, by decide +kernel⟩⟩

theorem witness_PelotonRows :
    (∃ s : State, s.nextTick % 800 = 0 ∧ s.peloton.abandoned = false) ∧
    (∃ s : State, ∃ f : Bool, s.nextTick % 800 = 0 ∧ (f = false ∨ s.peloton.abandoned = true)) ∧
    (∃ s : State, ∃ c : Nat, ∃ ph : Nat, c ≤ 8 ∧ ph < 3 ∧ 40000 ≤ (s.guard c ph).above ∧ (s.guard c ph).one = false) ∧
    (∃ s : State, ∃ c : Nat, ∃ ph : Nat, c ≤ 8 ∧ ph < 3 ∧ 80000 ≤ (s.guard c ph).above ∧ ((s.guard c ph).lastStop = 0 ∨ (s.guard c ph).lastStop + s.lagTicks ≤ (s.guard c ph).above) ∧ s.guardChoice c ph s.peloActive = none) ∧
    (∃ s : State, ∃ c : Nat, ∃ ph : Nat, ∃ sp : Nat, c ≤ 8 ∧ ph < 3 ∧ 80000 ≤ (s.guard c ph).above ∧ ((s.guard c ph).lastStop = 0 ∨ (s.guard c ph).lastStop + s.lagTicks ≤ (s.guard c ph).above) ∧ s.guardChoice c ph s.peloActive = some sp) ∧
    (∃ s : State, ∃ c : Nat, ∃ ph : Nat, ∃ sp : Nat, 8000 ≤ (s.guard c ph).above125 ∧ s.guardChoice c ph (fun x => s.gateState x = 2) = some sp) ∧
    (∃ s : State, ∃ c : Nat, ∃ ph : Nat, ∃ sp : Nat, c ≤ 8 ∧ ph < 3 ∧ (s.guard c ph).fired = true ∧ (s.guard c ph).opened = some sp) ∧
    (∃ s : State, ∃ c : Nat, ∃ ph : Nat, c ≤ 8 ∧ ph < 3 ∧ (s.guard c ph).fired = true ∧ (s.guard c ph).opened = none) ∧
    (∃ s : State, ∃ c : Nat, ∃ ph : Nat, c ≤ 8 ∧ ph < 3 ∧ 480000 ≤ (s.guard c ph).below ∧ ((s.guard c ph).stage ≠ 0 ∨ (s.guard c ph).trim ≠ 0)) ∧
    (∃ s : State, ∃ i : Nat, i ∈ capSlots ∧ s.getN (k1BCapState i) = 1 ∧ (s.chainline.events.find? fun e => e.2 = ChlEvent.capStart i) = none ∧ s.getN (k1BStart i) ≤ s.wallNext) ∧
    (∃ s : State, ∃ i : Nat, i ∈ capSlots ∧ s.getN (k1BCapState i) ≠ 0 ∧ s.capOver i = true) ∧
    (∃ s : State, ∃ e : Nat, s.peloton.reboundEnd = some e ∧ s.dueNext e = true) :=
  ⟨⟨w0 [(k02CadenceCount, 799)], by decide +kernel⟩,
    ⟨w0 [(k02CadenceCount, 799)], false, by decide +kernel⟩,
    ⟨(w0 []).modGuard 8 2 fun g => { g with above := 40000 }, 8, 2, by decide +kernel⟩,
    ⟨(w0 []).modGuard 8 2 fun g => { g with above := 80000 }, 8, 2, by decide +kernel⟩,
    ⟨(guardState).modGuard 0 0 fun g => { g with above := 80000 }, 0, 0, 0, by decide +kernel⟩,
    ⟨(guardState).modGuard 0 0 fun g => { g with above125 := 8000 }, 0, 0, 0, by decide +kernel⟩,
    ⟨(w0 []).modGuard 8 2 fun g => { g with fired := true, opened := some 0 }, 8, 2, 0, by decide +kernel⟩,
    ⟨(w0 []).modGuard 8 2 fun g => { g with fired := true }, 8, 2, by decide +kernel⟩,
    ⟨(w0 []).modGuard 8 2 fun g => { g with below := 480000, stage := 1 }, 8, 2, by decide +kernel⟩,
    ⟨w0 [(k1BCapState 48, 1)], 48, by decide +kernel⟩,
    ⟨w0 [(k1BCapState 55, 2)], 55, by decide +kernel⟩,
    ⟨{ w0 [] with peloton := { reboundEnd := some 1 } }, 1, by decide +kernel⟩⟩

theorem witness_PilotRows :
    (∃ i : Int, i < 6000) ∧
    (∃ i : Int, 6000 ≤ i) ∧
    (∃ s : State, ∃ sp : Nat, sp < s.spokeCount ∧ s.cc % 8 = sp % 8) :=
  ⟨⟨5999, by decide +kernel⟩,
    ⟨6000, by decide +kernel⟩,
    ⟨w0 [(k02CadenceCount, 7)], 23, by decide +kernel⟩⟩

theorem witness_PedalInstructions :
    (∃ s : State, ∃ sp : Nat, pedalReady s sp) ∧
    (∃ s : State, ∃ sp : Nat, ∃ c : Nat, ∃ a : Nat, ∃ b : Nat, ∃ target : Nat, pedalReady s sp ∧ branchTaken (s.pedal sp) c a b = true) ∧
    (∃ s : State, ∃ sp : Nat, ∃ c : Nat, ∃ a : Nat, ∃ b : Nat, ∃ target : Nat, pedalReady s sp ∧ branchTaken (s.pedal sp) c a b = false) ∧
    (∃ s : State, ∃ sp : Nat, ∃ mask : Nat, ∃ target : Nat, pedalReady s sp ∧ Nat.land (s.pedal sp).flags (mask % 65536) ≠ 0) ∧
    (∃ s : State, ∃ sp : Nat, ∃ mask : Nat, ∃ target : Nat, pedalReady s sp ∧ Nat.land (s.pedal sp).flags (mask % 65536) = 0) ∧
    (∃ s : State, ∃ sp : Nat, ∃ st : Bool, ∃ mask : Nat, pedalReady s sp ∧ flagsIn (s.pedal sp).flags mask st ≠ 0) ∧
    (∃ s : State, ∃ sp : Nat, ∃ st : Bool, ∃ mask : Nat, pedalReady s sp ∧ flagsIn (s.pedal sp).flags mask st = 0) :=
  ⟨⟨w0 [(k19RunState 23, 1)], 23, by unfold pedalReady; decide +kernel⟩,
    ⟨w0 [(k19RunState 23, 1)], 23, 0, 0, 0, 9, ⟨by unfold pedalReady; decide +kernel, by decide +kernel⟩⟩,
    ⟨w0 [(k19RunState 23, 1)], 23, 2, 0, 0, 9, ⟨by unfold pedalReady; decide +kernel, by decide +kernel⟩⟩,
    ⟨(w0 [(k19RunState 23, 1)]).modPedal 23 (fun p => { p with flags := 4 }), 23, 4, 9, ⟨by unfold pedalReady; decide +kernel, by decide +kernel⟩⟩,
    ⟨w0 [(k19RunState 23, 1)], 23, 4, 9, ⟨by unfold pedalReady; decide +kernel, by decide +kernel⟩⟩,
    ⟨(w0 [(k19RunState 23, 1)]).modPedal 23 (fun p => { p with flags := 4 }), 23, false, 4, ⟨by unfold pedalReady; decide +kernel, by decide +kernel⟩⟩,
    ⟨w0 [(k19RunState 23, 1)], 23, false, 4, ⟨by unfold pedalReady; decide +kernel, by decide +kernel⟩⟩⟩

theorem witness_PedalSinkInstructions :
    (∃ s : State, ∃ sp : Nat, ∃ imm : Nat, ∃ sink : Nat, pedalReady s sp) ∧
    (∃ s : State, ∃ sp : Nat, ∃ sink : Nat, ∃ v : Int, (v < 0 ∨ sinkOk sink v.toNat = false)) ∧
    (∃ s : State, ∃ sp : Nat, (s.input sp 7 = 1 ∨ s.input sp 7 = 2 ∨ s.input sp 7 = 4)) ∧
    (∃ s : State, ∃ sp : Nat, ∃ n : Nat, n ≤ 4) ∧
    (∃ s : State, ∃ sp : Nat, s.offerStands sp = true) ∧
    (∃ s : State, ∃ sp : Nat, ∃ imm : Nat, ∃ sink : Nat, s.executes sp = false) :=
  ⟨⟨w0 [(k19RunState 23, 1)], 23, 0, 0, by unfold pedalReady; decide +kernel⟩,
    ⟨w0 [], 0, 1, 2001, by decide +kernel⟩,
    ⟨w0 [(k19GateState 0, 4)], 0, by decide +kernel⟩,
    ⟨w0 [], 0, 4, by decide +kernel⟩,
    ⟨(w0 []).modPedal 0 (fun p => { p with offer := some ⟨0, 0, 9⟩ }), 0, by decide +kernel⟩,
    ⟨w0 [(k19RunState 0, 3)], 0, 0, 0, by decide +kernel⟩⟩

theorem witness_PedalDecodeEncode :
    (∃ i : Instr, ∃ w : PedalWord, i.wellFormed = true ∧ encodePedal i = some w) :=
  ⟨.pedOuti 0 2000 1, (encodePedal (.pedOuti 0 2000 1)).getD 0, by decide +kernel⟩

theorem witness_PedalEventRows :
    (∃ s : State, ∃ sp : Nat, ∃ n : Nat, sp < s.spokeCount ∧ n < 4 ∧ s.runState sp ≠ 4 ∧ (s.pedal sp).timers.getD n 0 = 1 ∧ s.modes.step < 6) ∧
    (∃ s : State, ∃ sp : Nat, s.runState sp ≠ 4 ∧ (s.pedal sp).resume = none ∧ sp < s.spokes.length) ∧
    (∃ s : State, ∃ sp : Nat, s.runState sp = 4 ∧ (s.pedal sp).resume = none) ∧
    (∃ s : State, ∃ sp : Nat, s.executes sp = true ∧ (s.pedal sp).next.isSome = true ∧ s.openSlot sp = none ∧ s.gateState sp = 0) ∧
    (∃ s : State, ∃ sp : Nat, ∃ cause : Nat, sp < s.spokes.length) ∧
    (∃ s : State, ∃ sid : Nat, ∃ sp : Nat, s.rowPasses sid (k19Restart sp) 1 = true ∧ s.gateState sp = 0) ∧
    (∃ s : State, ∃ sid : Nat, ∃ sp : Nat, s.rowPasses sid (k19Restart sp) 1 = true ∧ s.gateState sp ≠ 0) ∧
    (∃ s : State, ∃ sid : Nat, ∃ v : Int, s.rowPasses sid k19Broadcast v = true) ∧
    (∃ s : State, ∃ sp : Nat, ∃ o : Offer, (s.pedal sp).offer = some o ∧ s.dueNext o.until_ = true ∧ (s.pedal sp).replacing = false) :=
  ⟨⟨(w0 []).modPedal 23 (fun p => { p with timers := [0, 0, 0, 1] }), 23, 3, by decide +kernel⟩,
    ⟨w0 [], 23, by decide +kernel⟩,
    ⟨w0 [(k19RunState 0, 4)], 0, by decide +kernel⟩,
    ⟨(w0 []).modPedal 0 (fun p => { p with next := some ([], 0, 0) }), 0, by decide +kernel⟩,
    ⟨w0 [], 23, 0, by decide +kernel⟩,
    ⟨wr 2 [], 1, 0, by decide +kernel⟩,
    ⟨wr 2 [(k19GateState 0, 2)], 1, 0, by decide +kernel⟩,
    ⟨wr 2 [], 1, 4095, by decide +kernel⟩,
    ⟨(w0 []).modPedal 0 (fun p => { p with offer := some ⟨0, 0, 0⟩ }), 0, ⟨0, 0, 0⟩, by decide +kernel⟩⟩

theorem witness_ModeRows :
    (∃ s : State, s.modes.powered = true ∧ 1 ≤ s.getN k01Mode ∧ s.getN k01Mode ≤ 3 ∧ s.getN k01NextEventKind ≠ 0 ∧ 125 * s.ticksTo (s.getN k01NextEventTick) < exitLatency (s.getN k01Mode) + s.getN k01Margin + 125) ∧
    (∃ s : State, ∃ src : WakeSource, s.modes.powered = true ∧ (wakeEnds src).contains (s.getN k01Mode) = true ∧ src ≠ .knownEvent) ∧
    (∃ s : State, s.modes.powered = true ∧ (wakeEnds .knownEvent).contains (s.getN k01Mode) = true) ∧
    (∃ s : State, s.modes.exitEnd = none) ∧
    (∃ s : State, ∃ sid : Nat, s.rowPasses sid k01Workstand 1 = true ∧ ((∀ sp, sp < s.spokeCount → s.openSlot sp = none ∧ s.gateState sp = 0))) ∧
    (∃ s : State, ∃ sid : Nat, ∃ sp : Nat, s.rowPasses sid k01Workstand 1 = true ∧ sp < s.spokeCount ∧ s.gateState sp ≠ 0) ∧
    (∃ s : State, s.workstand = false) ∧
    (∃ s : State, s.workstand = true) :=
  ⟨⟨w0 [(k01Mode, 1), (k01NextEventKind, 1), (k01NextEventTick, 1)], by decide +kernel⟩,
    ⟨w0 [(k01Mode, 2)], .kodFrame, by decide +kernel⟩,
    ⟨w0 [(k01Mode, 1)], by decide +kernel⟩,
    ⟨w0 [], by decide +kernel⟩,
    ⟨wr 2 [], 1, by decide +kernel⟩,
    ⟨wr 2 [(k19GateState 23, 2)], 1, 23, by decide +kernel⟩,
    ⟨w0 [], by decide +kernel⟩,
    ⟨w0 [(k01Workstand, 1)], by decide +kernel⟩⟩

theorem witness_ResetRows :
    (∃ s : State, s.modes.powered = true) ∧
    (∃ s : State, s.pf.active = true) ∧
    (∃ s : State, s.pf.active = false) ∧
    (∃ s : State, ∃ core : Nat, core < 4 ∧ s.firmwareUp = true ∧ s.modes.powered = true) ∧
    (∃ s : State, ∃ pll : Nat, (pll = 1 ∨ pll = 2)) ∧
    (∃ s : State, ∃ pll : Nat, 3 ≤ pll ∧ pll ≤ 5 ∧ s.modes.powered = true) ∧
    (∃ s : State, s.modes.coreInReset = true) ∧
    (∃ s : State, ∃ b : BootIn, s.modes.powered = true ∧ s.modes.booted = false ∧ s.modes.rom = false ∧ s.modes.coreInReset = false ∧ flashSupported b = true) ∧
    (∃ s : State, ∃ b : BootIn, s.modes.powered = true ∧ s.modes.booted = false ∧ s.modes.rom = false ∧ s.modes.coreInReset = false ∧ flashSupported b = false) :=
  ⟨⟨w0 [], by decide +kernel⟩,
    ⟨{ w0 [] with pf := { active := true } }, by decide +kernel⟩,
    ⟨w0 [], by decide +kernel⟩,
    ⟨up [] {}, 3, by decide +kernel⟩,
    ⟨w0 [], 2, by decide +kernel⟩,
    ⟨w0 [], 5, by decide +kernel⟩,
    ⟨{ w0 [] with modes := { coreInReset := true } }, by decide +kernel⟩,
    ⟨w0 [], bootIn, by decide +kernel⟩,
    ⟨w0 [], ⟨true, 16, 0, 0, false, 0, true, 900⟩, by decide +kernel⟩⟩

theorem witness_SafetyResetClears :
    (∃ s : State, ∃ cause : Nat, ∃ k : Nat, keptMember k = false ∧ k ≠ k0DSealState ∧ keyClass k ≠ 0x1D ∧ keyClass k ≠ 0x31 ∧ keyClass k ≠ 0x38) ∧
    (∃ s : State, ∃ cause : Nat, s.modes.booted = true ∧ s.modes.coreInReset = false) ∧
    (∃ s : State, ∃ cause : Nat, s.modes.resetAt ≠ s.cc) ∧
    (∃ s : State, ∃ cause : Nat, s.modes.booted = false ∧ s.modes.resetAt = s.cc ∧ s.modes.cause ≠ 0) :=
  ⟨⟨w0 [], 4, k03CaptureState, by decide +kernel⟩,
    ⟨wr 2 [], 3, by decide +kernel⟩,
    ⟨w0 [(k02CadenceCount, 9)], 3, by decide +kernel⟩,
    ⟨w0 [], 3, by decide +kernel⟩⟩

theorem witness_CommandedRestartFollows :
    (∃ s : State, ∃ sid : Nat, s.rowPasses sid k01Restart 1 = true ∧ s.leaseRuns = false ∧ s.stopOrders = false) ∧
    (∃ s : State, ∃ at_ : Nat, s.modes.restartAt = some at_ ∧ s.reached at_ = false) ∧
    (∃ s : State, ∃ at_ : Nat, s.modes.powered = true ∧ s.modes.booted = true ∧ s.modes.coreInReset = false ∧ s.modes.restartAt = some at_ ∧ s.reached at_ = true) ∧
    (∃ s : State, ∃ sid : Nat, s.rowPasses sid k01Restart 1 = true ∧ (s.leaseRuns = true ∨ s.stopOrders = true)) :=
  ⟨⟨wr 2 [], 1, by decide +kernel⟩,
    ⟨{ w0 [] with modes := { restartAt := some 1 } }, 1, by decide +kernel⟩,
    ⟨{ w0 [] with modes := { booted := true, restartAt := some 0 } }, 0, by decide +kernel⟩,
    ⟨{ wr 2 [] with lease := { startAt := some 0 } }, 1, by decide +kernel⟩⟩

theorem witness_BistRows :
    (∃ s : State, ∃ t : Nat, 2 ≤ t ∧ t ≤ 6 ∧ s.bistInterval t ≤ s.since (s.bist.lastPass.getD (t - 1) 0) ∧ s.getN (k38TargetState t) ≠ 3 ∧ s.passWanted t = false) ∧
    (∃ s : State, s.bistInterval 1 ≤ s.since (s.bist.lastPass.getD 0 0) ∧ s.getN (k38TargetState 1) ≠ 3 ∧ s.passWanted 1 = false) ∧
    (∃ s : State, ∃ sp : Nat, s.passWanted 4 = true ∧ s.bist.adc = none ∧ s.nextIdle s.bist.adcNext = some sp ∧ bistStopped (s.getN k01Mode) 4 = false) ∧
    (∃ s : State, ∃ a : AdcTest, s.bist.adc = some a ∧ s.adcOver a = true) ∧
    (∃ s : State, ∃ sid : Nat, s.rowPasses sid k38ProgramFuses 1 = true ∧ s.workstand = true ∧ s.bist.fused.length < fuseMax) ∧
    (∃ s : State, ∃ sid : Nat, s.rowPasses sid k38ProgramFuses 1 = true ∧ s.workstand = false) ∧
    (∃ s : State, ∃ sid : Nat, s.rowPasses sid k38ProgramFuses 1 = true ∧ s.workstand = true ∧ fuseMax ≤ s.bist.fused.length) :=
  ⟨⟨w0 [(k02CadenceCount, 10 ^ 12)], 6, by decide +kernel⟩,
    ⟨w0 [(k02CadenceCount, 10 ^ 12)], by decide +kernel⟩,
    ⟨{ w0 [] with bist := { due := [true, true, true, true, true, true] } }, 0, by decide +kernel⟩,
    ⟨{ w0 [(k02CadenceCount, 10 ^ 7)] with bist := { adc := some ⟨0, 0, [], none⟩ } }, ⟨0, 0, [], none⟩, by decide +kernel⟩,
    ⟨wr 2 [(k01Workstand, 1)], 1, by decide +kernel⟩,
    ⟨wr 2 [], 1, by decide +kernel⟩,
    ⟨{ wr 2 [(k01Workstand, 1)] with bist := { fused := List.replicate fuseMax (0, 0, 0) } }, 1, by decide +kernel⟩⟩

theorem witness_MeterSettingRows :
    (∃ s : State, ∃ sid : Nat, ∃ ch : Nat, ∃ v : Int, s.rowPasses sid (k08SensorType ch) v = true ∧ typePermitted ch v.toNat = true ∧ s.typesFit (s.typesWith ch v.toNat) = true) ∧
    (∃ s : State, ∃ sid : Nat, ∃ ch : Nat, ∃ v : Int, s.rowPasses sid (k08SensorType ch) v = true ∧ typePermitted ch v.toNat = false) ∧
    (∃ s : State, ∃ sid : Nat, ∃ ch : Nat, ∃ v : Int, s.rowPasses sid (k08SensorType ch) v = true ∧ typePermitted ch v.toNat = true ∧ s.typesFit (s.typesWith ch v.toNat) = false) ∧
    (∃ s : State, ∃ sid : Nat, ∃ sp : Nat, ∃ v : Int, s.rowPasses sid (k09SpokeGroup (32 + sp)) v = true ∧ s.groupOn v.toNat = true) ∧
    (∃ s : State, ∃ sid : Nat, ∃ g : Nat, ∃ v : Int, g < 8 ∧ s.rowPasses sid (k09GroupEnable g) v = true ∧ ((v ≠ 0 ∨ s.groupUsed g = false))) ∧
    (∃ s : State, ∃ sid : Nat, ∃ g : Nat, g < 8 ∧ s.rowPasses sid (k09GroupEnable g) 0 = true ∧ s.groupUsed g = true) ∧
    (∃ s : State, ∃ sid : Nat, ∃ v : Int, s.rowPasses sid k09ReferenceGroup v = true ∧ s.groupOn v.toNat = true) ∧
    (∃ s : State, ∃ sid : Nat, ∃ addr : Nat, ∃ ty : Nat, ∃ v : Int, s.writesOpen = true ∧ addr ≠ k13TokenEntry ∧ s.checkWrite sid ⟨addr, ty, v⟩ = stOk ∧ s.checkItem sid (s.session sid).last [⟨addr, ty, v⟩] addr v = stOk) ∧
    (∃ s : State, s.sealFilter.level = true ∧ 80 ≤ s.sealFilter.run ∧ s.sealFilter.opened = false ∧ s.getN k0DMetrologyEventCounter < 65535) ∧
    (∃ s : State, s.sealFilter.level = false ∧ 80 ≤ s.sealFilter.run ∧ s.sealFilter.opened = true) :=
  ⟨⟨wm [], 1, 0, 1, by decide +kernel⟩,
    ⟨wm [], 1, 0, 4, by decide +kernel⟩,
    ⟨{ wm [(k02EngineBudget 1, 0)] with plan := { running := [0] } }, 1, 0, 1, by decide +kernel⟩,
    ⟨wm [(k09GroupEnable 0, 1)], 1, 0, 0, by decide +kernel⟩,
    ⟨wm [], 1, 0, 1, by decide +kernel⟩,
    ⟨wm [], 1, 0, by decide +kernel⟩,
    ⟨wm [(k09GroupEnable 0, 1)], 1, 0, by decide +kernel⟩,
    ⟨wm [], 1, k08SensorType 0, 8, 1, by decide +kernel⟩,
    ⟨{ w0 [] with sealFilter := { level := true, run := 80, opened := false } }, by decide +kernel⟩,
    ⟨{ w0 [] with sealFilter := { level := false, run := 80, opened := true } }, by decide +kernel⟩⟩

theorem witness_RegisterRows :
    (∃ s : State, ∃ g : Nat, s.groupOn g = true ∧ (s.group g).state ≠ 2 ∧ 7 ≤ (s.group g).missing ∧ g < s.groups.length ∧ ((s.group g).lastCross.getD (0, false)).1 + s.halfOf g * 23 / 20 ≤ (s.cc : Rat) - 1) ∧
    (∃ s : State, ∃ sid : Nat, ∃ v : Int, s.rowPasses sid k0BSnapshotRequest v = true ∧ s.targetOk v.toNat = true ∧ s.snapshotPending = false) ∧
    (∃ s : State, ∃ sid : Nat, ∃ v : Int, s.rowPasses sid k0BSnapshotRequest v = true ∧ s.targetOk v.toNat = false) ∧
    (∃ s : State, ∃ sid : Nat, ∃ v : Int, s.rowPasses sid k0BSnapshotRequest v = true ∧ s.targetOk v.toNat = true ∧ s.snapshotPending = true) ∧
    (∃ s : State, ∃ tk : Nat, s.modes.step ≤ 2 ∧ s.billing.snap = some tk ∧ s.dueNext tk = true) ∧
    (∃ s : State, ∃ sid : Nat, ∃ po : Nat, ∃ m : Nat, ∃ v : Int, 2 ≤ m ∧ m ≤ 3 ∧ s.rowPasses sid (key 0x0C po m) v = true) ∧
    (∃ s : State, ∃ sid : Nat, ∃ po : Nat, ∃ v : Int, s.rowPasses sid (key 0x0C po 1) v = true ∧ v < s.spokeCount) ∧
    (∃ s : State, ∃ po : Nat, (s.pulses.getD po {}).jfUntil ≠ 0 ∧ s.reached (s.pulses.getD po {}).jfUntil = true) ∧
    (∃ s : State, ∃ sid : Nat, s.rowPasses sid k0BClearRegisters 1 = true ∧ s.workstand = true) ∧
    (∃ s : State, ∃ sid : Nat, s.rowPasses sid k0BClearRegisters 1 = true ∧ s.workstand = false) ∧
    (∃ s : State, ∃ sid : Nat, ∃ r : Nat, r < 24 * s.spokeCount) :=
  ⟨⟨(w0 [(k09GroupEnable 0, 1), (k02CadenceCount, 100000)]).modGroup 0 fun g => { g with state := 0, missing := 7 }, 0, by decide +kernel⟩,
    ⟨wr 3 [], 1, 10, by decide +kernel⟩,
    ⟨wr 3 [], 1, 1, by decide +kernel⟩,
    ⟨{ wr 3 [] with billing := { snap := some 10 } }, 1, 10, by decide +kernel⟩,
    ⟨{ w0 [] with billing := { snap := some 0 } }, 0, by decide +kernel⟩,
    ⟨wr 2 [], 1, 0, 2, 1, by decide +kernel⟩,
    ⟨wr 2 [], 1, 0, 3, by decide +kernel⟩,
    ⟨{ w0 [] with pulses := [{ jfUntil := ccMod - 1 }] }, 0, by decide +kernel⟩,
    ⟨wm [(k01Workstand, 1)], 1, by decide +kernel⟩,
    ⟨wm [], 1, by decide +kernel⟩,
    ⟨w0 [], 0, 5, by decide +kernel⟩⟩

theorem witness_PowerFailRows :
    (∃ s : State, ∃ u : State, s.pf.active = false ∧ s.criterion ≠ 0 ∧ s.modes.powered = true ∧ u = s.throughSix ∧ u.pf.slots.length = 2) ∧
    (∃ s : State, 6 ≤ s.modes.step) ∧
    (∃ s : State, s.pf.active = true ∧ 80 ≤ s.pf.goodTicks) ∧
    (∃ s : State, ∃ k : Nat, ∃ r : PfRecord, s.pf.active = true ∧ s.pfWriting = none ∧ s.freePf = some k ∧ s.vaultRecord = some r) ∧
    (∃ s : State, ∃ r : PfRecord, s.pf.active = true ∧ s.pfWriting = none ∧ s.freePf = none ∧ s.vaultRecord = some r) ∧
    (∃ s : State, ∃ k : Nat, s.flash.current = some (.powerFail k)) ∧
    (∃ s : State, ∃ u : State, ∃ tr : Nat, u = s.throughSix ∧ u.dueTrigger = some tr) ∧
    (∃ s : State, s.throughSix.dueTrigger = none) ∧
    (∃ s : State, ∃ r : JRecord, ∃ rest : List JRecord, s.pf.latched = r :: rest ∧ s.journalTurn = true) ∧
    (∃ s : State, s.journalTurn = true) ∧
    (∃ s : State, ∃ k : Nat, s.pf.active = false ∧ k ∈ s.pf.usedSlots ∧ k ∉ s.pf.badSlots ∧ ((∀ x ∈ s.pf.flash, x.slot = k → x.cancelled = true)) ∧ 6 ∉ s.pf.due) ∧
    (∃ n : Nat, ∃ l : List JRecord, ∃ r : JRecord, l.length ≤ n ∧ 1 < n) :=
  ⟨⟨{ w0 [] with pf := { pfwLow := 1, pfwNext := false }, modes := { step := 6 } }, { w0 [] with pf := { pfwLow := 1, pfwNext := false }, modes := { step := 6 } }, ⟨by decide +kernel, by decide +kernel, by decide +kernel, rfl, by decide +kernel⟩⟩,
    ⟨{ w0 [] with modes := { step := 6 } }, by decide +kernel⟩,
    ⟨{ w0 [] with pf := { active := true, goodTicks := 80 } }, by decide +kernel⟩,
    ⟨pfState (⟨0, 0, 0, 0, 0, 0, 0, 0, 0, [], []⟩ : PfRecord) [], 0, (⟨0, 0, 0, 0, 0, 0, 0, 0, 0, [], []⟩ : PfRecord), ⟨by decide +kernel, by decide +kernel, by decide +kernel, pfState_record _ _⟩⟩,
    ⟨pfState (⟨0, 0, 0, 0, 0, 0, 0, 0, 0, [], []⟩ : PfRecord) (List.range pfSlots), (⟨0, 0, 0, 0, 0, 0, 0, 0, 0, [], []⟩ : PfRecord), ⟨by decide +kernel, by decide +kernel, by decide +kernel, pfState_record _ _⟩⟩,
    ⟨{ w0 [] with flash := { current := some (.powerFail 0) } }, 0, by decide +kernel⟩,
    ⟨{ w0 [] with pf := { due := [1] }, modes := { step := 6 } }, { w0 [] with pf := { due := [1] }, modes := { step := 6 } }, 1, ⟨rfl, by decide +kernel⟩⟩,
    ⟨{ w0 [] with modes := { step := 6 } }, by decide +kernel⟩,
    ⟨{ w0 [] with pf := { latched := [(⟨0, 0, 0, 0, 0, 0, 0, 0, [], [], [], [], [], 0, 0, 0, none⟩ : JRecord)] } }, (⟨0, 0, 0, 0, 0, 0, 0, 0, [], [], [], [], [], 0, 0, 0, none⟩ : JRecord), [], by decide +kernel⟩,
    ⟨{ w0 [] with pf := { latched := [(⟨0, 0, 0, 0, 0, 0, 0, 0, [], [], [], [], [], 0, 0, 0, none⟩ : JRecord)] } }, by decide +kernel⟩,
    ⟨{ w0 [] with pf := { usedSlots := [0] } }, 0, by decide +kernel⟩,
    ⟨2, [], (⟨0, 0, 0, 0, 0, 0, 0, 0, [], [], [], [], [], 0, 0, 0, none⟩ : JRecord), by decide +kernel⟩⟩

theorem witness_BillingRows :
    (∃ s : State, ∃ sid : Nat, ∃ v : Int, s.rowPasses sid k05Slew v = true ∧ -2000 ≤ v ∧ v ≤ 2000 ∧ s.timeValid = true) ∧
    (∃ s : State, ∃ sid : Nat, ∃ v : Int, s.rowPasses sid k05Slew v = true ∧ -2000 ≤ v ∧ v ≤ 2000 ∧ s.timeValid = false) ∧
    (∃ s : State, ∃ sid : Nat, ∃ v : Int, s.rowPasses sid k05StepTarget v = true ∧ ((s.timeValid = false ∨ s.roleOf sid = 3 ∨ (v - s.wallNext).natAbs ≤ 3600000))) ∧
    (∃ s : State, ∃ sid : Nat, ∃ v : Int, s.rowPasses sid k05StepTarget v = true ∧ s.timeValid = true ∧ s.roleOf sid ≠ 3 ∧ 3600000 < (v - s.wallNext).natAbs) ∧
    (∃ s : State, ∃ old : Nat, ∃ valid : Bool, ∃ tick : Nat, s.modes.step ≤ 3 ∧ s.billing.stepped = some (old, valid, tick) ∧ s.dueNext ((tick + 1) % ccMod) = true) ∧
    (∃ s : State, ∃ w : Nat, s.modes.step ≤ 4 ∧ s.boundaryWall = some w ∧ s.billing.pendingImage ≠ [] ∧ tActivate s.billing.pendingImage ≤ w) ∧
    (∃ s : State, s.modes.step ≤ 4 ∧ s.billing.stepped = none ∧ rateAt s.tariff s.boundaryWall = s.getN k10CurrentRate) ∧
    (∃ s : State, s.modes.step ≤ 4 ∧ s.billing.stepped = none ∧ rateAt s.tariff s.boundaryWall ≠ s.getN k10CurrentRate) ∧
    (∃ s : State, ∃ w : Nat, s.modes.step ≤ 3 ∧ s.boundaryWall = some w ∧ s.billing.stepped = none ∧ s.intervalEnd ≤ w) ∧
    (∃ s : State, ∃ w : Nat, ∃ x : Nat, s.modes.step ≤ 3 ∧ s.boundaryWall = some w ∧ s.billing.closeCauses = [] ∧ s.billing.stepped = none ∧ s.scheduledClose = some x ∧ x ≤ w) ∧
    (∃ s : State, ∃ sid : Nat, s.rowPasses sid k11CloseNow 1 = true) ∧
    (∃ s : State, ∃ cause : Nat, ∃ stamp : Nat, ∃ sp : Nat, sp < s.spokeCount) :=
  ⟨⟨wr 2 [(k05TimeValid, 1)], 1, 5, by decide +kernel⟩,
    ⟨wr 2 [], 1, 5, by decide +kernel⟩,
    ⟨wr 2 [], 1, 5, by decide +kernel⟩,
    ⟨wr 2 [(k05TimeValid, 1)], 1, 36000000, by decide +kernel⟩,
    ⟨{ w0 [] with billing := { stepped := some (0, true, 0) } }, 0, true, 0, by decide +kernel⟩,
    ⟨monthly, monthly.wallNext, by decide +kernel⟩,
    ⟨w0 [], by decide +kernel⟩,
    ⟨w0 [(k10CurrentRate, 3)], by decide +kernel⟩,
    ⟨monthly, monthly.wallNext, by decide +kernel⟩,
    ⟨monthly, monthly.wallNext, monthly.scheduledClose.getD 0, by decide +kernel⟩,
    ⟨wr 3 [], 1, by decide +kernel⟩,
    ⟨w0 [], 0, 0, 23, by decide +kernel⟩⟩

theorem witness_SessionRows :
    (∃ s : State, ∃ sid : Nat, ∃ v : Int, s.rowPasses sid k12AuthoriseSpoke v = true ∧ s.authStatus v.toNat (s.getN k12Purse64) = stOk) ∧
    (∃ s : State, ∃ sid : Nat, ∃ v : Nat, s.rowPasses sid k12AuthoriseSpoke v = true ∧ v < s.spokeCount ∧ s.workstand = false ∧ (s.openSlot v).isSome = true) ∧
    (∃ s : State, ∃ sid : Nat, ∃ j : Nat, s.rowPasses sid (k12Stop j) 1 = true ∧ s.getN (k12State j) = 1) ∧
    (∃ s : State, ∃ j : Nat, s.getN (k12State j) = 1) ∧
    (∃ s : State, ∃ sid : Nat, ∃ j : Nat, s.rowPasses sid (k12Collect j) 1 = true) ∧
    (∃ s : State, ∃ j : Nat, s.getN (k12State j) = 2) ∧
    (∃ s : State, ((∀ j, j < 48 → s.getN (k12State j) = 1 → s.reached (s.slot j).costAt = false))) ∧
    (∃ s : State, ∃ j : Nat, j < 48 ∧ s.getN (k12State j) = 1 ∧ s.reached (s.slot j).costAt = true) ∧
    (∃ s : State, s.tokenLock ≠ 0 ∧ s.reached s.tokenLock = true) :=
  ⟨⟨wr 2 [], 1, 0, by decide +kernel⟩,
    ⟨wr 2 [(k12State 0, 1), (k12Spoke 0, 0)], 1, 0, by decide +kernel⟩,
    ⟨wr 2 [(k12State 0, 1)], 1, 0, by decide +kernel⟩,
    ⟨w0 [(k12State 0, 1)], 0, by decide +kernel⟩,
    ⟨wr 2 [], 1, 0, by decide +kernel⟩,
    ⟨w0 [(k12State 0, 2)], 0, by decide +kernel⟩,
    ⟨w0 [], by decide +kernel⟩,
    ⟨w0 [(k12State 0, 1)], 0, by decide +kernel⟩,
    ⟨{ w0 [(k02CadenceCount, 9)] with tokenLock := 9 }, by decide +kernel⟩⟩

theorem witness_TokenRows :
    (∃ s : State, ∃ sid : Nat, ∃ v : Int, s.rowPasses sid k13TokenEntry v = true ∧ s.flag k23TokenEntry = false) ∧
    (∃ s : State, ∃ sid : Nat, ∃ v : Int, s.rowPasses sid k13TokenEntry v = true ∧ s.flag k23TokenEntry = true) ∧
    (∃ s : State, ∃ sid : Nat, ∃ v : Int, s.writesOpen = true ∧ s.checkWrite sid ⟨k13TokenEntry, ownType, v⟩ ≠ stOk) ∧
    (∃ s : State, ∃ sid : Nat, ∃ v : Int, s.writesOpen = false) ∧
    (∃ s : State, ∃ sid : Nat, ∃ l : List Nat, ∃ x : Nat, tokenValue l = some x) ∧
    (∃ s : State, ∃ i : Nat, ∃ x : Nat, tokClass x = 0) ∧
    (∃ s : State, ∃ i : Nat, ∃ x : Nat, tokClass x < 2 ∧ s.getN (k13Floor (tokPurse x)) ≤ tokTid x) :=
  ⟨⟨wr 2 [(k23TokenEntry, 0)], 1, 0, by decide +kernel⟩,
    ⟨wr 2 [], 1, 0, by decide +kernel⟩,
    ⟨w0 [], 1, 0, by decide +kernel⟩,
    ⟨{ w0 [] with modes := { step := 6 } }, 1, 0, by decide +kernel⟩,
    ⟨w0 [], 0, List.replicate 20 0x30, 0, by decide +kernel⟩,
    ⟨w0 [], 0, 0, by decide +kernel⟩,
    ⟨w0 [], 0, 0, by decide +kernel⟩⟩

theorem witness_SlacRows :
    (∃ s : State, ∃ rx : List Nat, ∃ run : Nat, ∃ mac : Nat, s.lease.fwUp = true ∧ rx ≠ [] ∧ (∀ x ∈ rx, s.stationHears true x = true)) ∧
    (∃ s : State, ∃ rx : List Nat, ∃ run : Nat, ∃ mac : Nat, s.lease.fwUp = true ∧ rx ≠ [] ∧ (∀ x ∈ rx, s.stationHears false x = true)) ∧
    (∃ s : State, ∃ run : Nat, ∃ mac : Nat, ∃ atten : List (Nat × List Nat), s.lease.fwUp = true) ∧
    (∃ s : State, ∃ r : SlacRun, ∃ t0 : Nat, r.start = some t0) ∧
    (∃ s : State, ∃ run : Nat, ∃ mac : Nat, ∃ r : SlacRun, ∃ t0 : Nat, (s.slac.find? fun r => r.same run mac && r.chosen.isNone) = some r ∧ r.start = some t0 ∧ s.lease.fwUp = true ∧ s.reached ((t0 + 4800) % ccMod) = true) ∧
    (∃ s : State, ∃ sp : Nat, ∃ run : Nat, ∃ mac : Nat, ∃ r : SlacRun, s.vehicleUp sp = true ∧ s.linkState sp = 1 ∧ s.rngOk = true ∧ s.listening = false ∧ r ∈ s.slac ∧ r.run = run ∧ r.mac = mac ∧ r.chosen = some sp) ∧
    (∃ s : State, ∃ sp : Nat, s.vehicleUp sp = true ∧ s.stationHears false sp = true ∧ s.getN (k1ALinkControlInForce sp) ≠ 0) ∧
    (∃ s : State, ∃ sp : Nat, ∃ t0 : Nat, (s.vlink sp).matchedAt = some t0 ∧ s.vehicleUp sp = true ∧ s.linkState sp = 2 ∧ s.reached ((t0 + 160000) % ccMod) = true) ∧
    (∃ s : State, ∃ sp : Nat, s.vehicleUp sp = true ∧ 2 ≤ s.linkState sp ∧ s.linkState sp ≤ 4) ∧
    (∃ s : State, ∃ sp : Nat, ∃ o : TlsOffer, s.vehicleUp sp = true ∧ s.linkState sp = 2 ∧ tlsCommon o = true ∧ (s.slotKey (if o.version = 2 then 26 else 27)).isSome = true ∧ s.cryptoOk = true ∧ s.rngOk = true) ∧
    (∃ s : State, ∃ sp : Nat, ∃ o : TlsOffer, s.vehicleUp sp = true ∧ s.linkState sp = 2 ∧ tlsCommon o = false) ∧
    (∃ s : State, ∃ sp : Nat, ∃ t0 : Nat, (s.vlink sp).tlsFailedAt = some t0 ∧ s.vehicleUp sp = true ∧ s.linkState sp = 2 ∧ s.reached ((t0 + 160000) % ccMod) = true) :=
  ⟨⟨w0 [(k1ALinkControlInForce 0, 1), (k1ALinkControlInForce 23, 1)], [0, 23], 5, 7, by decide +kernel⟩,
    ⟨w0 [(k1ALinkControlInForce 0, 1), (k1ALinkControlInForce 23, 1)], [0, 23], 5, 7, by decide +kernel⟩,
    ⟨w0 [], 5, 7, [], by decide +kernel⟩,
    ⟨w0 [], (⟨5, 7, [0], some 0, [], none, none⟩ : SlacRun), 0, by decide +kernel⟩,
    ⟨{ w0 [(k02CadenceCount, 4800)] with slac := [(⟨5, 7, [0], some 0, [], none, none⟩ : SlacRun)] }, 5, 7, (⟨5, 7, [0], some 0, [], none, none⟩ : SlacRun), 0, by decide +kernel⟩,
    ⟨{ w0 [(k1ALinkState 3, 1)] with slac := [(⟨5, 7, [0], some 0, [], some 3, none⟩ : SlacRun)] }, 3, 5, 7, (⟨5, 7, [0], some 0, [], some 3, none⟩ : SlacRun), by decide +kernel⟩,
    ⟨w0 [(k1ALinkControlInForce 23, 1)], 23, by decide +kernel⟩,
    ⟨(w0 [(k1ALinkState 0, 2), (k02CadenceCount, 160000)]).modVLink 0 fun l => { l with matchedAt := some 0 }, 0, 0, by decide +kernel⟩,
    ⟨w0 [(k1ALinkState 0, 4)], 0, by decide +kernel⟩,
    ⟨keyed 26 (w0 [(k1ALinkState 0, 2)]), 0, ⟨2, [.ecdheEcdsaAes256GcmSha384], [.secp256r1], [.ecdsaP256Sha256], false⟩, by decide +kernel⟩,
    ⟨w0 [(k1ALinkState 0, 2)], 0, ⟨3, [.aes256GcmSha384], [], [.ecdsaP384Sha384], false⟩, by decide +kernel⟩,
    ⟨(w0 [(k1ALinkState 0, 2), (k02CadenceCount, 160000)]).modVLink 0 fun l => { l with tlsFailedAt := some 0 }, 0, 0, by decide +kernel⟩⟩

theorem witness_ProtocolChoiceIsCommon :
    (∃ offered : Nat, ∃ enabled : Nat, ∃ tls : Nat, ∃ prio : Nat, ∃ p : Nat, protocolChoice offered enabled tls prio = p + 1) ∧
    (∃ offered : Nat, ∃ enabled : Nat, ∃ tls : Nat, ∃ prio : Nat, ∃ p : Nat, p ≤ 2 ∧ bit offered p = true ∧ bit enabled p = true ∧ ((p = 0 → tls = 0)) ∧ ((p = 1 → tls ≤ 1)) ∧ ((p = 2 → tls = 2))) :=
  ⟨⟨4, 4, 2, 0, 2, by decide +kernel⟩,
    ⟨1, 1, 0, 0, by decide +kernel⟩⟩

theorem witness_VehicleSetupRows :
    (∃ s : State, ∃ sp : Nat, ∃ offered : Nat, ∃ p : Nat, s.vehicleUp sp = true ∧ s.linkState sp = 2 ∧ p ≠ 0 ∧ protocolChoice offered (s.getN (k1AProtocolEnable sp)) (s.getN (k1ATLS sp)) (s.getN k1AProtocolPriority) = p) ∧
    (∃ s : State, ∃ sp : Nat, ∃ evccid : Nat, s.inSession sp [1, 2, 3, 4] [2] = true) ∧
    (∃ s : State, ∃ sp : Nat, s.inSession sp [2, 3, 4] [3] = true) ∧
    (∃ s : State, ∃ sp : Nat, s.inSession sp [1] [3] = true) ∧
    (∃ s : State, ∃ sp : Nat, s.inSession sp [2] [3] = true) ∧
    (∃ s : State, ∃ sp : Nat, s.inSession sp [2] [3] = true ∧ s.pncOffered sp = true) ∧
    (∃ s : State, ∃ sp : Nat, ∃ emaid : Nat, ∃ chain : List Nat, s.inSession sp [2] [3] = true ∧ s.getN (k1AIdentification sp) = 2) ∧
    (∃ s : State, ∃ sp : Nat, ∃ emaid : Nat, ∃ chain : List Nat, s.inSession sp [3, 4] [3] = true ∧ s.pncOffered sp = true) ∧
    (∃ s : State, ∃ sp : Nat, s.inSession sp [3, 4] [3] = true) ∧
    (∃ s : State, ∃ sp : Nat, ∃ emaid : Nat, ∃ chain : List Nat, (s.vlink sp).contract ≠ some emaid ∧ sp < s.spokes.length) :=
  ⟨⟨w0 [(k1ALinkState 0, 2), (k1AProtocolEnable 0, 7), (k1ATLS 0, 2)], 0, 4, 3, by decide +kernel⟩,
    ⟨(vs 2 3 [] fun v => v), 0, 9, by decide +kernel⟩,
    ⟨(vs 3 3 [] fun v => v), 0, by decide +kernel⟩,
    ⟨(vs 3 1 [] fun v => v), 0, by decide +kernel⟩,
    ⟨(vs 3 2 [] fun v => v), 0, by decide +kernel⟩,
    ⟨(vs 3 2 [(k1APlugChargeEnable 0, 1), (k1ATLS 0, 2)] fun v => v), 0, by decide +kernel⟩,
    ⟨(vs 3 2 [(k1AIdentification 0, 2)] fun v => v), 0, 5, [], by decide +kernel⟩,
    ⟨(vs 3 3 [(k1APlugChargeEnable 0, 1), (k1ATLS 0, 2)] fun v => v), 0, 5, [], by decide +kernel⟩,
    ⟨(vs 3 4 [] fun v => v), 0, by decide +kernel⟩,
    ⟨w0 [], 0, 5, [], by decide +kernel⟩⟩

theorem witness_VehicleChargeRows :
    (∃ s : State, ∃ sp : Nat, ∃ mode : EnergyMode, ∃ vmax : List Nat, s.inSession sp [2] [3] = true ∧ mode ≠ .other) ∧
    (∃ s : State, ∃ sp : Nat, ∃ vmax : List Nat, ∃ vdis : Nat, s.inSession sp [4] [3] = true) ∧
    (∃ s : State, ∃ sp : Nat, ∃ dyn : Bool, s.inSession sp [3, 4] [3, 4] = true) ∧
    (∃ s : State, ∃ sp : Nat, s.inSession sp [2, 3, 4] [3, 4] = true ∧ 0 < s.evseMax sp) ∧
    (∃ s : State, ∃ sp : Nat, s.inSession sp [2, 3, 4] [3, 4] = true ∧ s.evseMax sp ≤ 0) ∧
    (∃ s : State, ∃ sp : Nat, s.inSession sp [2, 3, 4] [3, 4] = true ∧ sp < s.spokes.length) ∧
    (∃ s : State, ∃ sp : Nat, s.inSession sp [2] [3, 4] = true) ∧
    (∃ s : State, ∃ sp : Nat, ∃ t0 : Nat, (s.vlink sp).startAt = some t0 ∧ s.vehicleUp sp = true ∧ s.linkState sp = 3 ∧ s.evseMax sp = 0 ∧ s.reached ((t0 + 480000) % ccMod) = true) ∧
    (∃ s : State, ∃ sp : Nat, s.inSession sp [2] [4] = true) ∧
    (∃ s : State, ∃ sp : Nat, ∃ vmax : List Nat, ∃ vdis : Nat, s.inSession sp [3, 4] [4] = true) ∧
    (∃ s : State, ∃ sp : Nat, s.inSession sp [2, 3, 4] [3, 4] = true) :=
  ⟨⟨(vs 3 2 [] fun v => v), 0, .acSinglePhaseCore, [1], by decide +kernel⟩,
    ⟨(vs 3 4 [] fun v => v), 0, [1], 2, by decide +kernel⟩,
    ⟨(vs 4 3 [] fun v => v), 0, true, by decide +kernel⟩,
    ⟨(vs 4 2 [(k1BGrantedCurrent 16, 16000)] fun v => v), 0, by decide +kernel⟩,
    ⟨(vs 4 2 [] fun v => v), 0, by decide +kernel⟩,
    ⟨(vs 4 2 [] fun v => v), 0, by decide +kernel⟩,
    ⟨(vs 4 2 [] fun v => v), 0, by decide +kernel⟩,
    ⟨(vs 3 2 [(k02CadenceCount, 480000)] fun v => { v with startAt := some 0 }), 0, 0, by decide +kernel⟩,
    ⟨(vs 4 2 [] fun v => v), 0, by decide +kernel⟩,
    ⟨(vs 4 3 [] fun v => v), 0, [1], 2, by decide +kernel⟩,
    ⟨(vs 4 2 [] fun v => v), 0, by decide +kernel⟩⟩

theorem witness_VehicleEndRows :
    (∃ s : State, ∃ sp : Nat, s.vehicleUp sp = true ∧ (s.vlink sp).tcp = true ∧ 2 ≤ s.linkState sp ∧ s.linkState sp ≤ 4) ∧
    (∃ s : State, ∃ sp : Nat, s.vehicleUp sp = true ∧ (s.linkState sp = 3 ∨ s.linkState sp = 4)) ∧
    (∃ s : State, ∃ sp : Nat, s.vehicleUp sp = true ∧ (s.linkState sp = 3 ∨ s.linkState sp = 4) ∧ s.reached (((s.vlink sp).lastMsg + 480000) % ccMod) = true) ∧
    (∃ s : State, ∃ sp : Nat, ∃ t0 : Nat, (s.vlink sp).stopAt = some t0 ∧ s.vehicleUp sp = true ∧ s.reached ((t0 + 40000) % ccMod) = true) ∧
    (∃ s : State, ∃ sid : Nat, ∃ sp : Nat, ∃ v : Int, s.rowPasses sid (k1AContractDecision sp) v = true ∧ (v = 1 ∨ v = 2) ∧ s.getN (k1AContractPending sp) ≠ 0) ∧
    (∃ s : State, ∃ sp : Nat, ∃ t0 : Nat, (s.vlink sp).contractEnd = some t0 ∧ s.getN (k1AContractPending sp) = 1 ∧ s.vehicleUp sp = true ∧ s.reached t0 = true) :=
  ⟨⟨(vs 2 2 [] fun v => v), 0, by decide +kernel⟩,
    ⟨(vs 4 2 [] fun v => v), 0, by decide +kernel⟩,
    ⟨(vs 4 2 [(k02CadenceCount, 480000)] fun v => v), 0, by decide +kernel⟩,
    ⟨(vs 4 2 [(k02CadenceCount, 40000)] fun v => { v with stopAt := some 0 }), 0, 0, by decide +kernel⟩,
    ⟨wr 2 [(k1AContractPending 0, 1)], 1, 0, 2, by decide +kernel⟩,
    ⟨(vs 4 2 [(k02CadenceCount, 40000), (k1AContractPending 0, 1)] fun v => { v with contractEnd := some 0 }), 0, 0, by decide +kernel⟩⟩

theorem witness_TandemRows :
    (∃ s : State, s.flag k1EEnable = true ∧ s.lease.fwUp = true ∧ s.cc % 80 = 0 ∧ s.tandemAt ≠ some s.cc) ∧
    (∃ s : State, ∃ net : Nat, ∃ msg : List Byte, s.flag k1EEnable = true ∧ s.lease.fwUp = true ∧ msg.length = 32 ∧ numBE ((natBytes msg).drop 28) ≠ crc32From (tandemInit net) ((natBytes msg).take 28)) ∧
    (∃ s : State, ∃ m : Nat, ∃ seq : Nat, ∃ c : Nat × Nat × Nat × List Byte, (s.peer m).copies.find? (fun c => c.2.1 = seq) = some c ∧ s.supervised m = true ∧ s.compareWindow < s.since c.2.2.1) ∧
    (∃ s : State, ∃ m : Nat, s.supervised m = true ∧ s.getN (k1EPeerState (16 + m)) = 1 ∧ 80 + s.compareWindow < s.since (s.peer m).lastPair) ∧
    (∃ s : State, ∃ m : Nat, ∃ code : Nat, m < 16 ∧ s.flag k1EEnable = true ∧ bit (s.getN k1EPeerMask) m = true) ∧
    (∃ s : State, ∃ net : Nat, ∃ msg : List Byte, ∃ m : Nat, ∃ seq : Nat, m = (natBytes msg).headD 0 % 16 ∧ seq = numBE (((natBytes msg).take 28 |>.drop 4).take 4) ∧ s.flag k1EEnable = true ∧ s.lease.fwUp = true ∧ msg.length = 32 ∧ numBE ((natBytes msg).drop 28) = crc32From (tandemInit net) ((natBytes msg).take 28) ∧ numBE (((natBytes msg).take 28 |>.drop 2).take 2) = s.getN k1EGroupIdentity ∧ s.supervised m = true ∧ s.seqOk m seq = true ∧ field (numBE (((natBytes msg).take 28 |>.drop 14).take 2)) 13 10 = 0 ∧ (∀ c ∈ (s.peer m).copies, c.2.1 ≠ seq)) :=
  ⟨⟨hub [], by decide +kernel⟩,
    ⟨hub [], 0, List.replicate 32 0, by decide +kernel⟩,
    ⟨(hub []).modPeer 3 (fun p => { p with copies := [(0, 5, 0, [])] }), 3, 5, (0, 5, 0, []), by decide +kernel⟩,
    ⟨hub [(k1EPeerState 19, 1)], 3, by decide +kernel⟩,
    ⟨hub [], 3, 0, by decide +kernel⟩,
    ⟨hub [], 0, tandemMsg, 3, 1, by decide +kernel⟩⟩

theorem witness_TapRows :
    (∃ s : State, ∃ a : Nat, ∃ r : Nat, a < 24 ∧ s.cc % 1600 = pingPhase a ∧ s.aerialState a = 0 ∧ s.silenced (feOf a) = false ∧ s.holder (feOf a) = none ∧ s.detects = true ∧ s.getN (k21Baseline (16 + a)) ≠ 0 ∧ s.deviation a r < s.getN (k21Threshold (16 + a))) ∧
    (∃ s : State, ∃ a : Nat, ∃ r : Nat, a < 24 ∧ s.cc % 1600 = pingPhase a ∧ s.aerialState a = 0 ∧ s.silenced (feOf a) = false ∧ s.holder (feOf a) = none ∧ s.detects = true ∧ s.getN (k21Threshold (16 + a)) ≤ s.deviation a r) ∧
    (∃ s : State, ∃ a : Nat, ∃ cards : List Card, a < 24 ∧ s.aerialState a = 1 ∧ s.reachedOpt (s.aerial a).pollAt = true ∧ s.runsFully = true ∧ s.silenced (feOf a) = false ∧ s.holder (feOf a) = some a ∧ cards ≠ [] ∧ cards.length ≤ 255 ∧ a < s.aerials.length) ∧
    (∃ s : State, ∃ a : Nat, ∃ c : Card, a < 24 ∧ s.reachedOpt (s.aerial a).settleEnd = true ∧ s.firmwareUp = true ∧ (s.aerial a).void = false ∧ (s.aerial a).cards = [c] ∧ cardRandom c = true) ∧
    (∃ s : State, ∃ a : Nat, a < 24 ∧ s.reachedOpt (s.aerial a).settleEnd = true ∧ s.firmwareUp = true ∧ (s.aerial a).void = true) ∧
    (∃ s : State, ∃ sid : Nat, ∃ a : Nat, ∃ v : Int, s.rowPasses sid (k21Decision (16 + a)) v = true ∧ s.getN (k21LastResult (16 + a)) = 6) ∧
    (∃ s : State, ∃ sid : Nat, ∃ a : Nat, ∃ v : Int, s.rowPasses sid (k21Decision (16 + a)) v = true ∧ s.getN (k21LastResult (16 + a)) ≠ 6) ∧
    (∃ s : State, ∃ a : Nat, a < 24 ∧ s.getN (k21LastResult (16 + a)) = 6 ∧ s.reachedOpt (s.aerial a).decisionEnd = true) ∧
    (∃ s : State, s.emulation.field = false) :=
  ⟨⟨pingState [], 3, 1010, by decide +kernel⟩,
    ⟨pingState [], 3, 1051, by decide +kernel⟩,
    ⟨(w0 [(k21AerialState 19, 1)]).modAerial 3 (fun x => { x with pollAt := some 0 }), 3, [⟨false, [8, 1, 2, 3], true, 0, 4⟩], by decide +kernel⟩,
    ⟨(w0 []).modAerial 23 (fun x => { x with settleEnd := some 0, cards := [⟨false, [8, 1, 2, 3], true, 0, 4⟩] }), 23, ⟨false, [8, 1, 2, 3], true, 0, 4⟩, by decide +kernel⟩,
    ⟨(w0 []).modAerial 23 (fun x => { x with settleEnd := some 0, void := true }), 23, by decide +kernel⟩,
    ⟨wr 1 [(k21LastResult 19, 6)], 1, 3, 2, by decide +kernel⟩,
    ⟨wr 1 [(k21LastResult 19, 5)], 1, 3, 2, by decide +kernel⟩,
    ⟨(w0 [(k21LastResult 16, 6)]).modAerial 0 (fun x => { x with decisionEnd := some 0 }), 0, by decide +kernel⟩,
    ⟨w0 [], by decide +kernel⟩⟩

theorem witness_ExchangeRows :
    (∃ s : State, ∃ sid : Nat, ∃ a : Nat, ∃ apdu : List Byte, s.rowPasses sid (k21APDUCommand (16 + a)) (blkOf (natBytes apdu)) = true ∧ checkApdu a (blkOf (natBytes apdu)) s = stOk) ∧
    (∃ s : State, ∃ a : Nat, ∃ m : Nat, ∃ resp : List Byte, a < 24 ∧ s.awaits a = true ∧ s.speaksIso4 a = true) ∧
    (∃ s : State, ∃ a : Nat, ∃ m : Option Nat, ∃ resp : List Byte, a < 24 ∧ s.awaits a = true ∧ s.speaksIso4 a = false ∧ ((m ≠ none ∨ resp ≠ []))) ∧
    (∃ s : State, ∃ a : Nat, ∃ resp : List Byte, a < 24 ∧ s.awaits a = true ∧ s.speaksIso4 a = true ∧ resp ≠ []) ∧
    (∃ s : State, ∃ a : Nat, a < 24 ∧ s.reachedOpt (s.aerial a).exchangeEnd = true) ∧
    (∃ s : State, s.emulates = true) ∧
    (∃ s : State, s.emulates = true ∧ s.emulation.app = 1) ∧
    (∃ s : State, ∃ t0 : Nat, s.emulation.waiting = some t0 ∧ 40000 ≤ s.since t0) ∧
    (∃ s : State, ∃ t0 : Nat, s.emulation.waiting = some t0 ∧ s.since t0 < 40000 ∧ 2696 * (s.emulation.wtx + 1) ≤ 10 * s.since t0) :=
  ⟨⟨wr 1 [(k21AerialState 16, 2)], 1, 0, [0, 0xA4], by decide +kernel⟩,
    ⟨(w0 []).modAerial 0 (fun x => { x with exchangeEnd := some 9 }), 0, 1, [], by decide +kernel⟩,
    ⟨(w0 []).modAerial 0 (fun x => { x with exchangeEnd := some 9, card := some ⟨false, [8, 1, 2, 3], false, 0, 4⟩ }), 0, some 1, [], by decide +kernel⟩,
    ⟨(w0 []).modAerial 0 (fun x => { x with exchangeEnd := some 9 }), 0, [0x90, 0], by decide +kernel⟩,
    ⟨(w0 []).modAerial 0 (fun x => { x with exchangeEnd := some 0 }), 0, by decide +kernel⟩,
    ⟨emuState 0 [], by decide +kernel⟩,
    ⟨emuState 1 [], by decide +kernel⟩,
    ⟨{ w0 [(k02CadenceCount, 40000)] with emulation := { waiting := some 0 } }, 0, by decide +kernel⟩,
    ⟨{ w0 [(k02CadenceCount, 270)] with emulation := { waiting := some 0 } }, 0, by decide +kernel⟩⟩

theorem witness_TagRows :
    (∃ s : State, s.tag.picc = .idle ∧ s.tag.prog = none) ∧
    (∃ s : State, s.tag.picc = .halt ∧ s.tag.prog = none) ∧
    (∃ s : State, ∃ l : Nat, ∃ n : Nat, ∃ u : Nat, s.tag.prog.isSome = true) ∧
    (∃ s : State, ∃ h : Bool, ∃ l : Nat, ∃ n : Nat, ∃ u : Nat, s.tag.picc = .ready l h ∧ s.tag.prog = none ∧ n < 40 ∧ u % 2 ^ n = levelBits l % 2 ^ n) ∧
    (∃ s : State, ∃ h : Bool, ∃ l : Nat, ∃ n : Nat, ∃ u : Nat, s.tag.picc = .ready l h ∧ s.tag.prog = none ∧ n ≤ 40 ∧ u % 2 ^ n ≠ levelBits l % 2 ^ n) ∧
    (∃ s : State, ∃ h : Bool, s.tag.picc = .ready 1 h ∧ s.tag.prog = none) ∧
    (∃ s : State, ∃ h : Bool, s.tag.picc = .ready 2 h ∧ s.tag.prog = none) ∧
    (∃ s : State, s.tag.picc = .active) ∧
    (∃ s : State, ∃ page : Nat, s.tagServes = true ∧ page < 516) ∧
    (∃ s : State, ∃ page : Nat, ∃ data : List Byte, s.tagServes = true ∧ inSlot (shadowSlot s.tag) page = true) ∧
    (∃ s : State, ∃ page : Nat, ∃ data : List Byte, s.tagServes = true ∧ page ≠ 133 ∧ page ≠ 134 ∧ inSlot (shadowSlot s.tag) page = false) ∧
    (∃ s : State, ∃ data : List Byte, s.tagServes = true ∧ markerAccepted s.tag data = true) ∧
    (∃ s : State, s.tag.prog = none) ∧
    (∃ s : State, s.tag.fdet = false) ∧
    (∃ s : State, ∃ t0 : Nat, s.tag.fieldGone = some t0 ∧ s.tag.fdet = true ∧ s.tag.field = false ∧ s.reached ((t0 + 800) % ccMod) = true) ∧
    (∃ s : State, ∃ i : Nat, s.modes.powered = true ∧ s.tag.field = false ∧ s.tag.prog = none ∧ tagPage s.tag (4 + i) ≠ (s.identityArea.drop (4 * i)).take 4 ∧ i < 128 ∧ (∀ j < i, tagPage s.tag (4 + j) = (s.identityArea.drop (4 * j)).take 4)) ∧
    (∃ s : State, ((∀ i < 128, tagPage s.tag (4 + i) = (s.identityArea.drop (4 * i)).take 4) ∨ s.tag.field = true)) ∧
    (∃ s : State, ∃ page : Nat, ∃ data : List Byte, ∃ ok : Bool, ∃ t : State, exec (.tagWrite page data ok) s = .next t) ∧
    (∃ s : State, ∃ page : Nat, ∃ data : List Byte, ∃ ok : Bool, ∃ t : State, ∃ p : Nat, ∃ d : List Byte, exec (.tagWrite page data ok) s = .next t ∧ t.tag.prog = some (.page p d) ∧ t.tag.prog ≠ s.tag.prog) :=
  ⟨⟨{ w0 [(k02CadenceCount, 1000)] with tag := { picc := .idle } }, by decide +kernel⟩,
    ⟨{ w0 [(k02CadenceCount, 1000)] with tag := { picc := .halt } }, by decide +kernel⟩,
    ⟨{ w0 [(k02CadenceCount, 1000)] with tag := { prog := some (.page 4 []) } }, 1, 0, 0, by decide +kernel⟩,
    ⟨{ w0 [(k02CadenceCount, 1000)] with tag := { picc := .ready 1 false } }, false, 1, 0, 0, rfl, rfl, by decide, by simp only [Nat.pow_zero, Nat.mod_one]⟩,
    ⟨{ w0 [(k02CadenceCount, 1000)] with tag := { picc := .ready 1 false } }, false, 1, 40, levelBits 1 + 1, rfl, rfl, by decide, by omega⟩,
    ⟨{ w0 [(k02CadenceCount, 1000)] with tag := { picc := .ready 1 false } }, false, by decide +kernel⟩,
    ⟨{ w0 [(k02CadenceCount, 1000)] with tag := { picc := .ready 2 true } }, true, by decide +kernel⟩,
    ⟨{ w0 [(k02CadenceCount, 1000)] with tag := { picc := .active } }, by decide +kernel⟩,
    ⟨{ w0 [(k02CadenceCount, 1000)] with tag := { picc := .active } }, 515, by decide +kernel⟩,
    ⟨{ w0 [(k02CadenceCount, 1000)] with tag := { picc := .active } }, slotPage (shadowSlot {}), [1, 2, 3, 4], by decide +kernel⟩,
    ⟨{ w0 [(k02CadenceCount, 1000)] with tag := { picc := .active } }, 0, [], by decide +kernel⟩,
    ⟨markerState, markerData, by decide +kernel, marker_accepted⟩,
    ⟨{ w0 [(k02CadenceCount, 1000)] with tag := { prog := none } }, by decide +kernel⟩,
    ⟨{ w0 [(k02CadenceCount, 1000)] with tag := { fdet := false } }, by decide +kernel⟩,
    ⟨{ w0 [(k02CadenceCount, 1000)] with tag := { fdet := true, fieldGone := some 0 } }, 0, by decide +kernel⟩,
    ⟨{ w0 [(k02CadenceCount, 1000)] with tag := { prog := none } }, 0, rfl, by decide +kernel⟩,
    ⟨{ w0 [] with tag := { field := true } }, Or.inr rfl⟩,
    ⟨w0 [], 0, [], true, tagWrite 0 [] true (w0 []), rfl⟩,
    ⟨{ w0 [(k02CadenceCount, 1000)] with tag := { picc := .active } }, slotPage 0, [1, 2, 3, 4], true, tagWrite (slotPage 0) [1, 2, 3, 4] true ({ w0 [(k02CadenceCount, 1000)] with tag := { picc := .active } }), slotPage 0, [1, 2, 3, 4], rfl, by decide +kernel⟩⟩

theorem witness_PanelRows :
    (∃ s : State, ∃ k : Nat, k < 16 ∧ s.keypad.pressed.getD k false = false ∧ 20 ≤ s.keypad.runs.getD k 0) ∧
    (∃ s : State, ∃ k : Nat, k < 16 ∧ s.keypad.pressed.getD k false = true ∧ 20 ≤ s.keypad.runs.getD k 0) ∧
    (∃ s : State, s.flag k23TokenEntry = true ∧ s.keypad.digits.length < 20) ∧
    (∃ s : State, s.flag k23TokenEntry = true) ∧
    (∃ s : State, s.keypad.digits ≠ [] ∧ s.flag k23TokenEntry = true ∧ s.reached ((s.keypad.lastKey + secTicks (s.getN k23EntryTimeout)) % ccMod) = true) ∧
    (∃ s : State, ∃ sid : Nat, ∃ v : Nat, s.rowPasses sid k24UpdateRequest v = true ∧ rectOk (s.getN k24Width) (s.getN k24Height) v = true ∧ s.display.queue.length < 16 ∧ s.flag k24CrackState = false ∧ s.pf.active = false ∧ s.getN k24EngineState ≠ 4) ∧
    (∃ s : State, ∃ sid : Nat, ∃ v : Nat, s.rowPasses sid k24UpdateRequest v = true ∧ rectOk (s.getN k24Width) (s.getN k24Height) v = true ∧ 16 ≤ s.display.queue.length) ∧
    (∃ s : State, ∃ low : Bool, ∃ high : Bool, ∃ r : Nat, s.display.queue = [r] ∧ s.pf.active = false ∧ s.firmwareUp = true ∧ s.admissionDue = true ∧ s.loadTable.display.table = []) ∧
    (∃ s : State, ∃ low : Bool, ∃ high : Bool, ∃ r : Nat, ∃ i : Nat, s.display.queue = [r] ∧ s.pf.active = false ∧ s.firmwareUp = true ∧ s.admissionDue = true ∧ s.loadTable.display.table ≠ [] ∧ s.loadTable.scanFits = true ∧ s.loadTable.admissible [] r = some i ∧ loopClosed low high = true ∧ ((s.display.goodAt.isSome = true → s.loadTable.tempRange.isSome = true))) ∧
    (∃ s : State, ∃ low : Bool, ∃ high : Bool, ∃ r : Nat, ∃ i : Nat, s.display.queue = [r] ∧ s.pf.active = false ∧ s.firmwareUp = true ∧ s.admissionDue = true ∧ s.loadTable.display.table ≠ [] ∧ s.loadTable.scanFits = true ∧ s.loadTable.admissible [] r = some i ∧ loopClosed low high = false) ∧
    (∃ s : State, ∃ u : List Nat, ∃ n : Nat, s.display.nextFrame = some n ∧ s.reached n = true ∧ s.pf.active = false ∧ s.slotsInFlight = []) ∧
    (∃ s : State, ∃ reg : Nat, ∃ temp : Int, s.display.en = true ∧ s.display.goodAt = none ∧ s.display.enOff = none ∧ s.since s.display.enAt ≤ powerTicks ∧ s.since s.display.enAt % 8 = 0 ∧ reg &&& s.getN k24PowerGoodMask = s.getN k24PowerGoodMask ∧ s.slotsInFlight = []) ∧
    (∃ s : State, s.display.en = true ∧ s.display.goodAt = none ∧ s.display.enOff = none ∧ powerTicks ≤ s.since s.display.enAt) ∧
    (∃ s : State, ∃ i : Nat, s.display.idleSince = some i ∧ s.slotsInFlight = [] ∧ s.display.queue = [] ∧ s.reached ((i + msTicks (s.getN k24IdleTime)) % ccMod) = true) ∧
    (∃ s : State, ∃ g : Nat, ∃ v : Int, s.display.goodAt = some g ∧ s.display.en = true ∧ 0 < s.since g ∧ s.since g % 480000 = 0) ∧
    (∃ s : State, ∃ sid : Nat, s.rowPasses sid k24ClearCrack 1 = true) ∧
    (∃ s : State, ∃ sid : Nat, ∃ low : Bool, ∃ high : Bool, s.rowPasses sid k24ClearCrack 1 = true ∧ ((low = true ∨ high = false))) ∧
    (∃ s : State, ∃ sid : Nat, ∃ x : Nat, s.rowPasses sid k24DrawData x = true ∧ s.getN k24DrawOffset < drawWords) ∧
    (∃ s : State, ∃ sid : Nat, s.checkRead sid k24DrawData = stOk ∧ s.getN k24DrawOffset < drawWords) ∧
    (∃ s : State, ∃ w : Nat, s.getN k24DrawOffset < drawWords) ∧
    (∃ s : State, ∃ w : Nat, ∃ j : Nat, s.getN k24DrawOffset < drawWords ∧ j ≠ s.getN k24DrawOffset) :=
  ⟨⟨{ w0 [] with keypad := { runs := [20] } }, 0, by decide +kernel⟩,
    ⟨{ w0 [] with keypad := { pressed := [true], runs := [20] } }, 0, by decide +kernel⟩,
    ⟨w0 [(k23TokenEntry, 1)], by decide +kernel⟩,
    ⟨w0 [(k23TokenEntry, 1)], by decide +kernel⟩,
    ⟨{ w0 [(k23TokenEntry, 1), (k02CadenceCount, 10 ^ 8)] with keypad := { digits := [1] } }, by decide +kernel⟩,
    ⟨wr 1 [], 1, 4, by decide +kernel⟩,
    ⟨{ wr 1 [] with display := { queue := List.replicate 16 4 } }, 1, 4, by decide +kernel⟩,
    ⟨{ w0 [] with display := { queue := [4] } }, false, true, 4, by decide +kernel⟩,
    ⟨{ w0 [(k24SlotState 23, 1), (k24Rectangle 23, (2 ^ 37 + 2 ^ 26 : Int))] with display := { queue := [4], table := [2 ^ 47, 2 ^ 47, 2 ^ 47, 2 ^ 47] } }, false, true, 4, 0, by decide +kernel⟩,
    ⟨{ w0 [(k24SlotState 23, 1), (k24Rectangle 23, (2 ^ 37 + 2 ^ 26 : Int))] with display := { queue := [4], table := [2 ^ 47, 2 ^ 47, 2 ^ 47, 2 ^ 47] } }, true, true, 4, 0, by decide +kernel⟩,
    ⟨{ w0 [] with display := { nextFrame := some 0 } }, [], 0, by decide +kernel⟩,
    ⟨{ w0 [] with display := { en := true } }, 255, 20, by decide +kernel⟩,
    ⟨{ w0 [(k02CadenceCount, 400)] with display := { en := true } }, by decide +kernel⟩,
    ⟨{ w0 [(k02CadenceCount, 100000)] with display := { idleSince := some 0 } }, 0, by decide +kernel⟩,
    ⟨{ w0 [(k02CadenceCount, 480000)] with display := { en := true, goodAt := some 0 } }, 0, 5, by decide +kernel⟩,
    ⟨wr 2 [], 1, by decide +kernel⟩,
    ⟨wr 2 [], 1, true, true, by decide +kernel⟩,
    ⟨wr 1 [], 1, 5, by decide +kernel⟩,
    ⟨wr 1 [], 1, by decide +kernel⟩,
    ⟨w0 [], 5, by decide +kernel⟩,
    ⟨w0 [], 5, 1, by decide +kernel⟩⟩

theorem witness_VaultRows :
    (∃ s : State, ∃ source : Nat, 1 ≤ source ∧ source ≤ 8 ∧ source ≠ 6 ∧ s.vault.root.isSome = true) ∧
    (∃ s : State, s.modes.powered = true ∧ s.vault.vbatNoticed = false) ∧
    (∃ s : State, s.modes.powered = true ∧ s.rngOk = true) ∧
    (∃ s : State, ∃ sid : Nat, ∃ i : Nat, s.rowPasses sid (k28Bump (8 + i)) 1 = true ∧ s.generation i < 65535) ∧
    (∃ s : State, ∃ sid : Nat, ∃ i : Nat, s.rowPasses sid (k28Bump (8 + i)) 1 = true ∧ 65535 ≤ s.generation i) ∧
    (∃ s : State, ∃ sid : Nat, ∃ k : Nat, ∃ nonce : Nat, ∃ c : Nat, ∃ len : Nat, ∃ tag : Nat, s.rowPasses sid (k28SlotValue k) (keyBlk nonce c len tag) = true) ∧
    (∃ s : State, ∃ sid : Nat, ∃ k : Nat, ∃ q : Nat, ∃ v : Int, 16 ≤ k) ∧
    (∃ s : State, ∃ d : Nat, ∃ k : Nat, ∃ l : Nat, ∃ key : Nat, (s.wrapSecret d).isSome = true) ∧
    (∃ s : State, ∃ b : Blob, (b.gen ≠ s.wrapGen b.domain ∨ b.groot ≠ s.getN k28RootGeneration)) ∧
    (∃ s : State, ∃ sid : Nat, s.rowPasses sid k28ReplaceRoot 1 = true ∧ s.workstand = true) ∧
    (∃ s : State, ∃ sid : Nat, ∃ point : Nat, s.rowPasses sid k28OwnerKey (blkOf (bytesBE 97 point)) = true ∧ s.workstand = true ∧ s.flag k28OwnerKeyProgrammed = false ∧ (blkBytes (blkOf (bytesBE 97 point))).length = 97) ∧
    (∃ s : State, ∃ i : Nat, i < 8) ∧
    (∃ s : State, ∃ i : Nat, ∃ k, i < 8 ∧ slotDomain k = i ∧ k ∈ keySlots) ∧
    (∃ s : State, ∃ i : Nat, ∃ k, i < 8 ∧ slotDomain k ≠ i ∧ k ∈ keySlots) :=
  ⟨⟨{ w0 [] with vault := { root := some 7 } }, 3, by decide +kernel⟩,
    ⟨w0 [], by decide +kernel⟩,
    ⟨w0 [], by decide +kernel⟩,
    ⟨wm [], 1, 0, by decide +kernel⟩,
    ⟨wm [(k28DomainGeneration 8, 65535)], 1, 0, by decide +kernel⟩,
    ⟨wr 2 [], 1, 16, 0, 0, 16, 0, by decide +kernel⟩,
    ⟨w0 [], 1, 16, 1, 0, by decide +kernel⟩,
    ⟨{ w0 [] with vault := { root := some 7 } }, 0, 16, 32, 9, by decide +kernel⟩,
    ⟨w0 [], ⟨0, 16, 1, 0, 0, 32, 9, none⟩, by decide +kernel⟩,
    ⟨wr 2 [(k01Workstand, 1)], 1, by decide +kernel⟩,
    ⟨wr 2 [(k01Workstand, 1)], 1, 0, by decide +kernel⟩,
    ⟨w0 [], 7, by decide +kernel⟩,
    ⟨w0 [], 2, 16, by decide +kernel⟩,
    ⟨w0 [], 3, 16, by decide +kernel⟩⟩

theorem witness_ImageKeyIsAccepted :
    (∃ s : State, ∃ r : Nat, ∃ w : List Nat, ∃ key : List Nat, key.length = 97 ∧ ((w.drop 20).take 17).flatMap wordBytes = key ++ [0, 0, 0, 0, 0]) :=
  ⟨w0 [], 0, List.replicate 37 0, List.replicate 97 0, by decide +kernel⟩

theorem witness_TransportRows :
    (∃ s : State, ∃ ctrl : Nat, ∃ f : CanFrame, s.modes.powered = true ∧ s.lease.fwUp = true ∧ s.modes.booted = true ∧ s.carries (.can ctrl (field f.ident 13 7)) = true ∧ f.extended = true ∧ f.fdf = true ∧ f.brs = true ∧ field f.ident 28 26 ≠ 0 ∧ 1 ≤ field f.ident 13 7 ∧ field f.ident 13 7 ≤ 120 ∧ ((field f.ident 20 14 = s.getN (k04NodeID ctrl) ∨ field f.ident 20 14 = 0)) ∧ field f.ident 6 0 = 64 ∧ s.reassembly ctrl (field f.ident 13 7) = none) ∧
    (∃ s : State, ∃ ctrl : Nat, ∃ f : CanFrame, (f.brs = false ∨ f.fdf = false ∨ f.extended = false)) ∧
    (∃ s : State, ∃ ctrl : Nat, ∃ node : Nat, ∃ x : Reassembly, s.reassembly ctrl node = some x ∧ 400 < s.since x.tick) ∧
    (∃ s : State, ∃ addr : Nat, ∃ port : Nat, ∃ data : List Byte, ∃ p : List Byte, ∃ b : Byte, s.netUp = true ∧ 2 ^ 32 ≤ addr ∧ data = b :: 1 :: p ∧ 32 ≤ b.toNat ∧ 6 ≤ p.length ∧ p.length = pduTotal (natBytes p)) ∧
    (∃ s : State, ∃ src : Nat, ∃ payload : List Byte, s.netUp = true) ∧
    (∃ s : State, ∃ src : Nat, ∃ payload : List Byte, s.netUp = true ∧ s.getN k04IPv4Address = 0) ∧
    (∃ s : State, ∃ src : Nat, s.netUp = true ∧ s.getN k04IPv4Address ≠ 0) :=
  ⟨⟨wr 2 [(k04KODEnable 1, 1)], 1, (⟨true, true, true, 2 ^ 26 + 5 * 128 + 64, []⟩ : CanFrame), by decide +kernel⟩,
    ⟨w0 [], 1, (⟨true, true, false, 0, []⟩ : CanFrame), by decide +kernel⟩,
    ⟨{ w0 [(k02CadenceCount, 500)] with kod := { reasm := [⟨1, 5, 1, 1, 1, [], 0⟩] } }, 1, 5, ⟨1, 5, 1, 1, 1, [], 0⟩, by decide +kernel⟩,
    ⟨wr 2 [], 2 ^ 32, 5, [32, 1, 0, 0, 0, 0, 0, 0], [0, 0, 0, 0, 0, 0], 32, by decide +kernel⟩,
    ⟨wr 2 [], 5, [], by decide +kernel⟩,
    ⟨wr 2 [(k04IPv4Address, 0)], 5, [], by decide +kernel⟩,
    ⟨wr 2 [(k04IPv4Address, 5)], 5, by decide +kernel⟩⟩

theorem witness_RequestsTurnedAway :
    (∃ s : State, ∃ r : KodReq, ∃ service : Nat, ∃ body : List Nat, ∃ run : Service, s.kodUp = true ∧ s.carries r.ep = true ∧ r.broadcast = false) :=
  ⟨up [] {}, loginReq 0, 8, [], fun s => (s, none), by decide +kernel⟩

theorem witness_ServiceRows :
    (∃ s : State, ∃ r : KodReq, accepts s r 8 []) ∧
    (∃ s : State, ∃ r : KodReq, accepts s r 7 []) ∧
    (∃ s : State, ∃ r : KodReq, ∃ addrs : List Nat, accepts s r 1 (readBody addrs) ∧ addrs ≠ [] ∧ addrs.length ≤ 32 ∧ 1 + ((begun s r 1 (readBody addrs)).readItems r.sid addrs).2.length ≤ 1010) ∧
    (∃ s : State, ∃ r : KodReq, ∃ addrs : List Nat, accepts s r 1 (readBody addrs) ∧ (addrs = [] ∨ 32 < addrs.length)) ∧
    (∃ s : State, ∃ r : KodReq, ∃ items : List WItem, accepts s r 2 (writeBody items) ∧ items ≠ [] ∧ items.length ≤ 16 ∧ (validateFrom r.sid r.seq items items 0 (begun s r 2 (writeBody items)).withWaiting).1 = stOk) ∧
    (∃ s : State, ∃ r : KodReq, ∃ k : Nat, ∃ n : Nat, accepts s r 3 (bytesBE 3 k ++ bytesBE 2 n) ∧ s.checkRead r.sid k = stOk ∧ isWindow k = true ∧ n ≠ 0 ∧ n ≤ 167) ∧
    (∃ s : State, ∃ r : KodReq, ∃ k : Nat, ∃ ws : List Nat, accepts s r 4 (writeRunBody k ObjType.u48.code ws) ∧ (s.object k).isSome = true ∧ isWindow k = true ∧ ws ≠ [] ∧ ws.length ≤ 167) ∧
    (∃ s : State, ∃ r : KodReq, ∃ b : SubReq, accepts s r 9 (subscribeBody b) ∧ (∀ x ∈ s.kod.subs, x ≠ none)) ∧
    (∃ s : State, ∃ r : KodReq, ∃ b : SubReq, ∃ rest : List (Option Subscription), ∃ o : ObjRow, accepts s r 9 (subscribeBody b) ∧ s.kod.subs = none :: rest ∧ b.all = false ∧ s.object b.addr = some o ∧ s.checkRead r.sid b.addr = stOk ∧ ((b.chg = true ∨ b.period ≠ 0)) ∧ 1 ≤ b.nprio ∧ b.nprio ≤ 7 ∧ b.period ≤ 6000 ∧ b.deadband = 0) ∧
    (∃ s : State, ∃ r : KodReq, ∃ n : Nat, ∃ x : Subscription, accepts s r 10 [n % 256] ∧ s.kod.subs.getD n none = some x ∧ x.sid = r.sid) ∧
    (∃ s : State, ∃ r : KodReq, s.kodUp = true ∧ s.carries r.ep = true ∧ r.sid = 0) :=
  ⟨⟨ks [] (List.replicate 64 none), kreq 8 ([]), kreq_accepted _ _ _ (by decide +kernel)⟩,
    ⟨ks [] (List.replicate 64 none), kreq 7 ([]), kreq_accepted _ _ _ (by decide +kernel)⟩,
    ⟨ks [] (List.replicate 64 none), kreq 1 (readBody [k24Width]), [k24Width], ⟨kreq_accepted _ _ _ (by decide +kernel), by decide +kernel⟩⟩,
    ⟨ks [] (List.replicate 64 none), kreq 1 (readBody []), [], ⟨kreq_accepted _ _ _ (by decide +kernel), by decide +kernel⟩⟩,
    ⟨ks [] (List.replicate 64 none), kreq 2 (writeBody [⟨k24IdleTime, ObjType.u16.code, 5⟩]), [⟨k24IdleTime, ObjType.u16.code, 5⟩], ⟨kreq_accepted _ _ _ (by decide +kernel), by decide +kernel⟩⟩,
    ⟨ks [] (List.replicate 64 none), kreq 3 (bytesBE 3 k24DrawData ++ bytesBE 2 1), k24DrawData, 1, ⟨kreq_accepted _ _ _ (by decide +kernel), by decide +kernel⟩⟩,
    ⟨ks [] (List.replicate 64 none), kreq 4 (writeRunBody k24DrawData ObjType.u48.code [1]), k24DrawData, [1], ⟨kreq_accepted _ _ _ (by decide +kernel), by decide +kernel⟩⟩,
    ⟨ks [] ([some (⟨1, ⟨k24Width, true, false, 0, 0, 1⟩, 0, [], none, false⟩ : Subscription)]), kreq 9 (subscribeBody (⟨k24Width, true, false, 0, 0, 1⟩ : SubReq)), (⟨k24Width, true, false, 0, 0, 1⟩ : SubReq), ⟨kreq_accepted _ _ _ (by decide +kernel), by decide +kernel⟩⟩,
    ⟨ks [] (List.replicate 64 none), kreq 9 (subscribeBody (⟨k24Width, true, false, 0, 0, 1⟩ : SubReq)), (⟨k24Width, true, false, 0, 0, 1⟩ : SubReq), List.replicate 63 none, _, ⟨kreq_accepted _ _ _ (by decide +kernel), by decide +kernel, rfl, rfl, by decide +kernel⟩⟩,
    ⟨ks [] ([some (⟨1, ⟨k24Width, true, false, 0, 0, 1⟩, 0, [], none, false⟩ : Subscription)]), kreq 10 ([0]), 0, (⟨1, ⟨k24Width, true, false, 0, 0, 1⟩, 0, [], none, false⟩ : Subscription), ⟨kreq_accepted _ _ _ (by decide +kernel), by decide +kernel⟩⟩,
    ⟨up [] {}, loginReq 0, by decide +kernel⟩⟩

theorem witness_LoginRows :
    (∃ s : State, ∃ r : KodReq, ∃ role : Nat, ∃ hn : Nat, s.kodUp = true ∧ s.carries r.ep = true ∧ r.broadcast = false ∧ r.sid = 0 ∧ role ≤ 4 ∧ s.kod.lockEnd.getD role 0 = 0 ∧ (s.credential role).isSome = true ∧ s.cryptoOk = true ∧ s.rngOk = true ∧ s.sessionState 1 = 0) ∧
    (∃ s : State, ∃ r : KodReq, ∃ role : Nat, ∃ hn : Nat, s.kodUp = true ∧ s.carries r.ep = true ∧ r.broadcast = false ∧ r.sid = 0 ∧ role ≤ 4 ∧ s.kod.lockEnd.getD role 0 ≠ 0 ∧ s.sessionState 1 = 0) ∧
    (∃ s : State, ∃ r : KodReq, ∃ proof : Nat, s.kodUp = true ∧ s.carries r.ep = true ∧ r.broadcast = false ∧ r.sid ≠ 0 ∧ s.sessionState r.sid = 1 ∧ (s.session r.sid).ep = some r.ep ∧ s.since (s.session r.sid).since ≤ 16000 ∧ r.seq = 1 ∧ s.cryptoOk = true ∧ r.sid - 1 < s.kod.sessions.length ∧ proof = Config.hmacSha256 (s.session r.sid).key (0x48 :: s.loginM r.ep r.sid (s.roleOf r.sid) (s.session r.sid).hostNonce (s.session r.sid).deviceNonce) / 2 ^ 128) ∧
    (∃ s : State, ∃ r : KodReq, ∃ proof : Nat, s.kodUp = true ∧ s.carries r.ep = true ∧ r.broadcast = false ∧ r.sid ≠ 0 ∧ s.sessionState r.sid = 1 ∧ (s.session r.sid).ep = some r.ep ∧ s.since (s.session r.sid).since ≤ 16000 ∧ r.seq = 1 ∧ s.cryptoOk = true ∧ proof ≠ Config.hmacSha256 (s.session r.sid).key (0x48 :: s.loginM r.ep r.sid (s.roleOf r.sid) (s.session r.sid).hostNonce (s.session r.sid).deviceNonce) / 2 ^ 128) ∧
    (∃ s : State, ∃ role : Nat, s.kod.lockEnd.getD role 0 ≠ 0 ∧ s.reached (s.kod.lockEnd.getD role 0) = true) ∧
    (∃ s : State, ∃ sid : Nat, s.sessionState sid = 1 ∧ 16000 ≤ s.since (s.session sid).since) ∧
    (∃ s : State, ∃ sid : Nat, s.sessionState sid = 2 ∧ secTicks (s.getN k04IdleTimeout) ≤ s.since (s.session sid).since) ∧
    (∃ s : State, ∃ sid : Nat, ∃ target : Nat, s.rowPasses sid (k04Close (15 + target)) 1 = true) ∧
    (∃ s : State, ∃ sid : Nat, ∃ ctrl : Nat, ∃ v : Int, s.rowPasses sid (k04KODEnable ctrl) v = true) ∧
    (∃ s : State, ∃ inst : Nat, ((∀ c ∈ s.kod.changes, keyInst c.1 = inst → s.reached c.2.2 = false))) ∧
    (∃ s : State, ∃ k : Nat, ∃ v : Int, ∃ at_ : Nat, s.kod.changes = [(k, v, at_)] ∧ s.reached at_ = true ∧ k = k04DataRate 1) ∧
    (∃ s : State, s.cc % 80 = 0 ∧ s.kodUp = true) ∧
    (∃ s : State, ∃ sid : Nat, ∃ reason : Nat, s.sessionState sid = 2 ∧ sid ≠ 0) ∧
    (∃ s : State, ∃ sid : Nat, ∃ reason : Nat, ∃ x : Subscription, s.sessionState sid = 2 ∧ sid ≠ 0 ∧ some x ∈ (s.endKod sid reason).kod.subs) :=
  ⟨⟨up [] {}, loginReq 0, 2, 9, by decide +kernel⟩,
    ⟨up [] { lockEnd := [0, 0, 5] }, loginReq 0, 2, 9, by decide +kernel⟩,
    ⟨pend [], loginReq 1, Config.hmacSha256 ((pend []).session 1).key (0x48 :: (pend []).loginM (.udp 1 1) 1 ((pend []).roleOf 1) ((pend []).session 1).hostNonce ((pend []).session 1).deviceNonce) / 2 ^ 128, ⟨by decide +kernel, rfl, rfl, by decide +kernel, by decide +kernel, by decide +kernel, by decide +kernel, rfl, by decide +kernel, by decide +kernel, rfl⟩⟩,
    ⟨pend [], loginReq 1, Config.hmacSha256 ((pend []).session 1).key (0x48 :: (pend []).loginM (.udp 1 1) 1 ((pend []).roleOf 1) ((pend []).session 1).hostNonce ((pend []).session 1).deviceNonce) / 2 ^ 128 + 1, ⟨by decide +kernel, rfl, rfl, by decide +kernel, by decide +kernel, by decide +kernel, by decide +kernel, rfl, by decide +kernel, by simp only [loginReq]; omega⟩⟩,
    ⟨up [(k02CadenceCount, 10)] { lockEnd := [5] }, 0, by decide +kernel⟩,
    ⟨pend [(k02CadenceCount, 16000)], 1, by decide +kernel⟩,
    ⟨ks [(k02CadenceCount, 10 ^ 9)] [], 1, by decide +kernel⟩,
    ⟨wr 2 [], 1, 1, by decide +kernel⟩,
    ⟨wr 2 [], 1, 1, 1, by decide +kernel⟩,
    ⟨w0 [], 1, by decide +kernel⟩,
    ⟨up [] { changes := [(k04DataRate 1, 3, 0)] }, k04DataRate 1, 3, 0, by decide +kernel⟩,
    ⟨up [] {}, by decide +kernel⟩,
    ⟨wr 2 [], 1, 1, by decide +kernel⟩,
    ⟨ks [] [some ⟨2, ⟨k24Width, true, false, 0, 0, 1⟩, 0, [], none, false⟩], 1, 1, ⟨2, ⟨k24Width, true, false, 0, 0, 1⟩, 0, [], none, false⟩, by decide +kernel⟩⟩

theorem witness_BulkRows :
    (∃ s : State, ∃ sid : Nat, ∃ r : Nat, s.rowPasses sid (k0FCommand r) 1 = true ∧ ((s.regionState r = 0 ∨ s.regionState r = 5)) ∧ s.getN (k0FDeclaredSize r) ≠ 0 ∧ s.getN (k0FDeclaredSize r) ≤ s.regionLimit r) ∧
    (∃ s : State, ∃ sid : Nat, ∃ r : Nat, s.rowPasses sid (k0FCommand r) 1 = true ∧ 1 ≤ s.regionState r ∧ s.regionState r ≤ 4) ∧
    (∃ s : State, ∃ sid : Nat, ∃ r : Nat, ∃ w : Nat, s.rowPasses sid (k0FData r) w = true ∧ checkData sid r s = stOk) ∧
    (∃ s : State, ∃ sid : Nat, ∃ r : Nat, ∃ o : Nat, s.rowPasses sid (k0FOffset r) o = true ∧ s.get (k0FFlushMark r) ≤ (o : Int) ∧ (o : Int) ≤ s.get (k0FDeclaredSize r)) ∧
    (∃ s : State, ∃ sid : Nat, ∃ r : Nat, s.rowPasses sid (k0FCommand r) 2 = true ∧ s.regionState r = 1 ∧ s.regionOwner r = sid ∧ s.getN (k0FDeclaredSize r) ≤ s.getN (k0FHighWater r)) ∧
    (∃ s : State, ∃ sid : Nat, ∃ r : Nat, s.rowPasses sid (k0FCommand r) 3 = true ∧ s.regionState r = 3 ∧ (s.region r).committing = false ∧ r ≠ 0) ∧
    (∃ s : State, ∃ sid : Nat, ∃ r : Nat, s.rowPasses sid (k0FCommand r) 4 = true ∧ 1 ≤ s.regionState r ∧ s.regionState r ≤ 3 ∧ s.regionOwner r = sid) ∧
    (∃ s : State, ∃ r : Nat, s.regionState r = 1 ∧ s.pf.active = false) ∧
    (∃ s : State, ∃ r : Nat, ∃ o : Nat, ∃ w : Nat, r < s.kod.regions.length ∧ s.getN (k0FHighWater r) = o ∧ (∀ p ∈ (s.region r).staged, p.1 < o)) ∧
    (∃ s : State, ∃ r : Nat, ∃ o : Nat, ∃ w : Nat, ∃ j : Nat, r < s.kod.regions.length ∧ s.getN (k0FHighWater r) = o ∧ (∀ p ∈ (s.region r).staged, p.1 < o) ∧ j ≠ o) :=
  ⟨⟨wr 2 [(k0FDeclaredSize 0, 40)], 1, 0, by decide +kernel⟩,
    ⟨wr 2 [(k0FState 0, 1), (k0FOwner 0, 1)], 1, 0, by decide +kernel⟩,
    ⟨wr 2 [(k0FState 0, 1), (k0FOwner 0, 1), (k0FDeclaredSize 0, 40)], 1, 0, 5, by decide +kernel⟩,
    ⟨wr 2 [(k0FState 0, 1), (k0FOwner 0, 1), (k0FDeclaredSize 0, 40)], 1, 0, 5, by decide +kernel⟩,
    ⟨wr 2 [(k0FState 0, 1), (k0FOwner 0, 1), (k0FDeclaredSize 0, 40), (k0FHighWater 0, 40)], 1, 0, by decide +kernel⟩,
    ⟨wr 2 [(k0FState 5, 3), (k0FOwner 5, 1)], 1, 5, by decide +kernel⟩,
    ⟨wr 2 [(k0FState 0, 2), (k0FOwner 0, 1)], 1, 0, by decide +kernel⟩,
    ⟨w0 [(k0FState 0, 1)], 0, by decide +kernel⟩,
    ⟨w0 [], 0, 0, 5, by decide +kernel⟩,
    ⟨w0 [], 0, 0, 5, 1, by decide +kernel⟩⟩

theorem witness_UpdateRows :
    (∃ s : State, ∃ r : Nat, ∃ st : Nat, ∃ i : Nat, s.regionState r = 2 ∧ s.pf.active = false ∧ (s.flushRegion r).headCheck r ((s.flushRegion r).getN (k0FDeclaredSize r)) (((s.flushRegion r).region r).words ((s.flushRegion r).otherSlot r)) = some (st, i) ∧ i ≠ 1) ∧
    (∃ s : State, s.regionState 0 = 2 ∧ s.pf.active = false ∧ s.regionOwner 0 ≠ 255) ∧
    (∃ s : State, ∃ r : Nat, 2 ≤ r ∧ r ≤ 5 ∧ (s.region r).committing = true ∧ (s.region r).recorded = true ∧ s.regionState r = 3) ∧
    (∃ s : State, ∃ e : Nat, s.flash.trialEnd = some e ∧ s.regionState 0 = 4 ∧ s.dueNext e = true) ∧
    (∃ s : State, ∃ sid : Nat, s.rowPasses sid k31Confirm 1 = true ∧ s.regionState 0 = 4) ∧
    (∃ s : State, ∃ sid : Nat, s.rowPasses sid k31RejectTrial 1 = true ∧ s.regionState 0 = 4) ∧
    (∃ s : State, s.regionState 0 = 4 ∧ s.getN k31ConfirmationMode = 0 ∧ s.firmwareUp = true ∧ s.getN k02PlanState = 1 ∧ (s.group (s.getN k09ReferenceGroup)).valid = true) ∧
    (∃ s : State, ∃ k : Nat, ∃ v : Int, ∃ rest : List (Nat × Int), s.flash.logDue = (k, v) :: rest ∧ s.logTurn = true) ∧
    (∃ s : State, s.runningOp = some .keyStore) :=
  ⟨⟨w0 [(k0FState 0, 2)], 0, stIntegrity, 0, by decide +kernel⟩,
    ⟨w0 [(k0FState 0, 2), (k0FOwner 0, 1)], by decide +kernel⟩,
    ⟨(w0 [(k0FState 3, 3)]).modRegion 3 fun x => { x with committing := true, recorded := true }, 3, by decide +kernel⟩,
    ⟨{ w0 [(k0FState 0, 4)] with flash := { trialEnd := some 1 } }, 1, by decide +kernel⟩,
    ⟨wr 2 [(k0FState 0, 4)], 1, by decide +kernel⟩,
    ⟨wr 2 [(k0FState 0, 4)], 1, by decide +kernel⟩,
    ⟨(w0 [(k0FState 0, 4), (k31ConfirmationMode, 0), (k02PlanState, 1)]).modGroup 0 fun g => { g with valid := true }, by decide +kernel⟩,
    ⟨{ w0 [] with flash := { logDue := [(k24IdleTime, 5)] } }, k24IdleTime, 5, [], by decide +kernel⟩,
    ⟨{ w0 [] with flash := { ops := [.keyStore] } }, by decide +kernel⟩⟩

theorem witness_ChainlineTimeRows :
    (∃ s : State, ∃ h : ChlHdr, ∃ mc : Nat, ∃ w : List Nat, ∃ at_ : Nat, ∃ rest : List (Nat × ChlHdr × List Nat × Nat), s.firmwareUp = true ∧ s.chainline.commands = (1, h, w, at_) :: rest ∧ w.getD 1 0 = mc) ∧
    (∃ s : State, ∃ h : ChlHdr, ∃ target : Nat, ∃ mcLow : Nat, ∃ ok : Bool, ∃ w : List Nat, ∃ at_ : Nat, ∃ rest : List (Nat × ChlHdr × List Nat × Nat), s.firmwareUp = true ∧ s.chainline.commands = (2, h, w, at_) :: rest ∧ w.getD 1 0 = target ∧ field (w.getD 2 0) 47 8 = mcLow ∧ bit (w.getD 2 0) 0 = ok ∧ s.mcState = 2) ∧
    (∃ s : State, ∃ h : ChlHdr, ∃ target : Nat, ∃ mcLow : Nat, ∃ ok : Bool, ∃ w : List Nat, ∃ at_ : Nat, ∃ rest : List (Nat × ChlHdr × List Nat × Nat), s.firmwareUp = true ∧ s.chainline.commands = (2, h, w, at_) :: rest ∧ w.getD 1 0 = target ∧ field (w.getD 2 0) 47 8 = mcLow ∧ bit (w.getD 2 0) 0 = ok ∧ s.mcState ≠ 2) ∧
    (∃ s : State, ∃ h : ChlHdr, ∃ mc : Nat, ∃ w : List Nat, ∃ at_ : Nat, ∃ rest : List (Nat × ChlHdr × List Nat × Nat), s.firmwareUp = true ∧ s.chainline.commands = (3, h, w, at_) :: rest ∧ w.getD 1 0 = mc ∧ s.mcState = 2 ∧ s.mcTargetOk mc = true ∧ s.snapshotPending = false) ∧
    (∃ s : State, ∃ h : ChlHdr, ∃ mc : Nat, ∃ w : List Nat, ∃ at_ : Nat, ∃ rest : List (Nat × ChlHdr × List Nat × Nat), s.firmwareUp = true ∧ s.chainline.commands = (4, h, w, at_) :: rest ∧ w.getD 1 0 = mc ∧ s.mcState = 2 ∧ s.mcTargetOk mc = true) ∧
    (∃ s : State, ∃ h : ChlHdr, ∃ ident : Nat, ∃ target : Nat, ∃ mask : Nat, ∃ cap : Nat, ∃ duration : Nat, ∃ start : Nat, ∃ w : List Nat, ∃ at_ : Nat, ∃ rest : List (Nat × ChlHdr × List Nat × Nat), ∃ i : Nat, s.firmwareUp = true ∧ s.chainline.commands = (5, h, w, at_) :: rest ∧ field (w.getD 1 0) 47 16 = ident ∧ field (w.getD 1 0) 15 12 = target ∧ field (w.getD 1 0) 11 9 = mask ∧ field (w.getD 2 0) 47 24 = cap ∧ field (w.getD 2 0) 23 0 = duration ∧ w.getD 3 0 = start ∧ s.mcState = 2 ∧ target ≤ siteNum ∧ s.timeValid = true ∧ s.capSlotFor ident = some i ∧ i ∈ capSlots) ∧
    (∃ s : State, ∃ h : ChlHdr, ∃ ident : Nat, ∃ w : List Nat, ∃ at_ : Nat, ∃ rest : List (Nat × ChlHdr × List Nat × Nat), ∃ i : Nat, s.firmwareUp = true ∧ s.chainline.commands = (6, h, w, at_) :: rest ∧ field (w.getD 1 0) 47 16 = ident ∧ (capSlots.find? fun i => s.getN (k1BCapState i) ≠ 0 && s.getN (k1BCapIdentity i) = ident) = some i) :=
  ⟨⟨{ w0 [(k20MCState, 2)] with chainline := { commands := [(1, (⟨true, 0, 1, 0⟩ : ChlHdr), [0, 100], 0)] } }, (⟨true, 0, 1, 0⟩ : ChlHdr), 100, [0, 100], 0, [], by decide +kernel⟩,
    ⟨{ w0 [(k20MCState, 2)] with chainline := { commands := [(2, (⟨true, 0, 1, 0⟩ : ChlHdr), [0, 100, 1281], 0)] } }, (⟨true, 0, 1, 0⟩ : ChlHdr), 100, 5, true, [0, 100, 1281], 0, [], by decide +kernel⟩,
    ⟨{ w0 [] with chainline := { commands := [(2, (⟨true, 0, 1, 0⟩ : ChlHdr), [0, 100, 1281], 0)] } }, (⟨true, 0, 1, 0⟩ : ChlHdr), 100, 5, true, [0, 100, 1281], 0, [], by decide +kernel⟩,
    ⟨{ w0 [(k20MCState, 2)] with chainline := { commands := [(3, (⟨true, 0, 1, 0⟩ : ChlHdr), [0, 100], 0)] } }, (⟨true, 0, 1, 0⟩ : ChlHdr), 100, [0, 100], 0, [], by decide +kernel⟩,
    ⟨{ w0 [(k20MCState, 2)] with chainline := { commands := [(4, (⟨true, 0, 1, 0⟩ : ChlHdr), [0, 100], 0)] } }, (⟨true, 0, 1, 0⟩ : ChlHdr), 100, [0, 100], 0, [], by decide +kernel⟩,
    ⟨{ w0 [(k20MCState, 2), (k05TimeValid, 1)] with chainline := { commands := [(5, (⟨true, 0, 1, 0⟩ : ChlHdr), [0, 7 * 65536 + 8 * 4096 + 7 * 512, 16 * 2 ^ 24 + 60, 100], 0)] } }, (⟨true, 0, 1, 0⟩ : ChlHdr), 7, 8, 7, 16, 60, 100, [0, 7 * 65536 + 8 * 4096 + 7 * 512, 16 * 2 ^ 24 + 60, 100], 0, [], 48, by decide +kernel⟩,
    ⟨{ w0 [(k1BCapState 48, 1), (k1BCapIdentity 48, 7)] with chainline := { commands := [(6, (⟨true, 0, 1, 0⟩ : ChlHdr), [0, 7 * 65536], 0)] } }, (⟨true, 0, 1, 0⟩ : ChlHdr), 7, [0, 7 * 65536], 0, [], 48, by decide +kernel⟩⟩

theorem witness_ChainlineServiceRows :
    (∃ s : State, ∃ h : ChlHdr, ∃ tid : Nat, ∃ size : Nat, ∃ w : List Nat, ∃ at_ : Nat, ∃ rest : List (Nat × ChlHdr × List Nat × Nat), s.firmwareUp = true ∧ s.chainline.commands = (7, h, w, at_) :: rest ∧ field (w.getD 1 0) 47 16 = tid ∧ field (w.getD 1 0) 15 0 = size ∧ ((s.regionState 2 = 0 ∨ s.regionState 2 = 5)) ∧ size ≠ 0 ∧ size ≤ s.regionLimit 2 ∧ 2 < s.kod.regions.length) ∧
    (∃ s : State, ∃ h : ChlHdr, ∃ tid : Nat, ∃ off : Nat, ∃ words : List Nat, ∃ w : List Nat, ∃ at_ : Nat, ∃ rest : List (Nat × ChlHdr × List Nat × Nat), s.firmwareUp = true ∧ s.chainline.commands = (8, h, w, at_) :: rest ∧ field (w.getD 1 0) 47 16 = tid ∧ field (w.getD 1 0) 15 0 = off ∧ w.drop 2 = words ∧ s.ownsTariff tid = true ∧ s.regionState 2 = 1) ∧
    (∃ s : State, ∃ h : ChlHdr, ∃ tid : Nat, ∃ w : List Nat, ∃ at_ : Nat, ∃ rest : List (Nat × ChlHdr × List Nat × Nat), s.firmwareUp = true ∧ s.chainline.commands = (9, h, w, at_) :: rest ∧ field (w.getD 1 0) 47 16 = tid ∧ s.ownsTariff tid = true ∧ s.regionState 2 = 1 ∧ s.missingWords = []) ∧
    (∃ s : State, ∃ h : ChlHdr, ∃ tid : Nat, ∃ w : List Nat, ∃ at_ : Nat, ∃ rest : List (Nat × ChlHdr × List Nat × Nat), s.firmwareUp = true ∧ s.chainline.commands = (10, h, w, at_) :: rest ∧ field (w.getD 1 0) 47 16 = tid ∧ s.ownsTariff tid = true ∧ 1 ≤ s.regionState 2 ∧ s.regionState 2 ≤ 3) ∧
    (∃ s : State, s.regionOwner 2 = 255 ∧ s.regionState 2 = 1 ∧ s.reached ((s.chainline.tariffLast + secTicks (s.getN k20TariffIdleTimeout)) % ccMod) = true) ∧
    (∃ s : State, ∃ h : ChlHdr, ∃ shadow : Bool, ∃ i : Nat, ∃ w : List Nat, ∃ at_ : Nat, ∃ rest : List (Nat × ChlHdr × List Nat × Nat), s.firmwareUp = true ∧ s.chainline.commands = (11, h, w, at_) :: rest ∧ h.single = true ∧ 1 ≤ h.unit ∧ i ≤ 23 ∧ w.getD 1 0 = readWord shadow [i]) ∧
    (∃ s : State, ∃ h : ChlHdr, ∃ window : Nat, ∃ w : List Nat, ∃ at_ : Nat, ∃ rest : List (Nat × ChlHdr × List Nat × Nat), s.firmwareUp = true ∧ s.chainline.commands = (12, h, w, at_) :: rest ∧ field (w.getD 1 0) 31 0 = window ∧ 1 ≤ window ∧ window ≤ 86400 ∧ s.rngOk = true) ∧
    (∃ s : State, ∃ h : ChlHdr, ∃ window : Nat, ∃ w : List Nat, ∃ at_ : Nat, ∃ rest : List (Nat × ChlHdr × List Nat × Nat), s.firmwareUp = true ∧ s.chainline.commands = (12, h, w, at_) :: rest ∧ field (w.getD 1 0) 31 0 = window ∧ 1 ≤ window ∧ window ≤ 86400 ∧ s.rngOk = false) ∧
    (∃ s : State, s.firmwareUp = true ∧ s.chlOn = true ∧ s.reachedOpt s.chainline.registerAt = true) ∧
    (∃ s : State, s.firmwareUp = true ∧ s.chlOn = true ∧ s.reachedOpt s.chainline.orphanAt = true) ∧
    (∃ s : State, s.firmwareUp = true ∧ s.chlOn = true ∧ s.getN k20RelayNumber0 ≠ 0 ∧ s.reachedOpt s.chainline.helloAt = true) ∧
    (∃ s : State, ∃ h : ChlHdr, ∃ relay : Nat, ∃ veto : Nat, ∃ w : List Nat, ∃ at_ : Nat, ∃ rest : List (Nat × ChlHdr × List Nat × Nat), s.firmwareUp = true ∧ s.chainline.commands = (13, h, w, at_) :: rest ∧ field (w.getD 1 0) 47 41 = relay ∧ field (w.getD 1 0) 40 25 = veto ∧ 1 ≤ relay ∧ relay ≤ 126) ∧
    (∃ s : State, ∃ h : ChlHdr, ∃ seq : Nat, ∃ w : List Nat, ∃ at_ : Nat, ∃ rest : List (Nat × ChlHdr × List Nat × Nat), s.firmwareUp = true ∧ s.chainline.commands = (14, h, w, at_) :: rest ∧ field (w.getD 1 0) 11 0 = seq) :=
  ⟨⟨{ w0 [(k20MCState, 2)] with chainline := { commands := [(7, (⟨true, 0, 1, 0⟩ : ChlHdr), [0, 9 * 65536 + 40], 0)] } }, (⟨true, 0, 1, 0⟩ : ChlHdr), 9, 40, [0, 9 * 65536 + 40], 0, [], by decide +kernel⟩,
    ⟨{ w0 [(k0FOwner 2, 255), (k0FState 2, 1)] with chainline := { commands := [(8, (⟨true, 0, 1, 0⟩ : ChlHdr), [0, 0, 5, 6], 0)] } }, (⟨true, 0, 1, 0⟩ : ChlHdr), 0, 0, [5, 6], [0, 0, 5, 6], 0, [], by decide +kernel⟩,
    ⟨{ w0 [(k0FOwner 2, 255), (k0FState 2, 1)] with chainline := { commands := [(9, (⟨true, 0, 1, 0⟩ : ChlHdr), [0, 0], 0)] } }, (⟨true, 0, 1, 0⟩ : ChlHdr), 0, [0, 0], 0, [], by decide +kernel⟩,
    ⟨{ w0 [(k0FOwner 2, 255), (k0FState 2, 3)] with chainline := { commands := [(10, (⟨true, 0, 1, 0⟩ : ChlHdr), [0, 0], 0)] } }, (⟨true, 0, 1, 0⟩ : ChlHdr), 0, [0, 0], 0, [], by decide +kernel⟩,
    ⟨w0 [(k0FOwner 2, 255), (k0FState 2, 1), (k02CadenceCount, 10 ^ 9)], by decide +kernel⟩,
    ⟨{ w0 [] with chainline := { commands := [(11, (⟨true, 1, 1, 0⟩ : ChlHdr), [0, readWord true [23]], 0)] } }, (⟨true, 1, 1, 0⟩ : ChlHdr), true, 23, [0, readWord true [23]], 0, [], by decide +kernel⟩,
    ⟨{ w0 [(k20MCState, 2)] with chainline := { commands := [(12, (⟨true, 0, 1, 0⟩ : ChlHdr), [0, 300], 0)] } }, (⟨true, 0, 1, 0⟩ : ChlHdr), 300, [0, 300], 0, [], by decide +kernel⟩,
    ⟨{ w0 [(k28RandomGeneratorState, 1)] with chainline := { commands := [(12, (⟨true, 0, 1, 0⟩ : ChlHdr), [0, 300], 0)] } }, (⟨true, 0, 1, 0⟩ : ChlHdr), 300, [0, 300], 0, [], by decide +kernel⟩,
    ⟨{ w0 [(k20Enable, 1)] with chainline := { registerAt := some 0 } }, by decide +kernel⟩,
    ⟨{ w0 [(k20Enable, 1)] with chainline := { orphanAt := some 0 } }, by decide +kernel⟩,
    ⟨{ w0 [(k20Enable, 1), (k20RelayNumber0, 3)] with chainline := { helloAt := some 0 } }, by decide +kernel⟩,
    ⟨{ w0 [(k20MCState, 2)] with chainline := { commands := [(13, (⟨true, 0, 1, 0⟩ : ChlHdr), [0, 126 * 2 ^ 41 + 16 * 2 ^ 25], 0)] } }, (⟨true, 0, 1, 0⟩ : ChlHdr), 126, 16, [0, 126 * 2 ^ 41 + 16 * 2 ^ 25], 0, [], by decide +kernel⟩,
    ⟨{ w0 [(k20MCState, 2)] with chainline := { commands := [(14, (⟨true, 0, 1, 0⟩ : ChlHdr), [0, 5], 0)] } }, (⟨true, 0, 1, 0⟩ : ChlHdr), 5, [0, 5], 0, [], by decide +kernel⟩⟩

theorem witness_ChainlineFrameRows :
    (∃ s : State, ∃ f : ChlFrame, s.chlOn = true ∧ f.ver = 1 ∧ f.type = 0 ∧ 1 ≤ f.len ∧ f.len ≤ 8 ∧ chlHeadOk f 0 = false) ∧
    (∃ s : State, ∃ f : ChlFrame, ∃ k : Nat, s.chlOn = true ∧ chlHeadOk f 0 = true ∧ s.chainlineKey = some k ∧ chlMac k f = f.mac ∧ f.addr = s.nodeAddr ∧ s.mcState = 2 ∧ (s.mc + ccMod - chlMcref f) % 2 ^ 40 ≤ 4096 ∧ s.chainline.accepted.contains (chlMcref f, f.seq) = false ∧ s.commandStatus f = stOk ∧ s.nodeAddr ≠ allNodes) ∧
    (∃ s : State, ∃ f : ChlFrame, s.chlOn = true ∧ chlHeadOk f 1 = true) ∧
    (∃ s : State, ∃ f : ChlFrame, s.chlOn = true ∧ f.ver = 1 ∧ f.type = 1 ∧ 1 ≤ f.len ∧ f.len ≤ 8 ∧ chlHeadOk f 1 = false) ∧
    (∃ s : State, ∃ m : InMsg, ∃ rest : List InMsg, s.chainline.queue = m :: rest ∧ m.backoff = 0 ∧ m.sentAt = none ∧ m.own = true ∧ m ∉ rest ∧ s.mayStart = true) ∧
    (∃ s : State, ∃ seq : Nat, ∃ m : InMsg, ∃ t0 : Nat, ∃ rest : List InMsg, s.chainline.queue = m :: rest ∧ m.own = true ∧ m.frame.seq = seq ∧ m.sentAt = some t0 ∧ m ∉ rest ∧ s.reached ((t0 + secTicks (s.getN k20AckTimeout)) % ccMod) = true ∧ 4 ≤ m.sendings) ∧
    (∃ s : State, ∃ seq : Nat, ∃ m : InMsg, ∃ t0 : Nat, ∃ rest : List InMsg, s.chainline.queue = m :: rest ∧ m.own = true ∧ m.frame.seq = seq ∧ m.sentAt = some t0 ∧ m ∉ rest ∧ s.reached ((t0 + secTicks (s.getN k20AckTimeout)) % ccMod) = true ∧ m.sendings < 4) ∧
    (∃ s : State, ∃ addr : Nat, ∃ i : Nat, ((List.range 64).find? fun i => (s.chainline.neighbours.getD i {}).used && decide (s.getN (k20Address (neighbourInst i)) = addr)) = some i ∧ s.nominalHz = 50 ∧ 30240000 ≤ (s.mc + ccMod - s.getN (k20LastHeard (neighbourInst i))) % ccMod ∧ i < s.chainline.neighbours.length) :=
  ⟨⟨w0 [(k20Enable, 1)], { chlFrame0 with payload := [] }, by decide +kernel⟩,
    ⟨chlState, chlGood, chlKey, ⟨by decide +kernel, by decide +kernel, chlKey_derived, chlMac_good, by decide +kernel⟩⟩,
    ⟨w0 [(k20Enable, 1)], chlOfType 1, by decide +kernel⟩,
    ⟨w0 [(k20Enable, 1)], { chlFrame0 with type := 1, payload := [] }, by decide +kernel⟩,
    ⟨{ chlState with chainline := { queue := [(⟨chlFrame0, 0, 4, 0, none, true⟩ : InMsg)] } }, (⟨chlFrame0, 0, 4, 0, none, true⟩ : InMsg), [], by decide +kernel⟩,
    ⟨{ w0 [(k20Enable, 1), (k02CadenceCount, 10 ^ 8)] with chainline := { queue := [(⟨chlFrame0, 4, 4, 0, some 0, true⟩ : InMsg)] } }, 5, (⟨chlFrame0, 4, 4, 0, some 0, true⟩ : InMsg), 0, [], by decide +kernel⟩,
    ⟨{ w0 [(k20Enable, 1), (k02CadenceCount, 10 ^ 8)] with chainline := { queue := [(⟨chlFrame0, 3, 4, 0, some 0, true⟩ : InMsg)] } }, 5, (⟨chlFrame0, 3, 4, 0, some 0, true⟩ : InMsg), 0, [], by decide +kernel⟩,
    ⟨{ w0 [(k20Address 64, 9), (k20MC, 30240000)] with chainline := { neighbours := [{ used := true }] } }, 9, 0, by decide +kernel⟩⟩

theorem witness_SpokeRowsKeepTheRest :
    (∃ c : Instr, ∃ s : State, ∃ t : State, c.wellFormed = true ∧ exec c s = .next t) :=
  ⟨.tandemSend, hub [], tandemSend (hub []), by decide +kernel, rfl⟩

theorem witness_RecordRowsKeepTheRest :
    (∃ c : Instr, ∃ s : State, ∃ t : State, c.wellFormed = true ∧ exec c s = .next t) :=
  ⟨.rateSwitch, monthly, rateSwitch monthly, by decide +kernel, rfl⟩

theorem witness_ServiceRowsKeepTheRest :
    (∃ c : Instr, ∃ s : State, ∃ t : State, c.wellFormed = true ∧ exec c s = .next t) :=
  ⟨.powerFailDecision, { w0 [] with pf := { pfwLow := 1, pfwNext := false } }, powerFailDecision { w0 [] with pf := { pfwLow := 1, pfwNext := false } }, by decide +kernel, rfl⟩

end Sys2Proof.Tests

end
end

section
/-! The store laws (O3). `Laws/Store.lean` reads a store after a write; here stands the converse, that writing back what a
store reads leaves a canonical store as it is, and the rules of a Pannier word. -/

namespace Sys2Proof.Machine

section Store
variable {α : Type}

theorem storeRead_of_not_mem (d : α) (l : List (Nat × α)) (k : Nat) (h : k ∉ l.map Prod.fst) :
    storeRead d l k = d := by
  induction l with
  | nil => rfl
  | cons p t ih =>
    obtain ⟨a, w⟩ := p
    rw [List.map_cons, List.mem_cons, not_or] at h
    simp [storeRead, Ne.symm h.1, ih h.2]

/-- A key that a store lists reads as the value of one of the store's entries. -/
theorem mem_storeRead (d : α) (l : List (Nat × α)) (k : Nat) (h : k ∈ l.map Prod.fst) :
    (k, storeRead d l k) ∈ l := by
  induction l with
  | nil => simp at h
  | cons p t ih =>
    obtain ⟨a, w⟩ := p
    by_cases hk : a = k
    · simp [storeRead, hk]
    · have ht : k ∈ t.map Prod.fst := (List.mem_cons.1 h).resolve_left (Ne.symm hk)
      simpa [storeRead, hk] using .inr (ih ht)

/-- Keys rise strictly, so the entry of `k` is replaced where it stands. -/
theorem storeInsert_read (d : α) (l : List (Nat × α)) (k : Nat) (hs : (l.map Prod.fst).Pairwise (· < ·))
    (h : k ∈ l.map Prod.fst) : storeInsert l k (storeRead d l k) = l := by
  induction l with
  | nil => simp at h
  | cons p t ih =>
    obtain ⟨a, w⟩ := p
    rw [List.map_cons, List.pairwise_cons] at hs
    rcases List.mem_cons.1 h with rfl | ht
    · simp [storeInsert, storeRead]
    · have hlt : a < k := hs.1 k ht
      simp [storeInsert, storeRead, hlt.ne, hlt.ne', hlt.not_gt, ih hs.2 ht]

variable [DecidableEq α]

/-- Writing back what a canonical store reads changes nothing: a listed key keeps its entry, an unlisted one stays unlisted. -/
theorem storeWrite_read (dflt : Nat → α) (l : List (Nat × α)) (k : Nat) (h : storeWf dflt l) :
    storeWrite (dflt k) l k (storeRead (dflt k) l k) = l := by
  obtain ⟨hs, hd⟩ := h
  by_cases hk : k ∈ l.map Prod.fst
  · have hne : storeRead (dflt k) l k ≠ dflt k := hd _ (mem_storeRead _ l k hk)
    rw [storeWrite, if_neg hne, storeInsert_read _ l k hs hk]
  · rw [storeWrite, if_pos (storeRead_of_not_mem _ l k hk), List.filter_eq_self]
    intro p hp
    exact decide_eq_true fun e => hk (e ▸ List.mem_map_of_mem hp)

end Store

variable (s : State)

/-- R104. -/
theorem get_clear_same (k : Nat) : (s.clear k).get k = defaultOf s.variant k := get_put_same s k _

theorem put_get (k : Nat) (h : Memory.wf s) : s.put k (s.get k) = s := by
  rw [State.put, State.get, storeWrite_read _ s.obj k h.1]

/-! ### A word of Pannier (R49, R53): it holds 48 bits -/

/-- The modulus of CC (R107), to which a stored word is reduced too, is that of a 48-bit word. -/
theorem ccMod_eq : ccMod = 2 ^ 48 := by norm_num [ccMod]

theorem word_setWord_same (a w : Nat) : (s.setWord a w).word a = w % 2 ^ 48 := by
  have hword : (s.setWord a w).word a = w % ccMod := storeRead_write_same 0 s.pannier.mem a (w % ccMod)
  rw [hword, ccMod_eq]

theorem word_setWord_other (a b w : Nat) (h : b ≠ a) : (s.setWord a w).word b = s.word b :=
  storeRead_write_other 0 0 s.pannier.mem a b (w % ccMod) h

theorem setWord_wf (a w : Nat) (h : Memory.wf s) : Memory.wf (s.setWord a w) := by
  obtain ⟨hobj, hmem, htag⟩ := h
  exact ⟨hobj, storeWrite_wf (fun _ => 0) s.pannier.mem a (w % ccMod) hmem, htag⟩

/-- Settles O3: each part is the law of the canonical stores, read for the object store and for Pannier. -/
theorem storeLaws : Obligations.StoreLaws := by
  unfold Obligations.StoreLaws
  refine ⟨fun s k j v => ?_, fun s a b w => ?_⟩
  · exact ⟨get_put_same s k v, get_put_other s k j v, put_wf s k v, get_clear_same s k, put_get s k⟩
  · exact ⟨word_setWord_same s a w, word_setWord_other s a b w, setWord_wf s a w⟩

end Sys2Proof.Machine
end

section
/-! The state after a power-on reset (O2). -/

namespace Sys2Proof.Machine

/-- The listed objects stand in rising order and each differs from its default; Pannier and the tag list nothing. -/
theorem reset_wf : Memory.wf State.reset := by
  have hobj : storeWf (defaultOf .trt24) resetObj := by decide +kernel
  exact ⟨hobj, ⟨.nil, by simp [State.reset]⟩, ⟨.nil, by simp [State.reset]⟩⟩

/-- R299, R306: the causes of functions 2 and 3 (bits 2 and 3) put every spoke in fault; its gate and its sequencer read their
defaults. -/
theorem reset_spoke (sp : Nat) (h : sp < 24) :
    State.reset.safety sp = 1 ∧ State.reset.causes sp = 12 ∧ State.reset.gateState sp = 0 ∧ State.reset.runState sp = 1 := by
  have hall : ∀ n < 24, State.reset.safety n = 1 ∧ State.reset.causes n = 12 ∧ State.reset.gateState n = 0 ∧
      State.reset.runState n = 1 := by decide +kernel
  exact hall sp h

/-- Session 0 and the numbers above 32 have no state object; that of each other session reads 0, free. -/
theorem reset_sessionState (sid : Nat) : State.reset.sessionState sid = 0 := by
  by_cases h : sid = 0 ∨ 32 < sid
  · simp [State.sessionState, h]
  · have hall : ∀ n < 33, State.reset.sessionState n = 0 := by decide +kernel
    exact hall sid (by omega)

theorem reset_loggedIn (sid : Nat) : State.reset.loggedIn sid = false := by
  simp [State.loggedIn, reset_sessionState]

/-- Settles O2: the stores are canonical, every session is free, and what stands in the dictionary is `resetObj` over the
defaults. -/
theorem resetLeaves : Obligations.ResetLeaves := by
  unfold Obligations.ResetLeaves
  have hplan : State.reset.getN k02PlanState = 0 := by decide +kernel
  have hfns : State.reset.fnState 2 = 3 ∧ State.reset.fnState 3 = 3 := by decide +kernel
  exact ⟨reset_wf, rfl, rfl, rfl, reset_spoke, reset_loggedIn, hplan, hfns⟩

end Sys2Proof.Machine
end

section
/-! The rows of the spoke links (O9): what the samples and readbacks of a frame leave of the link that brought it, then each row
by the branch of its meaning that its hypotheses select. -/

namespace Sys2Proof.Machine

variable (s : State)

/-! ### What the processing of a frame leaves of its link -/

@[simp] theorem dieLink_modChan (d : Die) (n : Nat) (f : Chan → Chan) : (s.modChan n f).dieLink d = s.dieLink d := by
  cases d <;> rfl

@[simp] theorem dieLink_puts (d : Die) (l : List (Nat × Int)) : (s.puts l).dieLink d = s.dieLink d := by
  induction l generalizing s with
  | nil => rfl
  | cons p t ih => rw [puts_cons, ih, dieLink_put]

@[simp] theorem dieLink_clipFlag (d : Die) (n : Nat) (x : Int) (flag : Bool) :
    (s.clipFlag n x flag).dieLink d = s.dieLink d := by
  simp only [State.clipFlag, State.when]
  split
  · split <;> simp
  · simp

@[simp] theorem dieLink_clipFlags (d e : Die) (f : UpFrame) : (s.clipFlags e f).dieLink d = s.dieLink d :=
  each_view (·.dieLink d) s _ _ fun t _ _ => dieLink_clipFlag t d _ _ _

@[simp] theorem dieLink_readbacks (d : Die) (l : List (Nat × Nat)) : (s.readbacks l).dieLink d = s.dieLink d :=
  each_view (·.dieLink d) s _ _ fun t _ _ => dieLink_puts t d _

/-- The substituted samples of a discarded frame are counts only. -/
@[simp] theorem dieLink_substitutions (d : Die) (l : List Nat) :
    (s.each l fun t n => t.count (k08SubstitutionCount n)).dieLink d = s.dieLink d :=
  each_view (·.dieLink d) s _ _ fun t _ _ => dieLink_count t d _

theorem oneMore_modDie (d : Die) (f : SpokeLink → SpokeLink) (k : Nat) : oneMore (s.modDie d f) k = oneMore s k := by
  simp [oneMore]

/-- The error count of a link is not the report of saturated counts (R108). -/
theorem kLinkErrors_ne_lastSaturated (d : Die) : kLinkErrors d ≠ k00LastSaturatedCount := by cases d <;> decide

/-! ### The rows -/

section Present
variable (d : Die) (hd : s.diePresent d = true)
include hd

/-- R19, R21: a good frame waits for the engines and ends a run of failures. -/
theorem upstreamFrame_good (f : UpFrame) (hf : s.headerOk d f = true) :
    ((upstreamFrame d f (upCrc d f) s).dieLink d) = { s.dieLink d with up := some f, upLost := false, upFails := 0 } := by
  simp [upstreamFrame, hd, hf]

/-- R21: a bad or foreign frame is lost and lengthens the run of failures. -/
theorem upstreamFrame_bad (f : UpFrame) (crc : Nat) (hf : crc ≠ upCrc d f ∨ s.headerOk d f = false) :
    (upstreamFrame d f crc s).dieLink d =
        { s.dieLink d with up := none, upLost := true, upFails := (s.dieLink d).upFails + 1 } ∧
      (upstreamFrame d f crc s).recorder.raised.getLast? = some ⟨0x0110, 0, dieNum d * 256⟩ := by
  have hbad : ¬ (crc = upCrc d f ∧ s.headerOk d f = true) := by
    rintro ⟨hc, hh⟩
    simp [hc, hh] at hf
  constructor
  · simp [upstreamFrame, hd, hbad]
  · simp [upstreamFrame, hd, hbad, notice_raised, linkValue, dirNum, byDevice]

/-- R17, R20: the die holds the words of a good frame for the next tick edge. -/
theorem downstreamFrame_good (f : DownFrame) :
    downstreamFrame d f (downCrc d f) s = s.modDie d fun l =>
      { l with held := f.words, heldHx := if d = Die.a then f.hx else l.heldHx, fresh := true, discarded := false,
               downFails := 0, seen := true, cut := false } := by
  simp [downstreamFrame, hd]

/-- R21: a bad frame leaves the held words, is counted and reported. -/
theorem downstreamFrame_bad (f : DownFrame) (crc : Nat) (hf : crc ≠ downCrc d f) :
    (downstreamFrame d f crc s).dieLink d =
        { s.dieLink d with discarded := true, fresh := false, downFails := (s.dieLink d).downFails + 1 } ∧
      (downstreamFrame d f crc s).get (kLinkErrors d) = oneMore s (kLinkErrors d) ∧
      (downstreamFrame d f crc s).recorder.raised.getLast? = some ⟨0x0110, 0, dieNum d * 256 + 1⟩ := by
  refine ⟨?_, ?_, ?_⟩
  · simp [downstreamFrame, hd, hf]
  · simp [downstreamFrame, hd, hf, get_count _ _ (kLinkErrors_ne_lastSaturated d), oneMore_modDie]
  · simp [downstreamFrame, hd, hf, notice_raised, linkValue, dirNum, byDevice]

/-- R22-R24: three bad upstream frames in a row fail a link that runs. -/
theorem spokeLinkFailed_up (hs : s.getN (kLinkState d) ≠ 2) (hn : 3 ≤ (s.dieLink d).upFails) :
    spokeLinkFailed d .up s =
      (((s.put (kLinkState d) 2).deviceFault (dieNum d)).notice 0 0x0111 (dieNum d * 256)).endLease := by
  simp [spokeLinkFailed, linkFailCount, hd, hs, hn.not_gt, linkValue, dirNum, byDevice]

/-- R22-R24: three bad downstream frames in a row fail a link that runs, and the die cuts its outputs. -/
theorem spokeLinkFailed_down (hs : s.getN (kLinkState d) ≠ 2) (hn : 3 ≤ (s.dieLink d).downFails)
    (hc : (s.dieLink d).cut = false) :
    spokeLinkFailed d .down s =
      ((((s.dieCut d).put (kLinkState d) 2).deviceFault (dieNum d)).notice 0 0x0111 (dieNum d * 256 + 1)).endLease := by
  simp [spokeLinkFailed, linkFailCount, hd, hs, hn.not_gt, hc, linkValue, dirNum, byDevice]

/-- R22: in a link that has failed already the die still cuts its outputs. -/
theorem spokeLinkFailed_down_again (hs : s.getN (kLinkState d) = 2) (hn : 3 ≤ (s.dieLink d).downFails)
    (hc : (s.dieLink d).cut = false) : spokeLinkFailed d .down s = s.dieCut d := by
  simp [spokeLinkFailed, linkFailCount, hd, hs, hn.not_gt, hc]

/-- R25: a link that does not run is good again, with no run of failures. -/
theorem linkRetrained_failed (hs : s.getN (kLinkState d) ≠ 1) :
    linkRetrained d s = (s.put (kLinkState d) 1).modDie d fun l => { l with upFails := 0, downFails := 0 } := by
  simp [linkRetrained, hd, hs]

end Present

/-- Settles O9: one row after the other. -/
theorem spokeLinkRows : Obligations.SpokeLinkRows := by
  unfold Obligations.SpokeLinkRows
  refine ⟨fun d f s hd hf => ⟨_, rfl, ?_⟩, fun d f crc s hd hf => ⟨_, rfl, ?_⟩,
    fun d f s hd => congrArg Host.Outcome.next (downstreamFrame_good s d hd f), fun d f crc s hd hf => ⟨_, rfl, downstreamFrame_bad s d hd f crc hf⟩,
    fun d s hd hs hn => congrArg Host.Outcome.next (spokeLinkFailed_up s d hd hs hn),
    fun d s hd hs hn hc => congrArg Host.Outcome.next (spokeLinkFailed_down s d hd hs hn hc),
    fun d s hd hs hn hc => congrArg Host.Outcome.next (spokeLinkFailed_down_again s d hd hs hn hc),
    fun d s hd hs => congrArg Host.Outcome.next (linkRetrained_failed s d hd hs)⟩
  · simp [upstreamFrame_good s d hd f hf]
  · obtain ⟨hlink, hnotice⟩ := upstreamFrame_bad s d hd f crc hf
    simp [hlink, hnotice]

end Sys2Proof.Machine
end

section
/-! The tick (O6). The edge marks the frames of the dies and counts CC first; what the dies and the core die then apply and latch
works beside CC and the links, which `State.clockAndLinks` shows. -/

namespace Sys2Proof.Machine

variable (s : State)

/-- What the commands and the levels of a tick edge leave alone: CC and the links of the two dies. -/
def State.clockAndLinks (s : State) : Nat × SpokeLink × SpokeLink := (s.cc, s.linkA, s.linkB)

/-! ### Updates beside CC and the links -/

/-- CC stands in class 02h. -/
theorem key_ne_cadenceCount (c i m : Nat) (h : 2 < c) : key c i m ≠ k02CadenceCount := by
  simp only [key]
  omega

/-- An object of a class above 02h. -/
@[simp] theorem clockAndLinks_put (c i m : Nat) (v : Int) (h : 2 < c) :
    (s.put (key c i m) v).clockAndLinks = s.clockAndLinks := by
  simp [State.clockAndLinks, State.cc, State.getN, get_put_other s _ _ v (key_ne_cadenceCount c i m h).symm]

@[simp] theorem clockAndLinks_modSpoke (sp : Nat) (f : Spoke → Spoke) :
    (s.modSpoke sp f).clockAndLinks = s.clockAndLinks := rfl

@[simp] theorem clockAndLinks_modSwitch (n : Nat) (f : Switch → Switch) :
    (s.modSwitch n f).clockAndLinks = s.clockAndLinks := rfl

@[simp] theorem clockAndLinks_modFn (f : Nat) (g : SafetyFn → SafetyFn) : (s.modFn f g).clockAndLinks = s.clockAndLinks := rfl

/-! ### CC and wall time (R30, R167) -/

theorem clockAndLinks_advanceWall : s.advanceWall.clockAndLinks = s.clockAndLinks := by
  unfold State.advanceWall
  split
  · rfl
  · extract_lets ns sl rest w u billing vault t
    have hu : u.clockAndLinks = s.clockAndLinks := by simp [u]
    have ht : t.clockAndLinks = s.clockAndLinks := hu
    split
    · exact ht
    · rw [clockAndLinks_put _ _ _ _ _ (by decide), ht]

theorem clockAndLinks_countTick : s.countTick.clockAndLinks = (s.nextTick, s.linkA, s.linkB) := by
  rw [State.countTick, clockAndLinks_advanceWall]
  simp [State.clockAndLinks, State.cc, State.getN]

/-! ### The held commands (R17, R204, R279) -/

@[simp] theorem clockAndLinks_rememberWave (sp : Nat) : (s.rememberWave sp).clockAndLinks = s.clockAndLinks := rfl

@[simp] theorem clockAndLinks_drivePilot (sp mode duty : Nat) :
    (s.drivePilot sp mode duty).clockAndLinks = s.clockAndLinks := by
  simp only [State.drivePilot, State.modPilot]
  split <;> simp

@[simp] theorem clockAndLinks_holdPilot (sp w : Nat) : (s.holdPilot sp w).clockAndLinks = s.clockAndLinks := by
  unfold State.holdPilot
  extract_lets duty mode old hd hm t
  have ht : t.clockAndLinks = s.clockAndLinks := by simp [t, State.modPilot]
  split
  · rw [clockAndLinks_drivePilot, ht]
  · exact ht

@[simp] theorem clockAndLinks_applyWord (sp : Nat) : (s.applyWord sp).clockAndLinks = s.clockAndLinks := by
  unfold State.applyWord
  split
  · exact clockAndLinks_holdPilot s sp _
  · rfl

@[simp] theorem clockAndLinks_applyCode (n code : Nat) : (s.applyCode n code).clockAndLinks = s.clockAndLinks := rfl

@[simp] theorem clockAndLinks_weldWaits (sp : Nat) : (s.weldWaits sp).clockAndLinks = s.clockAndLinks := by
  unfold State.weldWaits
  split <;> rfl

theorem clockAndLinks_applySwitches : s.applySwitches.clockAndLinks = s.clockAndLinks := by
  unfold State.applySwitches
  rw [each_view State.clockAndLinks _ _ _ fun t sp _ => clockAndLinks_weldWaits t sp]
  refine each_view State.clockAndLinks _ _ _ fun t n _ => ?_
  split
  · simp
  · split <;> simp

/-! ### The inputs of the core die (R122, R152, R302) -/

@[simp] theorem clockAndLinks_trigger (source : Nat) : (s.trigger source).clockAndLinks = s.clockAndLinks := by
  unfold State.trigger
  split <;> rfl

@[simp] theorem clockAndLinks_raise (sp flag : Nat) : (s.raise sp flag).clockAndLinks = s.clockAndLinks := rfl

@[simp] theorem clockAndLinks_setCause (sp b : Nat) (on : Bool) : (s.setCause sp b on).clockAndLinks = s.clockAndLinks := by
  simp only [State.setCause, State.setCauses]
  split
  · simp
  · split <;> simp

@[simp] theorem clockAndLinks_zoneCause (f : Nat) : (s.zoneCause f).clockAndLinks = s.clockAndLinks :=
  each_view State.clockAndLinks s _ _ fun t sp _ => clockAndLinks_setCause t sp f true

@[simp] theorem clockAndLinks_latchFn (f : Nat) (a b : Bool) : (s.latchFn f a b).clockAndLinks = s.clockAndLinks := by
  simp only [State.latchFn]
  split <;> split <;> simp

@[simp] theorem clockAndLinks_sealSample (low : Bool) : (s.sealSample low).clockAndLinks = s.clockAndLinks := rfl

@[simp] theorem clockAndLinks_latchCriteria (next : Bool) : (s.latchCriteria next).clockAndLinks = s.clockAndLinks := rfl

theorem clockAndLinks_latchInputs (i : TickIn) : (s.latchInputs i).clockAndLinks = s.clockAndLinks := by
  simp only [State.latchInputs, clockAndLinks_latchCriteria, clockAndLinks_sealSample]
  exact each_view State.clockAndLinks s _ _ fun t f _ => clockAndLinks_latchFn t f _ _

/-! ### The edge (R17, R30) -/

/-- CC is one on, and each die has marked whether its frame is fresh; nothing after touches either. -/
theorem clockAndLinks_edge (i : TickIn) : (s.edge i).clockAndLinks = (s.nextTick, s.linkA.edge, s.linkB.edge) := by
  unfold State.edge
  extract_lets t u
  have ht : (t.each t.spokeList State.rememberWave).clockAndLinks = (s.cc, s.linkA.edge, s.linkB.edge) :=
    each_view State.clockAndLinks t _ _ fun x sp _ => clockAndLinks_rememberWave x sp
  have hu : u.clockAndLinks = (s.nextTick, s.linkA.edge, s.linkB.edge) := by
    obtain ⟨hcc, hlinks⟩ := Prod.mk.inj ht
    obtain ⟨hA, hB⟩ := Prod.mk.inj hlinks
    rw [clockAndLinks_countTick, hA, hB, State.nextTick, hcc]
    rfl
  rw [clockAndLinks_latchInputs, clockAndLinks_applySwitches,
    each_view State.clockAndLinks _ _ _ fun x sp _ => clockAndLinks_applyWord x sp, hu]

theorem edge_cc_and_links (i : TickIn) :
    (s.edge i).cc = s.nextTick ∧ (s.edge i).linkA = s.linkA.edge ∧ (s.edge i).linkB = s.linkB.edge := by
  simpa only [State.clockAndLinks, Prod.mk.injEq] using clockAndLinks_edge s i

/-! ### Kickstand -/

theorem ownPage_store : s.ownPage.obj = s.obj ∧ s.ownPage.variant = s.variant := by
  unfold State.ownPage
  split
  · exact ⟨rfl, rfl⟩
  · split <;> exact ⟨rfl, rfl⟩

/-- Programming works on the tag and on its answer alone: the objects stay, and what the unwritten ones read as. -/
theorem tagTick_store : s.tagTick.obj = s.obj ∧ s.tagTick.variant = s.variant := by
  unfold State.tagTick
  split
  · exact ⟨rfl, rfl⟩
  · split
    · exact ⟨rfl, rfl⟩
    · split
      · exact ⟨rfl, rfl⟩
      · exact ⟨rfl, rfl⟩
      · exact ⟨rfl, rfl⟩
      · exact ownPage_store (s.modTag _)

theorem unpoweredTick_store : s.unpoweredTick.obj = s.obj ∧ s.unpoweredTick.variant = s.variant :=
  tagTick_store { s with tag := { s.tag with progEnd := s.cc } }

theorem unpoweredTick_cc : s.unpoweredTick.cc = s.cc := by
  obtain ⟨hobj, hvariant⟩ := unpoweredTick_store s
  simp only [State.cc, State.getN, State.get, hobj, hvariant]

/-! ### The frame -/

/-- R18: the upstream frames of the last tick are used up. -/
theorem frame_links (i : TickIn) :
    ((s.frame i).linkA.up = none ∧ (s.frame i).linkA.upLost = false) ∧
      ((s.frame i).linkB.up = none ∧ (s.frame i).linkB.upLost = false) := ⟨⟨rfl, rfl⟩, ⟨rfl, rfl⟩⟩

/-- With the supplies present (R17, R28). -/
theorem tick_powered (i : TickIn) (h : s.modes.powered = true) : tick i s = (s.boundary.edge i).frame i := by
  simp [tick, h]

theorem tick_unpowered (i : TickIn) (h : s.modes.powered = false) : tick i s = s.unpoweredTick := by
  simp [tick, h]

/-- Settles O6: the order of a tick is `tick_powered`; the edge is read off CC and the links, and Kickstand keeps every object
and so CC. -/
theorem tickRow : Obligations.TickRow := by
  unfold Obligations.TickRow
  refine ⟨fun i s h => ⟨_, congrArg Host.Outcome.next (tick_powered s i h), rfl, rfl, ?_⟩,
    fun i s h => ⟨_, congrArg Host.Outcome.next (tick_unpowered s i h), unpoweredTick_cc s, (unpoweredTick_store s).1⟩⟩
  obtain ⟨hcc, hA, hB⟩ := edge_cc_and_links s.boundary i
  obtain ⟨⟨hAup, hAlost⟩, hBup, hBlost⟩ := frame_links (s.boundary.edge i) i
  rw [hcc, hA, hB, ← ccMod_eq]
  exact ⟨rfl, rfl, rfl, rfl, rfl, hAup, hAlost, hBup, hBlost⟩

end Sys2Proof.Machine
end

section
/-! A round of the derailleur (O8): what its winner is, and what the round leaves of the grant and of the ages. -/

namespace Sys2Proof.Machine

variable (p : Port) (reqs : List Nat)

/-- The age that wins a round is at least that of every requester: it is the greatest of 0 and the requesters' ages. -/
theorem age_le_topAge (r : Nat) (hr : r ∈ reqs) :
    p.ages.getD r 0 ≤ reqs.foldl (fun m r => max m (p.ages.getD r 0)) 0 := by
  have hmax : (0 :: reqs.map fun r => p.ages.getD r 0).max? =
      some (reqs.foldl (fun m r => max m (p.ages.getD r 0)) 0) := by
    rw [List.max?_cons', List.foldl_map]
  exact (List.max?_eq_some_iff.1 hmax).2 _ (List.mem_cons_of_mem _ (List.mem_map_of_mem hr))

/-- The winner is one of those who asked, and its age is the one that wins. -/
theorem roundWinner_spec (w : Nat) (h : roundWinner p reqs = some w) :
    w ∈ reqs ∧ ∀ r ∈ reqs, p.ages.getD r 0 ≤ p.ages.getD w 0 := by
  have hfound := List.find?_some h
  rw [Bool.and_eq_true, List.contains_iff_mem, decide_eq_true_iff] at hfound
  obtain ⟨hmem, htop⟩ := hfound
  exact ⟨hmem, fun r hr => htop ▸ age_le_topAge p reqs r hr⟩

/-- The age that a requester carries from a round that `w` wins: `a` is the age it had (R45). -/
def ageAfter (w r a : Nat) : Nat := if r = w then 0 else if r ∈ reqs then min 15 (a + 1) else a

theorem holdRound_won (w : Nat) (h : roundWinner p reqs = some w) :
    holdRound p reqs =
      { p with grant := some w, last := w, ages := p.ages.mapIdx fun r a => ageAfter reqs w r a } := by
  simp [holdRound, h, ageAfter, List.mapIdx_eq_zipIdx_map]

theorem getD_ages_holdRound (w r : Nat) (h : roundWinner p reqs = some w) (hr : r < p.ages.length) :
    (holdRound p reqs).ages.getD r 0 = ageAfter reqs w r (p.ages.getD r 0) := by
  simp [holdRound_won p reqs w h, List.getD, hr]

/-- Settles O8: the winner is `roundWinner_spec`, the ages after the round are `getD_ages_holdRound`. -/
theorem roundWinnerIsOldest : Obligations.RoundWinnerIsOldest := by
  unfold Obligations.RoundWinnerIsOldest
  intro p reqs w h
  obtain ⟨hmem, holdest⟩ := roundWinner_spec p reqs w h
  have hheld := holdRound_won p reqs w h
  exact ⟨hmem, holdest, ⟨congrArg Port.grant hheld, congrArg Port.last hheld⟩,
    fun r hr => getD_ages_holdRound p reqs w r h hr⟩

end Sys2Proof.Machine
end

section
/-! The rows of the cadence (O7): the plan switch, an overrun, one round of a port, and the bite of the watchdog. -/

namespace Sys2Proof.Machine

variable (s : State)

/-! ### The plan switch (R40, R55) -/

@[simp] theorem puts_modes (l : List (Nat × Int)) : (s.puts l).modes = s.modes := by
  have h := congrArg State.modes (puts_rest s l)
  exact h

@[simp] theorem runPlan_modes (p budgets : List Nat) : (s.runPlan p budgets).modes = s.modes := by
  unfold State.runPlan
  extract_lets t u v
  have hu : u.modes = t.modes := each_view State.modes t _ _ fun x _ _ => put_modes x _ _
  have hv : v.modes = u.modes := each_view State.modes u _ _ fun x _ _ => put_modes x _ _
  rw [hv, hu, puts_modes]

@[simp] theorem setCapture_modes (len : Nat) : (s.setCapture len).modes = s.modes := puts_modes s _

/-- Behind the length itself a restart of the ring writes its state and the sizes of its region and of the heap. -/
theorem setCapture_length (len : Nat) : (s.setCapture len).getN k03CaptureLength = len := by
  have hget : (s.setCapture len).get k03CaptureLength = len := by
    refine (get_puts_other (s.put k03CaptureLength len) _ _ ?_).trans (get_put_same s _ _)
    simp [key]
  rw [State.getN, hget, Int.toNat_natCast]

section Due
variable (p : List Nat) (hw : s.plan.waiting = some p) (hd : s.dueNext s.plan.switchTick = true)
include hw hd

/-- A plan that is due starts to run and leaves the ring alone where its capture length is the running one. -/
theorem switchPlan_sameLength (hc : s.getN k03CaptureLength = s.plan.capture) :
    s.switchPlan = s.runPlan p s.plan.budgets := by
  simp [State.switchPlan, hw, hd, hc]

/-- Where its capture length is another one the ring restarts. -/
theorem switchPlan_newLength (hc : s.getN k03CaptureLength ≠ s.plan.capture) :
    s.switchPlan = (s.runPlan p s.plan.budgets).setCapture s.plan.capture := by
  simp [State.switchPlan, hw, hd, hc]

end Due

/-- The first step of a boundary whose later steps have not begun. -/
theorem planSwitch_inTurn (h : s.modes.step ≤ 1) :
    planSwitch s = { s.switchPlan with modes := { s.switchPlan.modes with step := 1 } } := by
  simp [planSwitch, State.atStep, h.not_gt]

theorem planSwitch_rest (h : s.modes.step ≤ 1) (k : Nat) :
    (planSwitch s).getN k = s.switchPlan.getN k ∧ (planSwitch s).pannier = s.switchPlan.pannier := by
  rw [planSwitch_inTurn s h]
  exact ⟨rfl, rfl⟩

/-- Nothing waits, or the step has gone by: no plan and no object changes. -/
theorem planSwitch_idle (h : 1 < s.modes.step ∨ s.plan.waiting = none) :
    (planSwitch s).plan = s.plan ∧ (planSwitch s).obj = s.obj := by
  rcases Nat.lt_or_ge 1 s.modes.step with hstep | hstep
  · simp [planSwitch, State.atStep, hstep]
  · have hnone : s.plan.waiting = none := h.resolve_left hstep.not_gt
    simp [planSwitch_inTurn s hstep, State.switchPlan, hnone]

/-! ### An overrun (R42) -/

/-- What an overrun of engine `e` in state `s` is bound to leave in `u`: its notice is raised and it is counted once. -/
def overrunRecorded (e : Nat) (u : State) : Prop :=
  ⟨0x0201 + engineClass e, 0, e⟩ ∈ u.recorder.raised ∧ u.get (k02OverrunCount (1 + e)) = oneMore s (k02OverrunCount (1 + e))

/-- Whatever raises notices at most and leaves class 02h alone keeps the record of an overrun. -/
theorem overrunRecorded_of_keeps (e : Nat) (t u : State) (h : overrunRecorded s e t)
    (hraised : t.recorder.raised ⊆ u.recorder.raised)
    (hget : u.get (k02OverrunCount (1 + e)) = t.get (k02OverrunCount (1 + e))) : overrunRecorded s e u :=
  ⟨hraised h.1, hget.trans h.2⟩

@[simp] theorem get_trigger (n j : Nat) : (s.trigger n).get j = s.get j := by
  unfold State.trigger
  split <;> rfl

@[simp] theorem get_raise (sp n j : Nat) : (s.raise sp n).get j = s.get j := rfl

theorem get_setCause_other (sp b : Nat) (on : Bool) (j : Nat) (hc : j ≠ k1DCauses (16 + sp)) (hs : j ≠ k1DSafetyState (16 + sp)) :
    (s.setCause sp b on).get j = s.get j := by
  unfold State.setCause State.setCauses
  extract_lets t
  have ht : t.get j = s.get j := (get_put_other _ _ _ _ hs).trans (get_put_other _ _ _ _ hc)
  split
  · exact ht
  · split <;> simp [ht]

/-- A device fault writes in class 1Dh alone. -/
theorem get_deviceFault_other (c j : Nat) (h : j < key 0x1D 0 0) : (s.deviceFault c).get j = s.get j := by
  have hkey : ∀ i m, j ≠ key 0x1D i m := fun i m => by simp only [key] at h ⊢; omega
  unfold State.deviceFault
  extract_lets t
  have ht : t.get j = s.get j := get_put_other s _ j _ (hkey _ _)
  exact (each_view (State.get · j) t _ _ fun u sp _ => get_setCause_other u sp _ _ j (hkey _ _) (hkey _ _)).trans ht

/-- It raises its own notice behind those that stand. -/
theorem recorder_deviceFault (c : Nat) : (s.deviceFault c).recorder = (s.notice byDevice 0x0A20 c).recorder := by
  unfold State.deviceFault
  extract_lets t
  refine each_view State.recorder t _ _ fun u sp _ => ?_
  have h := congrArg State.recorder (setCause_rest u sp cDevice true)
  exact h

theorem overrunRecorded_deviceFault (e c : Nat) (t : State) (he : e ≤ 8) (h : overrunRecorded s e t) :
    overrunRecorded s e (t.deviceFault c) := by
  refine overrunRecorded_of_keeps s e t _ h ?_ (get_deviceFault_other t c _ ?_)
  · rw [recorder_deviceFault, notice_raised]
    exact List.subset_append_left _ _
  · simp only [key]
    omega

/-- An overrun is counted, its engine has worked for the whole of its budget at least, and its notice is raised; the fault of
its class and what the engine did not reach come after and keep that record. -/
theorem overrun_recorded (e : Nat) (unreached : List Nat) (he : e ≤ 8) : overrunRecorded s e (overrun e unreached s) := by
  unfold overrun
  rw [if_neg he.not_gt]
  extract_lets t u v w
  have ht : t.get (k02OverrunCount (1 + e)) = oneMore s (k02OverrunCount (1 + e)) :=
    get_count s _ (by simp only [key]; omega)
  have hu : u.get (k02OverrunCount (1 + e)) = t.get (k02OverrunCount (1 + e)) := by
    simp only [u]
    split
    · exact get_put_other t _ _ _ (by simp only [key]; omega)
    · rfl
  have hv : overrunRecorded s e v := ⟨by simp [v, notice_raised, byDevice], hu.trans ht⟩
  have hw : overrunRecorded s e w := by
    simp only [w]
    split
    · exact overrunRecorded_deviceFault s e 2 v he hv
    · split
      · exact overrunRecorded_deviceFault s e 3 v he hv
      · exact hv
  split
  · exact each_keeps (overrunRecorded s 0) w _ _ (fun _ _ _ h => h) hw
  · refine each_keeps (overrunRecorded s 1) w _ _ (fun _ n _ h => ?_) hw
    split
    · exact overrunRecorded_of_keeps s 1 _ _ h (List.Subset.refl _) (get_modChan _ _ _ _)
    · exact overrunRecorded_of_keeps s 1 _ _ h (List.Subset.refl _) (get_modSpoke _ _ _ _)
  · exact each_keeps (overrunRecorded s 3) w _ _ (fun _ _ _ h => h) hw
  · exact hw
  · exact hw

/-! ### One round of a port (R45) -/

/-- A port without a grant moves nothing in the cycle: it holds a round among those who ask. -/
theorem derailleurRound_free (port : Nat) (r : RoundIn) (h1 : 1 ≤ port) (h3 : port ≤ 3) (hg : (s.port port).grant = none) :
    derailleurRound port r s = (s.sampleFills r.fills).modPort port fun p =>
      holdRound { p with lock := none, lockCycles := 0 } (r.requests.filter ((s.sampleFills r.fills).mayRequest port)) := by
  have hport : ¬ (port = 0 ∨ 3 < port) := by omega
  simp [derailleurRound, hport, hg]

/-! ### The watchdog (R47) -/

/-- The state in which the bite of a watchdog holds its round: the bite is counted and reported, the owner's engine reset. -/
def State.bitten (s : State) (port q : Nat) : State :=
  ((s.count (k02WatchdogBites (16 + port))).notice 0 0x0207 q).resetEngine q

theorem watchdogBite_held (port : Nat) (r : RoundIn) (q : Nat) (h1 : 1 ≤ port) (h3 : port ≤ 3)
    (hl : (s.port port).lock = some q) (hc : s.wdogLimit ≤ (s.port port).lockCycles) :
    watchdogBite port r s = (s.bitten port q).modPort port fun p =>
      holdRound { p with lock := none, lockCycles := 0 }
        ((r.requests.filter (· ≠ q)).filter ((s.bitten port q).mayRequest port)) := by
  have hport : ¬ (port = 0 ∨ 3 < port) := by omega
  simp [watchdogBite, hl, hc.not_gt, hport, State.bitten, byDevice]

theorem chanState_dmaStop (ch st : Nat) : (s.dmaStop ch st).chanState ch = st := by
  have hget : (s.dmaStop ch st).get (k03ChannelState (48 + ch)) = st := get_put_same s _ _
  rw [State.chanState, State.getN, hget, Int.toNat_natCast]

/-- R66: a bitten channel of the DMA reads watchdog reset. -/
theorem chanState_bitten (port q : Nat) (h4 : 4 ≤ q) (h19 : q ≤ 19) : (s.bitten port q).chanState (q - 4) = 6 := by
  simp [State.bitten, State.resetEngine, h4, h19, chanState_dmaStop]

/-- A slot's objects and its own memory are not the waiting queue, nor is the power of the panel. -/
theorem queue_recoverSlots : s.recoverSlots.display.queue = s.display.queue := by
  unfold State.recoverSlots
  split
  · rfl
  · extract_lets t
    have ht : t.display.queue = s.display.queue := by
      refine each_view (fun u : State => u.display.queue) s _ _ fun u i _ => ?_
      have hputs := congrArg (fun x : State => x.display.queue)
        (puts_rest u [(k24SlotState (16 + i), 3), (k24FramesDone (16 + i), 0)])
      exact hputs
    rw [← ht]
    simp only [State.showEngine, put_display, State.panelOn]
    split <;> rfl

/-- R426: the rectangles in flight run again, none of those that waited. -/
theorem queue_displayRestart : s.displayRestart.display.queue = s.display.queue := by
  unfold State.displayRestart
  split
  · rfl
  · exact queue_recoverSlots s

/-- What waited for the four engines whose queue the registers show is discarded. -/
theorem resetEngine_queues : (s.resetEngine 29).vault.requests = [] ∧ (s.resetEngine 30).flash.ops = [] ∧
    (s.resetEngine 31).display.queue = [] ∧ (s.resetEngine 22).chainline.queue = [] := by
  have hdisplay : s.resetEngine 31 = s.displayReset.displayRestart := by simp [State.resetEngine]
  rw [hdisplay, queue_displayRestart]
  exact ⟨by simp [State.resetEngine], by simp [State.resetEngine], rfl, by simp [State.resetEngine, Chainline.cleared]⟩

/-- Settles O7: one row after the other. -/
theorem cadenceRows : Obligations.CadenceRows := by
  unfold Obligations.CadenceRows
  refine ⟨fun s p hstep hw hd hc => ⟨_, rfl, ?_⟩, fun s p hstep hw hd hc => ⟨_, rfl, ?_, ?_⟩,
    fun s h => ⟨_, rfl, planSwitch_idle s h⟩, fun s e l he => ⟨_, rfl, overrun_recorded s e l he⟩,
    fun s port r h1 h3 hg => ⟨_, rfl, derailleurRound_free s port r h1 h3 hg⟩,
    fun s port r q h1 h3 hl hc => ⟨_, s.bitten port q, rfl, rfl, watchdogBite_held s port r q h1 h3 hl hc⟩,
    fun s port r q h1 h3 hl hc h4 h19 => ⟨_, rfl, ?_⟩, resetEngine_queues⟩
  · rw [planSwitch_inTurn s hstep, switchPlan_sameLength s p hw hd hc, runPlan_modes]
  · rw [planSwitch_inTurn s hstep, switchPlan_newLength s p hw hd hc, setCapture_modes, runPlan_modes]
  · obtain ⟨hlength, hpannier⟩ := planSwitch_rest s hstep k03CaptureLength
    rw [hlength, hpannier, switchPlan_newLength s p hw hd hc]
    exact ⟨setCapture_length _ _, rfl⟩
  · rw [watchdogBite_held s port r q h1 h3 hl hc]
    exact chanState_bitten s port q h4 h19

end Sys2Proof.Machine
end

section
/-! The rows of Pannier (O10): the capture ring from its trigger to its release, and the steps of the spare-bank rotation. -/

namespace Sys2Proof.Machine

variable (s : State)

/-! ### The capture ring (R57) -/

theorem postTriggerEnd_due (hrun : s.getN k03CaptureState = 1) (hstop : s.reached s.pannier.ringStop = true) :
    postTriggerEnd s = s.put k03CaptureState 2 := by
  simp [postTriggerEnd, hrun, hstop]

/-- The first enabled trigger of a running ring. -/
theorem captureTrigger_first (source at_ : Nat) (hrun : s.getN k03CaptureState = 0)
    (hmask : bit (s.getN k03TriggerMask) source = true) :
    s.captureTrigger source at_ =
      { s.puts [(k03TriggerCC, at_), (k03CaptureState, 1)] with
          pannier := { s.pannier with ringStop := (at_ + s.getN k03PostTriggerTime) % ccMod } } := by
  simp [State.captureTrigger, hrun, hmask]

theorem objects_captureTrigger (source at_ : Nat) (hrun : s.getN k03CaptureState = 0)
    (hmask : bit (s.getN k03TriggerMask) source = true) :
    objects s (s.captureTrigger source at_) [(k03TriggerCC, at_), (k03CaptureState, 1)] := by
  rw [captureTrigger_first s source at_ hrun hmask]
  exact objects_puts s [(k03TriggerCC, at_), (k03CaptureState, 1)] (by simp [key])

theorem applyRelease_frozen (h : s.getN k03CaptureState = 2) : applyRelease 1 s = s.put k03CaptureState 0 := by
  simp [applyRelease, h]

/-! ### The spare-bank rotation (R58, R59) -/

@[simp] theorem puts_pannier (l : List (Nat × Int)) : (s.puts l).pannier = s.pannier := by
  have h := congrArg State.pannier (puts_rest s l)
  exact h

@[simp] theorem count_pannier (k : Nat) : (s.count k).pannier = s.pannier := by
  have h := congrArg State.pannier (count_rest s k)
  exact h

/-- The end of a pass of the self-test is recorded beside Pannier (R473). -/
@[simp] theorem passDone_pannier (target state : Nat) : (s.passDone target state).pannier = s.pannier := by
  simp [State.passDone]

theorem dwellEnd_due (hidle : s.getN k03RotationState = 0) (hend : s.reached s.pannier.dwellEnd = true)
    (hspare : s.pannier.spare.isSome = true) :
    dwellEnd s = { s.put k03RotationState 1 with pannier := { s.pannier with copied := 0 } } := by
  simp [dwellEnd, hidle, hend, hspare]

/-- R58 step 2: the copy is complete, so the map sends the rotating bank to the spare. -/
theorem mapSwitch_copied (sp : Nat) (hcopy : s.getN k03RotationState = 1) (hall : s.pannier.copied = bankWords)
    (hspare : s.pannier.spare = some sp) :
    mapSwitch s =
      { s.puts [(k03RotationState, 2), (k03BankUse (1 + sp), s.getN k03RotationBank),
                (k03BankUse (1 + s.pannier.map.getD (s.getN k03RotationBank) 0), 17), (k38TargetState 1, 1)] with
          pannier := { s.pannier with map := s.pannier.map.set (s.getN k03RotationBank) sp, spare := none, tested := 0
                                      testing := some (s.pannier.map.getD (s.getN k03RotationBank) 0) } } := by
  simp only [mapSwitch, hspare, hcopy, hall, decide_true, Bool.and_self, if_true]

/-- R58 step 4: the isolated bank can be used once its test has ended, so it becomes the spare. -/
theorem newSpare_usable (p : Nat) (failRows : List Nat) (hbank : s.pannier.testing = some p)
    (htest : s.getN k03RotationState = 2) (hdone : 10 * bankWords ≤ s.pannier.tested)
    (hok : (s.failingRows 1 p failRows).2 = true) :
    (newSpare failRows s).pannier.spare = some p ∧ (newSpare failRows s).pannier.testing = none := by
  simp only [newSpare, hbank, htest, hdone, hok, decide_true, Bool.and_self, if_true, passDone_pannier, and_self]

/-- Settles O10: the writes are `writeRow_passes`, every other clause is the lemma on its row. -/
theorem pannierRows : Obligations.PannierRows := by
  unfold Obligations.PannierRows
  refine ⟨fun s hrun hstop => congrArg Host.Outcome.next (postTriggerEnd_due s hrun hstop),
    fun s sid h => congrArg Host.Outcome.next (writeRow_passes s sid _ 1 _ _ h rfl),
    fun s hrun hmask => ⟨objects_captureTrigger s 3 s.nextTick hrun hmask, ?_⟩,
    fun s sid h => congrArg Host.Outcome.next (writeRow_passes s sid _ 1 _ _ h rfl),
    fun s h => ?_,
    fun s sp hcopy hall hspare => ⟨mapSwitch s, rfl, ?_⟩,
    fun s p hbank htest hdone hok => ⟨_, rfl, newSpare_usable s p [] hbank htest hdone hok⟩,
    fun s hidle hend hspare => congrArg Host.Outcome.next (dwellEnd_due s hidle hend hspare)⟩
  · change (s.captureTrigger 3 s.nextTick).pannier.ringStop = _
    rw [captureTrigger_first s 3 s.nextTick hrun hmask, ccMod_eq]
  · rw [applyRelease_frozen s h]
    exact objects_put s k03CaptureState 0
  · rw [mapSwitch_copied s sp hcopy hall hspare]
    exact ⟨rfl, puts_rest s _⟩

end Sys2Proof.Machine
end

section
/-! The rows of the DMA channels and their windows (O11): the fetch of a descriptor, the stop and the end of one, the resume of
a paced channel, and a word through each window. -/

namespace Sys2Proof.Machine

variable (s : State)

/-! ### The channels (R61-R68) -/

section Channel
variable (ch : Nat)

/-- R66: no channel starts while it runs or waits. -/
theorem checkDmaStart_busy (h : s.dmaBusy ch = true) : checkDmaStart ch s = stBusy := by
  simp [checkDmaStart, h]

theorem checkDmaStart_free (h : s.dmaBusy ch = false) : checkDmaStart ch s = stOk := by
  simp [checkDmaStart, h]

/-- R66: a start of a channel that runs or waits is refused with BUSY. -/
theorem dmaStart_busy (sid : Nat) (h : s.rowPasses sid (k03Control (48 + ch)) 1 = true) (hbusy : s.dmaBusy ch = true) :
    s.writeRow sid (k03Control (48 + ch)) 1 (checkDmaStart ch) (applyDmaStart ch) =
      (s.answer sid (k03Control (48 + ch)) stBusy).atStep5 := by
  have hstatus := checkDmaStart_busy s ch hbusy
  rw [writeRow_barred s sid _ 1 _ _ h (by rw [hstatus]; decide), hstatus, internalNotice_other s (by decide)]

/-- R63: a descriptor in place that passes its checks and that no queue paces starts the channel. -/
theorem dmaLoad_unpaced (a : Nat) (halign : a % 4 = 0) (hlo : s.regionBase rgDescriptors ≤ a)
    (hhi : a < s.regionBase rgDescriptors + s.regionSize rgDescriptors)
    (hclean : ∀ i, i < 4 → s.pannier.poisoned.contains (a + i) = false)
    (hcheck : s.dmaCheck ch ((List.range 4).map fun i => s.word (a + i)) = stOk)
    (hpace : dPace ((List.range 4).map fun i => s.word (a + i)) = 15) :
    s.dmaLoad ch a = (((s.put (k03CurrentDescriptor (48 + ch)) a).put (k03ChannelState (48 + ch)) 1).modDma ch fun c =>
      { c with desc := (List.range 4).map fun i => s.word (a + i), index := 0, queue := none }) := by
  have hplace : ¬(((a % 4 ≠ 0 || a < s.regionBase rgDescriptors) ||
      s.regionBase rgDescriptors + s.regionSize rgDescriptors ≤ a) = true) := by
    simp [halign, hlo, hhi]
  have hfind : ((List.range 4).map fun i => a + i).find? (fun x => s.pannier.poisoned.contains x) = none := by
    simpa [List.find?_eq_none] using hclean
  have hdesc : ((List.range 4).map fun i => a + i).map s.word = (List.range 4).map fun i => s.word (a + i) :=
    List.map_map
  simp only [State.dmaLoad, hdesc, if_neg hplace, hfind, hcheck, hpace, ne_eq, not_true, decide_false, Bool.false_and,
    if_true, if_false, Bool.false_eq_true]

/-- R66: with LOCK = 0 an abort stops the channel after the current word. -/
theorem applyDmaAbort_unlocked (hbusy : s.dmaBusy ch = true) (hlock : dLock (s.dmaChan ch).desc = false) :
    applyDmaAbort ch s = s.dmaStop ch 5 := by
  simp [applyDmaAbort, hbusy, hlock]

section Moved
variable (hbusy : s.dmaBusy ch = true) (hwords : dWords (s.dmaChan ch).desc ≤ (s.dmaChan ch).index)
  (hgo : (s.dmaChan ch).aborting = false)
include hbusy hwords hgo

/-- What follows the last word of a descriptor whose channel is not being aborted (R61, R64). -/
theorem descriptorComplete_moved :
    descriptorComplete ch s =
      let t := if dEvt (s.dmaChan ch).desc then s.count (k03Completions (48 + ch)) else s
      if dLast (s.dmaChan ch).desc then t.dmaStop ch 3
      else (t.modDma ch fun c => { c with queue := none }).dmaLoad ch (dNext (s.dmaChan ch).desc) := by
  simp [descriptorComplete, hbusy, hwords, hgo]

/-- EVT counts the descriptor and LAST ends the list. -/
theorem descriptorComplete_last (hevt : dEvt (s.dmaChan ch).desc = true) (hlast : dLast (s.dmaChan ch).desc = true) :
    descriptorComplete ch s = (s.count (k03Completions (48 + ch))).dmaStop ch 3 := by
  simp [descriptorComplete_moved s ch hbusy hwords hgo, hevt, hlast]

/-- Without LAST the channel goes on with NEXT, bound to no queue. -/
theorem descriptorComplete_next (hevt : dEvt (s.dmaChan ch).desc = false) (hlast : dLast (s.dmaChan ch).desc = false) :
    descriptorComplete ch s = (s.modDma ch fun c => { c with queue := none }).dmaLoad ch (dNext (s.dmaChan ch).desc) := by
  simp [descriptorComplete_moved s ch hbusy hwords hgo, hevt, hlast]

end Moved

/-- R67: the fill lets the waiting channel go on. -/
theorem queueResume_reached (fill q : Nat) (ended : Bool) (hqueue : (s.dmaChan ch).queue = some q)
    (hwait : s.chanState ch = 2) (hfill : (s.put (k03Fill (64 + q)) fill).queueResumes q = true) :
    queueResume ch fill ended s = (s.put (k03Fill (64 + q)) fill).put (k03ChannelState (48 + ch)) 1 := by
  simp [queueResume, hqueue, hwait, hfill]

end Channel

/-! ### The windows (R69) -/

theorem coreRead_sound (a : Nat) (h : s.pannier.poisoned.contains a = false) : s.coreRead a = (s.word a, s) := by
  simp only [State.coreRead, h, Bool.false_eq_true, if_false]

theorem windowRow_word (sid k w : Nat) (t : State) : s.windowRow sid k (stOk, w, t) = t.send (.dataWord sid k w) := by
  simp [State.windowRow]

/-- A value of 48 bits is its own pattern. -/
theorem pattern_ofNat (n x : Nat) (h : x < 2 ^ n) : pattern n (x : Int) = x := by
  unfold pattern
  rw [Int.emod_eq_of_lt (Int.natCast_nonneg x) (by exact_mod_cast h), Int.toNat_natCast]

section Descriptor
variable (hin : s.getN k03DescriptorWindowOffset ≤ 16383)
include hin

theorem descriptorWindow_write (x : Nat) :
    s.descriptorWindow (some x) =
      (stOk, 0, (s.setWord (s.regionBase rgDescriptors + s.getN k03DescriptorWindowOffset) x).put
        k03DescriptorWindowOffset (s.getN k03DescriptorWindowOffset + 1)) := by
  simp [State.descriptorWindow, windowEnd, Nat.not_lt.2 hin]

theorem descriptorWindow_read
    (hclean : s.pannier.poisoned.contains (s.regionBase rgDescriptors + s.getN k03DescriptorWindowOffset) = false) :
    s.descriptorWindow none =
      (stOk, s.word (s.regionBase rgDescriptors + s.getN k03DescriptorWindowOffset),
        s.put k03DescriptorWindowOffset (s.getN k03DescriptorWindowOffset + 1)) := by
  simp [State.descriptorWindow, windowEnd, Nat.not_lt.2 hin, coreRead_sound _ _ hclean]

theorem checkDescriptorData_inWindow : checkDescriptorData s = stOk := by
  simp [checkDescriptorData, State.descriptorWindow, windowEnd, Nat.not_lt.2 hin]

end Descriptor

theorem hostWindow_read (hin : s.getN k03HostAreaOffset ≤ 32767)
    (hclean : s.pannier.poisoned.contains (s.regionBase rgHostArea + s.getN k03HostAreaOffset) = false) :
    s.hostWindow =
      (stOk, s.word (s.regionBase rgHostArea + s.getN k03HostAreaOffset),
        s.put k03HostAreaOffset (s.getN k03HostAreaOffset + 1)) := by
  simp [State.hostWindow, hostAreaEnd, Nat.not_lt.2 hin, coreRead_sound _ _ hclean]

/-- A read of the descriptor window that its checks let pass. -/
theorem descriptorWindowData_read (sid : Nat) (h : s.checkRead sid k03DescriptorWindowData = stOk) :
    descriptorWindowData sid none s = s.windowRow sid k03DescriptorWindowData (s.descriptorWindow none) := by
  simp [descriptorWindowData, h]

/-- A read of the host area that its checks let pass. -/
theorem hostAreaData_read (sid : Nat) (h : s.checkRead sid k03HostAreaData = stOk) :
    hostAreaData sid s = s.windowRow sid k03HostAreaData s.hostWindow := by
  simp [hostAreaData, h]

/-- Settles O11: the accepted writes are `writeRow_passes`, every other clause is the lemma on its row. -/
theorem dmaRows : Obligations.DmaRows := by
  unfold Obligations.DmaRows
  refine ⟨fun s sid ch _ h hfree => congrArg Host.Outcome.next
      (writeRow_passes s sid _ 1 _ _ h (checkDmaStart_free s ch hfree)),
    fun s sid ch _ h hbusy => congrArg Host.Outcome.next (dmaStart_busy s ch sid h hbusy),
    fun s ch a halign hlo hhi hclean hcheck hpace => dmaLoad_unpaced s ch a halign hlo hhi hclean hcheck hpace,
    fun s sid ch _ h => congrArg Host.Outcome.next (writeRow_passes s sid _ 2 _ _ h rfl),
    fun s ch hbusy hlock => applyDmaAbort_unlocked s ch hbusy hlock,
    fun s ch hbusy hwords hevt hlast hgo => congrArg Host.Outcome.next
      (descriptorComplete_last s ch hbusy hwords hgo hevt hlast),
    fun s ch hbusy hwords hevt hlast hgo => congrArg Host.Outcome.next
      (descriptorComplete_next s ch hbusy hwords hgo hevt hlast),
    fun s ch fill ended q hqueue hwait hfill => congrArg Host.Outcome.next
      (queueResume_reached s ch fill q ended hqueue hwait hfill),
    fun s sid x h hin => congrArg Host.Outcome.next
      (writeRow_passes s sid _ _ _ _ h (checkDescriptorData_inWindow s hin)),
    fun s x hx hin => ?_,
    fun s sid h hin hclean => congrArg Host.Outcome.next ?_,
    fun s sid h hin hclean => congrArg Host.Outcome.next ?_⟩
  · rw [applyDescriptorData, pattern_ofNat 48 x hx, descriptorWindow_write s hin]
  · rw [descriptorWindowData_read s sid h, descriptorWindow_read s hin hclean, windowRow_word]
  · rw [hostAreaData_read s sid h, hostWindow_read s hin hclean, windowRow_word]

end Sys2Proof.Machine
end

section
/-! The rows that write one object (O5): each of them is one operation in its turn, and what that operation answers when the
checks of a write fail. -/

namespace Sys2Proof.Machine

/-! ### A write that the checks refuse (R28, R82) -/

section Refused
variable {s : State} {sid k : Nat} {v : Int} {c : Instr}

/-- A row that acts in its turn, and whose operation answers the status of the checks when they fail. -/
theorem refusesItem_of_inTurn {it : WItem} (f : State → State) (hrow : exec c s = .next (s.inTurn sid it f))
    (hf : s.checkWrite sid it ≠ stOk → f s = s.answer sid it.addr (s.checkWrite sid it)) : refusesItem s sid c it := by
  refine ⟨fun hw => ?_, fun hw hc => ?_⟩
  · rw [hrow, State.inTurn, hw]
    rfl
  · rw [hrow, State.inTurn, hw, if_pos rfl, hf hc]

theorem refusesAlone_of_writeRow {chk : State → Nat} {eff : State → State}
    (hrow : exec c s = .next (s.writeRow sid k v chk eff)) : refusesAlone s sid c k v :=
  ⟨fun hw => hrow.trans (congrArg _ (writeRow_waits s sid k v chk eff hw)),
    fun hw hc => hrow.trans (congrArg _ (writeRow_refused s sid k v chk eff hw hc))⟩

theorem refusesItem_of_writeObject {it : WItem} (hrow : exec c s = .next (s.writeObject sid it)) : refusesItem s sid c it :=
  refusesItem_of_inTurn (fun s => s.writeItem sid it) hrow fun h => by simp [State.writeItem, h]

/-- An authorisation leaves an offer (R235) only where the checks of the write pass. -/
theorem authoriseSpoke_refused (h : s.rowPasses sid k12AuthoriseSpoke v = false) :
    authoriseSpoke sid v s = s.writeRow sid k12AuthoriseSpoke v (checkAuthorise v) (applyAuthorise v) := by
  simp [authoriseSpoke, h]

theorem refusesAlone_authoriseSpoke : refusesAlone s sid (.authoriseSpoke sid v) k12AuthoriseSpoke v := by
  refine ⟨fun hw => congrArg Host.Outcome.next ?_, fun hw hc => congrArg Host.Outcome.next ?_⟩
  · rw [authoriseSpoke_refused (by simp [State.rowPasses, hw]), writeRow_waits _ _ _ _ _ _ hw]
  · rw [authoriseSpoke_refused (by simp [State.rowPasses, hc]), writeRow_refused _ _ _ _ _ _ hw hc]

/-- A # at the keypad goes before a token only where the checks of the write pass (R370). -/
theorem refusesAlone_tokenEntry : refusesAlone s sid (.tokenEntry sid v) k13TokenEntry v :=
  refusesItem_of_inTurn
    (fun s => (s.when (s.checkWrite sid ⟨k13TokenEntry, ownType, v⟩ = stOk) State.hashFirst).tokenRow sid v) rfl
    fun h => by simp [State.when, State.tokenRow, h]

end Refused

/-! ### What the checks of a write require (R82, R90, R101, R103, R105, R106) -/

section Checks
variable (s : State) (sid : Nat) (it : WItem)

theorem checkWrite_loggedOut (h : s.loggedIn sid = false) : s.checkWrite sid it = stNotLoggedIn := by
  simp [State.checkWrite, h]

theorem checkWrite_loggedIn (h : s.loggedIn sid = true) : s.checkWrite sid it = s.checkCommon sid it := by
  simp [State.checkWrite, h]

theorem checkCommon_noObject (h : s.object it.addr = none) : s.checkCommon sid it = stNoObject := by
  simp [State.checkCommon, h]

/-- A check that answers a status of refusal lets pass what does not meet it and passes the checks behind it. -/
theorem refusal_or_iff {c : Prop} [Decidable c] {st rest : Nat} (hst : st ≠ stOk) :
    (if c then st else rest) = stOk ↔ ¬c ∧ rest = stOk := by
  by_cases h : c <;> simp [h, hst]

/-- A write that passes meets no refusal of R82. -/
theorem checkCommon_passes (r : ObjRow) (hr : s.object it.addr = some r) (h : s.checkCommon sid it = stOk) :
    rangeOk r it.value = true ∧ (it.type = ownType ∨ it.type = r.ty.code) ∧ (r.kind = .count → it.value = 0) ∧
      (r.kind = .setting → s.cfgBusy = false) ∧
      (needsSeal r (keyClass it.addr) (keyInst it.addr) (keyMember it.addr) = true → s.sealOpen = true) := by
  simp only [State.checkCommon, hr] at h
  simp (disch := decide) only [refusal_or_iff] at h
  obtain ⟨-, -, -, hseal, htype, hcount, hrange, hcfg, -⟩ := h
  simp only [Bool.and_eq_true, Bool.not_eq_true', decide_eq_true_eq, not_and, not_not, Bool.not_eq_false,
    Bool.not_eq_true, ne_eq] at *
  exact ⟨hrange, Decidable.or_iff_not_imp_left.2 htype, hcount, hcfg, hseal⟩

end Checks

/-! ### An accepted write of a setting or of a count (R105, R106, R434) -/

section Accepted
variable (s : State) (sid addr ty : Nat) (v : Int)

/-- A write that the checks and the rule of its chapter let pass takes effect in its turn. -/
theorem writeObject_passes (ho : s.writesOpen = true) (hw : s.checkWrite sid ⟨addr, ty, v⟩ = stOk)
    (hc : s.checkItem sid (s.session sid).last [⟨addr, ty, v⟩] addr v = stOk) (hk : addr ≠ k13TokenEntry) :
    s.writeObject sid ⟨addr, ty, v⟩ =
      (s.writeOne sid addr v fun u => u.applyItem sid (s.session sid).last addr v).atStep5 := by
  simp [State.writeObject, State.inTurn, State.writeItem, ho, hw, hc, hk]

theorem writeOne_setting (eff : State → State) (hs : isSetting addr = true) (hl : s.logFits [(addr, v)] = true) :
    s.writeOne sid addr v eff = ((s.effect sid eff).logSetting addr v).answer sid addr stOk := by
  simp [State.writeOne, hs, hl]

theorem writeOne_full (eff : State → State) (hs : isSetting addr = true) (hl : s.logFits [(addr, v)] = false) :
    s.writeOne sid addr v eff = (s.noticeOpen 0 0x0F21).answer sid addr stFull := by
  simp [State.writeOne, hs, hl, byDevice]

theorem writeOne_unlogged (eff : State → State) (hs : isSetting addr = false) :
    s.writeOne sid addr v eff = (s.effect sid eff).answer sid addr stOk := by
  simp [State.writeOne, hs]

end Accepted

/-- No token entry is a setting: an accepted write of one does not come to the setting log. -/
theorem ne_tokenEntry_of_isSetting {k : Nat} (h : isSetting k = true) : k ≠ k13TokenEntry := by
  have htoken : isSetting k13TokenEntry = false := by decide
  rintro rfl
  exact Bool.false_ne_true (htoken.symm.trans h)

/-- Settles O5: what a refused row leaves is `refusesAlone_of_writeRow` but for the rows of an object of any class, of an
authorisation and of a token; the checks are those of R82 in their order; an accepted write is `writeObject_passes`. -/
theorem writeRows : Obligations.WriteRows := by
  unfold Obligations.WriteRows
  refine ⟨fun s sid n m ty v => ?_, fun s sid it => ⟨checkWrite_loggedOut s sid it, fun hin hobj => ?_, fun r hin hobj h => ?_⟩,
    fun s sid addr ty v ho hw hc hs hl => congrArg Host.Outcome.next ?_,
    fun s sid addr ty v ho hw hc hs hl => congrArg Host.Outcome.next ?_,
    fun s sid addr hp hc hs hk => congrArg Host.Outcome.next ?_⟩
  · refine ⟨?_, ?_, ?_, ?_, ?_, ?_, ?_, ?_, ?_, ?_, ?_, ?_, ?_, ?_, ?_, ?_, ?_, ?_, ?_, ?_, ?_, ?_, ?_, ?_, ?_, ?_,
      refusesAlone_authoriseSpoke, ?_, ?_, refusesAlone_tokenEntry, ?_, ?_, ?_, ?_, ?_, ?_, ?_, ?_, ?_, ?_, ?_, ?_, ?_, ?_, ?_, ?_,
      ?_, ?_, refusesItem_of_writeObject rfl, refusesItem_of_writeObject rfl, refusesItem_of_writeObject rfl⟩
    all_goals exact refusesAlone_of_writeRow rfl
  · rw [checkWrite_loggedIn s sid it hin, checkCommon_noObject s sid it hobj]
  · exact checkCommon_passes s sid it r hobj (checkWrite_loggedIn s sid it hin ▸ h)
  · rw [writeObject_passes s sid addr ty v ho hw hc (ne_tokenEntry_of_isSetting hs), writeOne_setting s sid addr v _ hs hl]
  · rw [writeObject_passes s sid addr ty v ho hw hc (ne_tokenEntry_of_isSetting hs), writeOne_full s sid addr v _ hs hl]
  · obtain ⟨ho, hw⟩ := (rowPasses_iff s sid addr 0).1 hp
    rw [writeObject_passes s sid addr ownType 0 ho hw hc hk, writeOne_unlogged s sid addr 0 _ hs]

end Sys2Proof.Machine
end

section
/-! The carriage of KOD (O49): the first fragment of a PDU on CAN FD, the end of a reassembly, a datagram, and what the
10BASE-T1S interface answers beside KOD. -/

namespace Sys2Proof.Machine

variable (s : State)

/-! ### CAN FD (R70, R71, R77) -/

/-- R70: a frame that is no extended CAN FD frame with a bit-rate switch carries no KOD. -/
theorem canFdFrame_ignored (ctrl : Nat) (f : CanFrame) (h : f.brs = false ∨ f.fdf = false ∨ f.extended = false) :
    canFdFrame ctrl f s = s := by
  rcases h with h | h | h <;> simp [canFdFrame, h]

/-- A frame that passes the filter is taken as a fragment. -/
theorem canFdFrame_fragment (ctrl : Nat) (f : CanFrame) (hpower : s.modes.powered = true) (hfw : s.lease.fwUp = true)
    (hboot : s.modes.booted = true) (hcarry : s.carries (.can ctrl (field f.ident 13 7)) = true) (hext : f.extended = true)
    (hfdf : f.fdf = true) (hbrs : f.brs = true) (hprio : field f.ident 28 26 ≠ 0) (hsrc : 1 ≤ field f.ident 13 7)
    (hnode : field f.ident 13 7 ≤ 120) (hdest : field f.ident 20 14 = s.getN (k04NodeID ctrl) ∨ field f.ident 20 14 = 0) :
    canFdFrame ctrl f s = s.fragment ctrl (field f.ident 13 7) (field f.ident 20 14) (field f.ident 28 26)
      (field f.ident 25 21) (field f.ident 6 0) f.data := by
  have hhost : ¬ 121 ≤ field f.ident 13 7 := by omega
  have hzero : field f.ident 13 7 ≠ 0 := by omega
  have hours : ¬ field f.ident 20 14 = s.getN (k04NodeID ctrl) → field f.ident 20 14 = 0 := hdest.resolve_left
  simp +contextual [canFdFrame, hpower, hfw, hboot, hcarry, hext, hfdf, hbrs, hprio, hzero, hhost, hours]

/-- R71: FRAG 40h is fragment 0 with more to come; it begins a reassembly. -/
theorem fragment_first (ctrl node dest prio service : Nat) (data : List Byte) (hold : s.reassembly ctrl node = none) :
    s.fragment ctrl node dest prio service 64 data =
      { s with kod := { s.kod with reasm := (s.kod.reasm.filter fun x => !(x.ctrl = ctrl && x.node = node)) ++
        [{ ctrl := ctrl, node := node, prio := prio, service := service, next := 1, data := data, tick := s.cc }] } } := by
  have hmore : bit 64 6 = true := by decide
  simp [State.fragment, hold, hmore]

theorem reassemblyTimeout_due (ctrl node : Nat) (x : Reassembly) (hx : s.reassembly ctrl node = some x)
    (hgap : 400 < s.since x.tick) : reassemblyTimeout ctrl node s = s.dropFragments ctrl node := by
  simp [reassemblyTimeout, hx, fragmentGap, msTicks, hgap]

@[simp] theorem count_kod (k : Nat) : (s.count k).kod = s.kod := by
  have h := congrArg State.kod (count_rest s k)
  exact h

/-- What has been received of the PDU is given up. -/
theorem reassembly_dropFragments (ctrl node : Nat) : (s.dropFragments ctrl node).reassembly ctrl node = none := by
  have hreasm : (s.dropFragments ctrl node).kod.reasm = s.kod.reasm.filter fun x => !(x.ctrl = ctrl && x.node = node) := by
    rw [State.dropFragments, notice_kod, count_kod]
  rw [State.reassembly, hreasm, List.find?_eq_none]
  intro x hx
  simpa [imp_iff_not_or] using List.of_mem_filter hx

theorem get_dropFragments (ctrl node : Nat) :
    (s.dropFragments ctrl node).get k04DiscardedPDUs = oneMore s k04DiscardedPDUs :=
  get_count _ _ (by decide)

theorem raised_dropFragments (ctrl node : Nat) :
    (s.dropFragments ctrl node).recorder.raised.getLast? = some ⟨0x0301, 0, ctrl * 256 + node⟩ := by
  rw [State.dropFragments, notice_raised, List.getLast?_concat]
  rfl

/-! ### The 10BASE-T1S interface (R73, R74) -/

/-- The bytes of a list are its own after the way through their numbers. -/
theorem toBytes_natBytes (l : List Byte) : toBytes (natBytes l) = l := by
  simp [toBytes, natBytes, Function.comp_def]

/-- R74: VER 01h, a priority and the length of its own PDU; an IPv6 source needs no address of ours. -/
theorem kodDatagram_received (addr port : Nat) (b : Byte) (p : List Byte) (hup : s.netUp = true) (h6 : 2 ^ 32 ≤ addr)
    (hprio : 32 ≤ b.toNat) (hmin : 6 ≤ p.length) (hlen : p.length = pduTotal (natBytes p)) :
    kodDatagram addr port .unicast (b :: 1 :: p) s =
      s.receive { ep := .udp addr port, broadcast := false, prio := b.toNat / 32, service := b.toNat % 32, data := p } := by
  have hv4 : ¬ addr < 4294967296 := by omega
  have hbytes : natBytes (b :: 1#8 :: p) = b.toNat :: 1 :: natBytes p := rfl
  have hn : (natBytes p).length = p.length := List.length_map _
  have hp0 : b.toNat / 32 ≠ 0 := by omega
  simp [kodDatagram, hbytes, hup, hv4, hn, hp0, ← hlen, hmin, toBytes_natBytes]

section Answers
variable (src : Nat) (payload : List Byte)

theorem echoRequest_v6 (hup : s.netUp = true) : echoRequest true src payload s = s.send (.net "echo reply" src payload) := by
  simp [echoRequest, hup]

/-- R73: IPv4 is off at address 0.0.0.0. -/
theorem echoRequest_v4_off (h0 : s.getN k04IPv4Address = 0) : echoRequest false src payload s = s := by
  simp [echoRequest, State.ipv4On, h0]

theorem neighbourDiscovery_up (hup : s.netUp = true) :
    neighbourDiscovery src s = s.send (.net "neighbour advertisement" src
      (toBytes (linkLocal ++ bytesBE 6 (Config.deviceMac % 2 ^ 48)))) := by
  rw [neighbourDiscovery, if_pos hup, ccMod_eq]

theorem arpRequest_ours (hup : s.netUp = true) (h0 : s.getN k04IPv4Address ≠ 0) :
    arpRequest src (s.getN k04IPv4Address) s = s.send (.net "ARP reply" src
      (toBytes (bytesBE 4 (s.getN k04IPv4Address) ++ bytesBE 6 (Config.deviceMac % 2 ^ 48)))) := by
  simp [arpRequest, State.ipv4On, hup, h0, ccMod_eq]

end Answers

/-- Settles O49: one message after the other. -/
theorem transportRows : Obligations.TransportRows := by
  unfold Obligations.TransportRows
  refine ⟨fun s ctrl f hpower hfw hboot hcarry hext hfdf hbrs hprio hsrc hnode hdest hfrag hold => congrArg Host.Outcome.next ?_,
    fun s ctrl f h => congrArg Host.Outcome.next (canFdFrame_ignored s ctrl f h),
    fun s ctrl node x hx hgap => ⟨_, congrArg Host.Outcome.next (reassemblyTimeout_due s ctrl node x hx hgap),
      reassembly_dropFragments s ctrl node, get_dropFragments s ctrl node, raised_dropFragments s ctrl node⟩,
    fun s addr port data p b hup h6 hdata hprio hmin hlen => congrArg Host.Outcome.next ?_,
    fun s src payload hup => congrArg Host.Outcome.next (echoRequest_v6 s src payload hup),
    fun s src payload _ h0 => congrArg Host.Outcome.next (echoRequest_v4_off s src payload h0),
    fun s src hup => congrArg Host.Outcome.next (neighbourDiscovery_up s src hup),
    fun s src hup h0 => congrArg Host.Outcome.next (arpRequest_ours s src hup h0)⟩
  · rw [canFdFrame_fragment s ctrl f hpower hfw hboot hcarry hext hfdf hbrs hprio hsrc hnode hdest, hfrag,
      fragment_first s ctrl _ _ _ _ _ hold]
  · rw [hdata, kodDatagram_received s addr port b p hup h6 hprio hmin hlen]

end Sys2Proof.Machine
end

section
/-! A request and the gate before its service (O50): where the gate sends it, and what answers one that is not served. -/

namespace Sys2Proof.Machine

section Gate
variable (s : State) (r : KodReq) (service : Nat) (body : List Nat) (run : Service)

/-! ### Where the gate sends a request (R78-R80, R88, R90) -/

theorem carries_taken (ep : Endpoint) : (s.taken r service body).carries ep = s.carries ep := by cases ep <;> rfl

section Carried
variable (hup : s.kodUp = true) (hcarry : s.carries r.ep = true) (hcast : r.broadcast = false ∨ service = 12)
include hup hcarry hcast

/-- A request over an interface that carries KOD, and not cast to all unless it asks who is there, is judged by its session. -/
theorem serve_carried : s.serve r service body run =
    if r.sid = 0 then (s.taken r service body).serveOpen r service (scopeOf service).zero run
    else if s.sessionState r.sid = 0 || (s.session r.sid).ep ≠ some r.ep then
      (s.taken r service body).respond r service none [stExpired]
    else if s.sessionState r.sid = 1 then (s.taken r service body).serveOpen r service (scopeOf service).pend run
    else (s.taken r service body).serveLogged r service (scopeOf service).logged body run := by
  have hup' : (s.taken r service body).kodUp = true := hup
  have hcast' : (r.broadcast && service ≠ 12) = false := by rcases hcast with h | h <;> simp [h]
  simp only [State.serve, hup', carries_taken, hcarry, hcast', Bool.not_true, Bool.or_self, Bool.false_eq_true, if_false]
  rfl

theorem serve_sessionless (h0 : r.sid = 0) :
    s.serve r service body run = (s.taken r service body).serveOpen r service (scopeOf service).zero run := by
  rw [serve_carried s r service body run hup hcarry hcast, if_pos h0]

section Session
variable (h0 : r.sid ≠ 0)
include h0

theorem serve_unknown (hfree : s.sessionState r.sid = 0) :
    s.serve r service body run = (s.taken r service body).respond r service none [stExpired] := by
  simp [serve_carried s r service body run hup hcarry hcast, h0, hfree]

variable (hep : (s.session r.sid).ep = some r.ep)
include hep

theorem serve_pending (hpend : s.sessionState r.sid = 1) :
    s.serve r service body run = (s.taken r service body).serveOpen r service (scopeOf service).pend run := by
  simp [serve_carried s r service body run hup hcarry hcast, h0, hpend, hep]

theorem serve_logged (hin : s.sessionState r.sid = 2) :
    s.serve r service body run = (s.taken r service body).serveLogged r service (scopeOf service).logged body run := by
  simp [serve_carried s r service body run hup hcarry hcast, h0, hin, hep]

end Session

end Carried

/-! ### Without a logged-in session (R90) -/

theorem serveOpen_barred : s.serveOpen r service false run = s.respond r service none [stNotLoggedIn] := rfl

/-! ### On a logged-in session (R76, R78, R79, R389) -/

section Logged
variable (ok : Bool)

/-- R389: the key of the session stands under another boot wrap key than the one in force. -/
theorem serveLogged_keyLost (htag : r.tag.isSome = true) (hlost : (s.session r.sid).under ≠ s.vault.bootKey) :
    s.serveLogged r service ok body run = s.keyLost r service := by
  simp [State.serveLogged, State.keyHeld, htag, hlost]

variable (hheld : (s.session r.sid).under = s.vault.bootKey)
include hheld

/-- R76. -/
theorem serveLogged_forged
    (htag : r.tag ≠ some (kodTag (s.session r.sid).key service (pduBytes 0 true r.sid r.seq body))) :
    s.serveLogged r service ok body run = (s.forTag (r.tag.map fun _ => (s.session r.sid).key)).discardTag r.sid := by
  simp [State.serveLogged, State.keyHeld, hheld, htag]

variable (htag : r.tag = some (kodTag (s.session r.sid).key service (pduBytes 0 true r.sid r.seq body)))
include htag

/-- R79: the session waits for the response of a request. -/
theorem serveLogged_busy (hbusy : (s.session r.sid).busy = true) : s.serveLogged r service ok body run =
    (s.useKey (s.session r.sid).key).respond r service (some (s.session r.sid).key) [stBusy] := by
  simp [State.serveLogged, State.keyHeld, hheld, htag, hbusy, State.forTag]

/-- R78: the sequence number neither repeats the last request nor follows it. -/
theorem serveLogged_outOfSequence (hbusy : (s.session r.sid).busy = false) (hlast : r.seq ≠ (s.session r.sid).last)
    (hnext : r.seq ≠ ((s.session r.sid).last + 1) % 65536) : s.serveLogged r service ok body run =
      (s.useKey (s.session r.sid).key).respond r service (some (s.session r.sid).key) [stBadSequence] := by
  simp [State.serveLogged, State.keyHeld, hheld, htag, hbusy, hlast, hnext, State.forTag]

end Logged

end Gate

/-- Settles O50: the gate sends the request on by its session (`serve_carried`), and the check that it fails there answers it. -/
theorem requestsTurnedAway : Obligations.RequestsTurnedAway := by
  unfold Obligations.RequestsTurnedAway
  intro s r service body run hup hcarry hb
  have hlogged : r.sid ≠ 0 → s.sessionState r.sid = 2 → (s.session r.sid).ep = some r.ep → _ := fun h0 hin hep =>
    serve_logged s r service body run hup hcarry (.inl hb) h0 hep hin
  refine ⟨fun h0 hzero => ?_, fun h0 hfree => serve_unknown s r service body run hup hcarry (.inl hb) h0 hfree,
    fun h0 hin hep htag hlost => ?_, fun h0 hin hep hheld htag => ?_,
    fun h0 hin hep hheld htag hbusy => ⟨(s.taken r service body).useKey (s.session r.sid).key, ?_, rfl⟩,
    fun h0 hin hep hheld htag hbusy hlast hnext => ⟨(s.taken r service body).useKey (s.session r.sid).key, ?_, rfl⟩⟩
  · rw [serve_sessionless s r service body run hup hcarry (.inl hb) h0, hzero, serveOpen_barred]
  · rw [hlogged h0 hin hep]
    exact serveLogged_keyLost _ r service body run _ htag hlost
  · rw [hlogged h0 hin hep]
    exact serveLogged_forged _ r service body run _ hheld htag
  · rw [hlogged h0 hin hep]
    exact serveLogged_busy _ r service body run _ hheld htag hbusy
  · rw [hlogged h0 hin hep]
    exact serveLogged_outOfSequence _ r service body run _ hheld htag hbusy hlast hnext

end Sys2Proof.Machine
end

section
/-! The services of a logged-in session (O51): each service said as what it leaves and answers, then run where the gate begins
it. -/

namespace Sys2Proof.Machine

/-! ### The state in which a service begins -/

section Begun
variable (s : State) (r : KodReq) (service : Nat) (body : List Nat)

theorem bootstrap_modSession (i sid : Nat) (f : KodSession → KodSession) (hf : ∀ x, (f x).bootstrap = x.bootstrap) :
    ((s.modSession i f).session sid).bootstrap = (s.session sid).bootstrap := by
  simp only [State.session, State.modSession, List.getD_eq_getElem?_getD, List.getElem?_modify]
  cases s.kod.sessions[sid - 1]? with
  | none => rfl
  | some x => by_cases hi : i - 1 = sid - 1 <;> simp [hi, hf]

/-- The sequence number and the idle time of a session do not tell how it logged in. -/
theorem bootstrap_begun (sid : Nat) :
    ((begun s r service body).session sid).bootstrap = (s.session sid).bootstrap :=
  bootstrap_modSession ((s.taken r service body).useKey (s.session r.sid).key) r.sid sid _ fun _ => rfl

/-- So what a session may read there is what it may read now (R81, R393). -/
theorem checkRead_begun (sid k : Nat) : (begun s r service body).checkRead sid k = s.checkRead sid k := by
  simp only [State.checkRead, State.bootstrapOk, bootstrap_begun]
  rfl

/-- The service of an accepted request answers at once, on the state it leaves. -/
theorem serve_answered (run : Service) (t : State) (answer : List Nat) (h : accepts s r service body)
    (hs : (scopeOf service).logged = true) (hrun : run (begun s r service body) = (t, some answer)) :
    s.serve r service body run = t.conclude r service (s.session r.sid).key answer := by
  rw [serve_accepted s r service body run h hs, hrun]

end Begun

section Services
variable (s : State) (sid : Nat)

/-! ### READ and WRITE (R81, R82) -/

theorem serveRead_items (addrs : List Nat) (hne : addrs ≠ []) (hmax : addrs.length ≤ 32)
    (hfit : 1 + (s.readItems sid addrs).2.length ≤ 1010) :
    serveRead sid addrs s = ((s.readItems sid addrs).1, some (stOk :: (s.readItems sid addrs).2)) := by
  simp [serveRead, maxBody, hne, hmax.not_gt, hfit.not_gt]

theorem serveRead_outOfRange (addrs : List Nat) (h : addrs = [] ∨ 32 < addrs.length) :
    serveRead sid addrs s = (s, some [stOutOfRange]) := by
  simp [serveRead, h]

/-- What passes waits for the boundary; its session owes no answer before it. -/
theorem serveWrite_waits (r : KodReq) (items : List WItem) (hne : items ≠ []) (hmax : items.length ≤ 16)
    (hvalid : (validateFrom r.sid r.seq items items 0 s.withWaiting).1 = stOk) :
    serveWrite r items s =
      (({ s with kod := { s.kod with writes := s.kod.writes ++ [(⟨r, items, false⟩ : PendingWrite)] } }).modSession r.sid
        fun x => { x with busy := true }, none) := by
  simp [serveWrite, hne, hmax.not_gt, hvalid]

/-! ### Runs (R83) -/

theorem serveReadRun_words (k n : Nat) (hread : s.checkRead sid k = stOk) (hwindow : isWindow k = true) (hn : n ≠ 0)
    (hmax : n ≤ 167) :
    serveReadRun sid k n s = ((readWords k n s).1, some ([(readWords k n s).2.2, ObjType.u48.code] ++
      bytesBE 2 (readWords k n s).2.1.length ++ (readWords k n s).2.1.flatMap (bytesBE 6))) := by
  simp [serveReadRun, hread, hwindow, hn, hmax.not_gt]

theorem serveWriteRun_words (k : Nat) (ws : List Nat) (hobj : (s.object k).isSome = true) (hwindow : isWindow k = true)
    (hne : ws ≠ []) (hmax : ws.length ≤ 167) :
    serveWriteRun sid k ObjType.u48.code ws s = ((writeWords sid k ObjType.u48.code ws 0 s).1,
      some ([(writeWords sid k ObjType.u48.code ws 0 s).2.2] ++ bytesBE 2 (writeWords sid k ObjType.u48.code ws 0 s).2.1)) := by
  have hsome : (s.object k).isNone = false := by simpa using hobj
  simp [serveWriteRun, hsome, hwindow, hne, hmax.not_gt]

/-! ### Subscriptions (R91, R92) -/

section Subscribe
variable (b : SubReq)

theorem serveSubscribe_full (hfull : ∀ x ∈ s.kod.subs, x ≠ none) : serveSubscribe sid b s = (s, some [stFull]) := by
  have hnone : s.kod.subs.findIdx? (fun x => x.isNone) = none := by
    simpa [List.findIdx?_eq_none_iff, Option.isSome_iff_ne_none] using hfull
  simp [serveSubscribe, hnone]

/-- A subscription to one object as it is entered: what the object reads stands as last sent (log entry 42). -/
def State.entered (s : State) (sid : Nat) (b : SubReq) : Subscription :=
  { sid := sid, req := b, lastTick := s.cc, lastSent := [(b.addr, s.value b.addr)], unsent := none, coalesced := false }

/-- One object that may be read, at a change or periodically, in the first place that is free. -/
theorem serveSubscribe_one (rest : List (Option Subscription)) (hsubs : s.kod.subs = none :: rest) (hall : b.all = false)
    (hobj : (s.object b.addr).isSome = true) (hread : s.checkRead sid b.addr = stOk) (hwhen : b.chg = true ∨ b.period ≠ 0)
    (hlo : 1 ≤ b.nprio) (hhi : b.nprio ≤ 7) (hperiod : b.period ≤ 6000) (hband : b.deadband = 0) :
    serveSubscribe sid b s =
      ({ s with kod := { s.kod with subs := some (s.entered sid b) :: rest } }, some [stOk, 0]) := by
  have hks : s.subscribed b = [b.addr] := by simp [State.subscribed, hall, hobj]
  have hnever : ¬ (b.chg = false ∧ b.period = 0) := by rcases hwhen with h | h <;> simp [h]
  have hprio : b.nprio ≠ 0 := by omega
  simp [serveSubscribe, hsubs, List.findIdx?_cons, hks, hread, hnever, hprio, hhi.not_gt, hperiod.not_gt, hband, State.entered]

theorem serveUnsubscribe_own (n : Nat) (x : Subscription) (hx : s.kod.subs.getD n none = some x) (hsid : x.sid = sid) :
    serveUnsubscribe sid n s = ({ s with kod := { s.kod with subs := s.kod.subs.set n none } }, some [stOk]) := by
  simp only [serveUnsubscribe, hx, hsid, if_true]

end Subscribe

end Services

/-- Settles O51: every request passes the gate by `serve_answered`, a WRITE by `serve_accepted`, since its answer waits; DISCOVER
asks for no session. -/
theorem serviceRows : Obligations.ServiceRows := by
  unfold Obligations.ServiceRows
  refine ⟨fun s r h => congrArg Host.Outcome.next (serve_answered s r 8 [] _ _ _ h rfl rfl),
    fun s r h => congrArg Host.Outcome.next (serve_answered s r 7 [] _ _ _ h rfl rfl),
    fun s r addrs h hne hmax hfit => congrArg Host.Outcome.next
      (serve_answered s r 1 _ _ _ _ h rfl (serveRead_items _ r.sid addrs hne hmax hfit)),
    fun s r addrs h hbad => congrArg Host.Outcome.next
      (serve_answered s r 1 _ _ _ _ h rfl (serveRead_outOfRange _ r.sid addrs hbad)),
    fun s r items h hne hmax hvalid => congrArg Host.Outcome.next ?_,
    fun s r k n h hread hwindow hn hmax => ⟨_, _, _, congrArg Host.Outcome.next (serve_answered s r 3 _ _ _ _ h rfl
      (serveReadRun_words _ r.sid k n ((checkRead_begun s r 3 _ r.sid k).trans hread) hwindow hn hmax)), rfl⟩,
    fun s r k ws h hobj hwindow hne hmax => ⟨_, _, _, congrArg Host.Outcome.next (serve_answered s r 4 _ _ _ _ h rfl
      (serveWriteRun_words _ r.sid k ws hobj hwindow hne hmax)), rfl⟩,
    fun s r b h hfull => congrArg Host.Outcome.next (serve_answered s r 9 _ _ _ _ h rfl (serveSubscribe_full _ r.sid b hfull)),
    fun s r b rest o h hsubs hall hobj hread hwhen hlo hhi hperiod hband => ⟨_, (begun s r 9 _).entered r.sid b,
      congrArg Host.Outcome.next (serve_answered s r 9 _ _ _ _ h rfl (serveSubscribe_one _ r.sid b rest hsubs hall
        (Option.isSome_of_eq_some hobj) ((checkRead_begun s r 9 _ r.sid b.addr).trans hread) hwhen hlo hhi hperiod hband)),
      rfl, rfl, rfl⟩,
    fun s r n x h hx hsid => ⟨_, congrArg Host.Outcome.next
      (serve_answered s r 10 _ _ _ _ h rfl (serveUnsubscribe_own _ r.sid n x hx hsid)), rfl⟩,
    fun s r hup hcarry h0 => congrArg Host.Outcome.next
      (serve_sessionless s r 12 [] (fun s => (s, some s.discoverBody)) hup hcarry (.inr rfl) h0)⟩
  have hserve := serve_accepted s r 2 (writeBody items) (serveWrite r items) h rfl
  rw [serveWrite_waits (begun s r 2 (writeBody items)) r items hne hmax hvalid] at hserve
  exact hserve

end Sys2Proof.Machine
end

section
/-! The bulk window (O53): the rule of its chapter on each command, what an open leaves, and a word between its write and its
read. -/

namespace Sys2Proof.Machine

variable (s : State) (sid r : Nat)

/-! ### The commands (R95-R97) -/

/-- R95: an update of the region is open. -/
theorem checkRegionCommand_open_busy (hlo : 1 ≤ s.regionState r) (hhi : s.regionState r ≤ 4) :
    checkRegionCommand sid r 1 s = stRegionBusy := by
  simp [checkRegionCommand, hlo, hhi]

/-- R95: an idle or a committed region opens with a size that fits. -/
theorem checkRegionCommand_open (hst : s.regionState r = 0 ∨ s.regionState r = 5) (hsize : s.getN (k0FDeclaredSize r) ≠ 0)
    (hfit : s.getN (k0FDeclaredSize r) ≤ s.regionLimit r) : checkRegionCommand sid r 1 s = stOk := by
  have hfree : ¬ (1 ≤ s.regionState r ∧ s.regionState r ≤ 4) := by omega
  have hlimit : ¬ s.regionLimit r < s.getN (k0FDeclaredSize r) := by omega
  simp [checkRegionCommand, hfree, hsize, hlimit]

/-- R96: the owner finishes once every declared word has come. -/
theorem checkRegionCommand_finish (hst : s.regionState r = 1) (howner : s.regionOwner r = sid)
    (hall : s.getN (k0FDeclaredSize r) ≤ s.getN (k0FHighWater r)) : checkRegionCommand sid r 2 s = stOk := by
  simp [checkRegionCommand, rReceiving, hst, howner, hall.not_gt]

/-- R97: an image that is staged and not yet committed; FW alone waits for the other regions. -/
theorem checkRegionCommand_commit (hst : s.regionState r = 3) (hcommit : (s.region r).committing = false) (hr : r ≠ 0) :
    checkRegionCommand sid r 3 s = stOk := by
  simp [checkRegionCommand, rStaged, hst, hcommit, hr]

/-- R97: the owner gives an update up. -/
theorem checkRegionCommand_abort (hlo : 1 ≤ s.regionState r) (hhi : s.regionState r ≤ 3) (howner : s.regionOwner r = sid) :
    checkRegionCommand sid r 4 s = stOk := by
  have hopen : ¬ (s.regionState r = 0 ∨ 3 < s.regionState r) := by omega
  simp [checkRegionCommand, hopen, howner]

/-- R96: the offset stays between the flush mark and the declared size. -/
theorem checkOffset_inside (o : Int) (hlo : s.get (k0FFlushMark r) ≤ o) (hhi : o ≤ s.get (k0FDeclaredSize r)) :
    checkOffset r o s = stOk := by
  simp [checkOffset, hlo.not_gt, hhi.not_gt]

theorem stagingFlush_receiving (hst : s.regionState r = 1) (hpf : s.pf.active = false) : stagingFlush r s = s.flushRegion r := by
  simp [stagingFlush, rReceiving, hst, hpf]

@[simp] theorem get_modRegion (f : Region → Region) (k : Nat) : (s.modRegion r f).get k = s.get k := rfl

/-! ### What an open leaves (R95, R443) -/

section Opened
variable (size : Nat)

/-- An open writes these objects in this order; the words of the region are no objects. -/
theorem get_openRegion (k : Nat) : (s.openRegion r sid size).get k =
    (s.puts [(k0FState r, rReceiving), (k0FOwner r, sid), (k0FDeclaredSize r, size), (k0FOffset r, 0), (k0FFlushMark r, 0),
      (k0FHighWater r, 0), (k31OtherSlot (16 + r), 0), (k31OtherImage (16 + r), 0)]).get k := by
  simp only [State.openRegion, State.dropOther, get_modRegion, puts_cons, puts_nil]

theorem openRegion_opened : (s.openRegion r sid size).regionState r = 1 ∧ (s.openRegion r sid size).regionOwner r = sid ∧
    (s.openRegion r sid size).getN (k0FOffset r) = 0 ∧ (s.openRegion r sid size).getN (k31OtherSlot (16 + r)) = 0 := by
  have hobj := objects_puts s [(k0FState r, rReceiving), (k0FOwner r, sid), (k0FDeclaredSize r, size), (k0FOffset r, 0),
    (k0FFlushMark r, 0), (k0FHighWater r, 0), (k31OtherSlot (16 + r), 0), (k31OtherImage (16 + r), 0)]
    (by simp [key]; omega)
  obtain ⟨hset, -⟩ := hobj
  simp only [← get_openRegion, List.forall_mem_cons] at hset
  obtain ⟨hstate, howner, -, hoffset, -, -, hother, -⟩ := hset
  simp [State.regionState, State.regionOwner, State.getN, hstate, howner, hoffset, hother, rReceiving]

end Opened

/-! ### A word through the window (R96) -/

/-- The entry of a store at a key after an insertion there, and at another key. -/
theorem find?_storeInsert_same {α : Type} (l : List (Nat × α)) (k : Nat) (v : α) :
    (storeInsert l k v).find? (fun p => p.1 = k) = some (k, v) := by
  induction l with
  | nil => simp [storeInsert]
  | cons p t ih =>
    obtain ⟨a, w⟩ := p
    rcases Nat.lt_trichotomy k a with h | h | h
    · simp [storeInsert, h]
    · simp [storeInsert, h]
    · simp [storeInsert, h.not_gt, h.ne', h.ne, ih]

theorem find?_storeInsert_other {α : Type} (l : List (Nat × α)) (k j : Nat) (v : α) (hj : j ≠ k) :
    (storeInsert l k v).find? (fun p => p.1 = j) = l.find? fun p => p.1 = j := by
  induction l with
  | nil => simp [storeInsert, hj.symm]
  | cons p t ih =>
    obtain ⟨a, w⟩ := p
    rcases Nat.lt_trichotomy k a with h | h | h
    · simp [storeInsert, h, hj.symm]
    · simp [storeInsert, ← h, hj.symm]
    · simp [storeInsert, h.not_gt, h.ne', List.find?_cons, ih]

theorem region_modRegion_same (f : Region → Region) (hr : r < s.kod.regions.length) :
    (s.modRegion r f).region r = f (s.region r) := by
  simp [State.region, State.modRegion, List.getD, hr]

section Staged
variable (o w : Nat) (hr : r < s.kod.regions.length) (hhw : s.getN (k0FHighWater r) = o)
include hhw

/-- A word at the high-water mark enters staging alone and raises the mark. -/
theorem stageWord_atHighWater : s.stageWord r o w =
    (s.modRegion r fun x => { x with staged := storeInsert x.staged o w }).put (k0FHighWater r) (o + 1 : Nat) := by
  simp [State.stageWord, hhw]

/-- The words of the region behind staging, and where they end, stay as they are. -/
theorem stageWord_flushed : (s.stageWord r o w).getN (k0FFlushMark r) = s.getN (k0FFlushMark r) ∧
    (s.stageWord r o w).otherSlot r = s.otherSlot r := by
  rw [stageWord_atHighWater s r o w hhw]
  have hget : ∀ k, k ≠ k0FHighWater r → ((s.modRegion r fun x => { x with staged := storeInsert x.staged o w }).put
      (k0FHighWater r) (o + 1 : Nat)).getN k = s.getN k :=
    fun k hk => congrArg Int.toNat (get_put_other (s.modRegion r _) (k0FHighWater r) k _ hk)
  refine ⟨hget _ (by simp only [key]; omega), ?_⟩
  rw [State.otherSlot, State.otherSlot, hget _ (by simp only [key]; omega)]

include hr

theorem region_stageWord : (s.stageWord r o w).region r = { s.region r with staged := storeInsert (s.region r).staged o w } := by
  rw [stageWord_atHighWater s r o w hhw]
  exact region_modRegion_same s r _ hr

/-- The word is read back at its offset. -/
theorem regionWord_stageWord_same : (s.stageWord r o w).regionWord r o = w := by
  simp [State.regionWord, region_stageWord s r o w hr hhw, find?_storeInsert_same]

/-- No other word of the region reads anything else than before. -/
theorem regionWord_stageWord_other (j : Nat) (hj : j ≠ o) : (s.stageWord r o w).regionWord r j = s.regionWord r j := by
  obtain ⟨hmark, hslot⟩ := stageWord_flushed s r o w hhw
  simp [State.regionWord, region_stageWord s r o w hr hhw, find?_storeInsert_other _ _ _ _ hj, hmark, hslot, Region.slotList]

end Staged

/-- Settles O53: an accepted command is `writeRow_passes` under the rule of its chapter, a second open `writeRow_barred`; an open
and a word are the lemmas on what they leave. -/
theorem bulkRows : Obligations.BulkRows := by
  unfold Obligations.BulkRows
  refine ⟨fun s sid r h hst hsize hfit => congrArg Host.Outcome.next
      (writeRow_passes s sid _ 1 _ _ h (checkRegionCommand_open s sid r hst hsize hfit)),
    fun s sid r h hlo hhi => congrArg Host.Outcome.next ?_,
    fun s sid r size => openRegion_opened s sid r size,
    fun s sid r w h hdata => congrArg Host.Outcome.next (writeRow_passes s sid _ w _ _ h hdata),
    fun s sid r o h hlo hhi => congrArg Host.Outcome.next (writeRow_passes s sid _ o _ _ h (checkOffset_inside s r o hlo hhi)),
    fun s sid r h hst howner hall => congrArg Host.Outcome.next
      (writeRow_passes s sid _ 2 _ _ h (checkRegionCommand_finish s sid r hst howner hall)),
    fun s sid r h hst hcommit hr => congrArg Host.Outcome.next
      (writeRow_passes s sid _ 3 _ _ h (checkRegionCommand_commit s sid r hst hcommit hr)),
    fun s sid r h hlo hhi howner => congrArg Host.Outcome.next
      (writeRow_passes s sid _ 4 _ _ h (checkRegionCommand_abort s sid r hlo hhi howner)),
    fun s r hst hpf => congrArg Host.Outcome.next (stagingFlush_receiving s r hst hpf),
    fun s r o w hr hhw _ => ⟨regionWord_stageWord_same s r o w hr hhw, regionWord_stageWord_other s r o w hr hhw⟩⟩
  have hbusy := checkRegionCommand_open_busy s sid r hlo hhi
  rw [writeRow_barred s sid _ 1 _ _ h (by rw [hbusy]; decide), hbusy, internalNotice_other s (by decide)]

end Sys2Proof.Machine
end

section
/-! Login, lockout and the ends of a session (O52): what frees a SID and what the end of a session leaves, then each row of
R84-R91 by the branch that its hypotheses select. -/

namespace Sys2Proof.Machine

section Ends
variable (s : State) (sid : Nat)

/-! ### A SID becomes free (R85, R89) -/

/-- The state of a session that exists is what its state member reads. -/
theorem sessionState_of_get (t : State) (v : Nat) (hsid : s.sessionState sid ≠ 0)
    (h : t.get (k04SessionState (15 + sid)) = v) : t.sessionState sid = v := by
  have hserved : ¬ ((sid = 0 || 32 < sid) = true) := fun hno => hsid (if_pos hno)
  rw [State.sessionState, if_neg hserved, State.getN, h, Int.toNat_natCast]

/-- A session whose state member reads 0 has no state, whether there is a session of that number or not. -/
theorem sessionState_zero (h : s.get (k04SessionState (15 + sid)) = 0) : s.sessionState sid = 0 := by
  simp [State.sessionState, State.getN, h]

theorem get_freeSid (k : Nat) : (s.freeSid sid).get k =
    (s.puts [(k04SessionState (15 + sid), 0), (k04SessionRole (15 + sid), 0), (k04Endpoint (15 + sid), 0)]).get k := rfl

theorem get_sessionState_freeSid : (s.freeSid sid).get (k04SessionState (15 + sid)) = 0 := by
  simp [get_freeSid, get_put, key]

theorem sessionState_freeSid : (s.freeSid sid).sessionState sid = 0 :=
  sessionState_zero _ _ (get_sessionState_freeSid s sid)

/-- A freed SID writes in the members of its own session alone, which stand above those of the interfaces. -/
theorem get_freeSid_below (k : Nat) (h : k < key 0x04 15 0) : (s.freeSid sid).get k = s.get k := by
  simp only [key] at h
  refine (get_freeSid s sid k).trans (get_puts_other s _ k ?_)
  simp only [key, List.forall_mem_cons, List.not_mem_nil, false_implies, implies_true, and_true]
  omega

/-! ### The updates of a session that ends (R97) -/

theorem get_abortRegion_below (r k : Nat) (h : k < key 0x0F 0 0) : (s.abortRegion r).get k = s.get k := by
  simp only [key] at h
  have hidle : (s.abortRegion r).get k = (s.puts [(k0FState r, rIdle), (k0FOwner r, 0), (k0FResult r, stOk),
      (k31OtherSlot (16 + r), 0), (k31OtherImage (16 + r), 0)]).get k := by
    simp only [State.abortRegion, State.regionIdle, State.dropOther, get_noticeOpen, get_modRegion, puts_cons, puts_nil]
  refine hidle.trans (get_puts_other s _ k ?_)
  simp only [key, List.forall_mem_cons, List.not_mem_nil, false_implies, implies_true, and_true]
  omega

@[simp] theorem puts_kod (l : List (Nat × Int)) : (s.puts l).kod = s.kod := by
  have h := congrArg State.kod (puts_rest s l)
  exact h

/-- Of KOD an abort changes the region alone. -/
theorem kod_abortRegion (r : Nat) : ∃ l, (s.abortRegion r).kod = { s.kod with regions := l } := by
  simp only [State.abortRegion, State.regionIdle, State.dropOther, State.modRegion, noticeOpen_kod, puts_kod]
  exact ⟨_, rfl⟩

/-! ### A session ends (R89) -/

/-- No subscription of a session stands any more and no answer is owed it. -/
def State.unsubscribed (s : State) (sid : Nat) : State :=
  { s with kod := { s.kod with
      subs := s.kod.subs.map fun (x : Option Subscription) => x.filter fun y => y.sid ≠ sid,
      held := s.kod.held.filter fun (w : PendingWrite) => w.row || w.req.sid ≠ sid } }

/-- The state in which the SID of a session that ended is freed: its updates are given up and its end is reported. -/
def State.signedOff (s : State) (sid reason : Nat) : State :=
  ((s.unsubscribed sid).ownerEnds sid).notice byDevice 0x0305 (sid * 256 + reason)

theorem endKod_loggedIn (reason : Nat) (h : s.sessionState sid = 2) :
    s.endKod sid reason = (s.signedOff sid reason).freeSid sid := by
  rw [State.endKod, if_pos h]
  rfl

theorem kod_signedOff (reason : Nat) : ∃ l, (s.signedOff sid reason).kod = { (s.unsubscribed sid).kod with regions := l } := by
  rw [State.signedOff, notice_kod]
  refine each_keeps (fun t => ∃ l, t.kod = { (s.unsubscribed sid).kod with regions := l }) _ _ _ (fun t r _ ⟨l, hl⟩ => ?_) ⟨_, rfl⟩
  split
  · obtain ⟨l', hl'⟩ := kod_abortRegion t r
    exact ⟨l', by rw [hl', hl]⟩
  · exact ⟨l, hl⟩

theorem get_signedOff_below (reason k : Nat) (h : k < key 0x0F 0 0) : (s.signedOff sid reason).get k = s.get k := by
  rw [State.signedOff, get_notice]
  refine each_view (State.get · k) (s.unsubscribed sid) _ _ fun t r _ => ?_
  split
  · exact get_abortRegion_below t r k h
  · rfl

theorem changes_freeSid : (s.freeSid sid).kod.changes = s.kod.changes := by
  simp [State.freeSid, State.modSession]

theorem subs_freeSid : (s.freeSid sid).kod.subs = s.kod.subs := by
  simp [State.freeSid, State.modSession]

theorem recorder_freeSid : (s.freeSid sid).recorder = s.recorder := by
  have h := congrArg State.recorder (puts_rest s
    [(k04SessionState (15 + sid), 0), (k04SessionRole (15 + sid), 0), (k04Endpoint (15 + sid), 0)])
  exact h

/-- What the end of a logged-in session keeps before and as its SID is freed, every end of a session keeps. -/
theorem endKod_view {β : Type} (g : State → β) (reason : Nat) (hoff : g (s.signedOff sid reason) = g s)
    (hfree : ∀ t, g (State.freeSid t sid) = g t) : g (s.endKod sid reason) = g s := by
  unfold State.endKod
  split
  · exact (hfree _).trans hoff
  · split
    · exact hfree s
    · rfl

theorem get_endKod_below (reason k : Nat) (h : k < key 0x04 15 0) : (s.endKod sid reason).get k = s.get k :=
  endKod_view s sid (State.get · k) reason
    (get_signedOff_below s sid reason k (h.trans (by decide))) fun t => get_freeSid_below t sid k h

theorem changes_endKod (reason : Nat) : (s.endKod sid reason).kod.changes = s.kod.changes := by
  obtain ⟨l, hl⟩ := kod_signedOff s sid reason
  exact endKod_view s sid (fun t => t.kod.changes) reason (by rw [hl]; rfl) fun t => changes_freeSid t sid

/-- What the end of a session keeps, the end of every session of an interface keeps. -/
theorem endBound_view {β : Type} (g : State → β) (i : Nat) (h : ∀ t sid, g (State.endKod t sid 3) = g t) :
    g (s.endBound i) = g s := by
  refine each_view g s _ _ fun t sid _ => ?_
  split
  · exact h t sid
  · rfl

/-- A session that ends is free, logged in no more, without a subscription, and its end is reported (R89, R91). -/
theorem endKod_ended (reason : Nat) (h : s.sessionState sid = 2) :
    (s.endKod sid reason).sessionState sid = 0 ∧ (s.endKod sid reason).loggedIn sid = false ∧
      (∀ x, some x ∈ (s.endKod sid reason).kod.subs → x.sid ≠ sid) ∧
      ⟨0x0305, 0, sid * 256 + reason⟩ ∈ (s.endKod sid reason).recorder.raised := by
  have hfree := sessionState_freeSid (s.signedOff sid reason) sid
  obtain ⟨l, hl⟩ := kod_signedOff s sid reason
  rw [endKod_loggedIn s sid reason h]
  refine ⟨hfree, by simp [State.loggedIn, hfree], fun x hx => ?_, ?_⟩
  · rw [subs_freeSid, hl] at hx
    obtain ⟨y, -, hy⟩ := List.mem_map.1 hx
    simpa using (Option.filter_eq_some_iff.1 hy).2
  · rw [recorder_freeSid, State.signedOff, notice_raised]
    exact List.mem_append_right _ (List.mem_singleton.2 rfl)

end Ends

section Login
variable (s : State) (r : KodReq)

section Gate
variable (service : Nat) (body : List Nat) (run : Service) (t : State) (answer : List Nat)
  (hup : s.kodUp = true) (hcarry : s.carries r.ep = true) (hcast : r.broadcast = false)
  (hrun : run (s.taken r service body) = (t, some answer))
include hup hcarry hcast hrun

/-- A service that asks for no session answers without a tag. -/
theorem serve_sessionless_answered (h0 : r.sid = 0) (hscope : (scopeOf service).zero = true) :
    s.serve r service body run = t.respond r service none answer := by
  simp [serve_sessionless s r service body run hup hcarry (.inl hcast) h0, State.serveOpen, hscope, hrun]

/-- So does one on a pending session. -/
theorem serve_pending_answered (h0 : r.sid ≠ 0) (hep : (s.session r.sid).ep = some r.ep) (hpend : s.sessionState r.sid = 1)
    (hscope : (scopeOf service).pend = true) : s.serve r service body run = t.respond r service none answer := by
  simp [serve_pending s r service body run hup hcarry (.inl hcast) h0 hep hpend, State.serveOpen, hscope, hrun]

end Gate

/-! ### LOGIN_BEGIN (R85, R87) -/

section LoginBegin
variable (role hostNonce : Nat)

/-- The state of a login that has begun under SID 1: the credential `c` waits for the proof. -/
def State.loginBegun (s : State) (r : KodReq) (role hostNonce : Nat) (c : Nat × Bool) : State :=
  (s.drew.puts [(k04SessionState 16, 1), (k04SessionRole 16, role), (k04Endpoint 16, endpointText r.ep)]).modSession 1 fun _ =>
    { ep := some r.ep, hostNonce := hostNonce % 2 ^ 64, deviceNonce := s.drawn % 2 ^ 128, since := s.cc, key := c.1,
      bootstrap := c.2 }

theorem loginBegun_pending (c : Nat × Bool) :
    (s.loginBegun r role hostNonce c).sessionState 1 = 1 ∧ (s.loginBegun r role hostNonce c).roleOf 1 = role := by
  have hset := (objects_puts s.drew [(k04SessionState 16, 1), (k04SessionRole 16, role), (k04Endpoint 16, endpointText r.ep)]
    (by simp [key])).1
  simp only [List.forall_mem_cons] at hset
  obtain ⟨hstate, hrole, -⟩ := hset
  exact ⟨congrArg Int.toNat hstate, congrArg Int.toNat hrole⟩

variable (hfree : s.sessionState 1 = 0)
include hfree

/-- SID 1 is the lowest there is. -/
theorem lowestFree_one : (List.range' 1 32).find? (fun sid => s.sessionState sid = 0) = some 1 := by
  rw [List.range'_succ, List.find?_cons_of_pos (by simpa using hfree)]

theorem serveLoginBegin_lockedOut (hrole : role ≤ 4) (hlock : s.kod.lockEnd.getD role 0 ≠ 0) :
    serveLoginBegin r role hostNonce s = (s, some [stNotNow]) := by
  have h5 : ¬ 5 < role := by omega
  have hw : role ≠ 5 := by omega
  simp [-List.getD_eq_getElem?_getD, serveLoginBegin, lowestFree_one s hfree, h5, hw, hlock]

theorem serveLoginBegin_begun (hrole : role ≤ 4) (hlock : s.kod.lockEnd.getD role 0 = 0) (c : Nat × Bool)
    (hc : s.credential role = some c) (hcrypto : s.cryptoOk = true) (hrng : s.rngOk = true) :
    serveLoginBegin r role hostNonce s =
      (s.loginBegun r role hostNonce c, some ([stOk, 1] ++ bytesBE 16 (s.drawn % 2 ^ 128))) := by
  have h5 : ¬ 5 < role := by omega
  have hw : role ≠ 5 := by omega
  simp [-List.getD_eq_getElem?_getD, serveLoginBegin, lowestFree_one s hfree, h5, hw, hlock, hc, hcrypto, hrng, State.loginBegun]

end LoginBegin

/-! ### LOGIN_PROOF (R85-R87) -/

section LoginProof
variable (proof : Nat)

/-- The string M of R86 for the pending session that a request names. -/
def State.proofM (s : State) (r : KodReq) : List Nat :=
  s.loginM r.ep r.sid (s.roleOf r.sid) (s.session r.sid).hostNonce (s.session r.sid).deviceNonce

/-- The answer to a right proof: the device's own. -/
def State.proofAnswer (s : State) (r : KodReq) : List Nat :=
  stOk :: bytesBE 16 (Config.hmacSha256 (s.session r.sid).key (0x44 :: s.proofM r) / 2 ^ 128)

/-- The state of a session that has logged in. -/
def State.loggedOn (s : State) (r : KodReq) : State :=
  ((s.useKey (s.session r.sid).key).put (k04SessionState (15 + r.sid)) 2).modSession r.sid fun x =>
    { x with key := Config.hmacSha256 x.key (0x4B :: s.proofM r), under := s.vault.bootKey, last := 1, notified := 0,
             since := s.cc, busy := false, cachedPrio := r.prio, cachedService := 6,
             cached := toBytes (sealedPdu 1 6 none r.sid r.seq (s.proofAnswer r)) }

theorem get_loggedOn (k : Nat) :
    (s.loggedOn r).get k = ((s.useKey (s.session r.sid).key).put (k04SessionState (15 + r.sid)) 2).get k := rfl

theorem session_modSession_same (sid : Nat) (f : KodSession → KodSession) (h : sid - 1 < s.kod.sessions.length) :
    (s.modSession sid f).session sid = f (s.session sid) := by
  simp [State.session, State.modSession, h]

/-- The session is logged in with the role it asked for, its key held under the boot wrap key in force (R387). -/
theorem loggedOn_loggedIn (hsid : s.sessionState r.sid ≠ 0) (hr : r.sid - 1 < s.kod.sessions.length) :
    (s.loggedOn r).sessionState r.sid = 2 ∧ (s.loggedOn r).roleOf r.sid = s.roleOf r.sid ∧
      ((s.loggedOn r).session r.sid).last = 1 ∧ ((s.loggedOn r).session r.sid).under = s.vault.bootKey := by
  have hsession : (s.loggedOn r).session r.sid = _ := session_modSession_same _ r.sid _ hr
  refine ⟨sessionState_of_get s r.sid _ 2 hsid ((get_loggedOn s r _).trans (get_put_same _ _ 2)), ?_, congrArg KodSession.last hsession,
    congrArg KodSession.under hsession⟩
  exact congrArg Int.toNat (get_put_other (s.useKey (s.session r.sid).key) (k04SessionState (15 + r.sid))
    (k04SessionRole (15 + r.sid)) 2 (by simp only [key]; omega))

/-- A failed proof counts and may lock its role out; it writes no other object. -/
theorem get_loginFailed_other (role k : Nat) (hk : k ≠ k04LoginFailures) (hsat : k ≠ k00LastSaturatedCount) :
    (s.loginFailed role).get k = s.get k := by
  have hcount : (s.count k04LoginFailures).get k = s.get k := get_count_other s _ k hk hsat
  unfold State.loginFailed
  extract_lets l t u
  split <;> exact hcount

section InTime
variable (htime : s.since (s.session r.sid).since ≤ 16000) (hseq : r.seq = 1) (hcrypto : s.cryptoOk = true)
include htime hseq hcrypto

theorem serveLoginProof_right (hproof : proof = Config.hmacSha256 (s.session r.sid).key (0x48 :: s.proofM r) / 2 ^ 128) :
    serveLoginProof r proof s = (s.loggedOn r, some (s.proofAnswer r)) := by
  have hlive : ¬ loginTicks < s.since (s.session r.sid).since := htime.not_gt
  simp only [serveLoginProof, hlive, hseq, hcrypto, hproof, State.proofM, State.loggedOn, State.proofAnswer, if_false,
    ne_eq, not_true, Bool.not_true, Bool.false_eq_true]

theorem serveLoginProof_wrong (hproof : proof ≠ Config.hmacSha256 (s.session r.sid).key (0x48 :: s.proofM r) / 2 ^ 128) :
    serveLoginProof r proof s = (((s.useKey (s.session r.sid).key).freeSid r.sid).loginFailed (s.roleOf r.sid),
      some [stIntegrity]) := by
  have hlive : ¬ loginTicks < s.since (s.session r.sid).since := htime.not_gt
  simp only [State.proofM] at hproof
  simp only [serveLoginProof, hlive, hseq, hcrypto, hproof, if_false, if_true, ne_eq, not_true, not_false_eq_true,
    Bool.not_true, Bool.false_eq_true]

end InTime

/-- The session of a wrong proof is free. -/
theorem sessionState_loginFailed (role : Nat) : ((s.freeSid r.sid).loginFailed role).sessionState r.sid = 0 := by
  refine sessionState_zero _ _ ?_
  rw [get_loginFailed_other _ role _ (by simp only [key]; omega) (by simp only [key]; omega), get_sessionState_freeSid]

end LoginProof

end Login

/-! ### Deadlines (R85, R87, R89) -/

section Deadlines
variable (s : State) (sid : Nat)

theorem lockoutEnd_due (role : Nat) (hlock : s.kod.lockEnd.getD role 0 ≠ 0)
    (hend : s.reached (s.kod.lockEnd.getD role 0) = true) :
    lockoutEnd role s = { s with kod := { s.kod with lockEnd := s.kod.lockEnd.set role 0 } } := by
  simp [-List.getD_eq_getElem?_getD, lockoutEnd, hlock, hend]

theorem pendingLoginExpiry_due (hpend : s.sessionState sid = 1) (hdue : 16000 ≤ s.since (s.session sid).since) :
    pendingLoginExpiry sid s = s.freeSid sid := by
  simp [pendingLoginExpiry, loginTicks, secTicks, hpend, hdue]

theorem idleTimeout_due (hin : s.sessionState sid = 2)
    (hdue : secTicks (s.getN k04IdleTimeout) ≤ s.since (s.session sid).since) : idleTimeout sid s = s.endKod sid 1 := by
  simp [idleTimeout, hin, hdue]

theorem subscriptionEvaluation_due (hcc : s.cc % 80 = 0) (hup : s.kodUp = true) :
    subscriptionEvaluation s = s.each (List.range 64) fun s n => s.evaluate n := by
  simp [subscriptionEvaluation, hcc, hup]

end Deadlines

/-! ### Settings of an interface (R72, R99) -/

section Interface
variable (s : State)

/-- No change of the interface is due. -/
theorem controllerChange_early (inst : Nat) (h : ∀ c ∈ s.kod.changes, keyInst c.1 = inst → s.reached c.2.2 = false) :
    controllerChange inst s = s := by
  have hnone : (s.kod.changes.filter fun c => keyInst c.1 = inst && s.reached c.2.2) = [] := by
    simpa [List.filter_eq_nil_iff] using h
  simp [controllerChange, hnone]

/-- A bus setting that is due stands, whatever sessions it ends, and waits no more. -/
theorem controllerChange_dataRate (v : Int) (due : Nat) (hchange : s.kod.changes = [(k04DataRate 1, v, due)])
    (hdue : s.reached due = true) :
    (controllerChange 1 s).get (k04DataRate 1) = v ∧ (controllerChange 1 s).kod.changes = [] := by
  have hinst : keyInst (k04DataRate 1) = 1 := by decide
  have hget : ((s.put (k04DataRate 1) v).endBound 1).get (k04DataRate 1) = v :=
    (endBound_view (s.put (k04DataRate 1) v) (State.get · (k04DataRate 1)) 1
      fun t sid => get_endKod_below t sid 3 _ (by decide)).trans (get_put_same s _ v)
  have hkept : ((s.put (k04DataRate 1) v).endBound 1).kod.changes = [(k04DataRate 1, v, due)] :=
    (endBound_view (s.put (k04DataRate 1) v) (fun t => t.kod.changes) 1 fun t sid => changes_endKod t sid 3).trans hchange
  have hall : (s.kod.changes.filter fun c => keyInst c.1 = 1 && s.reached c.2.2) = [(k04DataRate 1, v, due)] := by
    simp [hchange, hinst, hdue]
  unfold controllerChange
  extract_lets due t u
  have ht : t = s.put (k04DataRate 1) v := by simp only [t, due, hall, List.map_cons, List.map_nil, puts_cons, puts_nil]
  have hu : u = (s.put (k04DataRate 1) v).endBound 1 := congrArg (State.endBound · 1) ht
  rw [if_neg (by simp [due, hall])]
  rw [← hu] at hget hkept
  clear_value u
  exact ⟨hget, by simp [hkept, hinst, hdue]⟩

end Interface

/-- Settles O52: a login by what its service leaves, an end of a session by `endKod_ended`, the writes by `writeRow_passes`. -/
theorem loginRows : Obligations.LoginRows := by
  unfold Obligations.LoginRows
  refine ⟨fun s r role hn hup hcarry hb h0 hrole hlock hc hcrypto hrng hfree => ?_,
    fun s r role hn hup hcarry hb h0 hrole hlock hfree => congrArg Host.Outcome.next ?_,
    fun s r proof hup hcarry hb h0 hpend hep htime hseq hcrypto hr hproof => ?_,
    fun s r proof hup hcarry hb h0 hpend hep htime hseq hcrypto hproof => ?_,
    fun s role hlock hend => congrArg Host.Outcome.next (lockoutEnd_due s role hlock hend),
    fun s sid hpend hdue => congrArg Host.Outcome.next (pendingLoginExpiry_due s sid hpend hdue),
    fun s sid hin hdue => congrArg Host.Outcome.next (idleTimeout_due s sid hin hdue),
    fun s sid target h => congrArg Host.Outcome.next (writeRow_passes s sid _ 1 _ _ h rfl),
    fun s sid ctrl v h => congrArg Host.Outcome.next (writeRow_passes s sid _ v _ _ h rfl),
    fun s inst h => congrArg Host.Outcome.next (controllerChange_early s inst h),
    fun s k v due hchange hdue hk => ⟨_, rfl, ?_⟩,
    fun s hcc hup => congrArg Host.Outcome.next (subscriptionEvaluation_due s hcc hup),
    fun s sid reason h _ => endKod_ended s sid reason h⟩
  · obtain ⟨c, hc⟩ := Option.isSome_iff_exists.1 hc
    have hbegun := serveLoginBegin_begun (s.taken r 5 ([role % 256] ++ bytesBE 8 hn)) r role hn hfree hrole hlock c hc hcrypto hrng
    exact ⟨_, _, congrArg Host.Outcome.next (serve_sessionless_answered s r 5 _ _ _ _ hup hcarry hb hbegun h0 rfl),
      loginBegun_pending _ r role hn c⟩
  · exact serve_sessionless_answered s r 5 _ _ _ _ hup hcarry hb (serveLoginBegin_lockedOut _ r role hn hfree hrole hlock) h0 rfl
  · have hright := serveLoginProof_right (s.taken r 6 (bytesBE 16 proof)) r proof htime hseq hcrypto hproof
    have hsid : s.sessionState r.sid ≠ 0 := by omega
    exact ⟨_, _, congrArg Host.Outcome.next (serve_pending_answered s r 6 _ _ _ _ hup hcarry hb hright h0 hep hpend rfl),
      loggedOn_loggedIn _ r hsid hr⟩
  · have hwrong := serveLoginProof_wrong (s.taken r 6 (bytesBE 16 proof)) r proof htime hseq hcrypto hproof
    exact ⟨_, congrArg Host.Outcome.next (serve_pending_answered s r 6 _ _ _ _ hup hcarry hb hwrong h0 hep hpend rfl),
      sessionState_loginFailed _ r _⟩
  · subst hk
    exact controllerChange_dataRate s v due hchange hdue

end Sys2Proof.Machine
end

section
/-! The settings of the metering channels (O31): the rules of R114, R116 and R119 by what they answer, a setting that its rule
refuses, and an opening and a closing of the seal. -/

namespace Sys2Proof.Machine

/-! ### A write that the rule of its chapter refuses -/

/-- A refusal of the rule is answered, and nothing else happens; only INTERNAL would raise a notice too. -/
theorem writeRow_answers (s : State) (sid k : Nat) (v : Int) (chk : State → Nat) (eff : State → State) (st : Nat)
    (h : s.rowPasses sid k v = true) (hchk : chk s = st) (hst : st ≠ stOk) (hint : st ≠ stInternal) :
    s.writeRow sid k v chk eff = (s.answer sid k st).atStep5 := by
  subst hchk
  rw [writeRow_barred s sid k v chk eff h hst, internalNotice_other s hint]

/-! ### The rules on sensor types and groups (R114, R116, R119) -/

section Rules
variable (s : State) (types : Nat → Nat) (i g : Nat) (v : Int)

theorem check08_type_fits (hty : typePermitted i v.toNat = true) (hfit : s.typesFit types = true) :
    check08 s types i 0 v = stOk := by
  simp [check08, hty, hfit]

theorem check08_type_notPermitted (hty : typePermitted i v.toNat = false) : check08 s types i 0 v = stOutOfRange := by
  simp [check08, hty]

theorem check08_type_noFit (hty : typePermitted i v.toNat = true) (hfit : s.typesFit types = false) :
    check08 s types i 0 v = stNoFit := by
  simp [check08, hty, hfit]

/-- An assignment of a spoke and the reference group name a group that is enabled. -/
theorem check09_named (hi : 8 ≤ i) (hon : s.groupOn v.toNat = true) : check09 s i 0 v = stOk := by
  simp [check09, hi.not_gt, hon]

/-- The enable of a group changes unless it would leave a reference to a group that is off. -/
theorem check09_enable (hg : g < 8) (hfree : v ≠ 0 ∨ s.groupUsed g = false) : check09 s g 0 v = stOk := by
  have hgroup : ¬ (g = 8 ∨ 32 ≤ g) := by omega
  rcases hfree with hon | hunused
  · simp [check09, hgroup, hon]
  · simp [check09, hgroup, hunused]

theorem check09_disable_used (hg : g < 8) (hused : s.groupUsed g = true) : check09 s g 0 0 = stOutOfRange := by
  simp [check09, hg, hused]

end Rules

/-! ### The seal (R122, R123) -/

section Seal
variable (s : State)

/-- What 0Dh/256/0 shows follows the counter first and the filtered level only below its limit. -/
theorem getN_sealState_showSeal : s.showSeal.getN k0DSealState =
    if s.getN k0DMetrologyEventCounter = 65535 then 2 else if s.sealFilter.opened then 1 else 0 := by
  rw [State.showSeal, State.getN, get_put_same]
  split
  · rfl
  · split <;> rfl

theorem getN_counter_showSeal : s.showSeal.getN k0DMetrologyEventCounter = s.getN k0DMetrologyEventCounter :=
  congrArg Int.toNat (get_put_other s k0DSealState k0DMetrologyEventCounter _ (by decide))

/-- An opening that is counted: the filtered level is open, the counter has advanced and its notice is raised. -/
def State.openingCounted : State :=
  let n := s.getN k0DMetrologyEventCounter + 1
  ({ s with sealFilter := { s.sealFilter with opened := true } }.put k0DMetrologyEventCounter n).notice byDevice 0x0430 n

theorem getN_counter_openingCounted :
    s.openingCounted.getN k0DMetrologyEventCounter = s.getN k0DMetrologyEventCounter + 1 := by
  rw [State.openingCounted, getN_notice, State.getN, get_put_same, Int.toNat_natCast]

theorem raised_openingCounted :
    ⟨0x0430, 0, s.getN k0DMetrologyEventCounter + 1⟩ ∈ s.openingCounted.recorder.raised := by
  rw [State.openingCounted, notice_raised]
  exact List.mem_concat_self

/-- A due opening is counted and shown; the lock of the counter, where it falls, takes nothing of that back. -/
theorem sealOpening_due (hlevel : s.sealFilter.level = true) (hrun : 80 ≤ s.sealFilter.run)
    (hclosed : s.sealFilter.opened = false) (hlimit : s.getN k0DMetrologyEventCounter < 65535) :
    ∃ t : State, sealOpening s = t.showSeal ∧ t.sealFilter = s.openingCounted.sealFilter ∧
      t.getN k0DMetrologyEventCounter = s.openingCounted.getN k0DMetrologyEventCounter ∧
      s.openingCounted.recorder.raised ⊆ t.recorder.raised := by
  have hdue : (s.sealFilter.level && decide (sealTicks ≤ s.sealFilter.run) && !s.sealFilter.opened &&
      decide (s.getN k0DMetrologyEventCounter < 65535)) = true := by simp [sealTicks, hlevel, hrun, hclosed, hlimit]
  rw [sealOpening, if_pos hdue]
  refine ⟨_, rfl, ?_⟩
  split
  · exact ⟨rfl, rfl, List.subset_append_left _ _⟩
  · exact ⟨rfl, rfl, List.Subset.refl _⟩

/-- What a due opening leaves. -/
theorem sealOpening_opened (hlevel : s.sealFilter.level = true) (hrun : 80 ≤ s.sealFilter.run)
    (hclosed : s.sealFilter.opened = false) (hlimit : s.getN k0DMetrologyEventCounter < 65535) :
    (sealOpening s).sealFilter.opened = true ∧
      (sealOpening s).getN k0DMetrologyEventCounter = s.getN k0DMetrologyEventCounter + 1 ∧
      ⟨0x0430, 0, s.getN k0DMetrologyEventCounter + 1⟩ ∈ (sealOpening s).recorder.raised ∧
      (sealOpening s).getN k0DSealState = if s.getN k0DMetrologyEventCounter + 1 = 65535 then 2 else 1 := by
  obtain ⟨t, hshown, hfilter, hcounter, hraised⟩ := sealOpening_due s hlevel hrun hclosed hlimit
  have hopen : t.sealFilter.opened = true := congrArg Seal.opened hfilter
  rw [getN_counter_openingCounted] at hcounter
  rw [hshown, getN_counter_showSeal, getN_sealState_showSeal, hcounter, if_pos hopen]
  exact ⟨hopen, rfl, hraised (raised_openingCounted s), rfl⟩

/-- What a due closing leaves. -/
theorem sealClosing_closed (hlevel : s.sealFilter.level = false) (hrun : 80 ≤ s.sealFilter.run)
    (hopened : s.sealFilter.opened = true) :
    (sealClosing s).sealFilter.opened = false ∧
      (sealClosing s).getN k0DSealState = if s.getN k0DMetrologyEventCounter = 65535 then 2 else 0 := by
  have hdue : (!s.sealFilter.level && decide (sealTicks ≤ s.sealFilter.run) && s.sealFilter.opened) = true := by
    simp [sealTicks, hlevel, hrun, hopened]
  rw [sealClosing, if_pos hdue, getN_sealState_showSeal]
  exact ⟨rfl, rfl⟩

end Seal

/-- Settles O31: an accepted setting is `writeRow_passes` under the rule of its chapter, a refused one `writeRow_answers`, a
calibration write `writeObject_passes`; the seal is what an opening and a closing leave. -/
theorem meterSettingRows : Obligations.MeterSettingRows := by
  unfold Obligations.MeterSettingRows
  exact ⟨fun s sid ch v h hty hfit => congrArg Host.Outcome.next
      (writeRow_passes s sid _ v _ _ h (check08_type_fits s _ ch v hty hfit)),
    fun s sid ch v h hty => congrArg Host.Outcome.next
      (writeRow_answers s sid _ v _ _ _ h (check08_type_notPermitted s _ ch v hty) (by decide) (by decide)),
    fun s sid ch v h hty hfit => congrArg Host.Outcome.next
      (writeRow_answers s sid _ v _ _ _ h (check08_type_noFit s _ ch v hty hfit) (by decide) (by decide)),
    fun s sid sp v h hon => congrArg Host.Outcome.next
      (writeRow_passes s sid _ v _ _ h (check09_named s (32 + sp) v (by omega) hon)),
    fun s sid g v hg h hfree => congrArg Host.Outcome.next
      (writeRow_passes s sid _ v _ _ h (check09_enable s g v hg hfree)),
    fun s sid g hg h hused => congrArg Host.Outcome.next
      (writeRow_answers s sid _ 0 _ _ _ h (check09_disable_used s g hg hused) (by decide) (by decide)),
    fun s sid v h hon => congrArg Host.Outcome.next (writeRow_passes s sid _ v _ _ h (check09_named s 8 v le_rfl hon)),
    fun s sid addr ty v ho hk hw hc => congrArg Host.Outcome.next (writeObject_passes s sid addr ty v ho hw hc hk),
    fun s hlevel hrun hclosed hlimit => ⟨_, rfl, sealOpening_opened s hlevel hrun hclosed hlimit⟩,
    fun s hlevel hrun hopened => ⟨_, rfl, sealClosing_closed s hlevel hrun hopened⟩⟩

end Sys2Proof.Machine
end

section
/-! A snapshot latch (O32). R138 gives a spoke 24 fine accumulators; the model keeps them in a list that the statement does not
bound, and accumulator `i` of spoke `sp` moves into 0Bh/(24 · `sp` + `i`)/0. Where each spoke has at most 24 of them, the segments
that close before a latch leave every object beside the registers alone, and the latch leaves what R140 says. Where a spoke has
more, whole units can reach the snapshot objects at 0Bh/1000, and the statement fails. -/

namespace Sys2Proof.Machine

/-! ### What the closing of the segments leaves (R138, R139) -/

/-- An object that is none of a register's: the registers stand in class 0Bh below the snapshot objects at 0Bh/1000. -/
def besideRegisters (k : Nat) : Prop := k < key 0x0B 0 0 ∨ key 0x0B 1000 0 ≤ k

/-- Nothing of the billing, no number of fine accumulators and no object beside the registers has changed from `s` to `t`. -/
structure SegmentFrame (s t : State) : Prop where
  billing : t.billing = s.billing
  fineLength : ∀ sp, (t.spoke sp).meter.fine.length = (s.spoke sp).meter.fine.length
  get : ∀ k, besideRegisters k → t.get k = s.get k

namespace SegmentFrame

theorem refl (s : State) : SegmentFrame s s := ⟨rfl, fun _ => rfl, fun _ _ => rfl⟩

theorem trans {s t u : State} (h : SegmentFrame s t) (h' : SegmentFrame t u) : SegmentFrame s u :=
  ⟨h'.billing.trans h.billing, fun sp => (h'.fineLength sp).trans (h.fineLength sp),
    fun k hk => (h'.get k hk).trans (h.get k hk)⟩

theorem put (s : State) {r m : Nat} (v : Int) (hr : r < 1000) (hm : m < 256) : SegmentFrame s (s.put (key 0x0B r m) v) := by
  refine ⟨rfl, fun _ => rfl, fun k hk => get_put_other s _ k v ?_⟩
  unfold besideRegisters key at hk
  unfold key
  omega

theorem notice (s : State) (i c v : Nat) : SegmentFrame s (s.notice i c v) := ⟨rfl, fun _ => rfl, fun _ _ => rfl⟩

/-- A change of a meter that keeps the number of its fine accumulators. -/
theorem modMeter (s : State) (sp : Nat) (f : Meter → Meter) (hf : ∀ m, (f m).fine.length = m.fine.length) :
    SegmentFrame s (s.modMeter sp f) := by
  refine ⟨rfl, fun j => ?_, fun _ _ => rfl⟩
  unfold State.modMeter State.modSpoke State.spoke
  rw [List.getD_eq_getElem?_getD, List.getD_eq_getElem?_getD, List.getElem?_modify]
  cases s.spokes[j]? with
  | none => rfl
  | some x => by_cases hj : sp = j <;> simp [hj, hf]

theorem each {α : Type} (s : State) (l : List α) (f : State → α → State)
    (h : ∀ t a, a ∈ l → SegmentFrame s t → SegmentFrame t (f t a)) : SegmentFrame s (s.each l f) :=
  each_keeps (SegmentFrame s) s l f (fun t a ha ht => ht.trans (h t a ha ht)) (refl s)

end SegmentFrame

section Segments
variable (s : State) (sp : Nat)

theorem segmentFrame_addFine (i : Nat) (x : Rat) : SegmentFrame s (s.addFine sp i x) :=
  .modMeter s sp _ fun _ => List.length_modify ..

theorem segmentFrame_routeActive (e : Rat) : SegmentFrame s (s.routeActive sp e) := by
  refine (SegmentFrame.each s _ _ fun t i _ _ => ?_).trans (.each _ _ _ fun t i _ _ => ?_)
  all_goals
    split
    · exact segmentFrame_addFine t sp i _
    · split
      · exact segmentFrame_addFine t sp i _
      · exact .refl t

theorem segmentFrame_addRegister {inst : Nat} (n : Nat) (hi : inst < 1000) : SegmentFrame s (s.addRegister inst n) := by
  unfold State.addRegister State.ratchet
  dsimp only
  split
  · exact .put s _ hi (by decide)
  · refine SegmentFrame.trans ?_ (.notice _ _ _ _)
    split
    · exact (SegmentFrame.put s _ hi (by decide)).trans (.put _ _ hi (by decide))
    · exact .put s _ hi (by decide)

/-- At most 24 accumulators move into registers of their own spoke (R138). -/
theorem SegmentFrame.moveFine {s t : State} (h : SegmentFrame s t) {sp : Nat} (hsp : sp < 24)
    (hfine : (s.spoke sp).meter.fine.length ≤ 24) : SegmentFrame s (t.moveFine sp) := by
  refine h.trans ((SegmentFrame.modMeter t sp _ fun _ => List.length_map ..).trans (.each _ _ _ fun u p hp _ => ?_))
  have hlt : p.2 < (t.spoke sp).meter.fine.length := by simpa using List.snd_lt_of_mem_zipIdx hp
  have hi : 24 * sp + p.2 < 1000 := by
    rw [h.fineLength sp] at hlt
    omega
  have hfraction := SegmentFrame.put (m := 5) u (p.1 % fineOne : Nat) hi (by decide)
  dsimp only
  split
  · exact hfraction
  · exact hfraction.trans (segmentFrame_addRegister _ _ hi)

theorem segmentFrame_closeSegment (hsp : sp < 24) (hfine : (s.spoke sp).meter.fine.length ≤ 24) :
    SegmentFrame s (s.closeSegment sp) := by
  unfold State.closeSegment
  dsimp only
  split
  · refine SegmentFrame.moveFine ((segmentFrame_routeActive s sp _).trans (.modMeter _ sp _ fun m => ?_)) hsp hfine
    rfl
  · exact .refl s

theorem spokes_le (v : Variant) : v.spokes ≤ 24 := by cases v <;> decide

/-- Every spoke served has at most the 24 fine accumulators of R138. -/
def State.fineFits : Prop := ∀ sp < s.variant.spokes, (s.spoke sp).meter.fine.length ≤ 24

theorem segmentFrame_closeSegments (hfine : s.fineFits) : SegmentFrame s s.closeSegments :=
  .each s _ _ fun t sp hsp ht => by
    have hlt : sp < s.variant.spokes := List.mem_range.1 hsp
    exact segmentFrame_closeSegment t sp (hlt.trans_le (spokes_le _)) ((ht.fineLength sp).trans_le (hfine sp hlt))

end Segments

/-! ### The latch (R140) -/

section Latch
variable (s : State)

/-- The shadows of a snapshot are objects of the registers. -/
theorem segmentFrame_shadows (v : Variant) : SegmentFrame s (s.each (registers v) fun t r =>
    t.puts [(k0BSnapshotValue r, t.get (k0BValue r)), (k0BSnapshotWrapCount r, t.get (k0BWrapCount r))]) :=
  .each s _ _ fun t r hr _ => by
    have hlt : r < 1000 := by
      have := List.mem_range.1 hr
      have := spokes_le v
      omega
    exact (SegmentFrame.put t _ hlt (by decide)).trans (.put _ _ hlt (by decide))

/-- A latch writes its own five objects behind the shadows, and its notice is the last one raised. -/
theorem latchSnapshot_latches (source : Nat) (hfine : s.fineFits) :
    (s.latchSnapshot source).billing = s.billing ∧
      (s.latchSnapshot source).get k0BSnapshotRequest = s.get k0BSnapshotRequest ∧
      (s.latchSnapshot source).get k0BSnapshotTick = s.nextTick ∧ (s.latchSnapshot source).get k0BSnapshotSource = source ∧
      (s.latchSnapshot source).getN k0BSnapshotSequence = (s.getN k0BSnapshotSequence + 1) % 65536 ∧
      (s.latchSnapshot source).recorder.raised.getLast? = some ⟨0x0422, 0, (s.getN k0BSnapshotSequence + 1) % 65536⟩ := by
  unfold State.latchSnapshot
  extract_lets t u seq
  have hframe : SegmentFrame s u := (segmentFrame_closeSegments s hfine).trans (segmentFrame_shadows t t.variant)
  have hseq : seq = (s.getN k0BSnapshotSequence + 1) % 65536 := by
    simp only [seq, State.getN, hframe.get k0BSnapshotSequence (.inr (by decide))]
  have hnext : u.nextTick = s.nextTick := by
    simp only [State.nextTick, State.cc, State.getN, hframe.get k02CadenceCount (.inl (by decide))]
  have hput := objects_puts u [(k0BSnapshotTick, u.nextTick), (k0BSnapshotTime, u.stampNext), (k0BSnapshotMC, u.get k20MC),
    (k0BSnapshotSequence, seq), (k0BSnapshotSource, source)] (by simp only [List.map_cons, List.map_nil]; decide)
  obtain ⟨hwritten, hrest⟩ := hput
  clear_value seq u
  refine ⟨(congrArg State.billing (puts_rest u _)).trans hframe.billing, (hrest _ (by simp [key])).trans (hframe.get _ (.inr le_rfl)),
    (hwritten (k0BSnapshotTick, u.nextTick) (by simp)).trans (by rw [hnext]), hwritten (k0BSnapshotSource, source) (by simp),
    ?_, ?_⟩
  · exact (congrArg Int.toNat (hwritten (k0BSnapshotSequence, seq) (by simp))).trans hseq
  · rw [← hseq]
    exact List.getLast?_concat

/-- The state that a due snapshot latches: the request reads 0 and none is pending. -/
def State.requestTaken : State := { s.put k0BSnapshotRequest 0 with billing := { s.billing with snap := none } }

theorem get_requestTaken_other (k : Nat) (hk : k ≠ k0BSnapshotRequest) : s.requestTaken.get k = s.get k :=
  get_put_other s _ k 0 hk

theorem snapshotLatch_due (tk : Nat) (hstep : s.modes.step ≤ 2) (hsnap : s.billing.snap = some tk)
    (hdue : s.dueNext tk = true) : ∃ m, snapshotLatch s = { s.requestTaken.latchSnapshot 1 with modes := m } := by
  have hlatch : s.latchDue = s.requestTaken.latchSnapshot 1 := by
    rw [State.latchDue, hsnap]
    exact if_pos hdue
  rw [snapshotLatch, State.atStep, if_neg hstep.not_gt, hlatch]
  exact ⟨_, rfl⟩

/-- What a due snapshot leaves while no spoke has more than its 24 accumulators. -/
theorem snapshotLatch_latches (tk : Nat) (hfine : s.fineFits) (hstep : s.modes.step ≤ 2) (hsnap : s.billing.snap = some tk)
    (hdue : s.dueNext tk = true) :
    (snapshotLatch s).billing.snap = none ∧ (snapshotLatch s).get k0BSnapshotRequest = 0 ∧
      (snapshotLatch s).get k0BSnapshotTick = s.nextTick ∧ (snapshotLatch s).get k0BSnapshotSource = 1 ∧
      (snapshotLatch s).getN k0BSnapshotSequence = (s.getN k0BSnapshotSequence + 1) % 65536 ∧
      (snapshotLatch s).recorder.raised.getLast? = some ⟨0x0422, 0, (s.getN k0BSnapshotSequence + 1) % 65536⟩ := by
  have hnext : s.requestTaken.nextTick = s.nextTick := by
    simp only [State.nextTick, State.cc, State.getN, get_requestTaken_other s k02CadenceCount (by decide)]
  have hseq : s.requestTaken.getN k0BSnapshotSequence = s.getN k0BSnapshotSequence :=
    congrArg Int.toNat (get_requestTaken_other s k0BSnapshotSequence (by decide))
  obtain ⟨hbilling, hrequest, htick, hsource, hsequence, hnotice⟩ := latchSnapshot_latches s.requestTaken 1 hfine
  obtain ⟨m, hm⟩ := snapshotLatch_due s tk hstep hsnap hdue
  rw [hm, ← hnext, ← hseq]
  generalize s.requestTaken.latchSnapshot 1 = t at *
  exact ⟨congrArg Billing.snap hbilling, hrequest.trans (get_put_same s _ 0), htick, hsource, hsequence, hnotice⟩

end Latch

/-! ### A meter with more accumulators than registers -/

/-- A booted device with a snapshot due, whose last spoke has a 449th fine accumulator that holds one whole unit: number 448 of
spoke 23 moves into 0Bh/1000/0, which is the snapshot request. -/
def overlongMeter : State :=
  ({ State.reset with modes := { booted := true }, billing := { snap := some 0 } } : State).modMeter 23 fun m =>
    { m with fine := List.replicate 448 0 ++ [fineOne] }

/-- The whole unit enters 0Bh/1000/0 after the latch has cleared the request there. -/
theorem snapshotRequest_overlongMeter : (snapshotLatch overlongMeter).get k0BSnapshotRequest = 1 := by decide +kernel

/-- Refutes O32 by its clause on a due snapshot, which asks that the request reads 0 after the latch in every state, also in one
with more fine accumulators than R138 gives: in `overlongMeter` it reads 1. Where the accumulators are at most 24 to a spoke the
clause holds (`snapshotLatch_latches`). -/
theorem not_registerRows : ¬ Obligations.RegisterRows := by
  unfold Obligations.RegisterRows
  rintro ⟨-, -, -, -, hlatch, -⟩
  obtain ⟨t, ht, -, hrequest, -⟩ := hlatch overlongMeter 0 (by decide +kernel) rfl (by decide +kernel)
  obtain rfl : snapshotLatch overlongMeter = t := Host.Outcome.next.inj ht
  rw [snapshotRequest_overlongMeter] at hrequest
  exact absurd hrequest (by decide)

end Sys2Proof.Machine
end

section
/-! The power-fail decision and its records (O33): the first capture after a decision, its end, the flash power-fail records, the
billing journal and its ring. The registers that the closing of the segments writes are members 0, 1 and 5 of class 0Bh, so no
number of fine accumulators reaches the cause at 30h/64/4. -/

namespace Sys2Proof.Machine

/-! ### What a capture works on (R154-R156) -/

/-- The parts of a state that tell a decision and its newest capture: whether a decision stands, SEQ, the vault slots, and the
cause at 30h/64/4. -/
structure CaptureView where
  variant : Variant
  active : Bool
  seq : Nat
  slots : List VaultSlot
  newest : Nat
  cause : Int

def State.captureView (s : State) : CaptureView :=
  ⟨s.variant, s.pf.active, s.pf.seq, s.pf.slots, s.pf.newest, s.get k30LastCause⟩

section View
variable (s : State)

theorem captureView_put {k : Nat} (v : Int) (h : k ≠ k30LastCause) : (s.put k v).captureView = s.captureView := by
  rw [State.captureView, get_put_other s k _ v h.symm]
  rfl

/-- 30h/64/4 is a member 4, whatever class and number stand before it. -/
theorem key_ne_lastCause (c i : Nat) {m : Nat} (hm : m < 256) (h4 : m ≠ 4) : key c i m ≠ k30LastCause := by
  simp only [key]
  omega

theorem captureView_addFine (sp i : Nat) (x : Rat) : (s.addFine sp i x).captureView = s.captureView := rfl

theorem captureView_routeActive (sp : Nat) (e : Rat) : (s.routeActive sp e).captureView = s.captureView := by
  refine (each_view State.captureView _ _ _ fun t i _ => ?_).trans (each_view State.captureView _ _ _ fun t i _ => ?_)
  all_goals
    split
    · exact captureView_addFine t sp i _
    · split
      · exact captureView_addFine t sp i _
      · rfl

theorem captureView_addRegister (inst n : Nat) : (s.addRegister inst n).captureView = s.captureView := by
  have hput (t : State) {m : Nat} (v : Int) (hm : m < 4) : (t.put (key 0x0B inst m) v).captureView = t.captureView :=
    captureView_put t v (key_ne_lastCause _ _ (by omega) (by omega))
  unfold State.addRegister State.ratchet
  dsimp only
  split
  · exact hput s _ (by decide)
  · split
    · exact (hput _ _ (by decide)).trans (hput s _ (by decide))
    · exact hput s _ (by decide)

theorem captureView_moveFine (sp : Nat) : (s.moveFine sp).captureView = s.captureView :=
  each_view State.captureView (s.modMeter sp _) _ _ fun t p _ => by
    have hfraction := captureView_put t (k := k0BFineFraction (24 * sp + p.2)) (p.1 % fineOne : Nat)
      (key_ne_lastCause _ _ (by decide) (by decide))
    dsimp only
    split
    · exact hfraction
    · exact (captureView_addRegister _ _ _).trans hfraction

theorem captureView_modMeter (sp : Nat) (f : Meter → Meter) : (s.modMeter sp f).captureView = s.captureView := rfl

theorem captureView_closeSegment (sp : Nat) : (s.closeSegment sp).captureView = s.captureView := by
  unfold State.closeSegment
  dsimp only
  split
  · rw [captureView_moveFine, captureView_modMeter, captureView_routeActive]
  · rfl

theorem captureView_closeSegments : s.closeSegments.captureView = s.captureView :=
  each_view State.captureView s _ _ fun t sp _ => captureView_closeSegment t sp

/-! ### The first capture (R154) -/

/-- A capture between two views: the record that it formed fills the newest slot, and the decision is as it was. -/
structure Captured (v v' : CaptureView) (cause tick : Nat) : Prop where
  active : v'.active = v.active
  causeKept : v'.cause = v.cause
  record : ∃ r, v'.slots.getD v'.newest {} = VaultSlot.filled v'.variant r ∧ r.cause = cause ∧ r.seq = v.seq ∧ r.cc = tick

/-- Of two slots a capture fills one. -/
theorem captured_capture (cause tick stamp : Nat) (hslots : s.pf.slots.length = 2) :
    Captured s.captureView (s.capture cause tick stamp).captureView cause tick := by
  have hview := captureView_closeSegments s
  have hlength : s.closeSegments.pf.slots.length = 2 := (congrArg (List.length ∘ CaptureView.slots) hview).trans hslots
  have hslot : s.closeSegments.captureSlotNo < s.closeSegments.pf.slots.length := by
    unfold State.captureSlotNo
    omega
  refine ⟨(congrArg CaptureView.active hview :), (congrArg CaptureView.cause hview :),
    s.closeSegments.formRecord cause tick stamp, ?_, rfl, (congrArg CaptureView.seq hview :), rfl⟩
  show (s.closeSegments.pf.slots.set s.closeSegments.captureSlotNo _).getD s.closeSegments.captureSlotNo {} = _
  rw [List.getD_eq_getElem _ _ (by rwa [List.length_set]), List.getElem_set_self]
  rfl

theorem captureView_writeImage (r : PfRecord) : (s.writeImage r).captureView = s.captureView :=
  (each_view State.captureView { s with pf := { s.pf with image := some r } } ((r.words s.variant ++ [r.crcOf s.variant]).zipIdx)
    (fun (t : State) (p : Nat × Nat) => t.setWord (pfImageBase + p.2) p.1) fun _ _ _ => rfl :)

theorem captureView_captureKey (k : Nat) : (s.captureKey k).captureView = s.captureView := rfl

/-- The image in Pannier and the journal key come on top of the capture. -/
theorem captureView_firstCapture (cause tick stamp : Nat) :
    (s.firstCapture cause tick stamp).captureView = (s.capture cause tick stamp).captureView := by
  unfold State.firstCapture
  dsimp only
  generalize s.capture cause tick stamp = t
  cases t.vaultSlot t.pf.newest with
  | none => split <;> rfl
  | some r =>
    split
    · exact (captureView_captureKey _ _).trans (captureView_writeImage t r)
    · exact captureView_writeImage t r

/-! ### The decision (R151) -/

/-- A decision before its first capture: its cause is recorded and noticed, and a write in progress waits again. -/
def State.decisionMade (cause : Nat) : State :=
  let t := ((s.count k30Decisions).put k30LastCause cause).notice byDevice 0x0130 cause
  { t with pf := { t.pf with active := true, seq := 0, goodTicks := 0 },
           flash := { t.flash with current := none, ops := t.flash.current.toList ++ t.flash.ops } }

theorem decide_eq (cause : Nat) : s.decide_ cause =
    (s.decisionMade cause).firstCapture cause (s.decisionMade cause).nextTick (s.decisionMade cause).stampNext := rfl

@[simp] theorem count_pf (k : Nat) : (s.count k).pf = s.pf := by
  have h := congrArg State.pf (count_rest s k)
  exact h

theorem captureView_decisionMade (cause : Nat) :
    (s.decisionMade cause).captureView = { s.captureView with active := true, seq := 0, cause := cause } := by
  have hview : (s.decisionMade cause).captureView =
      { (s.count k30Decisions).captureView with active := true, seq := 0, cause := cause } :=
    congrArg (CaptureView.mk _ _ _ _ _) (get_put_same (s.count k30Decisions) k30LastCause cause)
  have hvariant := congrArg State.variant (count_rest s k30Decisions)
  dsimp only at hvariant
  rw [hview]
  simp only [State.captureView, count_pf, hvariant]

theorem nextTick_decisionMade (cause : Nat) : (s.decisionMade cause).nextTick = s.nextTick := by
  have hcc : (s.decisionMade cause).get k02CadenceCount = s.get k02CadenceCount :=
    (get_put_other _ k30LastCause _ _ (by decide)).trans (get_count_other s k30Decisions _ (by decide) (by decide))
  simp only [State.nextTick, State.cc, State.getN, hcc]

theorem captureView_displayDecision : s.displayDecision.captureView = s.captureView := by
  refine (captureView_put _ _ (by decide)).trans ?_
  show (if s.display.en then (s.panelOff true).noticeOpen byDevice 0x0E06 else s).captureView = s.captureView
  split <;> rfl

/-- A save of the recorder in progress is abandoned (R412). -/
def State.saveAbandoned : State := { s with recorder := { s.recorder with saving := none } }

theorem saveAbandoned_saving : s.saveAbandoned.recorder.saving = none := rfl
theorem captureView_saveAbandoned : s.saveAbandoned.captureView = s.captureView := rfl

/-- Each of modes 1 to 3 gives way to Run (R458). -/
def State.modeEnded : State :=
  if 1 ≤ s.getN k01Mode && s.getN k01Mode ≤ 3 then { s.put k01Mode 0 with modes := { s.modes with exitEnd := none } } else s

theorem failPower_eq (cause : Nat) : s.failPower cause = (s.decide_ cause).displayDecision.saveAbandoned.modeEnded := rfl

theorem captureView_modeEnded : s.modeEnded.captureView = s.captureView := by
  unfold State.modeEnded
  split
  · exact captureView_put s (k := k01Mode) 0 (by decide)
  · rfl

theorem recorder_modeEnded : s.modeEnded.recorder = s.recorder := by
  unfold State.modeEnded
  split <;> rfl

theorem mode_modeEnded : s.modeEnded.getN k01Mode = 0 ∨ 3 < s.modeEnded.getN k01Mode := by
  unfold State.modeEnded
  split
  · exact .inl (congrArg Int.toNat (get_put_same s k01Mode 0))
  · next hmode =>
    simp only [Bool.and_eq_true, decide_eq_true_eq] at hmode
    omega

theorem captureView_failPower (cause : Nat) :
    (s.failPower cause).captureView = (s.decide_ cause).captureView := by
  rw [failPower_eq, captureView_modeEnded, captureView_saveAbandoned, captureView_displayDecision]

theorem saving_failPower (cause : Nat) : (s.failPower cause).recorder.saving = none := by
  rw [failPower_eq, recorder_modeEnded, saveAbandoned_saving]

theorem mode_failPower (cause : Nat) :
    (s.failPower cause).getN k01Mode = 0 ∨ 3 < (s.failPower cause).getN k01Mode := by
  rw [failPower_eq]
  exact mode_modeEnded _

/-- A decision stands with its cause; its capture is the first and fills the newest slot. -/
theorem captured_failPower (cause : Nat) (hslots : s.pf.slots.length = 2) :
    Captured { s.captureView with active := true, seq := 0, cause := cause } (s.failPower cause).captureView cause
      s.nextTick := by
  have hmade := captureView_decisionMade s cause
  have hcaptured := captured_capture (s.decisionMade cause) cause s.nextTick (s.decisionMade cause).stampNext
    ((congrArg (List.length ∘ CaptureView.slots) hmade).trans hslots)
  have hdecided : (s.failPower cause).captureView =
      ((s.decisionMade cause).capture cause s.nextTick (s.decisionMade cause).stampNext).captureView := by
    rw [captureView_failPower, decide_eq, captureView_firstCapture, nextTick_decisionMade]
  rw [← hmade, hdecided]
  exact hcaptured

theorem powerFailDecision_met (hidle : s.pf.active = false) (hcriterion : s.criterion ≠ 0) (hpowered : s.modes.powered = true) :
    powerFailDecision s = (s.throughSix.failPower s.criterion).stepDone 7 := by
  simp [powerFailDecision, hidle, hcriterion, hpowered]

/-- What the row leaves when a criterion is met. -/
theorem powerFailDecision_decides (hidle : s.pf.active = false) (hcriterion : s.criterion ≠ 0)
    (hpowered : s.modes.powered = true) (hslots : s.throughSix.pf.slots.length = 2) :
    ∃ t r, exec .powerFailDecision s = .next t ∧ t.pf.active = true ∧ t.recorder.saving = none ∧
      t.get k30LastCause = s.criterion ∧ t.pf.slots.getD t.pf.newest {} = VaultSlot.filled t.variant r ∧
      r.cause = s.criterion ∧ r.seq = 0 ∧ r.cc = s.throughSix.nextTick ∧ (t.getN k01Mode = 0 ∨ 3 < t.getN k01Mode) := by
  have hmet : exec .powerFailDecision s = .next ((s.throughSix.failPower s.criterion).stepDone 7) :=
    congrArg Host.Outcome.next (powerFailDecision_met s hidle hcriterion hpowered)
  obtain ⟨hactive, hcause, r, hslot, hrcause, hrseq, hrcc⟩ := captured_failPower s.throughSix s.criterion hslots
  have hsaving := saving_failPower s.throughSix s.criterion
  have hmode := mode_failPower s.throughSix s.criterion
  generalize s.throughSix.failPower s.criterion = t at *
  exact ⟨t.stepDone 7, r, hmet, hactive, hsaving, hcause, hslot, hrcause, hrseq, hrcc, hmode⟩

/-! ### Resumption (R152) -/

theorem recoverSlots_pf : s.recoverSlots.pf = s.pf := by
  unfold State.recoverSlots
  split
  · rfl
  · have hpanel (t : State) : t.panelOn.pf = t.pf := by
      unfold State.panelOn
      split <;> rfl
    exact (hpanel _).trans (each_view State.pf s _ _ fun _ _ _ => rfl)

/-- What the end of a decision leaves of the captures. -/
theorem powerFailResume_resumes (hactive : s.pf.active = true) (hgood : 80 ≤ s.pf.goodTicks) :
    (powerFailResume s).pf = { s.cancelPf.pf with active := false, slots := [{}, {}], goodTicks := 0 } := by
  have hdue : (s.pf.active && decide (goodLimit ≤ s.pf.goodTicks)) = true := by simp [goodLimit, hactive, hgood]
  rw [powerFailResume, if_pos hdue]
  exact recoverSlots_pf _

theorem cancelPf_cancelled : ∀ x ∈ s.cancelPf.pf.flash, x.cancelled = true := by
  intro x hx
  obtain ⟨y, -, rfl⟩ := List.mem_map.1 hx
  rfl

/-! ### Flash power-fail records (R158, R433) -/

theorem flashPowerFailRecord_starts {k : Nat} {r : PfRecord} (hactive : s.pf.active = true) (hidle : s.pfWriting = none)
    (hfree : s.freePf = some k) (hrecord : s.vaultRecord = some r) :
    flashPowerFailRecord s =
      { s with pf := { s.pf with flash := s.pf.flash ++ [s.pfFlashOf k r], usedSlots := s.pf.usedSlots ++ [k] },
               flash := { s.flash with current := some (.powerFail k) } }.showPf := by
  simp [flashPowerFailRecord, hactive, hidle, hfree, hrecord]

theorem flashPowerFailRecord_noRoom {r : PfRecord} (hactive : s.pf.active = true) (hidle : s.pfWriting = none)
    (hfree : s.freePf = none) (hrecord : s.vaultRecord = some r) :
    flashPowerFailRecord s = s.noticeOpen byDevice 0x0F31 := by
  simp [flashPowerFailRecord, hactive, hidle, hfree, hrecord]

/-- The record that is being written gets its commit word. -/
theorem flashRecordCommit_commits {k : Nat} (hcurrent : s.flash.current = some (.powerFail k)) :
    (flashRecordCommit s).flash.current = none ∧
      ∀ x ∈ (flashRecordCommit s).pf.flash, x.slot = k → x.commit = some x.commitWord := by
  have hwriting : s.pfWriting = some k := by simp [State.pfWriting, hcurrent]
  rw [flashRecordCommit, hwriting]
  refine ⟨rfl, fun x hx hslot => ?_⟩
  obtain ⟨y, -, rfl⟩ := List.mem_map.1 hx
  by_cases hy : y.slot = k
  · rw [if_pos hy]
    rfl
  · rw [if_neg hy] at hslot
    exact absurd hslot hy

section Erase
variable {k : Nat} (hidle : s.pf.active = false) (hused : k ∈ s.pf.usedSlots) (hgood : k ∉ s.pf.badSlots)
  (hcancelled : ∀ x ∈ s.pf.flash, x.slot = k → x.cancelled = true) (hrestored : 6 ∉ s.pf.due)
include hidle hused hgood hcancelled hrestored

/-- A used slot whose records are all cancelled may be erased. -/
theorem erase_allowed : (s.pf.active || !s.pf.usedSlots.contains k || s.pf.badSlots.contains k ||
    s.pf.flash.any (fun x => x.slot = k && !x.cancelled) || s.pf.due.contains 6) = false := by
  simpa [hidle, hused, hgood, hrestored] using hcancelled

theorem powerFailAreaErase_erases : k ∉ (powerFailAreaErase k true s).pf.usedSlots ∧
    ∀ x ∈ (powerFailAreaErase k true s).pf.flash, x.slot ≠ k := by
  rw [powerFailAreaErase, erase_allowed s hidle hused hgood hcancelled hrestored]
  simp [State.showPf]

theorem powerFailAreaErase_fails : (powerFailAreaErase k false s).pf.badSlots = s.pf.badSlots ++ [k] ∧
    (powerFailAreaErase k false s).get k30EraseFailures = oneMore s k30EraseFailures := by
  rw [powerFailAreaErase, erase_allowed s hidle hused hgood hcancelled hrestored]
  refine ⟨congrArg PowerFail.badSlots (count_pf _ k30EraseFailures), ?_⟩
  exact (get_put_other _ k30FreePowerFailSlots _ _ (by decide)).trans (get_count _ _ (by decide))

end Erase

/-! ### The billing journal (R160-R162) -/

@[simp] theorem flashOp_pf (o : FlashOp) : (s.flashOp o).pf = s.pf := by
  unfold State.flashOp
  split <;> rfl

@[simp] theorem forTag_pf (k : Option Nat) : (s.forTag k).pf = s.pf := by cases k <;> rfl

@[simp] theorem recorderSave_pf : s.recorderSave.pf = s.pf := by
  unfold State.recorderSave
  split <;> rfl

/-- What a latch leaves of the journal. -/
theorem latchJournal_pf {tr : Nat} (hdue : s.dueTrigger = some tr) : s.latchJournal.pf =
    { s.pf with due := [], lastLatch := s.nextTick, latched := s.pf.latched ++ [s.formJournal tr],
                nextJseq := (s.pf.nextJseq + 1) % 2 ^ 32 } := by
  rw [State.latchJournal, hdue]
  dsimp only [State.when]
  split
  · rw [recorderSave_pf, flashOp_pf, forTag_pf]
    rfl
  · rw [flashOp_pf, forTag_pf]
    rfl

theorem journalLatch_due {tr : Nat} (hdue : s.throughSix.dueTrigger = some tr) :
    journalLatch s = s.throughSix.latchJournal := by
  simp [journalLatch, hdue]

theorem journalLatch_idle (hdue : s.throughSix.dueTrigger = none) : journalLatch s = s := by
  simp [journalLatch, hdue]

theorem journalWritten_pf : s.journalWritten.pf = s.pf := by
  unfold State.journalWritten
  dsimp only
  split
  · rfl
  · rw [flashOp_pf]

/-- The oldest record that waits gets its commit word, enters the ring and will be the base. -/
theorem journalCommit_pf {r : JRecord} {rest : List JRecord} (hlatched : s.pf.latched = r :: rest)
    (hturn : s.journalTurn = true) : (journalCommit s).pf =
      { s.pf with latched := rest, newBase := some { r with commit := some r.commitWord },
                  journal := ringAfter s.journalSlots s.pf.journal { r with commit := some r.commitWord } } := by
  simp [journalCommit, hlatched, hturn, journalWritten_pf]

theorem journalWriteFailure_counts (hturn : s.journalTurn = true) :
    journalWriteFailure s = (s.count k30JournalWriteFailures).noticeOpen byDevice 0x0F30 := by
  simp [journalWriteFailure, hturn]

end View

/-! ### The ring of the journal (R161) -/

section Ring
variable {α : Type} (f : α → Bool)

/-- Dropping the front leaves the last element that passes a test, unless it is that element. -/
theorem getLast?_filter_tail {a : α} {l : List α} (h : ((a :: l).filter f).getLast? ≠ some a) :
    (l.filter f).getLast? = ((a :: l).filter f).getLast? := by
  by_cases ha : f a = true
  · rw [List.filter_cons_of_pos ha, List.getLast?_cons] at h ⊢
    cases hl : (l.filter f).getLast? with
    | none => simp [hl] at h
    | some x => rfl
  · rw [List.filter_cons_of_neg ha]

/-- Where the front is the last element that passes a test, the one behind it can be dropped. -/
theorem getLast?_filter_second {a b : α} {l : List α} (h : ((a :: b :: l).filter f).getLast? = some a) :
    ((a :: l).filter f).getLast? = some a := by
  have ha : f a = true := List.of_mem_filter (List.mem_of_getLast? h)
  rw [List.filter_cons_of_pos ha, List.getLast?_cons] at h ⊢
  by_cases hb : f b = true
  · rw [List.filter_cons_of_pos hb, List.getLast?_cons] at h
    cases hl : (l.filter f).getLast? with
    | none => rfl
    | some x => simpa [hl] using h
  · rwa [List.filter_cons_of_neg hb] at h

end Ring

theorem ringAfter_room (n : Nat) (l : List JRecord) (r : JRecord) (h : l.length < n) : ringAfter n l r = l ++ [r] := by
  have hle : (l ++ [r]).length ≤ max 1 n := by
    rw [List.length_append, List.length_singleton]
    omega
  rw [ringAfter, if_pos hle]

/-- A full ring drops its oldest record, or the one behind it where the oldest is the newest with trigger 5. -/
theorem ringAfter_full {n : Nat} {a b r : JRecord} {l : List JRecord} (hn : 1 < n) (hfull : n ≤ (a :: b :: l).length) :
    ringAfter n (a :: b :: l) r =
      if some a = ((a :: b :: (l ++ [r])).filter fun x => x.trigger = 5).getLast? then a :: (l ++ [r]) else b :: (l ++ [r]) := by
  have hgt : ¬ (a :: b :: l ++ [r]).length ≤ max 1 n := by
    rw [List.length_append, List.length_singleton]
    omega
  rw [ringAfter, if_neg hgt]
  rfl

/-- With room for more than one record the ring keeps the newest record and the newest with trigger 5. -/
theorem ringAfter_keeps (n : Nat) (l : List JRecord) (r : JRecord) (hlen : l.length ≤ n) (hn : 1 < n) :
    (ringAfter n l r).getLast? = some r ∧ (ringAfter n l r).length ≤ n ∧
      ((l ++ [r]).filter fun x => x.trigger = 5).getLast? = ((ringAfter n l r).filter fun x => x.trigger = 5).getLast? := by
  rcases hlen.lt_or_eq with hroom | hfull
  · rw [ringAfter_room n l r hroom, List.length_append]
    exact ⟨List.getLast?_concat, hroom, rfl⟩
  · obtain ⟨a, b, l, rfl⟩ : ∃ a b l', l = a :: b :: l' :=
      match l, (hn.trans_eq hfull.symm) with
      | a :: b :: l', _ => ⟨a, b, l', rfl⟩
    have hlength (c : JRecord) : (c :: (l ++ [r])).length ≤ n := by
      rw [← hfull, List.length_cons, List.length_append]
      exact le_rfl
    rw [ringAfter_full hn hfull.ge]
    split
    · next hoffered =>
      exact ⟨List.getLast?_concat (l := a :: l), hlength a, hoffered.symm.trans (getLast?_filter_second _ hoffered.symm).symm⟩
    · next hother =>
      exact ⟨List.getLast?_concat (l := b :: l), hlength b, (getLast?_filter_tail _ (Ne.symm hother)).symm⟩

/-- Settles O33: the decision is `powerFailDecision_decides`, its end `powerFailResume_resumes`; each row of the records and of the
journal is what its own lemma says, and the ring is `ringAfter_keeps`. -/
theorem powerFailRows : Obligations.PowerFailRows := by
  unfold Obligations.PowerFailRows
  refine ⟨?_, fun s h => if_pos h, ?_, ?_, ?_, ?_, ?_, ?_, ?_, ?_, ?_, ?_, ringAfter_keeps⟩
  · rintro s u hidle hcriterion hpowered rfl hslots
    exact powerFailDecision_decides s hidle hcriterion hpowered hslots
  · intro s hactive hgood
    have hpf := powerFailResume_resumes s hactive hgood
    exact ⟨_, rfl, congrArg PowerFail.active hpf, congrArg PowerFail.slots hpf, hpf ▸ cancelPf_cancelled s⟩
  · intro s k r hactive hidle hfree hrecord
    exact ⟨_, congrArg Host.Outcome.next (flashPowerFailRecord_starts s hactive hidle hfree hrecord), rfl, rfl, rfl⟩
  · intro s r hactive hidle hfree hrecord
    exact congrArg Host.Outcome.next (flashPowerFailRecord_noRoom s hactive hidle hfree hrecord)
  · exact fun s k hcurrent => ⟨_, rfl, flashRecordCommit_commits s hcurrent⟩
  · rintro s u tr rfl hdue
    have hpf := latchJournal_pf s.throughSix hdue
    exact ⟨_, congrArg Host.Outcome.next (journalLatch_due s hdue), congrArg PowerFail.latched hpf,
      congrArg PowerFail.due hpf, congrArg PowerFail.lastLatch hpf, congrArg PowerFail.nextJseq hpf⟩
  · exact fun s hdue => congrArg Host.Outcome.next (journalLatch_idle s hdue)
  · intro s r rest hlatched hturn
    have hpf := journalCommit_pf s hlatched hturn
    exact ⟨_, rfl, congrArg PowerFail.latched hpf, congrArg PowerFail.newBase hpf, congrArg PowerFail.journal hpf⟩
  · exact fun s hturn => congrArg Host.Outcome.next (journalWriteFailure_counts s hturn)
  · exact fun s k hidle hused hgood hcancelled hrestored =>
      ⟨_, rfl, powerFailAreaErase_erases s hidle hused hgood hcancelled hrestored⟩
  · exact fun s k hidle hused hgood hcancelled hrestored =>
      ⟨_, rfl, powerFailAreaErase_fails s hidle hused hgood hcancelled hrestored⟩

end Sys2Proof.Machine
end

section
/-! The rows of the tokens (O36): what a token leaves of the objects, the number of a token before and after it is marked, then the
entry of a token. -/

namespace Sys2Proof.Machine

/-- Two addresses whose members differ are two addresses, whatever class and number stand before them. -/
theorem key_ne_of_member (c c' i i' : Nat) {m m' : Nat} (hm : m < 256) (hm' : m' < 256) (h : m ≠ m') :
    key c i m ≠ key c' i' m' := by
  simp only [key]
  omega

theorem bit_setBit_same (w n : Nat) : bit (setBit w n true) n = true := by
  unfold setBit
  split
  · assumption
  · next hclear =>
    have hnext : (w + 2 ^ n) / 2 ^ n = w / 2 ^ n + 1 := Nat.add_div_right w (Nat.two_pow_pos n)
    simp only [bit, decide_eq_true_eq] at hclear
    simp only [if_true, bit, hnext, decide_eq_true_eq]
    omega

/-! ### What leaves the objects alone -/

section Kept
variable (s : State)

@[simp] theorem get_flashOp (o : FlashOp) (j : Nat) : (s.flashOp o).get j = s.get j := by
  unfold State.flashOp
  split <;> rfl

@[simp] theorem get_forTag (k : Option Nat) (j : Nat) : (s.forTag k).get j = s.get j := by cases k <;> rfl

@[simp] theorem get_savePurse (p sid j : Nat) : (s.savePurse p sid).get j = s.get j := by
  unfold State.savePurse
  split
  · rfl
  · exact get_flashOp s _ j

@[simp] theorem get_lowCredit (p j : Nat) : (s.lowCredit p).get j = s.get j := by
  unfold State.lowCredit
  split
  · rfl
  · dsimp only
    split
    · rfl
    · split <;> rfl

@[simp] theorem get_unwrapFailed (k j : Nat) : (s.unwrapFailed k).get j = s.get j := by
  unfold State.unwrapFailed
  split <;> rfl

end Kept

/-! ### The number of a token (R193) -/

section Number
variable (s : State) (p tid : Nat)

/-- A purse with another floor and window. -/
def State.putWindow (s : State) (p f w : Nat) : State :=
  s.puts [(k13Floor p, f), (k13WindowHigh p, (w / 2 ^ 48 : Nat)), (k13WindowLow p, (w % 2 ^ 48 : Nat))]

theorem floor_putWindow (f w : Nat) : (s.putWindow p f w).getN (k13Floor p) = f := by
  simp [State.putWindow, State.getN, get_put, key]

theorem purseWindow_putWindow (f w : Nat) : (s.putWindow p f w).purseWindow p = w := by
  have hhigh : (s.putWindow p f w).get (k13WindowHigh p) = (w / 2 ^ 48 : Nat) := by
    rw [State.putWindow, puts_cons, puts_cons, puts_cons, puts_nil, get_put_other _ _ _ _ (by simp [key]), get_put_same]
  have hlow : (s.putWindow p f w).get (k13WindowLow p) = (w % 2 ^ 48 : Nat) := get_put_same _ _ _
  rw [State.purseWindow, State.getN, State.getN, hhigh, hlow, Int.toNat_natCast, Int.toNat_natCast, Nat.mul_comm,
    Nat.div_add_mod]

/-- The floor and the window tell which numbers are usable. -/
theorem tidUsable_congr {t : State} (hfloor : t.get (k13Floor p) = s.get (k13Floor p))
    (hhigh : t.get (k13WindowHigh p) = s.get (k13WindowHigh p)) (hlow : t.get (k13WindowLow p) = s.get (k13WindowLow p)) :
    t.tidUsable p tid = s.tidUsable p tid := by
  unfold State.tidUsable State.purseWindow State.getN
  rw [hfloor, hhigh, hlow]

/-- A number whose bit of the window is set is used. -/
theorem tidUsable_putWindow_marked (f w : Nat) (hlo : f ≤ tid) (hhi : tid ≤ f + 63) :
    (s.putWindow p f (setBit w (tid - f) true)).tidUsable p tid = false := by
  simp [State.tidUsable, floor_putWindow, purseWindow_putWindow, hlo.not_gt, hhi, bit_setBit_same]

theorem useTid_inside (h : tid ≤ s.getN (k13Floor p) + 63) : s.useTid p tid =
    s.putWindow p (s.getN (k13Floor p)) (setBit (s.purseWindow p) (tid - s.getN (k13Floor p)) true) := if_pos h

/-- A number above the window becomes the last of a window that has moved up to it. -/
theorem useTid_above (h : s.getN (k13Floor p) + 63 < tid) :
    ∃ w n state, s.useTid p tid = ((s.putWindow p (tid - 63) (setBit w 63 true)).notice byDevice 0x0512 n).puts state ∧
      ∀ x ∈ state, x.1 = k13PurseState p := by
  unfold State.useTid
  extract_lets f put g w shift used t t'
  rw [if_neg h.not_ge]
  clear_value shift
  by_cases hfull : floorMax ≤ g
  · exact ⟨w / 2 ^ shift % 2 ^ 64, shift - used, [(k13PurseState p, 2)], if_pos hfull, by simp⟩
  · exact ⟨w / 2 ^ shift % 2 ^ 64, shift - used, [], if_neg hfull, by simp⟩

/-- A number at or above the floor is used once it has been marked. -/
theorem tidUsable_useTid (h : s.getN (k13Floor p) ≤ tid) : (s.useTid p tid).tidUsable p tid = false := by
  rcases Nat.lt_or_ge (s.getN (k13Floor p) + 63) tid with habove | hinside
  · obtain ⟨w, n, state, huse, hstate⟩ := useTid_above s p tid habove
    have hread {m : Nat} (hm : m < 8) : (s.useTid p tid).get (key 0x13 p m) =
        (s.putWindow p (tid - 63) (setBit w (tid - (tid - 63)) true)).get (key 0x13 p m) := by
      have hlast : tid - (tid - 63) = 63 := by omega
      rw [huse, hlast, get_puts_other _ _ _ fun x hx => ?_, get_notice]
      rw [hstate x hx]
      exact key_ne_of_member _ _ _ _ (by decide) (by omega) (by omega)
    rw [tidUsable_congr _ p tid (hread (by decide)) (hread (by decide)) (hread (by decide)),
      tidUsable_putWindow_marked s p tid _ _ (by omega) (by omega)]
  · rw [useTid_inside s p tid hinside, tidUsable_putWindow_marked s p tid _ _ h hinside]

end Number

/-! ### An accepted and a refused token (R194, R195) -/

section Token
variable (s : State) (inst x : Nat)

/-- What an accepted token moves: its number is marked and the balance is the new one, unless it is a test token. -/
def State.tokenMoved (s : State) (x : Nat) : State :=
  if tokClass x = 2 then s else (s.useTid (tokPurse x) (tokTid x)).put (k13Balance (tokPurse x)) (s.tokenBalance x)

/-- Beside that an accepted token changes its count and the last result. -/
theorem get_acceptToken (j : Nat) (hcount : j ≠ k13AcceptedTokens (tokPurse x)) (hsat : j ≠ k00LastSaturatedCount)
    (hresult : j ≠ k13LastResult) : (s.acceptToken inst x).get j = (s.tokenMoved x).get j := by
  have hrest := get_count_other (s.tokenMoved x) _ j hcount hsat
  unfold State.acceptToken
  rw [get_lowCredit, get_put_other _ _ _ _ hresult, get_notice, get_savePurse]
  exact hrest

/-- So of the members of its purse it changes, past the moved ones, the count alone. -/
theorem get_acceptToken_member {m : Nat} (hm : m < 9) (h1 : m ≠ 1) :
    (s.acceptToken inst x).get (key 0x13 (tokPurse x) m) = (s.tokenMoved x).get (key 0x13 (tokPurse x) m) :=
  get_acceptToken s inst x _ (key_ne_of_member _ _ _ _ (by omega) (by decide) (by omega))
    (key_ne_of_member _ _ _ _ (by omega) (by decide) (by omega)) (key_ne_of_member _ _ _ _ (by omega) (by decide) h1)

/-- A credit token adds its amount. -/
theorem balance_acceptToken (h : tokClass x = 0) : (s.acceptToken inst x).get (k13Balance (tokPurse x)) =
    s.get (k13Balance (tokPurse x)) + tokAmount x * s.getN (k13UnitValue (tokPurse x)) := by
  rw [get_acceptToken_member s inst x (by decide) (by decide), State.tokenMoved, if_neg (by omega), get_put_same]
  simp [State.tokenBalance, h]

/-- A token of credit or debit uses up its number. -/
theorem tidUsable_acceptToken (hclass : tokClass x < 2) (hfloor : s.getN (k13Floor (tokPurse x)) ≤ tokTid x) :
    (s.acceptToken inst x).tidUsable (tokPurse x) (tokTid x) = false := by
  have hread {m : Nat} (hlo : 4 < m) (hhi : m < 8) : (s.acceptToken inst x).get (key 0x13 (tokPurse x) m) =
      (s.useTid (tokPurse x) (tokTid x)).get (key 0x13 (tokPurse x) m) := by
    rw [get_acceptToken_member s inst x (by omega) (by omega), State.tokenMoved, if_neg (by omega),
      get_put_other _ _ _ _ (key_ne_of_member _ _ _ _ (by omega) (by decide) (by omega))]
  rw [tidUsable_congr (s.useTid (tokPurse x) (tokTid x)) _ _ (hread (by decide) (by decide)) (hread (by decide) (by decide))
    (hread (by decide) (by decide)), tidUsable_useTid s _ _ hfloor]

/-- A refusal shows as the last result, and no other object changes. -/
theorem get_refuseToken (l : List Nat) (st j : Nat) (hj : j ≠ k13LastResult) : (s.refuseToken inst l st).get j = s.get j := by
  unfold State.refuseToken
  extract_lets p t u fails
  have ht : t.get j = s.get j := get_put_other s _ j _ hj
  have hu : u.get j = s.get j := by
    simp only [u]
    split
    · rw [get_unwrapFailed, ht]
    · exact ht
  split
  · exact ht
  · split <;> exact hu

theorem enterToken_value (l : List Nat) (h : tokenValue l = some x) : s.enterToken inst l =
    if s.tokenStatus l = stOk then (s.loadTokenKey x).acceptToken inst x
    else (s.loadTokenKey x).refuseToken inst l (s.tokenStatus l) := by
  simp only [State.enterToken, h]

end Token

/-! ### The row (R192, R370) -/

section Row
variable (s : State) (sid : Nat) (v : Int) (h : s.rowPasses sid k13TokenEntry v = true)
include h

/-- Where the checks of the write pass, a # that waits at the keypad goes first. -/
theorem tokenEntry_passes : tokenEntry sid v s = (s.hashFirst.tokenRow sid v).atStep5 := by
  obtain ⟨hopen, hcheck⟩ := (rowPasses_iff s sid _ v).1 h
  simp [tokenEntry, State.inTurn, State.when, hopen, hcheck]

theorem tokenEntry_keypadOff (hoff : s.flag k23TokenEntry = false) : tokenEntry sid v s =
    (if s.tokenStatus (txtChars v) = stOk then
      (s.enterToken sid (txtChars v)).holdAnswer (s.rowAsWrite sid ⟨k13TokenEntry, ownType, v⟩)
    else (s.enterToken sid (txtChars v)).answer sid k13TokenEntry (s.tokenStatus (txtChars v))).atStep5 := by
  obtain ⟨-, hcheck⟩ := (rowPasses_iff s sid _ v).1 h
  have hhash : s.hashFirst = s := by simp [State.hashFirst, hoff]
  simp [tokenEntry_passes s sid v h, hhash, State.tokenRow, hcheck]

theorem tokenEntry_keypadOn (hon : s.flag k23TokenEntry = true) :
    tokenEntry sid v s = ((keyPress 14 s).tokenRow sid v).atStep5 := by
  rw [tokenEntry_passes s sid v h, State.hashFirst, if_pos hon]

end Row

/-- Settles O36: the row by the state of the keypad, its refusal and its wait as those of every row (`refusesAlone_tokenEntry`), the
rest by what an accepted and a refused token leave. -/
theorem tokenRows : Obligations.TokenRows := by
  unfold Obligations.TokenRows
  exact ⟨fun s sid v h hoff => congrArg Host.Outcome.next (tokenEntry_keypadOff s sid v h hoff),
    fun s sid v h hon => congrArg Host.Outcome.next (tokenEntry_keypadOn s sid v h hon),
    fun s sid v => refusesAlone_tokenEntry.2,
    fun s sid v => refusesAlone_tokenEntry.1,
    fun s sid l x hx => enterToken_value s sid x l hx,
    fun s i x hx => balance_acceptToken s i x hx,
    fun s i x hclass hfloor => tidUsable_acceptToken s i x hclass hfloor,
    fun s i l st p => get_refuseToken s i l st _ (key_ne_of_member _ _ _ _ (by decide) (by decide) (by decide))⟩

end Sys2Proof.Machine
end

section
/-! The rows of the charging sessions (O35): the rows that write one object, then the recomputation of the costs. A slot that is priced
writes members 8 to 27 of its own number, and what a price is made of are members below 8, so the slots do not disturb each
other. -/

namespace Sys2Proof.Machine

/-! ### The rows that write one object (R187, R188, R199, R235) -/

section Rows
variable (s : State) (sid : Nat)

theorem authoriseSpoke_opens (v : Int) (h : s.rowPasses sid k12AuthoriseSpoke v = true)
    (hauth : s.authStatus v.toNat (s.getN k12Purse64) = stOk) : authoriseSpoke sid v s =
      (s.writeOne sid k12AuthoriseSpoke v fun u =>
        u.openSession v.toNat (u.get k12Identity64) (u.getN k12Purse64)).atStep5 := by
  have hcheck : checkAuthorise v s = stOk := hauth
  have hopened := writeRow_passes s sid k12AuthoriseSpoke v (checkAuthorise v) (applyAuthorise v) h hcheck
  simp only [authoriseSpoke, hopened, hcheck, ne_eq, not_true_eq_false, decide_false, Bool.and_false, Bool.false_eq_true,
    if_false]
  rfl

theorem authStatus_occupied (sp purse : Nat) (hsp : sp < s.spokeCount) (hopen : (s.openSlot sp).isSome = true) :
    s.authStatus sp purse = stNotNow := by
  simp [State.authStatus, hsp.not_ge, hopen]

/-- An authorisation of a spoke with an open session is refused and stands as its offer. -/
theorem authoriseSpoke_offers (v : Nat) (h : s.rowPasses sid k12AuthoriseSpoke v = true) (hv : v < s.spokeCount)
    (hwork : s.workstand = false) (hopen : (s.openSlot v).isSome = true) : authoriseSpoke sid v s =
      (s.answer sid k12AuthoriseSpoke stNotNow).atStep5.offer v (s.get k12Identity64) (s.getN k12Purse64) := by
  have hcheck : checkAuthorise v s = stNotNow := authStatus_occupied s v _ hv hopen
  have hoffer : (s.answer sid k12AuthoriseSpoke stNotNow).atStep5.becomesOffer v = true := by
    have hkept : (s.answer sid k12AuthoriseSpoke stNotNow).atStep5.becomesOffer v = s.becomesOffer v := rfl
    rw [hkept]
    simp [State.becomesOffer, hv, hwork, hopen]
  have hrefused : (s.rowPasses sid k12AuthoriseSpoke v && decide (checkAuthorise v s ≠ stOk)) = true := by
    rw [h, hcheck]
    rfl
  rw [authoriseSpoke, writeRow_answers s sid _ v _ _ stNotNow h hcheck (by decide) (by decide), if_pos hrefused,
    State.refusedAuthorise, Int.toNat_natCast, if_pos hoffer]
  rfl

theorem applyStop_open (j : Nat) (h : s.getN (k12State j) = 1) : applyStop j 1 s = s.raise (s.getN (k12Spoke j)) fStop := by
  simp [applyStop, h]

theorem applyCollect_closed (j : Nat) (h : s.getN (k12State j) = 2) : applyCollect j 1 s = s.put (k12State j) 3 := by
  simp [applyCollect, h]

theorem tokenLockoutEnd_reached (hlock : s.tokenLock ≠ 0) (hend : s.reached s.tokenLock = true) :
    tokenLockoutEnd s = { s with tokenLock := 0 } := by
  simp [tokenLockoutEnd, hlock, hend]

end Rows

/-! ### The price of a slot (R189) -/

section Price
variable (s : State) (j at_ : Nat)

/-- A listed object holds after the writes what they give it, whatever stood there before. -/
theorem get_puts_congr {s t : State} (l : List (Nat × Int)) (k : Nat) (h : k ∈ l.map Prod.fst ∨ t.get k = s.get k) :
    (t.puts l).get k = (s.puts l).get k := by
  induction l generalizing s t with
  | nil => simpa using h
  | cons p l ih =>
    rw [puts_cons, puts_cons]
    refine ih ?_
    by_cases hk : p.1 = k
    · exact .inr (by rw [hk, get_put_same, get_put_same])
    · refine h.imp (fun hmem => ?_) fun hget => ?_
      · exact (List.mem_cons.1 hmem).resolve_left (Ne.symm hk)
      · rw [get_put_other _ _ _ _ (Ne.symm hk), get_put_other _ _ _ _ (Ne.symm hk), hget]

/-- Members 8 to 27 of its own number are all that the price of a slot writes. -/
theorem get_priceSlot_other (k : Nat) (h : ∀ m, 8 ≤ m → m < 28 → k ≠ key 0x12 j m) :
    (s.priceSlot j at_).get k = s.get k := by
  unfold State.priceSlot
  rw [get_puts_other _ _ _ fun p hp => ?_, get_puts_other _ _ _ fun p hp => ?_]
  · simp only [List.mem_cons, List.not_mem_nil, or_false] at hp
    rcases hp with rfl | rfl | rfl | rfl <;> exact (h _ (by decide) (by decide)).symm
  · obtain ⟨r, hr, hp⟩ := List.mem_flatMap.1 hp
    have hr : r < 8 := List.mem_range.1 hr
    simp only [List.mem_cons, List.not_mem_nil, or_false] at hp
    rcases hp with rfl | rfl <;> exact (h _ (by omega) (by omega)).symm

@[simp] theorem puts_sessions (l : List (Nat × Int)) : (s.puts l).sessions = s.sessions := by
  have h := congrArg State.sessions (puts_rest s l)
  exact h

theorem sessions_priceSlot : (s.priceSlot j at_).sessions = s.sessions := by
  unfold State.priceSlot
  rw [puts_sessions, puts_sessions]

/-- Every member below 8 of `t`, and what it keeps of slot `j`, are as in `s`: the price of the slot is the same. -/
structure PricedAlike (j : Nat) (s t : State) : Prop where
  get : ∀ k, keyMember k < 8 → t.get k = s.get k
  slot : t.slot j = s.slot j

theorem PricedAlike.cost {s t : State} (h : PricedAlike j s t) :
    (t.priceSlot j t.cc).get (k12Cost j) = (s.priceSlot j s.cc).get (k12Cost j) := by
  have hmember (c i : Nat) {m : Nat} (hm : m < 8) : t.getN (key c i m) = s.getN (key c i m) :=
    congrArg Int.toNat (h.get _ (by simp only [keyMember, key]; omega))
  have hcc : t.cc = s.cc := hmember _ _ (by decide)
  have hsince (inst : Nat) (start : Nat × Nat) : t.since109 inst start = s.since109 inst start := by
    simp only [State.since109, hmember _ _ (show 0 < 8 by decide), hmember _ _ (show 1 < 8 by decide)]
  simp only [State.priceSlot, h.slot, hcc, hmember _ _ (show 2 < 8 by decide), hsince]
  exact get_puts_congr _ _ (.inr (get_puts_congr _ _ (.inl (by simp))))

end Price

/-! ### The recomputation (R189, R190) -/

section Recomputation
variable (s : State)

/-- What the recomputation does with a slot whose cost is due. -/
def State.repriceSlot (s : State) (j : Nat) : State :=
  (s.priceSlot j s.cc).modSlot j fun x => { x with costAt := (x.costAt + secTicks 1) % ccMod }

@[simp] theorem get_modSlot (j : Nat) (f : Session → Session) (k : Nat) : (s.modSlot j f).get k = s.get k := rfl

theorem get_repriceSlot (j k : Nat) : (s.repriceSlot j).get k = (s.priceSlot j s.cc).get k := by
  rw [State.repriceSlot, get_modSlot]

/-- The slots whose cost is due. -/
def State.costsDue (s : State) : List Nat :=
  (List.range 48).filter fun j => s.getN (k12State j) = 1 && s.reached (s.slot j).costAt

theorem mem_costsDue (j : Nat) :
    j ∈ s.costsDue ↔ j < 48 ∧ s.getN (k12State j) = 1 ∧ s.reached (s.slot j).costAt = true := by
  simp [State.costsDue]

theorem get_repriceSlot_other (i k : Nat) (h : ∀ m, 8 ≤ m → m < 28 → k ≠ key 0x12 i m) :
    (s.repriceSlot i).get k = s.get k := by
  rw [get_repriceSlot, get_priceSlot_other s i s.cc k h]

theorem get_repriceSlot_low (i k : Nat) (hk : keyMember k < 8) : (s.repriceSlot i).get k = s.get k :=
  get_repriceSlot_other s i k fun m hlo hhi => by
    simp only [keyMember] at hk
    simp only [key]
    omega

/-- A slot that is priced leaves the price of every other. -/
theorem pricedAlike_repriceSlot {i j : Nat} (hij : i ≠ j) : PricedAlike j s (s.repriceSlot i) where
  get k hk := get_repriceSlot_low s i k hk
  slot := by
    simp [State.slot, State.repriceSlot, State.modSlot, sessions_priceSlot, List.getD_eq_getElem?_getD, hij]

theorem pricedAlike_each {j : Nat} (l : List Nat) (hj : j ∉ l) : PricedAlike j s (s.each l State.repriceSlot) :=
  each_keeps (PricedAlike j s) s l _ (fun t i hi ht => by
    have hstep := pricedAlike_repriceSlot t (ne_of_mem_of_not_mem hi hj)
    exact ⟨fun k hk => (hstep.get k hk).trans (ht.get k hk), hstep.slot.trans ht.slot⟩) ⟨fun _ _ => rfl, rfl⟩

/-- The slots due behind a slot leave its cost. -/
theorem cost_each_repriceSlot {j : Nat} (l : List Nat) (hj : j ∉ l) :
    (s.each l State.repriceSlot).get (k12Cost j) = s.get (k12Cost j) :=
  each_view (State.get · (k12Cost j)) s l _ fun t i hi => get_repriceSlot_other t i _ fun m _ hm => by
    have hij : i ≠ j := ne_of_mem_of_not_mem hi hj
    simp only [key]
    omega

theorem cost_each_due {j : Nat} (l : List Nat) (hl : l.Nodup) (hj : j ∈ l) :
    (s.each l State.repriceSlot).get (k12Cost j) = (s.priceSlot j s.cc).get (k12Cost j) := by
  obtain ⟨l₁, l₂, rfl⟩ := List.append_of_mem hj
  obtain ⟨-, hl₂, hdisjoint⟩ := List.nodup_append.1 hl
  have h₁ : j ∉ l₁ := fun h => hdisjoint j h j List.mem_cons_self rfl
  have h₂ : j ∉ l₂ := (List.nodup_cons.1 hl₂).1
  rw [each_append, each_cons, cost_each_repriceSlot _ l₂ h₂, get_repriceSlot, (pricedAlike_each s l₁ h₁).cost]

theorem get_checkCredit (j k : Nat) : (s.checkCredit j).get k = s.get k := by
  unfold State.checkCredit
  dsimp only
  split
  · rfl
  · split <;> rfl

/-- Behind the prices the recomputation looks at the credit only (R190). -/
theorem get_costRecomputation (k : Nat) : (costRecomputation s).get k = (s.each s.costsDue State.repriceSlot).get k := by
  unfold costRecomputation
  extract_lets due t open_ u
  split
  · next hnone =>
    have hdue : s.costsDue = [] := hnone
    rw [hdue, each_nil]
  · have hcredit : u.get k = t.get k := each_view (State.get · k) t open_ _ fun v j _ => get_checkCredit v j k
    exact (each_view (State.get · k) u open_ _ fun v j _ => get_lowCredit v _ k).trans hcredit

theorem costRecomputation_idle (h : ∀ j, j < 48 → s.getN (k12State j) = 1 → s.reached (s.slot j).costAt = false) :
    costRecomputation s = s := by
  have hnone : s.costsDue = [] := List.eq_nil_iff_forall_not_mem.2 fun j hj => by
    obtain ⟨hlt, hstate, hdue⟩ := (mem_costsDue s j).1 hj
    exact Bool.false_ne_true ((h j hlt hstate).symm.trans hdue)
  exact if_pos hnone

/-- A cost that is due is the price of its slot, and no balance moves. -/
theorem costRecomputation_due (j : Nat) (hlt : j < 48) (hstate : s.getN (k12State j) = 1)
    (hdue : s.reached (s.slot j).costAt = true) (p : Nat) :
    (costRecomputation s).get (k12Cost j) = (s.priceSlot j s.cc).get (k12Cost j) ∧
      (costRecomputation s).get (k13Balance p) = s.get (k13Balance p) := by
  rw [get_costRecomputation, get_costRecomputation]
  refine ⟨cost_each_due s _ (List.nodup_range.filter _) ((mem_costsDue s j).2 ⟨hlt, hstate, hdue⟩), ?_⟩
  exact each_view (State.get · (k13Balance p)) s _ _ fun t i _ =>
    get_repriceSlot_low t i _ (by simp only [keyMember, key]; omega)

end Recomputation

/-- Settles O35: STOP and COLLECT are `writeRow_passes`, every other clause is the lemma on its row. -/
theorem sessionRows : Obligations.SessionRows := by
  unfold Obligations.SessionRows
  exact ⟨fun s sid v h hauth => congrArg Host.Outcome.next (authoriseSpoke_opens s sid v h hauth),
    fun s sid v h hv hwork hopen => congrArg Host.Outcome.next (authoriseSpoke_offers s sid v h hv hwork hopen),
    fun s sid j h _ => congrArg Host.Outcome.next (writeRow_passes s sid (k12Stop j) 1 _ (applyStop j 1) h rfl),
    applyStop_open,
    fun s sid j h => congrArg Host.Outcome.next (writeRow_passes s sid (k12Collect j) 1 _ (applyCollect j 1) h rfl),
    applyCollect_closed,
    fun s h => congrArg Host.Outcome.next (costRecomputation_idle s h),
    fun s j hlt hstate hdue => ⟨_, rfl, costRecomputation_due s j hlt hstate hdue _⟩,
    fun s hlock hend => congrArg Host.Outcome.next (tokenLockoutEnd_reached s hlock hend)⟩

end Sys2Proof.Machine
end

section
/-! The activation of a tariff (O34), which closes the segments after it has cleared the pending tariff at 10h/0/1. As with 0Bh/1000/0
in `not_registerRows`, a meter with more than the 24 accumulators of R138 reaches that object: at spoke 0 the wrap count of
accumulator 5,120 stands there. -/

namespace Sys2Proof.Machine

variable (s : State)

/-! ### The state in which an activated tariff selects the rate (R179, R180) -/

/-- With another interval length the running interval is closed. -/
def State.lengthChecked (s : State) (w : Nat) : State :=
  if tDlen s.billing.pendingImage = s.getN k10DemandLength then s else s.closeInterval w true

/-- The pending image is active, shown and reported. -/
def State.tariffActive (s : State) (w : Nat) : State :=
  let p := s.billing.pendingImage
  let t := s.lengthChecked w
  let t := ({ t with billing := { t.billing with active := p, pendingImage := [] } }).showTariff
  ((t.puts [(k10PendingTariff, 0), (k10PendingActivation, 0)]).notice byDevice 0x0506 (tId p)).periodFlag 4

theorem activateTariff_eq (w : Nat) : s.activateTariff w = (s.tariffActive w).selectRate (some w) := rfl

@[simp] theorem get_stepDone (n k : Nat) : (s.stepDone n).get k = s.get k := rfl
@[simp] theorem billing_stepDone (n : Nat) : (s.stepDone n).billing = s.billing := rfl

theorem tariffActivation_due (w : Nat) (hstep : s.modes.step ≤ 4) (hwall : s.boundaryWall = some w)
    (himage : s.billing.pendingImage ≠ []) (hdue : tActivate s.billing.pendingImage ≤ w) :
    tariffActivation s = ((s.tariffActive w).selectRate (some w)).stepDone 4 := by
  have htariff : s.tariffDue = s.activateTariff w := by
    simp [State.tariffDue, hwall, himage, hdue]
  rw [tariffActivation, State.atStep, if_neg hstep.not_gt, htariff, activateTariff_eq]
  rfl

@[simp] theorem get_noteRate (r k : Nat) : (s.noteRate r).get k = s.get k := rfl

theorem selectRate_kept (w : Option Nat) (h : rateAt s.tariff w = s.getN k10CurrentRate) : s.selectRate w = s := if_pos h

theorem selectRate_switched (w : Option Nat) (h : rateAt s.tariff w ≠ s.getN k10CurrentRate) : s.selectRate w =
    ((s.closeSegments.put k10CurrentRate (rateAt s.tariff w)).noteRate (rateAt s.tariff w)).journal 1 := if_neg h

/-- Beside the rate a switch changes of the objects what the closing of the segments changes. -/
theorem get_selectRate_switched (w : Option Nat) (h : rateAt s.tariff w ≠ s.getN k10CurrentRate) (k : Nat)
    (hk : k ≠ k10CurrentRate) : (s.selectRate w).get k = s.closeSegments.get k := by
  rw [selectRate_switched s w h, get_journal, get_noteRate, get_put_other _ _ _ _ hk]

theorem rate_selectRate (w : Option Nat) : (s.selectRate w).getN k10CurrentRate = rateAt s.tariff w := by
  by_cases hrate : rateAt s.tariff w = s.getN k10CurrentRate
  · rw [selectRate_kept s w hrate, hrate]
  · rw [selectRate_switched s w hrate, State.getN, get_journal, get_noteRate, get_put_same, Int.toNat_natCast]

/-! ### With the 24 accumulators of R138 -/

/-- What decides whether the accumulators fit, and the two images: the closing of an interval and the records of an activation
leave them. -/
def State.tariffView (s : State) : Variant × List Spoke × List Nat × List Nat :=
  (s.variant, s.spokes, s.billing.active, s.billing.pendingImage)

@[simp] theorem tariffView_put (k : Nat) (v : Int) : (s.put k v).tariffView = s.tariffView := rfl

@[simp] theorem tariffView_notice (i c v : Nat) : (s.notice i c v).tariffView = s.tariffView := rfl

@[simp] theorem tariffView_flashOp (o : FlashOp) : (s.flashOp o).tariffView = s.tariffView := by
  unfold State.flashOp
  split <;> rfl

@[simp] theorem tariffView_ratchet (k n : Nat) : (s.ratchet k n).tariffView = s.tariffView := by
  unfold State.ratchet
  split <;> rfl

@[simp] theorem tariffView_puts (l : List (Nat × Int)) : (s.puts l).tariffView = s.tariffView := by
  induction l generalizing s with
  | nil => rfl
  | cons p l ih => rw [puts_cons, ih, tariffView_put]

@[simp] theorem tariffView_periodFlag (b : Nat) : (s.periodFlag b).tariffView = s.tariffView := by
  rw [State.periodFlag, tariffView_flashOp, tariffView_put]

@[simp] theorem tariffView_showTariff : s.showTariff.tariffView = s.tariffView :=
  (each_view State.tariffView _ _ _ fun u _ _ => tariffView_puts u _).trans (tariffView_puts s _)

theorem tariffView_intervalOf (sp : Nat) (full : Bool) (e stamp : Nat) :
    (s.intervalOf sp full e stamp).tariffView = s.tariffView := by
  unfold State.intervalOf
  dsimp only
  split
  · split <;> simp
  · simp

theorem tariffView_closeIntervalWith (stamp : Nat) (flagged : Bool) (energy : Nat → Nat) :
    (s.closeIntervalWith stamp flagged energy).tariffView = s.tariffView := by
  unfold State.closeIntervalWith
  extract_lets b full t u v
  have ht : t.tariffView = s.tariffView := each_view State.tariffView s _ _ fun t sp _ =>
    tariffView_intervalOf t sp full _ _
  have hv : v.tariffView = s.tariffView := by
    simp only [v, u, tariffView_flashOp, tariffView_put]
    split <;> simp [ht]
  exact hv

/-- The spokes served and their meters tell whether the accumulators fit. -/
theorem fineFits_congr {s t : State} (hvariant : t.variant = s.variant) (hspokes : t.spokes = s.spokes)
    (hfine : s.fineFits) : t.fineFits := by
  simpa only [State.fineFits, State.spoke, hvariant, hspokes] using hfine

theorem fineFits_closeSegments (hfine : s.fineFits) : s.closeSegments.fineFits := fun sp hsp => by
  have hvariant : s.closeSegments.variant = s.variant := congrArg CaptureView.variant (captureView_closeSegments s)
  rw [(segmentFrame_closeSegments s hfine).fineLength sp]
  exact hfine sp (hvariant ▸ hsp)

theorem fineFits_closeInterval (stamp : Nat) (flagged : Bool) (hfine : s.fineFits) :
    (s.closeInterval stamp flagged).fineFits := by
  have hview := tariffView_closeIntervalWith s.closeSegments stamp flagged s.closeSegments.intervalEnergy
  exact fineFits_congr (congrArg Prod.fst hview) (congrArg (·.2.1) hview) (fineFits_closeSegments s hfine)

theorem fineFits_lengthChecked (w : Nat) (hfine : s.fineFits) : (s.lengthChecked w).fineFits := by
  unfold State.lengthChecked
  split
  · exact hfine
  · exact fineFits_closeInterval s w true hfine

theorem tariffView_tariffActive (w : Nat) : (s.tariffActive w).tariffView =
    ((s.lengthChecked w).variant, (s.lengthChecked w).spokes, s.billing.pendingImage, []) := by
  simp only [State.tariffActive, tariffView_periodFlag, tariffView_notice, tariffView_puts, tariffView_showTariff]
  rfl

theorem pendingTariff_tariffActive (w : Nat) : (s.tariffActive w).get k10PendingTariff = 0 := by
  simp [State.tariffActive, State.periodFlag, get_put, key]

theorem billing_selectRate (w : Option Nat) (hfine : s.fineFits) : (s.selectRate w).billing = s.billing := by
  by_cases hrate : rateAt s.tariff w = s.getN k10CurrentRate
  · rw [selectRate_kept s w hrate]
  · rw [selectRate_switched s w hrate]
    exact (segmentFrame_closeSegments s hfine).billing

/-- The activation has all its effects where no spoke has more than its 24 accumulators. -/
theorem tariffActivation_activates (w : Nat) (hfine : s.fineFits) (hstep : s.modes.step ≤ 4)
    (hwall : s.boundaryWall = some w) (himage : s.billing.pendingImage ≠ [])
    (hdue : tActivate s.billing.pendingImage ≤ w) :
    (tariffActivation s).billing.active = s.billing.pendingImage ∧ (tariffActivation s).billing.pendingImage = [] ∧
      (tariffActivation s).getN k10PendingTariff = 0 ∧
      (tariffActivation s).getN k10CurrentRate = rateAt s.billing.pendingImage (some w) := by
  have hview := tariffView_tariffActive s w
  have hfits : (s.tariffActive w).fineFits :=
    fineFits_congr (congrArg Prod.fst hview) (congrArg (·.2.1) hview) (fineFits_lengthChecked s w hfine)
  have hactive : (s.tariffActive w).billing.active = s.billing.pendingImage := congrArg (·.2.2.1) hview
  have hpending : (s.tariffActive w).billing.pendingImage = [] := congrArg (·.2.2.2) hview
  have hbilling := billing_selectRate (s.tariffActive w) (some w) hfits
  have hrate : (((s.tariffActive w).selectRate (some w)).get k10CurrentRate).toNat = rateAt s.billing.pendingImage (some w) := by
    rw [← hactive]
    exact rate_selectRate (s.tariffActive w) (some w)
  have hcleared : ((s.tariffActive w).selectRate (some w)).get k10PendingTariff = 0 := by
    have hsegments := (segmentFrame_closeSegments _ hfits).get k10PendingTariff (.inr (by decide))
    by_cases hrate : rateAt (s.tariffActive w).tariff (some w) = (s.tariffActive w).getN k10CurrentRate
    · rw [selectRate_kept _ _ hrate, pendingTariff_tariffActive]
    · rw [get_selectRate_switched _ _ hrate _ (by decide), hsegments, pendingTariff_tariffActive]
  rw [tariffActivation_due s w hstep hwall himage hdue, billing_stepDone, hbilling, State.getN, State.getN, get_stepDone,
    get_stepDone, hcleared]
  exact ⟨hactive, hpending, rfl, hrate⟩

/-! ### A meter with more -/

/-- An accumulator moves its whole units into its register (R138). -/
def State.moveAccumulator (s : State) (sp : Nat) (p : Nat × Nat) : State :=
  let t := s.put (k0BFineFraction (24 * sp + p.2)) (p.1 % fineOne : Nat)
  if p.1 < fineOne then t else t.addRegister (24 * sp + p.2) (p.1 / fineOne)

@[simp] theorem get_modMeter (sp : Nat) (f : Meter → Meter) (k : Nat) : (s.modMeter sp f).get k = s.get k := rfl

theorem moveFine_eq (sp : Nat) : s.moveFine sp =
    (s.modMeter sp fun m => { m with fine := m.fine.map (· % fineOne) }).each (s.spoke sp).meter.fine.zipIdx
      fun t p => t.moveAccumulator sp p := rfl

/-- Routed energy enters the accumulators alone. -/
theorem get_routeActive (sp : Nat) (e : Rat) (k : Nat) : (s.routeActive sp e).get k = s.get k := by
  refine (each_view (State.get · k) _ _ _ fun t i _ => ?_).trans (each_view (State.get · k) _ _ _ fun t i _ => ?_)
  all_goals
    split
    · rfl
    · split <;> rfl

section WrapCount
variable (k : Nat) (hk : keyMember k = 1)

theorem le_ratchet (j n : Nat) : s.get k ≤ (s.ratchet j n).get k := by
  unfold State.ratchet
  split
  · rw [get_put]
    split
    · next hj =>
      subst hj
      omega
    · exact le_rfl
  · exact le_rfl

theorem le_each {α : Type} (l : List α) (f : State → α → State) (h : ∀ t a, t.get k ≤ (f t a).get k) :
    s.get k ≤ (s.each l f).get k :=
  each_keeps (fun t => s.get k ≤ t.get k) s l f (fun t a _ ht => ht.trans (h t a)) le_rfl

include hk

/-- Of what the closing of the segments writes, only a wrap count is a member 1, and none is lowered. -/
theorem get_put_register (i : Nat) {m : Nat} (v : Int) (hm : m < 256) (h1 : m ≠ 1) : (s.put (key 0x0B i m) v).get k = s.get k :=
  get_put_other s _ k v fun h => by
    simp only [h, keyMember, key] at hk
    omega

theorem le_addRegister (inst n : Nat) : s.get k ≤ (s.addRegister inst n).get k := by
  unfold State.addRegister
  dsimp only
  split
  · rw [get_put_register s k hk inst _ (by decide) (by decide)]
  · rw [get_notice]
    exact (get_put_register s k hk inst _ (by decide) (by decide)).symm.le.trans (le_ratchet _ k _ 8)

theorem le_moveAccumulator (sp : Nat) (p : Nat × Nat) : s.get k ≤ (s.moveAccumulator sp p).get k := by
  have hfraction := get_put_register s k hk (24 * sp + p.2) (m := 5) (p.1 % fineOne : Nat) (by decide) (by decide)
  unfold State.moveAccumulator
  dsimp only
  split
  · exact hfraction.symm.le
  · exact hfraction.symm.le.trans (le_addRegister _ k hk _ _)

theorem le_moveFine (sp : Nat) : s.get k ≤ (s.moveFine sp).get k := by
  rw [moveFine_eq, ← get_modMeter s sp fun m => { m with fine := m.fine.map (· % fineOne) }]
  exact le_each _ k _ _ fun t p => le_moveAccumulator t k hk sp p

theorem le_closeSegment (sp : Nat) : s.get k ≤ (s.closeSegment sp).get k := by
  unfold State.closeSegment
  dsimp only
  split
  · refine le_trans (le_of_eq ?_) (le_moveFine _ k hk sp)
    rw [get_modMeter, get_routeActive]
  · exact le_rfl

/-- An accumulator of 2^48 units or more wraps the register that it moves into, and the wrap is counted. -/
theorem one_le_moveAccumulator (sp : Nat) (p : Nat × Nat) (hp : k = k0BWrapCount (24 * sp + p.2)) (h0 : 0 ≤ s.get k)
    (hwrap : ccMod * fineOne ≤ p.1) : 1 ≤ (s.moveAccumulator sp p).get k := by
  have hunits : ccMod ≤ p.1 / fineOne := (Nat.le_div_iff_mul_le (by decide)).2 hwrap
  have hwhole : ¬ p.1 < fineOne := by
    simp only [ccMod, fineOne] at hwrap ⊢
    omega
  have hfraction := get_put_register s k hk (24 * sp + p.2) (m := 5) (p.1 % fineOne : Nat) (by decide) (by decide)
  simp only [State.moveAccumulator, if_neg hwhole]
  generalize s.put _ _ = t at *
  have hover : ¬ t.getN (k0BValue (24 * sp + p.2)) + p.1 / fineOne < ccMod := by omega
  have hvalue (v : Int) := get_put_register t k hk (24 * sp + p.2) (m := 0) v (by decide) (by decide)
  simp only [State.addRegister, if_neg hover, get_notice, State.ratchet, ← hp, hvalue, hfraction]
  split
  · rw [get_put_same]
    omega
  · rw [hvalue, hfraction]
    omega

/-- So does the closing of the segments of a spoke one of whose accumulators has so many. -/
theorem one_le_moveFine (sp n x : Nat) (hx : (s.spoke sp).meter.fine[n]? = some x) (hn : k = k0BWrapCount (24 * sp + n))
    (h0 : 0 ≤ s.get k) (hwrap : ccMod * fineOne ≤ x) : 1 ≤ (s.moveFine sp).get k := by
  have hmem : (x, n) ∈ (s.spoke sp).meter.fine.zipIdx := List.mem_zipIdx_iff_getElem?.2 hx
  obtain ⟨before, behind, hsplit⟩ := List.append_of_mem hmem
  rw [moveFine_eq, hsplit, each_append, each_cons]
  refine le_trans ?_ (le_each _ k behind _ fun t p => le_moveAccumulator t k hk sp p)
  refine one_le_moveAccumulator _ k hk sp (x, n) hn (h0.trans ?_) hwrap
  exact le_each (s.modMeter sp _) k before _ fun t p => le_moveAccumulator t k hk sp p

end WrapCount

/-- No energy leaves the accumulators as they are. -/
theorem addFine_zero (sp i : Nat) : s.addFine sp i 0 = s := by
  have hmeter : (fun p : Spoke => { p with meter := { p.meter with fine := p.meter.fine.modify i fun f => f + 0 } }) = id := by
    funext p
    simp only [Nat.add_zero, id]
    rw [show (fun f : Nat => f) = id from rfl, List.modify_id]
  have hround : (roundQ (0 * 16777216)).toNat = 0 := by simp [roundQ]
  unfold State.addFine State.modMeter State.modSpoke
  rw [hround, hmeter, List.modify_id]

theorem routeActive_zero (sp : Nat) : s.routeActive sp 0 = s := by
  simp [State.routeActive, addFine_zero]

/-- A segment without energy closes as soon as routing is free: its accumulators move into the registers. -/
theorem closeSegment_zero (sp : Nat) (hfree : s.routingHeld = false) (hcycle : (s.spoke sp).meter.openCycle = []) :
    ∃ f : Meter → Meter, (∀ m, (f m).fine = m.fine) ∧ s.closeSegment sp = (s.modMeter sp f).moveFine sp := by
  unfold State.closeSegment
  extract_lets m closed loaded e
  have he : e = 0 := by simp [e, m, hcycle]
  rw [if_pos (by simp [hfree, he]), he, routeActive_zero]
  refine ⟨_, ?_, rfl⟩
  exact fun _ => rfl

theorem fine_modMeter (sp : Nat) (f : Meter → Meter) (hf : ∀ m, (f m).fine = m.fine) :
    ((s.modMeter sp f).spoke sp).meter.fine = (s.spoke sp).meter.fine := by
  simp only [State.modMeter, State.modSpoke, State.spoke, List.getD_eq_getElem?_getD, List.getElem?_modify_eq]
  cases s.spokes[sp]? with
  | none => rfl
  | some x => exact hf x.meter

/-- One accumulator of 2^48 units or more at spoke 0 counts its wrap at the closing of the segments, wherever that count
stands. -/
theorem one_le_closeSegments (k n x : Nat) (hk : keyMember k = 1) (hn : k = k0BWrapCount (24 * 0 + n)) (h0 : 0 ≤ s.get k)
    (hfree : s.routingHeld = false) (hcycle : (s.spoke 0).meter.openCycle = [])
    (hx : (s.spoke 0).meter.fine[n]? = some x) (hwrap : ccMod * fineOne ≤ x) : 1 ≤ s.closeSegments.get k := by
  obtain ⟨rest, hrest⟩ : ∃ rest, s.spokeList = 0 :: rest := by
    unfold State.spokeList
    cases s.variant <;> exact ⟨_, rfl⟩
  obtain ⟨f, hf, hclose⟩ := closeSegment_zero s 0 hfree hcycle
  rw [State.closeSegments, hrest, each_cons, hclose]
  refine le_trans ?_ (le_each _ k rest _ fun t sp => le_closeSegment t k hk sp)
  exact one_le_moveFine _ k hk 0 n x ((congrArg (·[n]?) (fine_modMeter s 0 f hf)).trans hx) hn h0 hwrap

/-- A booted device with a tariff pending for wall time 0 that selects another rate, whose spoke 0 has 5,121 accumulators of 2^48
units each. -/
def overlongTariff : State :=
  (({ State.reset with modes := { booted := true }, billing := { pendingImage := [0] } } : State).modMeter 0 fun m =>
    { m with fine := List.replicate 5121 (ccMod * fineOne), openCycle := [] }).puts
    [(k05TimeValid, 1), (k10CurrentRate, 3), (k10DemandLength, 5)]

theorem meter_overlongTariff : (overlongTariff.spokes.getD 0 {}).meter.fine = List.replicate 5121 (ccMod * fineOne) := rfl

/-- The wrap count of accumulator 5,120 enters 10h/0/1 after the activation has cleared the pending tariff there. -/
theorem pendingTariff_overlongTariff : 1 ≤ (tariffActivation overlongTariff).get k10PendingTariff := by
  have hrate : rateAt (overlongTariff.tariffActive 0).tariff (some 0) ≠ (overlongTariff.tariffActive 0).getN k10CurrentRate := by
    decide +kernel
  have hfine : ((overlongTariff.tariffActive 0).spoke 0).meter.fine[5120]? = some (ccMod * fineOne) := by
    have hlength : overlongTariff.lengthChecked 0 = overlongTariff := if_pos (by decide +kernel)
    have hspokes : (overlongTariff.tariffActive 0).spokes = overlongTariff.spokes :=
      hlength ▸ congrArg (·.2.1) (tariffView_tariffActive overlongTariff 0)
    rw [State.spoke, hspokes, meter_overlongTariff]
    exact List.getElem?_replicate_of_lt (by decide)
  rw [tariffActivation_due overlongTariff 0 (by decide +kernel) (by decide +kernel) (by decide +kernel) (by decide +kernel),
    get_stepDone, get_selectRate_switched _ _ hrate _ (by decide)]
  exact one_le_closeSegments (overlongTariff.tariffActive 0) k10PendingTariff 5120 _ (by decide) (by decide)
    (pendingTariff_tariffActive overlongTariff 0).symm.le (by decide +kernel) (by decide +kernel) hfine le_rfl

/-- Refutes O34 by its clause on an activation, which asks that no tariff is pending after it in every state, also in one with more
fine accumulators than R138 gives: in `overlongTariff` 10h/0/1 does not read 0. Where the accumulators are at most 24 to a spoke
the clause holds (`tariffActivation_activates`). -/
theorem not_billingRows : ¬ Obligations.BillingRows := by
  unfold Obligations.BillingRows
  rintro ⟨-, -, -, -, -, -, hactivation, -⟩
  obtain ⟨t, ht, -, -, hpending, -⟩ := hactivation overlongTariff 0 (by decide +kernel) (by decide +kernel)
    (by decide +kernel) (by decide +kernel)
  have hone := pendingTariff_overlongTariff
  rw [Host.Outcome.next.inj ht] at hone
  simp only [State.getN] at hpending
  omega

end Sys2Proof.Machine
end

section
/-! The rows of the pilot (O21): the duty of a current limit, then the start of a pilot period, told by what a spoke die that takes a
mode and a duty changes (`State.drivePilot`). -/

namespace Sys2Proof.Machine

/-! ### The duty of a current limit (R205) -/

section Duty
variable {i : Int} {e : Nat}

theorem decodedCurrent_minimum (hlow : 160 ≤ e) (hhigh : e < 200) : decodedCurrent e = 6000 :=
  if_pos (by simp; omega)

theorem decodedCurrent_to_1700 (hlow : 200 ≤ e) (hhigh : e ≤ 1700) : decodedCurrent e = e * 30 := by
  rw [decodedCurrent, if_neg (by simp; omega), if_pos (by simp; omega)]

theorem decodedCurrent_above_1700 (hlow : 1700 < e) (hhigh : e ≤ 1920) : decodedCurrent e = e * 125 - 160000 := by
  rw [decodedCurrent, if_neg (by simp; omega), if_neg (by simp; omega), if_pos (by simp; omega)]

theorem minimum_le_decodedCurrent (hlow : 160 ≤ e) (hhigh : e ≤ 1920) : 6000 ≤ decodedCurrent e := by
  rcases Nat.lt_or_ge e 200 with h | h
  · rw [decodedCurrent_minimum hlow h]
  · rcases Nat.lt_or_ge 1700 e with h' | h'
    · rw [decodedCurrent_above_1700 h' hhigh]
      omega
    · rw [decodedCurrent_to_1700 h h']
      omega

/-- A limit of 6 A permits every duty of the minimum current, as it would at 30 mA a step. -/
theorem decodedCurrent_le_iff_to_1700 (hi : 6000 ≤ i) (hlow : 160 ≤ e) (hhigh : e ≤ 1700) :
    (decodedCurrent e : Int) ≤ i ↔ (e : Int) * 30 ≤ i := by
  rcases Nat.lt_or_ge e 200 with h | h
  · rw [decodedCurrent_minimum hlow h]
    omega
  · rw [decodedCurrent_to_1700 h hhigh]
    omega

theorem decodedCurrent_le_iff_above_1700 (hlow : 1700 < e) (hhigh : e ≤ 1920) :
    (decodedCurrent e : Int) ≤ i ↔ (e : Int) * 125 ≤ i + 160000 := by
  rw [decodedCurrent_above_1700 hlow hhigh]
  omega

theorem encodeDuty_below (h : i < 6000) : encodeDuty i = none := if_pos h

/-- What makes `d` the bound of the permitted duties, in either range of the decoded current. -/
theorem decodedCurrent_le_iff_le {d : Nat} (hi : 6000 ≤ i)
    (hto : ∀ e : Nat, 160 ≤ e → e ≤ 1700 → ((e : Int) * 30 ≤ i ↔ e ≤ d))
    (habove : ∀ e : Nat, 1700 < e → e ≤ 1920 → ((e : Int) * 125 ≤ i + 160000 ↔ e ≤ d)) (hlow : 160 ≤ e) (hhigh : e ≤ 1920) :
    (decodedCurrent e : Int) ≤ i ↔ e ≤ d := by
  rcases Nat.lt_or_ge 1700 e with h | h
  · exact (decodedCurrent_le_iff_above_1700 h hhigh).trans (habove e h hhigh)
  · exact (decodedCurrent_le_iff_to_1700 hi hlow h).trans (hto e hlow h)

/-- Of the duties that encode a current, a limit permits those up to its own encoding. -/
theorem encodeDuty_permits (hi : 6000 ≤ i) : ∃ d, encodeDuty i = some d ∧ 200 ≤ d ∧ d ≤ 1920 ∧
    ∀ e : Nat, 160 ≤ e → e ≤ 1920 → ((decodedCurrent e : Int) ≤ i ↔ e ≤ d) := by
  rw [encodeDuty, if_neg (by omega)]
  split_ifs <;> exact ⟨_, rfl, by omega, by omega, fun _ => decodedCurrent_le_iff_le hi (by omega) (by omega)⟩

/-- The encoding is the largest permitted duty and itself permitted. -/
theorem encodeDuty_largest (hi : 6000 ≤ i) : ∃ d, encodeDuty i = some d ∧ 200 ≤ d ∧ d ≤ 1920 ∧ 6000 ≤ decodedCurrent d ∧
    (decodedCurrent d : Int) ≤ i ∧ ∀ e, 160 ≤ e → e ≤ 1920 → (decodedCurrent e : Int) ≤ i → e ≤ d := by
  obtain ⟨d, hd, hlow, hhigh, hpermits⟩ := encodeDuty_permits hi
  have hlow' : 160 ≤ d := by omega
  exact ⟨d, hd, hlow, hhigh, minimum_le_decodedCurrent hlow' hhigh, (hpermits d hlow' hhigh).2 le_rfl,
    fun e he he' => (hpermits e he he').1⟩

end Duty

/-! ### Writes of several objects -/

theorem objects_puts_of_get {s t : State} (l : List (Nat × Int)) (hget : ∀ k, t.get k = s.get k)
    (hkeys : (l.map Prod.fst).Nodup) : objects s (t.puts l) l := by
  obtain ⟨hlisted, hothers⟩ := objects_puts t l hkeys
  exact ⟨hlisted, fun k hk => (hothers k hk).trans (hget k)⟩

theorem keepsObjects_of_objects {s t : State} {l : List (Nat × Int)} (h : objects s t l) : keepsObjects s t (l.map Prod.fst) :=
  fun k hk => h.2 k fun _ hp e => hk (e ▸ List.mem_map_of_mem hp)

/-! ### The start of a pilot period (R204) -/

section Period
variable (s : State) (sp : Nat)

/-- What a spoke keeps of its pilot outside the dictionary is no object. -/
theorem objects_modPilot (t : State) (f : Pilot → Pilot) (l : List (Nat × Int)) :
    objects s (t.modPilot sp f) l ↔ objects s t l := Iff.rfl

theorem pilot_modPilot (f : Pilot → Pilot) (h : sp < s.spokes.length) :
    ((s.modPilot sp f).spoke sp).pilot = f (s.spoke sp).pilot :=
  congrArg Spoke.pilot (spoke_modSpoke_same s sp _ h)

theorem spokes_puts (l : List (Nat × Int)) : (s.puts l).spokes = s.spokes :=
  have h := congrArg State.spokes (puts_rest s l)
  h

/-- The buffers that a change of the mode clears are no objects: the two registers of the pilot change alone. -/
theorem objects_drivePilot (mode duty : Nat) : objects s (s.drivePilot sp mode duty)
    [(k18PilotModeInForce sp, effMode mode duty),
      (k18DecodedCurrent sp, if pwmMode mode then (decodedCurrent duty : Nat) else 0)] := by
  have hkeys : [k18PilotModeInForce sp, k18DecodedCurrent sp].Nodup := by
    simpa using key_ne_of_member 0x18 0x18 sp sp (m := 6) (m' := 7) (by decide) (by decide) (by decide)
  unfold State.drivePilot
  extract_lets t
  have ht : ∀ k, t.get k = s.get k := fun k => by
    unfold t
    split <;> rfl
  exact (objects_modPilot s sp _ _ _).2 (objects_puts_of_get _ ht hkeys)

theorem drivenDuty_drivePilot (mode duty : Nat) (h : sp < s.spokes.length) :
    ((s.drivePilot sp mode duty).spoke sp).pilot.drivenDuty = duty := by
  unfold State.drivePilot
  extract_lets t
  have ht : t.spokes.length = s.spokes.length := by
    unfold t
    split
    · rfl
    · exact List.length_modify ..
  rw [pilot_modPilot _ _ _ (by rw [spokes_puts, ht]; exact h)]

theorem pilotPeriodStart_drives (hsp : sp < s.spokeCount) (hcc : s.cc % 8 = sp % 8) : exec (.pilotPeriodStart sp) s =
    .next (s.drivePilot sp (s.spoke sp).pilot.heldMode (s.spoke sp).pilot.heldDuty) :=
  congrArg Host.Outcome.next (if_pos (by simp [hsp, hcc]))

end Period

/-- Settles O21, by the duties that a limit permits and by what the drive of a pilot changes. -/
theorem pilotRows : Obligations.PilotRows := by
  unfold Obligations.PilotRows
  refine ⟨fun _ => encodeDuty_below, fun _ => encodeDuty_largest, fun s sp hsp hcc => ?_⟩
  have hobjects := objects_drivePilot s sp (s.spoke sp).pilot.heldMode (s.spoke sp).pilot.heldDuty
  have hmode := hobjects.1 _ List.mem_cons_self
  exact ⟨_, pilotPeriodStart_drives s sp hsp hcc, hmode, drivenDuty_drivePilot s sp _ _, keepsObjects_of_objects hobjects⟩

end Sys2Proof.Machine
end

section
/-! Pedal instruction words (O24). A word is its opcode above three register fields above a low part (R228). First what a field of
a number with parts above and below it is, then the fields of a pedal word, then the operands that share the low part. -/

namespace Sys2Proof

/-! ### A field of a number -/

theorem wordField_all {x n : Nat} (h : x < 2 ^ n) : wordField x 0 n = x := by
  rw [wordField, Nat.pow_zero, Nat.div_one, Nat.mod_eq_of_lt h]

theorem wordField_above {x lo n : Nat} (h : x < 2 ^ lo) : wordField x lo n = 0 := by
  rw [wordField, Nat.div_eq_of_lt h, Nat.zero_mod]

/-- What stands above a field does not reach it. -/
theorem wordField_below {m k x lo n : Nat} (h : lo + n ≤ k) : wordField (m * 2 ^ k + x) lo n = wordField x lo n := by
  obtain ⟨j, rfl⟩ := Nat.exists_eq_add_of_le h
  have hsplit : m * 2 ^ (lo + n + j) + x = 2 ^ lo * (2 ^ n * (m * 2 ^ j)) + x := by ring
  rw [wordField, hsplit, Nat.mul_add_div (Nat.two_pow_pos lo), Nat.mul_add_mod, wordField]

/-- What stands below a field does not reach it either. -/
theorem wordField_upper {m x lo n : Nat} (hm : m < 2 ^ n) (hx : x < 2 ^ lo) : wordField (m * 2 ^ lo + x) lo n = m := by
  rw [wordField, Nat.mul_comm, Nat.mul_add_div (Nat.two_pow_pos lo), Nat.div_eq_of_lt hx, Nat.add_zero,
    Nat.mod_eq_of_lt hm]

/-! ### The fields of a pedal word (R228) -/

section Fields
variable {op d a b low : Nat}

theorem toNat_pedalFields (hop : op < 64) (hbelow : d * 2 ^ 23 + a * 2 ^ 20 + b * 2 ^ 17 + low < 2 ^ 26) :
    (BitVec.ofNat 32 (pedalFields op d a b low)).toNat = pedalFields op d a b low := by
  simp only [pedalFields, BitVec.toNat_ofNat]
  omega

theorem opcode_pedalFields (hop : op < 64) (hbelow : d * 2 ^ 23 + a * 2 ^ 20 + b * 2 ^ 17 + low < 2 ^ 26) :
    wordField (pedalFields op d a b low) 26 6 = op := by
  simp only [pedalFields, wordField]
  omega

theorem fieldD_pedalFields (hd : d < 8) (hbelow : a * 2 ^ 20 + b * 2 ^ 17 + low < 2 ^ 23) :
    wordField (pedalFields op d a b low) 23 3 = d := by
  simp only [pedalFields, wordField]
  omega

theorem fieldA_pedalFields (ha : a < 8) (hbelow : b * 2 ^ 17 + low < 2 ^ 20) :
    wordField (pedalFields op d a b low) 20 3 = a := by
  simp only [pedalFields, wordField]
  omega

theorem fieldB_pedalFields (hb : b < 8) (hlow : low < 2 ^ 17) : wordField (pedalFields op d a b low) 17 3 = b := by
  simp only [pedalFields, wordField]
  omega

/-- A field below every register field in use is one of the low part. -/
theorem low_pedalFields {lo n : Nat} (hd : d = 0 ∨ lo + n ≤ 23) (ha : a = 0 ∨ lo + n ≤ 20) (hb : b = 0 ∨ lo + n ≤ 17)
    (hop : lo + n ≤ 26) : wordField (pedalFields op d a b low) lo n = wordField low lo n := by
  have hpart : ∀ m k x, m = 0 ∨ lo + n ≤ k → wordField (m * 2 ^ k + x) lo n = wordField x lo n := fun m k x h => by
    rcases h with rfl | h
    · rw [Nat.zero_mul, Nat.zero_add]
    · exact wordField_below h
  rw [pedalFields, Nat.add_assoc, Nat.add_assoc, Nat.add_assoc, wordField_below hop, hpart d 23 _ hd, hpart a 20 _ ha,
    hpart b 17 _ hb]

end Fields

/-! ### The operands in the low part (R229) -/

theorem wordUnsigned_lt (n : Nat) (v : Int) : wordUnsigned n v < 2 ^ n := by
  have hpos : (0 : Int) < 2 ^ n := by positivity
  have hlt := Int.emod_lt_of_pos v hpos
  have hnonneg := Int.emod_nonneg v hpos.ne'
  unfold wordUnsigned
  zify
  omega

/-- An immediate in the range of its signed field is read back. -/
theorem wordSigned_wordUnsigned {n : Nat} {v : Int} (hlow : -2 ^ n ≤ v) (hhigh : v < 2 ^ n) :
    wordSigned (n + 1) (wordUnsigned (n + 1) v) = v := by
  have hdouble : (2 : Int) ^ (n + 1) = 2 * 2 ^ n := by ring
  unfold wordSigned wordUnsigned
  rw [hdouble, Nat.add_sub_cancel]
  rcases lt_or_ge v 0 with hneg | hpos
  · have hmod : v % (2 * 2 ^ n) = v + 2 * 2 ^ n := by
      rw [← Int.add_emod_right]
      exact Int.emod_eq_of_lt (by omega) (by omega)
    rw [hmod, if_neg (by zify; omega)]
    omega
  · have hmod : v % (2 * 2 ^ n) = v := Int.emod_eq_of_lt hpos (by omega)
    rw [hmod, if_pos (by zify; omega)]
    omega

/-- TSET has its timer above the register field A. -/
theorem fields_tset {n a : Nat} (hn : n < 4) (ha : a < 8) :
    wordField (pedalFields 0x19 0 a 0 (n * 2 ^ 24)) 24 2 = n ∧ wordField (pedalFields 0x19 0 a 0 (n * 2 ^ 24)) 20 3 = a ∧
      wordField (pedalFields 0x19 0 a 0 (n * 2 ^ 24)) 23 1 = 0 ∧ wordField (pedalFields 0x19 0 a 0 (n * 2 ^ 24)) 0 20 = 0 := by
  simp only [pedalFields, wordField]
  omega

theorem startBit_eq (st : Bool) : startBit st = st.toNat * 2 ^ 16 := by cases st <;> rfl

theorem lt_of_sinkOk {sink v : Nat} (h : sinkOk sink v = true) : sink < 8 ∧ v < 4096 := by
  unfold sinkOk sinkMax at h
  split at h
  · next m hm =>
    simp only [Bool.and_eq_true, decide_eq_true_eq] at h
    split at hm <;> simp at hm <;> omega
  · exact absurd h (by decide)

/-! ### Decoding what was encoded -/

/-- A word whose reserved bits are 0 is accepted as the instruction that its fields spell. -/
theorem accept_wellFormed {i : Instr} (h : i.wellFormed = true) : accept true i = some i := by
  rw [accept, h]
  rfl

/-- Settles O24, by reading back each field of each format of the words. -/
theorem pedalDecodeEncode : Obligations.PedalDecodeEncode := by
  unfold Obligations.PedalDecodeEncode
  intro i w hi hw
  have hbounds := hi
  cases i with
  | pedNop s | pedYield s | pedHalt s =>
    cases hw
    exact ⟨s, accept_wellFormed hi⟩
  | pedMov s d a | pedEnc s d a | pedAdd s d a b | pedSub s d a b | pedAnd s d a b | pedOr s d a b | pedMin s d a b
  | pedMax s d a b | pedLdu s d imm | pedBr s cond a b target | pedBf s mask target | pedIn s d src | pedOut s a sink
  | pedTseti s n imm | pedNote s a code =>
    cases hw
    refine ⟨s, ?_⟩
    simp only [Instr.wellFormed, Bool.and_eq_true, decide_eq_true_eq, brOk] at hbounds
    simp (disch := omega) only [decodePedal, toNat_pedalFields, opcode_pedalFields, fieldD_pedalFields,
      fieldA_pedalFields, fieldB_pedalFields, low_pedalFields, wordField_all, wordField_above, wordField_upper,
      wordField_below]
    exact accept_wellFormed hi
  | pedOuti s imm sink =>
    cases hw
    refine ⟨s, ?_⟩
    simp only [Instr.wellFormed, Bool.and_eq_true] at hbounds
    have hlow := lt_of_sinkOk hbounds.2
    simp (disch := omega) only [decodePedal, toNat_pedalFields, opcode_pedalFields, low_pedalFields, wordField_all,
      wordField_above, wordField_upper, wordField_below]
    exact accept_wellFormed hi
  | pedLdi s d imm | pedAddi s d a imm =>
    cases hw
    refine ⟨s, ?_⟩
    simp only [Instr.wellFormed, Bool.and_eq_true, decide_eq_true_eq] at hbounds
    have h23 := wordUnsigned_lt 23 imm
    have h17 := wordUnsigned_lt 17 imm
    simp (disch := omega) only [decodePedal, toNat_pedalFields, opcode_pedalFields, fieldD_pedalFields,
      fieldA_pedalFields, low_pedalFields, wordField_all, wordField_above, wordSigned_wordUnsigned]
    exact accept_wellFormed hi
  | pedWait s st mask | pedTake s d st mask =>
    cases hw
    refine ⟨s, ?_⟩
    simp only [Instr.wellFormed, Bool.and_eq_true, decide_eq_true_eq] at hbounds
    have hstart := st.toNat_lt
    simp (disch := omega) only [decodePedal, startBit_eq, toNat_pedalFields, opcode_pedalFields, fieldD_pedalFields,
      low_pedalFields, wordField_all, wordField_above, wordField_upper, wordField_below, Bool.toNat_eq_one,
      Bool.decide_eq_true]
    exact accept_wellFormed hi
  | pedTset s n a =>
    cases hw
    refine ⟨s, ?_⟩
    simp only [Instr.wellFormed, Bool.and_eq_true, decide_eq_true_eq] at hbounds
    obtain ⟨⟨-, hn⟩, ha⟩ := hbounds
    obtain ⟨htimer, hregister, hreserved, hlow⟩ := fields_tset hn ha
    simp (disch := omega) only [decodePedal, toNat_pedalFields, opcode_pedalFields, htimer, hregister, hreserved, hlow]
    exact accept_wellFormed hi
  | _ => cases hw

end Sys2Proof
end

section
/-! The instructions of the pedal sequencers (O22, O23). What one instruction changes of its sequencer is said once
(`pedalRan_modPedal`); the operations of R229, the branches and the effects beyond the sequencer follow from it. -/

namespace Sys2Proof.Machine

section Ran
variable {s : State} {sp : Nat}

/-! ### One instruction on its sequencer (R224, R229) -/

theorem pedal_modPedal (f : Pedal → Pedal) (h : sp < s.spokes.length) : (s.modPedal sp f).pedal sp = f (s.pedal sp) :=
  congrArg Spoke.pedal (spoke_modSpoke_same s sp _ h)

theorem pedal_put (k : Nat) (v : Int) : (s.put k v).pedal sp = s.pedal sp := rfl

theorem keepsObjects_put_modPedal (f : Pedal → Pedal) (k : Nat) (v : Int) : keepsObjects s ((s.modPedal sp f).put k v) [k] :=
  fun j hj => get_put_other (s.modPedal sp f) k j v (by simpa using hj)

/-- A change of the sequencer that counts one more instruction and leaves it running. -/
theorem pedalRan_modPedal (f : Pedal → Pedal) (p : Pedal) (hf : f (s.pedal sp) = { p with count := p.count + 1 })
    (h : sp < s.spokes.length) : pedalRan s ((s.modPedal sp f).put (k19RunState sp) 1) sp p := by
  refine ⟨?_, ?_, keepsObjects_put_modPedal f _ _, fun j hj => spoke_modSpoke_other s sp j _ hj, rfl⟩
  · rw [← hf]
    exact spoke_modSpoke_same s sp _ h
  · simp [State.getN]

theorem pedalEffect_executes (f : State → State) (h : s.executes sp = true) : s.pedalEffect sp f =
    f ((s.modPedal sp fun p => { p with pc := p.pc + 1, count := p.count + 1 }).put (k19RunState sp) 1) := if_pos h

/-- The state in which an instruction with an effect beyond the sequencer has it. -/
theorem pedalAdvanced_ran (h : sp < s.spokes.length) : pedalRan s
    ((s.modPedal sp fun p => { p with pc := p.pc + 1, count := p.count + 1 }).put (k19RunState sp) 1) sp (nextPc s sp) :=
  pedalRan_modPedal _ _ rfl h

theorem pedalBranch_ran (taken : Bool) (target : Nat) (h : pedalReady s sp) : pedalRan s (s.pedalBranch sp taken target) sp
    { s.pedal sp with pc := if taken then target else (s.pedal sp).pc + 1 } := by
  obtain ⟨hexecutes, hspoke⟩ := h
  rw [State.pedalBranch, if_pos hexecutes]
  exact pedalRan_modPedal _ _ rfl hspoke

theorem pedalBranch_taken (target : Nat) (h : pedalReady s sp) :
    pedalRan s (s.pedalBranch sp true target) sp { s.pedal sp with pc := target } := pedalBranch_ran true target h

theorem pedalBranch_notTaken (target : Nat) (h : pedalReady s sp) :
    pedalRan s (s.pedalBranch sp false target) sp (nextPc s sp) := pedalBranch_ran false target h

/-- An operation whose result goes to a work word. -/
theorem pedalOp_setWork (d : Nat) (v : Pedal → Word48) (h : pedalReady s sp) :
    pedalRan s (s.pedalOp sp fun p => p.setWork d (v p)) sp ((nextPc s sp).setWork d (v (s.pedal sp))) :=
  pedalOp_ran s sp _ h fun _ => ⟨rfl, rfl⟩

theorem pedalOp_id (h : pedalReady s sp) : pedalRan s (s.pedalOp sp id) sp (nextPc s sp) :=
  pedalOp_ran s sp id h fun _ => ⟨rfl, rfl⟩

/-! ### Values (R229) -/

theorem toInt_lesser (x y : Word48) : (if x.slt y then x else y).toInt = min x.toInt y.toInt := by
  rw [BitVec.slt_eq_decide, apply_ite BitVec.toInt]
  simp only [decide_eq_true_eq]
  omega

theorem toInt_greater (x y : Word48) : (if x.slt y then y else x).toInt = max x.toInt y.toInt := by
  rw [BitVec.slt_eq_decide, apply_ite BitVec.toInt]
  simp only [decide_eq_true_eq]
  omega

theorem mul_pow20_eq_shiftLeft (x : Word48) : x * 1048576 = x <<< 20 := by
  rw [BitVec.shiftLeft_eq_mul_twoPow]
  rfl

/-! ### The flags of BF and WAIT (R227, R229) -/

/-- Without its S bit a mask reaches the sixteen flags that it names. -/
theorem flagsIn_masked (flags mask : Nat) : flagsIn flags mask false = Nat.land flags (mask % 65536) := rfl

theorem pedBf_taken (mask target : Nat) (h : pedalReady s sp) (hset : Nat.land (s.pedal sp).flags (mask % 65536) ≠ 0) :
    pedalRan s (pedBf sp mask target s) sp { s.pedal sp with pc := target } := by
  rw [pedBf, flagsIn_masked, decide_eq_true hset]
  exact pedalBranch_taken target h

theorem pedBf_notTaken (mask target : Nat) (h : pedalReady s sp) (hclear : Nat.land (s.pedal sp).flags (mask % 65536) = 0) :
    pedalRan s (pedBf sp mask target s) sp (nextPc s sp) := by
  rw [pedBf, flagsIn_masked, decide_eq_false (not_not.2 hclear)]
  exact pedalBranch_notTaken target h

theorem pedWait_met (st : Bool) (mask : Nat) (h : pedalReady s sp) (hmet : flagsIn (s.pedal sp).flags mask st ≠ 0) :
    pedalRan s (pedWait sp st mask s) sp (nextPc s sp) := by
  have hwait : pedWait sp st mask s = s.pedalOp sp id := by simp [pedWait, h.1, State.waitMet, hmet]
  rw [hwait]
  exact pedalOp_id h

theorem pedWait_waits (st : Bool) (mask : Nat) (h : pedalReady s sp) (hunmet : flagsIn (s.pedal sp).flags mask st = 0) :
    pedWait sp st mask s = (s.modPedal sp fun p => { p with count := p.count + 1 }).put (k19RunState sp) 2 := by
  simp [pedWait, h.1, State.waitMet, hunmet]

end Ran

/-- Settles O22, by what an operation, a branch and a WAIT change of their sequencer. -/
theorem pedalInstructions : Obligations.PedalInstructions := by
  unfold Obligations.PedalInstructions
  refine ⟨fun s sp h => ⟨⟨_, rfl, pedalOp_id h⟩, fun d imm => ⟨_, rfl, pedalOp_setWork d _ h⟩, fun d imm => ⟨_, rfl, ?_⟩,
      fun d a => ⟨_, rfl, pedalOp_setWork d _ h⟩, fun d a b => ⟨_, rfl, pedalOp_setWork d _ h⟩,
      fun d a b => ⟨_, rfl, pedalOp_setWork d _ h⟩, fun d a imm => ⟨_, rfl, pedalOp_setWork d _ h⟩,
      fun d a b => ⟨_, rfl, pedalOp_setWork d _ h⟩, fun d a b => ⟨_, rfl, pedalOp_setWork d _ h⟩,
      fun d a b => ⟨_, _, rfl, pedalOp_setWork d _ h, toInt_lesser _ _⟩,
      fun d a b => ⟨_, _, rfl, pedalOp_setWork d _ h, toInt_greater _ _⟩, fun d a => ⟨_, rfl, pedalOp_setWork d _ h⟩,
      ⟨_, rfl, pedalOp_id h⟩, fun d src => ⟨_, rfl, pedalOp_setWork d _ h⟩,
      fun n a => ⟨_, rfl, pedalOp_ran s sp _ h fun _ => ⟨rfl, rfl⟩⟩,
      fun n imm => ⟨_, rfl, pedalOp_ran s sp _ h fun _ => ⟨rfl, rfl⟩⟩⟩,
    fun s sp h => ⟨fun c a b target htaken => ⟨_, rfl, ?_⟩, fun c a b target htaken => ⟨_, rfl, ?_⟩,
      fun mask target hset => ⟨_, rfl, pedBf_taken mask target h hset⟩,
      fun mask target hclear => ⟨_, rfl, pedBf_notTaken mask target h hclear⟩,
      fun st mask hmet => ⟨_, rfl, pedWait_met st mask h hmet⟩, fun st mask hunmet => ⟨_, rfl, ?_⟩,
      fun d st mask => ⟨_, rfl, pedalOp_ran s sp _ h fun _ => ⟨rfl, rfl⟩⟩⟩⟩
  · rw [← mul_pow20_eq_shiftLeft]
    exact pedalOp_setWork d _ h
  · rw [pedBr, htaken]
    exact pedalBranch_taken target h
  · rw [pedBr, htaken]
    exact pedalBranch_notTaken target h
  · rw [pedWait_waits st mask h hunmet]
    exact ⟨(pedal_put _ _).trans (pedal_modPedal _ h.2), by simp [State.getN], keepsObjects_put_modPedal _ _ _, rfl⟩

/-! ### Sinks (R231, R232, R235) -/

section Sinks
variable (s : State) (sp : Nat)

theorem writeSink_refused (sink : Nat) (v : Int) (h : v < 0 ∨ sinkOk sink v.toNat = false) :
    s.writeSink sp sink v = s.sinkError sp sink := by
  rw [State.writeSink, if_pos (by simpa using h)]

theorem writeSink_pmode (n : Nat) (h : n ≤ 4) : s.writeSink sp 0 n = s.modPedal sp fun p => { p with pmode := n } := by
  simp [State.writeSink, sinkOk, sinkMax, h]

/-- The lock is not released in gate states 1, 2 and 4. -/
theorem writeSink_release_held (h : s.input sp 7 = 1 ∨ s.input sp 7 = 2 ∨ s.input sp 7 = 4) :
    s.writeSink sp 3 2 = s.notice 0 0x0613 sp := by
  have hheld : (s.input sp 7 = 1 ∨ s.input sp 7 = 2) ∨ s.input sp 7 = 4 := by rwa [or_assoc]
  simp [State.writeSink, sinkOk, sinkMax, hheld, byDevice]

theorem writeSink_replace (h : s.offerStands sp = true) :
    s.writeSink sp 6 1 = s.modPedal sp fun p => { p with replacing := true } := by
  simp [State.writeSink, sinkOk, sinkMax, h]

end Sinks

/-! ### NOTE and HALT (R229, R234) -/

section Stopped
variable {s : State} {sp : Nat}

theorem pedNote_executes (a code : Nat) (h : s.executes sp = true) : pedNote sp a code s =
    ((s.modPedal sp fun p => { p with pc := p.pc + 1, count := p.count + 1 }).put (k19RunState sp) 1).notice byDevice
      (0x0680 + code) (sp * 2 ^ 40 + ((s.pedal sp).work a).toNat % 2 ^ 40) :=
  pedalEffect_executes (fun t => t.notice byDevice (0x0680 + code) (sp * 2 ^ 40 + ((s.pedal sp).work a).toNat % 2 ^ 40)) h

theorem pedHalt_executes (h : s.executes sp = true) : pedHalt sp s = s.haltPedal sp (s.pedal sp).pc := if_pos h

/-- The sequencer after a HALT (R234): no close request, and −12 V on the pilot. -/
def Pedal.halted (p : Pedal) (pc : Nat) : Pedal := { p with request := false, pmode := 3, pc := pc, count := p.count + 1 }

theorem pedal_haltPedal (pc : Nat) (h : sp < s.spokes.length) : (s.haltPedal sp pc).pedal sp = (s.pedal sp).halted pc :=
  pedal_modPedal (fun p => p.halted pc) h

theorem objects_haltPedal (pc : Nat) :
    objects s (s.haltPedal sp pc) [(k19RunState sp, 3), (k19HaltAddress sp, (pc % 256 : Nat))] := by
  have hkeys : [k19RunState sp, k19HaltAddress sp].Nodup := by
    simpa using key_ne_of_member 0x19 0x19 sp sp (m := 0) (m' := 27) (by decide) (by decide) (by decide)
  exact objects_puts_of_get (t := s.modPedal sp fun p => p.halted pc) _ (fun _ => rfl) hkeys

theorem noticed_haltPedal (pc : Nat) : noticed s (s.haltPedal sp pc) ⟨0x0611, 0, sp * 256 + pc % 256⟩ := rfl

/-! ### A sequencer that does not execute (R224) -/

theorem pedalOp_idle (f : Pedal → Pedal) (h : s.executes sp = false) : s.pedalOp sp f = s := by
  simp [State.pedalOp, h]

theorem pedalEffect_idle (f : State → State) (h : s.executes sp = false) : s.pedalEffect sp f = s := by
  simp [State.pedalEffect, h]

theorem pedHalt_idle (h : s.executes sp = false) : pedHalt sp s = s := by simp [pedHalt, h]

end Stopped

/-- Settles O23, by what each sink does with a value and by what HALT writes. -/
theorem pedalSinkInstructions : Obligations.PedalSinkInstructions := by
  unfold Obligations.PedalSinkInstructions
  refine ⟨fun s sp imm sink h => ?_, fun s sp a sink h => ?_, writeSink_refused, writeSink_release_held, writeSink_pmode,
    writeSink_replace, fun s sp a code h => ?_, fun s sp h => ?_, fun s sp imm sink h => ?_⟩
  · exact congrArg Host.Outcome.next (pedalEffect_executes _ h.1)
  · exact congrArg Host.Outcome.next
      (pedalEffect_executes (fun t => t.writeSink sp sink ((s.pedal sp).work a).toInt) h.1)
  · obtain ⟨hspoke, hrun, hobjects, hothers, -⟩ := pedalAdvanced_ran h.2
    exact ⟨_, congrArg Host.Outcome.next (pedNote_executes a code h.1), rfl, hspoke, hrun, hobjects, hothers, rfl⟩
  · have hobjects := objects_haltPedal (s := s) (sp := sp) (s.pedal sp).pc
    have hpedal := pedal_haltPedal (s.pedal sp).pc h.2
    refine ⟨_, congrArg Host.Outcome.next (pedHalt_executes h.1), ?_, ?_, ?_, ?_, ?_, noticed_haltPedal _,
      keepsObjects_of_objects hobjects⟩
    · rw [State.getN, hobjects.1 (_, _) List.mem_cons_self]
      rfl
    · rw [State.getN, hobjects.1 (_, _) (List.mem_cons_of_mem _ List.mem_cons_self)]
      rfl
    all_goals
      rw [hpedal]
      rfl
  · exact ⟨congrArg Host.Outcome.next (pedalEffect_idle _ h), congrArg Host.Outcome.next (pedHalt_idle h),
      congrArg Host.Outcome.next (pedalOp_idle id h)⟩

end Sys2Proof.Machine
end

section
/-! The events of the pedal sequencers (O25): timers and their boundary, the start of a program, restart, broadcast and the lapse of
an offer. -/

namespace Sys2Proof.Machine

section Rows
variable (s : State) (sp : Nat)

/-! ### Timers (R226) -/

theorem timerExpiry_due (n : Nat) (hsp : sp < s.spokeCount) (hn : n < 4) (hrun : s.runState sp ≠ 4)
    (htimer : (s.pedal sp).timers.getD n 0 = 1) (hstep : s.modes.step < 6) : timerExpiry sp n s =
      (s.modPedal sp fun p => { p with timers := p.timers.set n 0 }).raise sp (fT0 + n) :=
  if_pos (by simpa [hsp, hn, hrun, hstep] using htimer)

theorem deliver_running (hrun : s.runState sp ≠ 4) (hresume : (s.pedal sp).resume = none) :
    s.deliver sp = s.modPedal sp Pedal.boundary := by
  simp [State.deliver, hresume, hrun]

theorem deliver_held (hrun : s.runState sp = 4) (hresume : (s.pedal sp).resume = none) : s.deliver sp = s := by
  simp [State.deliver, hresume, hrun]

/-! ### Programs (R222, R223) -/

theorem programSwitch_due (hexecutes : s.executes sp = true) (hnext : (s.pedal sp).next.isSome = true)
    (hclosed : s.openSlot sp = none) (hgate : s.gateState sp = 0) : programSwitch sp s =
      ((s.loadNext sp).startProgram sp 1).notice 0 0x0621 sp :=
  if_pos (by simp [hexecutes, hnext, hclosed, hgate])

theorem checkPedalRestart_gateIdle (h : s.gateState sp = 0) : checkPedalRestart sp 1 s = stOk := by
  simp [checkPedalRestart, h]

theorem checkPedalRestart_gateNotIdle (h : s.gateState sp ≠ 0) : checkPedalRestart sp 1 s = stNotNow := by
  simp [checkPedalRestart, h]

theorem runState_startProgram (cause : Nat) : (s.startProgram sp cause).runState sp = 1 := by
  simp [State.runState, State.getN, State.startProgram]

/-- The sequencer of a program that starts, whatever its parameters put into the work words. -/
theorem pedal_startProgram (cause : Nat) (h : sp < s.spokes.length) : ∃ w, (s.startProgram sp cause).pedal sp =
    { s.pedal sp with pc := 0, w := w, timers := [0, 0, 0, 0], flags := 0, startCause := cause,
                      raised := setBit (s.pedal sp).raised fStart true } := by
  unfold State.startProgram
  extract_lets params
  refine ⟨[0, 0, 0, 0] ++ params, ?_⟩
  rw [pedal_put, State.raise, pedal_modPedal, pedal_modPedal _ h]
  exact (List.length_modify ..).symm ▸ h

/-! ### Offers (R235) -/

theorem offerLapse_due (o : Offer) (hoffer : (s.pedal sp).offer = some o) (hdue : s.dueNext o.until_ = true)
    (hreplacing : (s.pedal sp).replacing = false) : offerLapse sp s =
      ((s.modPedal sp fun p => { p with offer := none }).raise sp fSess).notice 0 0x0616 sp := by
  simp [offerLapse, hoffer, hdue, hreplacing, byDevice]

end Rows

/-- Settles O25, by what each row does once it is due. -/
theorem pedalEventRows : Obligations.PedalEventRows := by
  unfold Obligations.PedalEventRows
  refine ⟨fun s sp n hsp hn hrun htimer hstep => ?_, fun s sp hrun hresume hspoke => ?_, deliver_held,
    fun s sp hexecutes hnext hclosed hgate => ?_, fun s sp cause hspoke => ?_, fun s sid sp hpasses hgate => ?_,
    fun s sid sp hpasses hgate => ?_, fun s sid v hpasses => ?_, fun s sp o hoffer hdue hreplacing => ?_⟩
  · exact congrArg Host.Outcome.next (timerExpiry_due s sp n hsp hn hrun htimer hstep)
  · rw [deliver_running s sp hrun hresume]
    exact ⟨pedal_modPedal _ hspoke, fun _ _ => rfl⟩
  · exact congrArg Host.Outcome.next (programSwitch_due s sp hexecutes hnext hclosed hgate)
  · obtain ⟨w, hpedal⟩ := pedal_startProgram s sp cause hspoke
    rw [hpedal]
    exact ⟨rfl, rfl, rfl, rfl, runState_startProgram s sp cause, bit_setBit_same _ _⟩
  · exact congrArg Host.Outcome.next (writeRow_passes s sid _ 1 _ _ hpasses (checkPedalRestart_gateIdle s sp hgate))
  · exact congrArg Host.Outcome.next
      (writeRow_answers s sid _ 1 _ _ _ hpasses (checkPedalRestart_gateNotIdle s sp hgate) (by decide) (by decide))
  · exact congrArg Host.Outcome.next (writeRow_passes s sid _ v _ (applyBroadcast v) hpasses rfl)
  · exact congrArg Host.Outcome.next (offerLapse_due s sp o hoffer hdue hreplacing)

end Sys2Proof.Machine
end

section
/-! The step (O1) and the frames of the rows (O58-O60). A count that reaches its largest value reports itself in 00h/0/17 (R108), so a
row that counts can write an object of class 00h; the frames that list the classes of their family alone leave that out. -/

namespace Sys2Proof.Machine

variable (s : State)

/-! ### The step -/

/-- No meaning ends in a fault or a refusal. -/
theorem exec_completes (c : Instr) : ∃ t, exec c s = .next t := by
  cases c <;> exact ⟨_, rfl⟩

/-- Settles O1: the step takes the front of the queue by its definition, and every meaning ends in a next state. -/
theorem stepRunsFront : Obligations.StepRunsFront := by
  unfold Obligations.StepRunsFront
  refine ⟨fun c s rest => rfl, fun s h => ?_, fun c s => exec_completes s c⟩
  simp [step, h]

/-! ### A count that saturates writes 00h/0/17 -/

/-- R108: the count that reaches its largest value is named in 00h/0/17. -/
theorem get_lastSaturated_count (k : Nat) (h : s.get k + 1 = objMax k) : (s.count k).get k00LastSaturatedCount = k := by
  have hlt : ¬ objMax k ≤ s.get k := by omega
  simp [State.count, hlt, h, State.saturated]

/-- So a frame that keeps class 00h fails where a count saturates that 00h/0/17 did not name before. -/
theorem not_keepsClasses_of_saturated (t : State) (cs : List Nat) (v : Int) (hc : 0 ∉ cs)
    (ht : t.get k00LastSaturatedCount = v) (hs : s.get k00LastSaturatedCount ≠ v) : ¬ keepsClasses s t cs := by
  intro h
  exact hs ((h k00LastSaturatedCount hc).symm.trans ht)

/-- One overrun of engine 6 before its count is full. -/
def overrunNearlyFull : State := { obj := [(k02OverrunCount 7, objMax (k02OverrunCount 7) - 1)] }

/-- Refutes O58 by an overrun of engine 6 whose count reaches its largest value: 00h/0/17 names it, and the frame of OVERRUN lists
the classes 02h and 1Dh alone. -/
theorem not_spokeRowsKeepTheRest : ¬ Obligations.SpokeRowsKeepTheRest := by
  unfold Obligations.SpokeRowsKeepTheRest
  intro h
  have hframe := (h (.overrun 6 []) overrunNearlyFull _ (by decide) rfl).2
  refine not_keepsClasses_of_saturated overrunNearlyFull _ _ (k02OverrunCount 7) (by decide) ?_ (by decide +kernel) hframe
  decide +kernel

/-- Key 0 is held down, twenty scans show its release, and the key events are one below their largest value. -/
def keyEventsNearlyFull : State :=
  { obj := [(k23KeyEvents, objMax k23KeyEvents - 1)]
    keypad := { pressed := [true], runs := [20] } }

/-- Refutes O59 by a release of key 0 that fills the count of key events: 00h/0/17 names it, and the frame of KEY_RELEASE lists
class 23h alone. -/
theorem not_recordRowsKeepTheRest : ¬ Obligations.RecordRowsKeepTheRest := by
  unfold Obligations.RecordRowsKeepTheRest
  intro h
  have hframe := (h (.keyRelease 0) keyEventsNearlyFull _ (by decide) rfl).2
  refine not_keepsClasses_of_saturated keyEventsNearlyFull _ _ k23KeyEvents (by decide) ?_ (by decide +kernel) hframe
  decide +kernel

/-- Coast, and one wake below the largest value of its count. -/
def wakesNearlyFull : State := { obj := [(k01Mode, 3), (k01Wakes 19, objMax (k01Wakes 19) - 1)] }

/-- Refutes O60 by a wake from Coast that fills the count of wakes: 00h/0/17 names it, and the frame of WAKE lists class 01h
alone. -/
theorem not_serviceRowsKeepTheRest : ¬ Obligations.ServiceRowsKeepTheRest := by
  unfold Obligations.ServiceRowsKeepTheRest
  intro h
  have hframe := (h (.wake .pilotChange) wakesNearlyFull _ (by decide) rfl).2
  refine not_keepsClasses_of_saturated wakesNearlyFull _ _ (k01Wakes 19) (by decide) ?_ (by decide +kernel) hframe
  decide +kernel

end Sys2Proof.Machine
end

section
/-! The vehicle link, I: a TLS session without a root (O37) and the choice of the protocol (O38). -/

namespace Sys2Proof.Machine

/-! ### TLS without a root -/

/-- A blob that stands under the boot wrap key, not under the root. -/
def sealedUnderBootKey : Blob :=
  { domain := bootDomain, kind := 0, gen := 0, groot := 0, nonce := 0, len := 0, key := 0, under := some 1 }

/-- Spoke 0 in link state 2; no root stands, and the SECC key of TLS 1.2 opens under the boot wrap key. -/
def rootlessWithSeccKey : State :=
  { obj := [(k1ALinkState 0, 2), (k28SlotState 26, 1)]
    spokes := [{}]
    vault := { root := none, bootKey := some 1, slots := List.replicate 10 none ++ [some sealedUnderBootKey] } }

/-- An offer of TLS 1.2 that has a common choice with the table of R252. -/
def commonTls12Offer : TlsOffer :=
  { version := 2, suites := [.ecdheEcdsaAes256GcmSha384], groups := [.secp256r1], signatures := [.ecdsaP256Sha256], resume := false }

/-- The handshake wraps its session key under the root; without a root that blob never opens. -/
theorem tlsKey_locked_of_rootless :
    (((tlsHandshake 0 commonTls12Offer rootlessWithSeccKey).vlink 0).tlsKey.bind
      (tlsHandshake 0 commonTls12Offer rootlessWithSeccKey).unwrap).isSome = false := by
  decide +kernel

/-- Refutes O37: its handshake clause asks for the SECC key alone, and promises a session key that opens; where no root stands and
the SECC key opens under the boot wrap key, the session key is sealed under nothing. -/
theorem not_slacRows : ¬ Obligations.SlacRows := by
  unfold Obligations.SlacRows
  intro ⟨_, _, _, _, _, _, _, _, _, hshake, _⟩
  obtain ⟨t, ht, -, -, hkey, -⟩ := hshake rootlessWithSeccKey 0 commonTls12Offer (by decide +kernel) (by decide +kernel)
    (by decide) (by decide +kernel) (by decide +kernel) (by decide +kernel)
  obtain rfl : tlsHandshake 0 commonTls12Offer rootlessWithSeccKey = t := by
    exact Host.Outcome.next.inj ht
  exact absurd (hkey (by decide)) (by rw [tlsKey_locked_of_rootless]; decide)

/-! ### The choice of the protocol (R247) -/

/-- The protocols the table of R247 names, by what makes each possible. -/
theorem protocolChoice_cases (offered enabled tls prio : Nat) :
    (protocolChoice offered enabled tls prio = 2 ∧ bit offered 1 = true ∧ bit enabled 1 = true ∧ tls ≤ 1) ∨
    (protocolChoice offered enabled tls prio = 3 ∧ bit offered 2 = true ∧ bit enabled 2 = true ∧ tls = 2) ∨
    (protocolChoice offered enabled tls prio = 1 ∧ bit offered 0 = true ∧ bit enabled 0 = true ∧ tls = 0) ∨
    (protocolChoice offered enabled tls prio = 0 ∧ ¬ (bit offered 1 = true ∧ bit enabled 1 = true ∧ tls ≤ 1) ∧
      ¬ (bit offered 2 = true ∧ bit enabled 2 = true ∧ tls = 2) ∧ ¬ (bit offered 0 = true ∧ bit enabled 0 = true ∧ tls = 0)) := by
  simp only [protocolChoice, Bool.and_eq_true, decide_eq_true_eq, and_assoc]
  split
  · next h => exact .inl ⟨rfl, h.2⟩
  · split
    · next h => exact .inr (.inl ⟨rfl, h⟩)
    · next no20 =>
      split
      · next h => exact .inl ⟨rfl, h⟩
      · next no2 =>
        split
        · next h => exact .inr (.inr (.inl ⟨rfl, h⟩))
        · next noDin => exact .inr (.inr (.inr ⟨rfl, no2, no20, noDin⟩))

/-- Settles O38, by the cases of the choice. -/
theorem protocolChoiceIsCommon : Obligations.ProtocolChoiceIsCommon := by
  unfold Obligations.ProtocolChoiceIsCommon
  intro offered enabled tls prio
  rcases protocolChoice_cases offered enabled tls prio with ⟨h, ho, he, ht⟩ | ⟨h, ho, he, ht⟩ | ⟨h, ho, he, ht⟩ | ⟨h, n2, n3, n1⟩
  · refine ⟨by omega, fun p hp => ?_, by simp [h]⟩
    obtain rfl : p = 1 := by omega
    exact ⟨ho, he, by simp, by simp [ht], by simp⟩
  · refine ⟨by omega, fun p hp => ?_, by simp [h]⟩
    obtain rfl : p = 2 := by omega
    exact ⟨ho, he, by simp, by simp, by simp [ht]⟩
  · refine ⟨by omega, fun p hp => ?_, by simp [h]⟩
    obtain rfl : p = 0 := by omega
    exact ⟨ho, he, by simp [ht], by simp, by simp⟩
  · refine ⟨by omega, fun p hp => by omega, fun p hp ho he t0 t1 t2 => ?_⟩
    match p, hp with
    | 0, _ => exact absurd ⟨ho, he, t0 rfl⟩ n1
    | 1, _ => exact absurd ⟨ho, he, t1 rfl⟩ n2
    | 2, _ => exact absurd ⟨ho, he, t2 rfl⟩ n3

end Sys2Proof.Machine
end

section
/-! The vehicle link, II: the messages of a session (O39). -/

namespace Sys2Proof.Machine

section Answers
variable (s : State) (sp : Nat)

/-! ### What the operations of the link leave -/

theorem key_member_inj (c i m m' : Nat) : key c i m = key c i m' ↔ m = m' := by
  simp only [key]
  omega

@[simp] theorem get_modVLink (f : VLink → VLink) (k : Nat) : (s.modVLink sp f).get k = s.get k := rfl
@[simp] theorem out_modVLink (f : VLink → VLink) : (s.modVLink sp f).out = s.out := rfl
@[simp] theorem get_say (m : String) (v : List Int) (k : Nat) : (s.say sp m v).get k = s.get k := rfl
@[simp] theorem out_say (m : String) (v : List Int) : (s.say sp m v).out = s.out ++ [.vehicle sp m v] := rfl
@[simp] theorem out_raise (n : Nat) : (s.raise sp n).out = s.out := rfl
@[simp] theorem puts_out (l : List (Nat × Int)) : (s.puts l).out = s.out := by
  have h := congrArg State.out (puts_rest s l)
  exact h

/-- The link of a spoke that exists is the one that was put there. -/
theorem vlink_modVLink_same (f : VLink → VLink) (h : sp < s.spokes.length) : (s.modVLink sp f).vlink sp = f (s.vlink sp) :=
  congrArg Spoke.link (spoke_modSpoke_same s sp _ h)

/-- A field that a change of a link keeps reads as before, whether or not the spoke exists. -/
theorem vlink_modVLink_view {β : Type} (g : VLink → β) (j : Nat) (f : VLink → VLink) (hf : ∀ l, g (f l) = g l) :
    g ((s.modVLink sp f).vlink j) = g (s.vlink j) := by
  by_cases hj : j = sp
  · subst hj
    by_cases hlen : j < s.spokes.length
    · rw [vlink_modVLink_same s j f hlen, hf]
    · have hsame : s.modVLink j f = s := by
        simp only [State.modVLink, State.modSpoke, List.modify_eq_self (by omega : s.spokes.length ≤ j)]
      rw [hsame]
  · simp only [State.vlink, State.modVLink, spoke_modSpoke_other s sp j _ hj]

theorem get_setLinkState_other (v k : Nat) (h : k ≠ k1ALinkState sp) : (s.setLinkState sp v).get k = s.get k := by
  unfold State.setLinkState
  split
  · rfl
  · rw [get_raise, get_put_other s _ _ _ h]

theorem linkState_setLinkState (v : Nat) : (s.setLinkState sp v).linkState sp = v := by
  unfold State.setLinkState
  split
  · next h => exact h
  · simp [State.linkState, State.getN, get_put_same]

@[simp] theorem out_setLinkState (v : Nat) : (s.setLinkState sp v).out = s.out := by
  unfold State.setLinkState
  split <;> rfl

theorem get_setVehicleMax_other (v k : Nat) (h : k ≠ k1AVehicleMaximumCurrent sp) : (s.setVehicleMax sp v).get k = s.get k := by
  unfold State.setVehicleMax
  split
  · rfl
  · rw [get_raise, get_put_other s _ _ _ h]

theorem getN_setVehicleMax (v : Nat) : (s.setVehicleMax sp v).getN (k1AVehicleMaximumCurrent sp) = v := by
  unfold State.setVehicleMax
  split
  · next h => exact h
  · simp [State.getN, get_put_same]

@[simp] theorem out_setVehicleMax (v : Nat) : (s.setVehicleMax sp v).out = s.out := by
  unfold State.setVehicleMax
  split <;> rfl

/-! ### A valid message -/

theorem forTag_obj (k : Option Nat) : (s.forTag k).obj = s.obj := by cases k <;> rfl

theorem messaged_obj : (messaged s sp).obj = s.obj := forTag_obj s _

@[simp] theorem get_messaged (k : Nat) : (messaged s sp).get k = s.get k := get_forTag s _ k

@[simp] theorem getN_messaged (k : Nat) : (messaged s sp).getN k = s.getN k := congrArg Int.toNat (get_messaged s sp k)

@[simp] theorem flag_messaged (k : Nat) : (messaged s sp).flag k = s.flag k := by simp [State.flag]

theorem out_forRecord : (s.forRecord sp).out = s.out := by
  unfold State.forRecord
  cases (s.vlink sp).tlsKey.bind s.unwrap <;> rfl

@[simp] theorem out_messaged : (messaged s sp).out = s.out := out_forRecord s sp

@[simp] theorem draw_messaged : (messaged s sp).draw = s.draw := by
  unfold messaged State.forRecord
  cases (s.vlink sp).tlsKey.bind s.unwrap <;> rfl

@[simp] theorem openSlot_messaged (j : Nat) : (messaged s sp).openSlot j = s.openSlot j := by
  unfold messaged State.forRecord
  cases (s.vlink sp).tlsKey.bind s.unwrap <;> rfl

/-- A field that neither the time of the message nor the orderly stop touches. -/
theorem vlink_messaged_view {β : Type} (g : VLink → β) (j : Nat)
    (hg : ∀ l t o, g { l with lastMsg := t, stopAt := o } = g l) : g ((messaged s sp).vlink j) = g (s.vlink j) := by
  refine (vlink_modVLink_view _ sp g j _ fun l => hg l _ _).trans ?_
  unfold State.forRecord
  cases (s.vlink sp).tlsKey.bind s.unwrap <;> rfl

@[simp] theorem stopping_messaged : ((messaged s sp).vlink sp).stopping = (s.vlink sp).stopping :=
  vlink_messaged_view s sp VLink.stopping sp fun _ _ _ => rfl

@[simp] theorem linkState_messaged : (messaged s sp).linkState sp = s.linkState sp := getN_messaged s sp _
@[simp] theorem proto_messaged : (messaged s sp).proto sp = s.proto sp := getN_messaged s sp _
@[simp] theorem pncOffered_messaged : (messaged s sp).pncOffered sp = s.pncOffered sp := by simp [State.pncOffered]
@[simp] theorem transferModes_messaged : (messaged s sp).transferModes sp = s.transferModes sp := by simp [State.transferModes]
@[simp] theorem evseMax_messaged : (messaged s sp).evseMax sp = s.evseMax sp := get_messaged s sp _
@[simp] theorem meterInfo_messaged : (messaged s sp).meterInfo sp = s.meterInfo sp := by simp [State.meterInfo]

@[simp] theorem bptOffered_messaged : (messaged s sp).bptOffered sp = s.bptOffered sp := by
  have hbpt := vlink_messaged_view s sp VLink.bpt sp fun _ _ _ => rfl
  simp [State.bptOffered, hbpt]

@[simp] theorem authProgress_messaged : (messaged s sp).authProgress sp = s.authProgress sp := by
  have hresult := vlink_messaged_view s sp VLink.contractResult sp fun _ _ _ => rfl
  simp [State.authProgress, hresult]

/-! ### The answer to a message of the session -/

variable {s sp} {ps ss : List Nat}

theorem inSession_iff : s.inSession sp ps ss = true ↔
    s.vehicleUp sp = true ∧ (s.vlink sp).tcp = true ∧ s.proto sp ∈ ps ∧ s.linkState sp ∈ ss := by
  simp [State.inSession, and_assoc]

theorem inSession_mono {ps' ss' : List Nat} (h : s.inSession sp ps ss = true) (hp : ps ⊆ ps') (hs : ss ⊆ ss') :
    s.inSession sp ps' ss' = true := by
  obtain ⟨hup, htcp, hproto, hlink⟩ := inSession_iff.1 h
  exact inSession_iff.2 ⟨hup, htcp, hp hproto, hs hlink⟩

/-- A message of the session is answered from the state that notes it. -/
theorem answerVehicle_inSession (m : String) (f : State → State × List Int) (h : s.inSession sp ps ss = true) :
    s.answerVehicle sp ps ss m f =
      (f (messaged s sp)).1.say sp m (b1 (s.vlink sp).stopping :: (f (messaged s sp)).2) := by
  rw [← stopping_messaged]
  simp only [State.answerVehicle, h, Bool.not_true, Bool.false_eq_true, if_false]
  rfl

theorem answered_say {u : State} {m : String} {figures : List Int} (hout : u.out = s.out) :
    answered s (u.say sp m (b1 (s.vlink sp).stopping :: figures)) sp m figures :=
  congrArg (· ++ _) hout

/-- An answer that changes no object. -/
theorem answerVehicle_figures {m : String} {f : State → State × List Int} {figures : List Int} (h : s.inSession sp ps ss = true)
    (hf : f (messaged s sp) = (messaged s sp, figures)) :
    (s.answerVehicle sp ps ss m f).obj = s.obj ∧ answered s (s.answerVehicle sp ps ss m f) sp m figures := by
  rw [answerVehicle_inSession m f h, hf]
  exact ⟨messaged_obj s sp, answered_say (out_messaged s sp)⟩

/-- An answer that gives some objects their values. -/
theorem answerVehicle_puts {m : String} {f : State → State × List Int} {l : List (Nat × Int)} {figures : List Int}
    (h : s.inSession sp ps ss = true) (hf : f (messaged s sp) = ((messaged s sp).puts l, figures)) (hl : (l.map Prod.fst).Nodup) :
    objects s (s.answerVehicle sp ps ss m f) l ∧ answered s (s.answerVehicle sp ps ss m f) sp m figures := by
  rw [answerVehicle_inSession m f h, hf]
  exact ⟨objects_puts_of_get l (get_messaged s sp) hl, answered_say (by simp)⟩

/-! ### The messages up to the schedule (R247, R248, R250, R254) -/

theorem supportedAppProtocol_chosen {p offered : Nat} (hup : s.vehicleUp sp = true) (hlink : s.linkState sp = 2) (h0 : p ≠ 0)
    (hp : protocolChoice offered (s.getN (k1AProtocolEnable sp)) (s.getN (k1ATLS sp)) (s.getN k1AProtocolPriority) = p) :
    supportedAppProtocol sp offered s =
      ((((s.forRecord sp).say sp "supportedAppProtocolRes" [(p : Int)]).put (k1AProtocol sp) p).modVLink sp fun l =>
        { l with tcp := true, tlsFailedAt := none, lastMsg := s.cc }) := by
  simp [supportedAppProtocol, hup, hlink, hp, h0]

theorem sessionSetup_answered (evccid : Nat) (h : s.inSession sp [1, 2, 3, 4] [2] = true) :
    (sessionSetup sp evccid s).linkState sp = 3 ∧ answered s (sessionSetup sp evccid s) sp "SessionSetupRes" [] ∧
      (sessionSetup sp evccid s).get (k1AEVCCID sp) = (txtOf (hexText (bytesBE 6 evccid)) : Nat) := by
  unfold sessionSetup
  generalize ((txtOf (hexText (bytesBE 6 evccid)) : Nat) : Int) = v
  rw [answerVehicle_inSession _ _ h]
  have hne : k1AEVCCID sp ≠ k1ALinkState sp := key_ne_of_member _ _ _ _ (by decide) (by decide) (by decide)
  refine ⟨linkState_setLinkState _ sp 3, answered_say (by simp), ?_⟩
  rw [get_say]
  dsimp only
  rw [get_setLinkState_other _ sp 3 _ hne, get_modVLink, get_put_same]

theorem serviceDiscovery_answered (h : s.inSession sp [2, 3, 4] [3] = true) :
    (serviceDiscovery sp s).obj = s.obj ∧ answered s (serviceDiscovery sp s) sp "ServiceDiscoveryRes"
      ([(s.proto sp : Int), b1 (s.pncOffered sp), b1 (s.bptOffered sp)] ++ s.transferModes sp) := by
  have hdin : s.inSession sp [1] [3] = false := by
    obtain ⟨-, -, hproto, -⟩ := inSession_iff.1 h
    refine Bool.eq_false_iff.2 fun hin => ?_
    obtain ⟨-, -, hone, -⟩ := inSession_iff.1 hin
    simp at hproto hone
    omega
  simp only [serviceDiscovery, hdin, Bool.false_eq_true, if_false]
  exact answerVehicle_figures (inSession_mono h (by decide) (by decide)) (by simp)

theorem linkState_leaveLink (st : Nat) : (s.leaveLink sp st).linkState sp = st := linkState_setLinkState _ sp st

theorem serviceDiscovery_din (h : s.inSession sp [1] [3] = true) : (serviceDiscovery sp s).linkState sp = 5 ∧
    ⟨0x0706, 0, sp * 256 + 1⟩ ∈ (serviceDiscovery sp s).recorder.raised := by
  simp only [serviceDiscovery, h, if_true]
  refine ⟨linkState_leaveLink 5, ?_⟩
  rw [State.fallback, notice_raised]
  exact List.mem_append_right _ (List.mem_singleton.2 rfl)

theorem paymentDetails_presented (emaid : Nat) (chain : List Nat) (h : s.inSession sp [2] [3] = true)
    (hpnc : s.getN (k1AIdentification sp) = 2) : paymentDetails sp emaid chain s =
      ((messaged s sp).presentContract sp emaid chain).1.say sp "PaymentDetailsRes"
        [b1 ((messaged s sp).vlink sp).stopping, (((messaged s sp).presentContract sp emaid chain).2 : Int)] := by
  rw [paymentDetails, answerVehicle_inSession _ _ h, stopping_messaged]
  simp [hpnc]

theorem authorization_presented (emaid : Nat) (chain : List Nat) (h : s.inSession sp [3, 4] [3] = true)
    (hpnc : s.pncOffered sp = true) {u : State} {n : Nat}
    (hu : (u, n) = ((messaged s sp).put (k1AIdentification sp) 2).presentContract sp emaid chain) :
    authorization sp (some (emaid, chain)) s =
      u.say sp "AuthorizationRes" [b1 ((messaged s sp).vlink sp).stopping, if n = 0 then 3 else u.authProgress sp] := by
  obtain ⟨-, -, hproto, -⟩ := inSession_iff.1 h
  have h2 : s.proto sp ≠ 2 := by
    simp at hproto
    omega
  rw [authorization, answerVehicle_inSession _ _ (inSession_mono h (by decide) (by decide)), stopping_messaged]
  simp [h2, hpnc, ← hu]

theorem authorization_plain (h : s.inSession sp [2] [3] = true) : (authorization sp none s).obj = s.obj ∧
    answered s (authorization sp none s) sp "AuthorizationRes" [s.authProgress sp] := by
  obtain ⟨-, -, hproto, -⟩ := inSession_iff.1 h
  have h2 : s.proto sp = 2 := by simpa using hproto
  exact answerVehicle_figures (inSession_mono h (by decide) (by decide)) (by simp [h2])

theorem paymentServiceSelection_external (h : s.inSession sp [2] [3] = true) :
    objects s (paymentServiceSelection sp false s) [(k1AIdentification sp, 1)] ∧
      answered s (paymentServiceSelection sp false s) sp "PaymentServiceSelectionRes" [1] :=
  answerVehicle_puts h rfl (by simp)

theorem paymentServiceSelection_contract (h : s.inSession sp [2] [3] = true) (hpnc : s.pncOffered sp = true) :
    objects s (paymentServiceSelection sp true s) [(k1AIdentification sp, 2)] ∧
      answered s (paymentServiceSelection sp true s) sp "PaymentServiceSelectionRes" [1] :=
  answerVehicle_puts h (by simp [hpnc]) (by simp)

theorem serviceSelection_chosen (h : s.inSession sp [3, 4] [3] = true) :
    objects s (serviceSelection sp false s) [(k1AProtocol sp, 3)] ∧
      answered s (serviceSelection sp false s) sp "ServiceSelectionRes" [1] :=
  answerVehicle_puts h rfl (by simp)

end Answers

/-! ### A contract that is presented (R250, R398) -/

section Contract
variable (s : State) (sp : Nat)

theorem length_spokes_modSpoke (f : Spoke → Spoke) : (s.modSpoke sp f).spokes.length = s.spokes.length := List.length_modify ..

theorem spokes_lowCredit (p : Nat) : (s.lowCredit p).spokes = s.spokes := by
  unfold State.lowCredit
  simp only
  repeat' split
  all_goals rfl

theorem spokes_priceSlot (j at_ : Nat) : (s.priceSlot j at_).spokes = s.spokes := by
  unfold State.priceSlot
  rw [spokes_puts, spokes_puts]

theorem spokes_each_put {α : Type} (l : List α) (k : α → Nat) (v : Int) : (s.each l fun t a => t.put (k a) v).spokes = s.spokes :=
  each_view State.spokes s l _ fun _ _ _ => rfl

theorem length_spokes_openSession (ident : Int) (purse : Nat) : (s.openSession sp ident purse).spokes.length = s.spokes.length := by
  unfold State.openSession
  split
  · rfl
  · next j _ =>
    simp only
    simp only [spokes_lowCredit, journal_spokes, State.raise, State.modPedal, length_spokes_modSpoke, spokes_priceSlot,
      State.modSlot, spokes_puts]
    rw [spokes_each_put _ _ (fun m => key 0x12 j m) 0]
    split <;> rfl

/-- An authorisation adds and removes no spoke. -/
theorem length_spokes_authorise (ident : Int) (purse : Nat) : (s.authorise sp ident purse).1.spokes.length = s.spokes.length := by
  unfold State.authorise
  split
  · exact length_spokes_openSession s sp ident purse
  · split
    · simp only [State.offer, State.raise, State.modPedal, length_spokes_modSpoke]
    · rfl

/-- The contract that a spoke's vehicle presents is noted. -/
def State.contractNoted (emaid : Nat) : State := s.modVLink sp fun l => { l with contract := some emaid }

theorem length_spokes_contractNoted (emaid : Nat) : (s.contractNoted sp emaid).spokes.length = s.spokes.length :=
  length_spokes_modSpoke s sp _

/-- A contract whose chain is good is taken up: a listed one that is usable opens a session, another listed one is refused, and one that
the list does not name waits for the host. -/
def State.contractTaken (emaid : Nat) : State × Nat :=
  match authEntry (s.payload 3) (contractIdent emaid) with
  | some e =>
    if s.authUsable e then
      ((s.authorise sp (contractIdent emaid) (authPurse (s.payload 3) e)).1.modVLink sp fun l =>
        { l with contractResult := if (s.authorise sp (contractIdent emaid) (authPurse (s.payload 3) e)).2 = 1 then 1 else 2 }, 1)
    else (s.modVLink sp fun l => { l with contractResult := 2 }, 1)
  | none =>
    ((s.puts [(k1AContractIdentity sp, emaid), (k1AContractPending sp, 1)]).modVLink sp fun l =>
      { l with contractEnd := some (s.after (secTicks (s.getN k1AContractDecisionTime))), contractResult := 0 }, 1)

variable {s sp} {emaid : Nat} {chain : List Nat}

section New
variable (hnew : (s.vlink sp).contract ≠ some emaid)
include hnew

/-- A contract that this session has not decided: the chain is checked, then the list. -/
theorem presentContract_new : s.presentContract sp emaid chain =
    if !(chain.length ≤ 4 && s.timeValid && s.cryptoOk && Config.chainOk (s.payload 5) chain s.wall) then
      ((s.contractNoted sp emaid).noticeOpen byDevice 0x0707, 0)
    else (s.contractNoted sp emaid).contractTaken sp emaid := by
  unfold State.presentContract
  simp only [hnew, decide_false, Bool.false_and, Bool.false_eq_true, if_false]
  rfl

theorem presentContract_badChain (hbad : ¬ (chain.length ≤ 4 ∧ s.timeValid = true ∧ s.cryptoOk = true ∧
    Config.chainOk (s.payload 5) chain s.wall = true)) :
    s.presentContract sp emaid chain = ((s.contractNoted sp emaid).noticeOpen byDevice 0x0707, 0) := by
  rw [presentContract_new hnew]
  refine if_pos ?_
  simpa only [Bool.not_eq_true', Bool.eq_false_iff, Ne, Bool.and_eq_true, decide_eq_true_eq, and_assoc] using hbad

variable (hgood : chain.length ≤ 4 ∧ s.timeValid = true ∧ s.cryptoOk = true ∧ Config.chainOk (s.payload 5) chain s.wall = true)
include hgood

theorem presentContract_goodChain : s.presentContract sp emaid chain = (s.contractNoted sp emaid).contractTaken sp emaid := by
  rw [presentContract_new hnew]
  refine if_neg ?_
  simpa [and_assoc] using hgood

end New
theorem contractTaken_unlisted (h : authEntry (s.payload 3) (contractIdent emaid) = none) : s.contractTaken sp emaid =
    ((s.puts [(k1AContractIdentity sp, emaid), (k1AContractPending sp, 1)]).modVLink sp fun l =>
      { l with contractEnd := some (s.after (secTicks (s.getN k1AContractDecisionTime))), contractResult := 0 }, 1) := by
  rw [State.contractTaken, h]

theorem contractTaken_usable {e : Nat} (h : authEntry (s.payload 3) (contractIdent emaid) = some e) (hu : s.authUsable e = true) :
    s.contractTaken sp emaid = ((s.authorise sp (contractIdent emaid) (authPurse (s.payload 3) e)).1.modVLink sp fun l =>
      { l with contractResult := if (s.authorise sp (contractIdent emaid) (authPurse (s.payload 3) e)).2 = 1 then 1 else 2 }, 1) := by
  rw [State.contractTaken, h]
  exact if_pos hu

theorem contractTaken_unusable {e : Nat} (h : authEntry (s.payload 3) (contractIdent emaid) = some e) (hu : ¬ s.authUsable e = true) :
    s.contractTaken sp emaid = (s.modVLink sp fun l => { l with contractResult := 2 }, 1) := by
  rw [State.contractTaken, h]
  exact if_neg hu

theorem contractTaken_taken : (s.contractTaken sp emaid).2 = 1 := by
  unfold State.contractTaken
  split
  · split <;> rfl
  · rfl

end Contract

/-- Settles O39: each message is answered from the state that notes it; a new contract is turned away by its chain or taken up by the
list. -/
theorem vehicleSetupRows : Obligations.VehicleSetupRows := by
  unfold Obligations.VehicleSetupRows
  refine ⟨fun s sp offered p hup hlink h0 hp => ⟨_, rfl, ?_, ?_⟩, fun s sp evccid h => ⟨_, rfl, sessionSetup_answered evccid h⟩,
    fun s sp h => ⟨_, rfl, serviceDiscovery_answered h⟩, fun s sp h => ⟨_, rfl, serviceDiscovery_din h⟩,
    fun s sp n h => ⟨_, rfl, answerVehicle_figures h rfl⟩, fun s sp h => ⟨_, rfl, paymentServiceSelection_external h⟩,
    fun s sp h hpnc => ⟨_, rfl, paymentServiceSelection_contract h hpnc⟩,
    fun s sp emaid chain h hpnc => congrArg Host.Outcome.next (paymentDetails_presented emaid chain h hpnc),
    fun s sp emaid chain h hpnc => ⟨_, _, congrArg Host.Outcome.next (authorization_presented emaid chain h hpnc rfl), rfl⟩,
    fun s sp h => ⟨_, rfl, answerVehicle_figures h (by simp)⟩, fun s sp h => ⟨_, rfl, authorization_plain h⟩,
    fun s sp h => ⟨_, rfl, serviceSelection_chosen h⟩, fun s sp emaid chain hnew hsp => ?_⟩
  · rw [supportedAppProtocol_chosen hup hlink h0 hp]
    exact objects_puts_of_get [(k1AProtocol sp, (p : Int))] (fun k => get_forTag s _ k) (by simp)
  · rw [supportedAppProtocol_chosen hup hlink h0 hp]
    exact congrArg (· ++ _) (out_forRecord s sp)
  · have hlen : sp < (s.contractNoted sp emaid).spokes.length := by rwa [length_spokes_contractNoted]
    split
    · next hgood =>
      rw [presentContract_goodChain hnew hgood]
      refine ⟨contractTaken_taken, ?_⟩
      split
      · next hnone =>
        rw [contractTaken_unlisted (s := s.contractNoted sp emaid) hnone]
        refine ⟨objects_puts_of_get (s := s) (t := s.contractNoted sp emaid) [(k1AContractIdentity sp, (emaid : Int)), (k1AContractPending sp, 1)]
          (fun k => rfl)
          (by simp [key_member_inj]), ?_⟩
        rw [vlink_modVLink_same _ _ _ (by rwa [spokes_puts])]
        rfl
      · next e he =>
        split
        · next hu =>
          rw [contractTaken_usable (s := s.contractNoted sp emaid) he hu, vlink_modVLink_same _ _ _ (by rwa [length_spokes_authorise])]
          rfl
        · next hu =>
          rw [contractTaken_unusable (s := s.contractNoted sp emaid) he hu]
          exact ⟨rfl, by rw [vlink_modVLink_same _ _ _ hlen]⟩
    · next hbad =>
      rw [presentContract_badChain hnew hbad]
      exact ⟨rfl, rfl, _, List.mem_append_right _ (List.mem_singleton.2 rfl), rfl⟩

end Sys2Proof.Machine
end

section
/-! The vehicle link, III: charge parameters, power delivery and the ends of a session (O40, O41). -/

namespace Sys2Proof.Machine

section Charging
variable (s : State) (sp : Nat)

/-! ### Spokes and what leaves -/

theorem out_leaveLink (st : Nat) : (s.leaveLink sp st).out = s.out := by
  simp [State.leaveLink, State.endVehicle]

/-- What a change of a link leaves of every sequencer. -/
@[simp] theorem pedal_modVLink (j : Nat) (f : VLink → VLink) : (s.modVLink j f).pedal sp = s.pedal sp := by
  simp only [State.pedal, State.modVLink, State.modSpoke, State.spoke, List.getD_eq_getElem?_getD, List.getElem?_modify]
  split
  · cases s.spokes[sp]? <;> rfl
  · cases s.spokes[sp]? <;> rfl

@[simp] theorem pedal_say (m : String) (v : List Int) : (s.say sp m v).pedal sp = s.pedal sp := rfl

@[simp] theorem pedal_messaged : (messaged s sp).pedal sp = s.pedal sp := by
  refine (pedal_modVLink _ sp sp _).trans ?_
  unfold State.forRecord
  cases (s.vlink sp).tlsKey.bind s.unwrap <;> rfl

@[simp] theorem length_spokes_messaged : (messaged s sp).spokes.length = s.spokes.length := by
  refine (length_spokes_modSpoke _ sp _).trans (congrArg List.length ?_)
  unfold State.forRecord
  cases (s.vlink sp).tlsKey.bind s.unwrap <;> rfl

/-- A bit that is set at another place leaves this one. -/
theorem bit_setBit_true_other (w : Nat) {m n : Nat} (h : n ≠ m) : bit (setBit w m true) n = bit w n := by
  unfold setBit
  split
  · rfl
  · next hclear =>
    simp only [bit, decide_eq_true_eq] at hclear
    simp only [if_true, bit]
    rcases Nat.lt_or_gt_of_ne h with hlt | hgt
    · obtain ⟨d, rfl⟩ := Nat.exists_eq_add_of_lt hlt
      have hsum : (w + 2 ^ (n + d + 1)) / 2 ^ n = w / 2 ^ n + 2 ^ d * 2 := by
        rw [Nat.add_assoc, Nat.pow_add, Nat.mul_comm, Nat.add_mul_div_right _ _ (Nat.two_pow_pos n), Nat.pow_succ]
      rw [hsum, Nat.add_mul_mod_self_right]
    · obtain ⟨d, rfl⟩ := Nat.exists_eq_add_of_lt hgt
      have hnext : (w + 2 ^ m) / 2 ^ m = w / 2 ^ m + 1 := Nat.add_div_right w (Nat.two_pow_pos m)
      have hhalf : (w + 2 ^ m) / 2 ^ (m + 1) = w / 2 ^ (m + 1) := by
        rw [Nat.pow_succ, ← Nat.div_div_eq_div_mul, ← Nat.div_div_eq_div_mul, hnext]
        omega
      rw [show m + d + 1 = m + 1 + d by omega, Nat.pow_add, ← Nat.div_div_eq_div_mul, ← Nat.div_div_eq_div_mul, hhalf]

theorem bit_setBit_of_bit {w n : Nat} (m : Nat) (h : bit w n = true) : bit (setBit w m true) n = true := by
  by_cases hnm : n = m
  · exact hnm ▸ bit_setBit_same w n
  · rw [bit_setBit_true_other w hnm, h]

/-- An event that is raised stands. -/
theorem raised_raise (n : Nat) (h : sp < s.spokes.length) : bit ((s.raise sp n).pedal sp).raised n = true := by
  rw [State.raise, pedal_modPedal _ h]
  exact bit_setBit_same _ _

/-- A change of the link state keeps what stands raised. -/
theorem raised_setLinkState (v n : Nat) (h : sp < s.spokes.length) (hn : bit (s.pedal sp).raised n = true) :
    bit ((s.setLinkState sp v).pedal sp).raised n = true := by
  unfold State.setLinkState
  split
  · exact hn
  · rw [State.raise, pedal_modPedal (s := s.put (k1ALinkState sp) v) _ h]
    exact bit_setBit_of_bit _ hn

@[simp] theorem dischargeMax_messaged : (messaged s sp).dischargeMax sp = s.dischargeMax sp := by
  unfold messaged State.forRecord
  cases (s.vlink sp).tlsKey.bind s.unwrap <;> rfl

variable {s sp}

/-! ### Charge parameters and power delivery (R248, R249, R254) -/

theorem chargeParameterDiscovery_answered (mode : EnergyMode) (vmax : List Nat) (h : s.inSession sp [2] [3] = true) (hm : mode ≠ .other) :
    (chargeParameterDiscovery sp ⟨mode, vmax⟩ s).getN (k1AVehicleMaximumCurrent sp) = smallest vmax ∧
      answered s (chargeParameterDiscovery sp ⟨mode, vmax⟩ s) sp "ChargeParameterDiscoveryRes" [s.evseMax sp, 1, 1, (s.drawn : Int)] := by
  rw [chargeParameterDiscovery, if_neg hm, answerVehicle_inSession _ _ h]
  refine ⟨getN_setVehicleMax _ sp _, ?_⟩
  have hdrawn : (messaged s sp).drawn = s.drawn := congrArg Config.free (draw_messaged s sp)
  rw [evseMax_messaged, hdrawn]
  exact answered_say (by simp)

theorem vehicleFigures_bidirectional (vmax : List Nat) (vdis : Nat) (h : s.proto sp = 4) :
    s.vehicleFigures sp vmax vdis = (s.setVehicleMax sp (smallest vmax)).put (k1AVehicleMaximumDischarge sp) vdis := by
  have hkept : (s.setVehicleMax sp (smallest vmax)).proto sp = 4 :=
    (congrArg Int.toNat (get_setVehicleMax_other s sp _ _ (by simp [key_member_inj]))).trans h
  exact if_pos hkept

theorem getN_vehicleFigures (vmax : List Nat) (vdis : Nat) :
    (s.vehicleFigures sp vmax vdis).getN (k1AVehicleMaximumCurrent sp) = smallest vmax := by
  unfold State.vehicleFigures
  simp only
  split
  · exact (congrArg Int.toNat (get_put_other _ _ _ _ (by simp [key_member_inj]))).trans (getN_setVehicleMax s sp _)
  · exact getN_setVehicleMax s sp _

@[simp] theorem out_vehicleFigures (vmax : List Nat) (vdis : Nat) : (s.vehicleFigures sp vmax vdis).out = s.out := by
  unfold State.vehicleFigures
  simp only
  split <;> simp

theorem acChargeParameterDiscovery_answered (vmax : List Nat) (vdis : Nat) (h : s.inSession sp [4] [3] = true) :
    (acChargeParameterDiscovery sp vmax vdis s).getN (k1AVehicleMaximumCurrent sp) = smallest vmax ∧
      (acChargeParameterDiscovery sp vmax vdis s).get (k1AVehicleMaximumDischarge sp) = vdis ∧
      answered s (acChargeParameterDiscovery sp vmax vdis s) sp "AC_ChargeParameterDiscoveryRes" [s.evseMax sp, s.dischargeMax sp] := by
  obtain ⟨-, -, hproto, -⟩ := inSession_iff.1 h
  have h4 : (messaged s sp).proto sp = 4 := by simpa using hproto
  rw [acChargeParameterDiscovery, answerVehicle_inSession _ _ (inSession_mono h (by decide) (by decide)),
    evseMax_messaged, dischargeMax_messaged]
  refine ⟨getN_vehicleFigures vmax vdis, ?_, answered_say (by simp)⟩
  rw [get_say, vehicleFigures_bidirectional vmax vdis h4, get_put_same]

theorem acChargeLoop_answered (vmax : List Nat) (vdis : Nat) (h : s.inSession sp [3, 4] [4] = true) :
    (acChargeLoop sp vmax vdis s).getN (k1AVehicleMaximumCurrent sp) = smallest vmax ∧
      answered s (acChargeLoop sp vmax vdis s) sp "AC_ChargeLoopRes" ([s.evseMax sp, s.dischargeMax sp] ++ s.meterInfo sp) := by
  rw [acChargeLoop, answerVehicle_inSession _ _ h, evseMax_messaged, dischargeMax_messaged, meterInfo_messaged]
  exact ⟨getN_vehicleFigures vmax vdis, answered_say (by simp)⟩

theorem powerDelivery_granted (h : s.inSession sp [2, 3, 4] [3, 4] = true) (hgrant : 0 < s.evseMax sp) :
    (powerDelivery sp .start s).linkState sp = 4 ∧ answered s (powerDelivery sp .start s) sp "PowerDeliveryRes" [1] := by
  rw [powerDelivery, answerVehicle_inSession _ _ h]
  simp only [evseMax_messaged, hgrant, if_true]
  exact ⟨linkState_setLinkState _ sp 4, answered_say (by simp)⟩

theorem powerDelivery_waits (h : s.inSession sp [2, 3, 4] [3, 4] = true) (hgrant : s.evseMax sp ≤ 0) :
    (powerDelivery sp .start s).obj = s.obj ∧ answered s (powerDelivery sp .start s) sp "PowerDeliveryRes" [0] := by
  rw [powerDelivery, answerVehicle_inSession _ _ h]
  simp only [evseMax_messaged, if_neg (not_lt.2 hgrant)]
  exact ⟨messaged_obj s sp, answered_say (by simp)⟩

theorem powerDelivery_stopped (h : s.inSession sp [2, 3, 4] [3, 4] = true) (hsp : sp < s.spokes.length) :
    (powerDelivery sp .stop s).linkState sp = 3 ∧ bit ((powerDelivery sp .stop s).pedal sp).raised fStop = true ∧
      answered s (powerDelivery sp .stop s) sp "PowerDeliveryRes" [1] := by
  have hlen : sp < (messaged s sp).spokes.length := by rwa [length_spokes_messaged]
  rw [powerDelivery, answerVehicle_inSession _ _ h]
  refine ⟨linkState_setLinkState _ sp 3, ?_, answered_say (by simp)⟩
  rw [pedal_say, pedal_modVLink]
  refine raised_setLinkState _ sp 3 fStop ?_ (raised_raise _ sp fStop hlen)
  rwa [State.raise, State.modPedal, length_spokes_modSpoke]

theorem powerDelivery_renegotiated (h : s.inSession sp [2] [3, 4] = true) :
    objects s (powerDelivery sp .renegotiate s) [(k1ALinkState sp, 3)] ∧
      ((powerDelivery sp .renegotiate s).pedal sp).raised = (s.pedal sp).raised ∧
      answered s (powerDelivery sp .renegotiate s) sp "PowerDeliveryRes" [1] := by
  obtain ⟨-, -, hproto, -⟩ := inSession_iff.1 h
  have h2 : s.proto sp = 2 := by simpa using hproto
  rw [powerDelivery, answerVehicle_inSession _ _ (inSession_mono h (by decide) (by decide))]
  simp only [proto_messaged, h2, if_true]
  refine ⟨objects_puts_of_get (s := s) (t := messaged s sp) [(k1ALinkState sp, 3)] (get_messaged s sp) (by simp), ?_,
    answered_say (by simp)⟩
  rw [pedal_say, pedal_modVLink, pedal_put, pedal_messaged]

theorem powerDeliveryTimeout_due {t0 : Nat} (ht : (s.vlink sp).startAt = some t0) (hup : s.vehicleUp sp = true)
    (hlink : s.linkState sp = 3) (hgrant : s.evseMax sp = 0) (hdue : s.reached ((t0 + 480000) % ccMod) = true) :
    powerDeliveryTimeout sp s = s.modVLink sp fun l => { l with startAt := none, stopping := true } := by
  simp [powerDeliveryTimeout, ht, hup, hlink, hgrant, secTicks, hdue]

theorem sessionStop_answered (h : s.inSession sp [2, 3, 4] [3, 4] = true) : (sessionStop sp s).linkState sp = 1 ∧
    answered s (sessionStop sp s) sp "SessionStopRes" [] := by
  simp only [sessionStop, h, if_true]
  refine ⟨linkState_leaveLink 1, ?_⟩
  rw [answered, out_leaveLink, answerVehicle_inSession _ _ h]
  refine answered_say ?_
  split <;> simp

/-! ### The ends of a session (R242, R243, R248, R250) -/

theorem unsupportedMessage_closes (hup : s.vehicleUp sp = true) (htcp : (s.vlink sp).tcp = true) (hlo : 2 ≤ s.linkState sp)
    (hhi : s.linkState sp ≤ 4) : unsupportedMessage sp s =
      ((s.forRecord sp).say sp "FAILED" [(s.proto sp : Int)]).modVLink sp fun l =>
        { l with stopping := true, stopAt := some s.cc, lastMsg := s.cc } := by
  simp [unsupportedMessage, hup, htcp, hlo, hhi]

theorem abnormalLoss_lost (closed : Bool) (hup : s.vehicleUp sp = true) (hlink : s.linkState sp = 3 ∨ s.linkState sp = 4)
    (hloss : closed = true ∨ s.reached (((s.vlink sp).lastMsg + 480000) % ccMod) = true) : abnormalLoss sp closed s =
      (s.leaveLink sp (if s.pilotBcd sp = true then 1 else 0)).notice 0 0x0705 sp := by
  have hcond : (s.vehicleUp sp && (s.linkState sp = 3 || s.linkState sp = 4) &&
      (closed || s.reached (((s.vlink sp).lastMsg + secTicks 60) % ccMod))) = true := by
    simpa [hup, secTicks] using ⟨hlink, hloss⟩
  exact if_pos hcond

theorem orderlyStopTimeout_due {t0 : Nat} (ht : (s.vlink sp).stopAt = some t0) (hup : s.vehicleUp sp = true)
    (hdue : s.reached ((t0 + 40000) % ccMod) = true) : orderlyStopTimeout sp s = s.leaveLink sp 1 := by
  simp [orderlyStopTimeout, ht, hup, secTicks, hdue]

/-- A link that is left shows no protocol, no TLS and no maximum current. -/
theorem get_leaveLink_ended (st : Nat) : (s.leaveLink sp st).get (k1AProtocol sp) = 0 ∧ (s.leaveLink sp st).get (k1ATLS sp) = 0 ∧
    (s.leaveLink sp st).getN (k1AVehicleMaximumCurrent sp) = 0 := by
  have hkept : ∀ m, m ≠ 0 → (s.leaveLink sp st).get (key 0x1A sp m) = (s.endVehicle sp).get (key 0x1A sp m) := fun m hm => by
    rw [State.leaveLink, get_setLinkState_other _ _ _ _ (by simpa [key_member_inj] using hm), get_modVLink]
  refine ⟨(hkept 2 (by decide)).trans ?_, (hkept 4 (by decide)).trans ?_, (congrArg Int.toNat (hkept 9 (by decide))).trans ?_⟩
  · simp [State.endVehicle, get_put, key_member_inj]
  · simp [State.endVehicle, get_put, key_member_inj]
  · have hmax := getN_setVehicleMax s sp 0
    simpa [State.endVehicle, get_put, key_member_inj, State.getN] using hmax

theorem contractDecision_decides {sid : Nat} {v : Int} (h : s.rowPasses sid (k1AContractDecision sp) v = true) (hv : v = 1 ∨ v = 2)
    (hpending : s.getN (k1AContractPending sp) ≠ 0) :
    s.writeRow sid (k1AContractDecision sp) v (checkContract sp v) (applyContract sp v) =
      (s.writeOne sid (k1AContractDecision sp) v (applyContract sp v)).atStep5 := by
  refine writeRow_passes s sid _ v _ _ h ?_
  rcases hv with rfl | rfl <;> simp [checkContract, hpending]

theorem contractDecisionTimeout_due {t0 : Nat} (ht : (s.vlink sp).contractEnd = some t0) (hpending : s.getN (k1AContractPending sp) = 1)
    (hup : s.vehicleUp sp = true) (hdue : s.reached t0 = true) : contractDecisionTimeout sp s =
      ((s.put (k1AContractPending sp) 0).modVLink sp fun l => { l with contractEnd := none }).modVLink sp fun l =>
        { l with contractResult := 2 } := by
  simp [contractDecisionTimeout, ht, hpending, hup, hdue, applyContract]

end Charging

/-- Settles O40: each message of the charging phase is answered from the state that notes it. -/
theorem vehicleChargeRows : Obligations.VehicleChargeRows := by
  unfold Obligations.VehicleChargeRows
  refine ⟨fun s sp mode vmax h hm => ⟨_, _, rfl, chargeParameterDiscovery_answered mode vmax h hm⟩,
    fun s sp vmax vdis h => ⟨_, rfl, acChargeParameterDiscovery_answered vmax vdis h⟩,
    fun s sp dyn h => ⟨_, rfl, answerVehicle_figures h (by simp)⟩,
    fun s sp h hgrant => ⟨_, rfl, powerDelivery_granted h hgrant⟩,
    fun s sp h hgrant => ⟨_, rfl, powerDelivery_waits h hgrant⟩,
    fun s sp h hsp => ⟨_, rfl, powerDelivery_stopped h hsp⟩,
    fun s sp h => ⟨_, rfl, powerDelivery_renegotiated h⟩,
    fun s sp t0 ht hup hlink hgrant hdue => congrArg Host.Outcome.next (powerDeliveryTimeout_due ht hup hlink hgrant hdue),
    fun s sp h => ⟨_, rfl, answerVehicle_figures h (by simp)⟩,
    fun s sp vmax vdis h => ⟨_, rfl, acChargeLoop_answered vmax vdis h⟩,
    fun s sp h => ⟨_, rfl, answerVehicle_figures h rfl⟩, fun s sp h => ⟨_, rfl, answerVehicle_figures h rfl⟩,
    fun s sp h => ⟨_, rfl, sessionStop_answered h⟩⟩

/-- Settles O41, by what each end of a session does and by what a link that is left shows. -/
theorem vehicleEndRows : Obligations.VehicleEndRows := by
  unfold Obligations.VehicleEndRows
  exact ⟨fun s sp hup htcp hlo hhi => congrArg Host.Outcome.next (unsupportedMessage_closes hup htcp hlo hhi),
    fun s sp hup hlink => congrArg Host.Outcome.next (abnormalLoss_lost true hup hlink (.inl rfl)),
    fun s sp hup hlink hdue => congrArg Host.Outcome.next (abnormalLoss_lost false hup hlink (.inr hdue)),
    fun s sp t0 ht hup hdue => congrArg Host.Outcome.next (orderlyStopTimeout_due ht hup hdue),
    fun s sp st => ⟨linkState_leaveLink st, get_leaveLink_ended st⟩,
    fun s sid sp v h hv hpending => congrArg Host.Outcome.next (contractDecision_decides h hv hpending),
    fun s sp t0 ht hpending hup hdue => congrArg Host.Outcome.next (contractDecisionTimeout_due ht hpending hup hdue)⟩

end Sys2Proof.Machine
end

section
/-! The allocation period, the overload guard and the caps (O20): which branch each row takes. -/

namespace Sys2Proof.Machine

section Guard
variable {s : State} {c ph : Nat}

/-! ### The allocation period (R261) -/

theorem allocationPeriod_finished (hperiod : s.nextTick % 800 = 0) (hkept : s.peloton.abandoned = false) :
    allocationPeriod true s = s.publishPeriod := by
  simp [allocationPeriod, hperiod, hkept]

theorem lastPeriod_publishPeriod : s.publishPeriod.get k1BLastPeriod = s.nextTick := get_put_same ..

theorem allocationPeriod_late {f : Bool} (hperiod : s.nextTick % 800 = 0) (hlate : f = false ∨ s.peloton.abandoned = true) :
    allocationPeriod f s = ((s.count k1BLateComputations).noticeOpen 0 0x0803).raiseTrims.showGuard := by
  have hunfinished : (f && !s.peloton.abandoned) = false := by
    rcases hlate with h | h <;> simp [h]
  simp only [allocationPeriod, hperiod, hunfinished]
  rfl

/-! ### The stages of the guard (R268, R269) -/

theorem modify_congr {α : Type} {l : List α} {i : Nat} {f g : α → α} (h : ∀ x, l[i]? = some x → f x = g x) :
    l.modify i f = l.modify i g := by
  refine List.ext_getElem? fun j => ?_
  rw [List.getElem?_modify, List.getElem?_modify]
  by_cases hij : i = j
  · subst hij
    cases hx : l[i]? with
    | none => rfl
    | some x => simp [h x hx]
  · simp [hij]

/-- A change of a phase of the guard turns on what stands there. -/
theorem modGuard_congr {f g : GuardPhase → GuardPhase} (h : f (s.guard c ph) = g (s.guard c ph)) :
    s.modGuard c ph f = s.modGuard c ph g := by
  have hguards : s.peloton.guards.modify c (fun l => l.modify ph f) = s.peloton.guards.modify c (fun l => l.modify ph g) :=
    modify_congr fun l hl => modify_congr fun x hx => by
      have hx' : s.guard c ph = x := by simp [State.guard, List.getD_eq_getElem?_getD, hl, hx]
      rwa [hx'] at h
  simp only [State.modGuard, hguards]

theorem guardStage1_due (hc : c ≤ 8) (hph : ph < 3) (habove : 40000 ≤ (s.guard c ph).above) (hone : (s.guard c ph).one = false) :
    guardStage1 c ph s =
      ((s.modGuard c ph fun g => { g with stage := max 1 g.stage, one := true }).notice 0 0x0810 (c * 256 + ph)).showGuard := by
  simp [guardStage1, siteNum, guardValue, byDevice, hc, hph, habove, hone]

/-- Stage 2 stands, before it stops a session. -/
def State.stageTwo (s : State) (c ph : Nat) : State :=
  (s.modGuard c ph fun g => { g with stage := max 2 g.stage, lastStop := (s.guard c ph).above }).showGuard

/-- The session of the chosen spoke is asked to stop, and the spoke is marked (R269). -/
def State.stageTwoStops (s : State) (c ph sp : Nat) : State :=
  ((match s.openSlot sp with | some j => applyStop j 1 (s.stageTwo c ph) | none => s.stageTwo c ph).notice 0 0x0811 sp).guardMark c sp

section StageTwo
variable (hc : c ≤ 8) (hph : ph < 3) (habove : 80000 ≤ (s.guard c ph).above)
  (hlag : (s.guard c ph).lastStop = 0 ∨ (s.guard c ph).lastStop + s.lagTicks ≤ (s.guard c ph).above)
include hc hph habove hlag

/-- Ten seconds above the limit, and the lag since the last stop, make stage 2 due. -/
theorem guardStage2_due : guardStage2 c ph s = match s.guardChoice c ph s.peloActive with
    | some sp => s.stageTwoStops c ph sp
    | none => s.stageTwo c ph := by
  have hdue : (decide (c ≤ siteNum) && decide (ph < 3) && decide (80000 ≤ (s.guard c ph).above) &&
      (decide ((s.guard c ph).lastStop = 0) || decide ((s.guard c ph).lastStop + s.lagTicks ≤ (s.guard c ph).above))) = true := by
    simpa [siteNum, hc, hph, habove] using hlag
  have hmod : s.modGuard c ph (fun g => { g with stage := max 2 g.stage, lastStop := g.above }) =
      s.modGuard c ph (fun g => { g with stage := max 2 g.stage, lastStop := (s.guard c ph).above }) := modGuard_congr rfl
  simp only [guardStage2, hdue, Bool.not_true, Bool.false_eq_true, if_false, hmod]
  rfl

theorem guardStage2_none (hchoice : s.guardChoice c ph s.peloActive = none) : guardStage2 c ph s = s.stageTwo c ph := by
  rw [guardStage2_due hc hph habove hlag, hchoice]

theorem guardStage2_stops {sp : Nat} (hchoice : s.guardChoice c ph s.peloActive = some sp) :
    guardStage2 c ph s = s.stageTwoStops c ph sp := by
  rw [guardStage2_due hc hph habove hlag, hchoice]

end StageTwo

theorem guardOpens_opens {sp : Nat} (habove : 8000 ≤ (s.guard c ph).above125)
    (hchoice : s.guardChoice c ph (fun x => s.gateState x = 2) = some sp) : s.guardOpens c ph =
      (s.modGuard c ph fun g => { g with above125 := 0, fired := true, opened := some sp }).openContacts sp 3 := by
  simp only [State.guardOpens, if_neg (not_lt.2 habove), hchoice]

section StageThree
variable (hc : c ≤ 8) (hph : ph < 3) (hfired : (s.guard c ph).fired = true)
include hc hph hfired

theorem guardStage3_opened {sp : Nat} (hopened : (s.guard c ph).opened = some sp) : guardStage3 c ph s =
    (((s.modGuard c ph fun g => { g with stage := 3, fired := false, opened := none }).showGuard).notice 0 0x0812 sp).guardMark c sp := by
  simp [guardStage3, siteNum, hc, hph, hfired, hopened, byDevice]

theorem guardStage3_none (hopened : (s.guard c ph).opened = none) : guardStage3 c ph s =
    (s.modGuard c ph fun g => { g with stage := 3, fired := false, opened := none }).showGuard := by
  simp [guardStage3, siteNum, hc, hph, hfired, hopened]

end StageThree

theorem guardRecovery_due (hc : c ≤ 8) (hph : ph < 3) (hbelow : 480000 ≤ (s.guard c ph).below)
    (hstands : (s.guard c ph).stage ≠ 0 ∨ (s.guard c ph).trim ≠ 0) : guardRecovery c ph s =
      ((s.modGuard c ph fun g => { g with stage := 0, trim := 0, below := 0, lastStop := 0, one := false }).notice 0 0x0813
        (c * 256 + ph)).showGuard := by
  have hcond : (decide (c ≤ siteNum) && decide (ph < 3) && decide (480000 ≤ (s.guard c ph).below) &&
      (decide ((s.guard c ph).stage ≠ 0) || decide ((s.guard c ph).trim ≠ 0))) = true := by
    simpa [siteNum, hc, hph, hbelow] using hstands
  simp only [guardRecovery, hcond]
  rfl

end Guard

/-! ### Caps (R270, R271, R348) -/

section Caps
variable {s : State} {i : Nat}

theorem capActivation_due (hi : i ∈ capSlots) (hwaits : s.getN (k1BCapState i) = 1)
    (hwall : (s.chainline.events.find? fun e => e.2 = ChlEvent.capStart i) = none) (hstart : s.getN (k1BStart i) ≤ s.wallNext) :
    capActivation i s = s.activateCap i := by
  simp [capActivation, hi, hwaits, hwall, hstart]

theorem objects_activateCap : objects s (s.activateCap i) [(k1BCapState i, 2), (k1BStart i, s.stampNext)] :=
  objects_puts s _ (by simp [key_member_inj])

theorem noticed_activateCap : noticed s (s.activateCap i) ⟨0x0820, 0, s.getN (k1BCapIdentity i)⟩ := rfl

theorem capEnd_due (hi : i ∈ capSlots) (hheld : s.getN (k1BCapState i) ≠ 0) (hover : s.capOver i = true) : capEnd i s =
    ((s.notice 0 0x0821 (s.getN (k1BCapIdentity i))).freeCap i).rebound := by
  simp [capEnd, hi, hheld, hover, State.endCap, byDevice]

theorem reboundDelayEnd_due {e : Nat} (he : s.peloton.reboundEnd = some e) (hdue : s.dueNext e = true) :
    reboundDelayEnd s = { s with peloton := { s.peloton with reboundEnd := none } } := by
  simp [reboundDelayEnd, he, hdue]

end Caps

/-- Settles O20: each row takes the branch its conditions name. -/
theorem pelotonRows : Obligations.PelotonRows := by
  unfold Obligations.PelotonRows
  exact ⟨fun s hperiod hkept => ⟨_, congrArg Host.Outcome.next (allocationPeriod_finished hperiod hkept), rfl, lastPeriod_publishPeriod⟩,
    fun s f hperiod hlate => congrArg Host.Outcome.next (allocationPeriod_late hperiod hlate),
    fun s c ph hc hph habove hone => congrArg Host.Outcome.next (guardStage1_due hc hph habove hone),
    fun s c ph hc hph habove hlag hchoice => congrArg Host.Outcome.next (guardStage2_none hc hph habove hlag hchoice),
    fun s c ph sp hc hph habove hlag hchoice =>
      ⟨_, _, congrArg Host.Outcome.next (guardStage2_stops hc hph habove hlag hchoice), rfl, rfl⟩,
    fun s c ph sp habove hchoice => guardOpens_opens habove hchoice,
    fun s c ph sp hc hph hfired hopened => congrArg Host.Outcome.next (guardStage3_opened hc hph hfired hopened),
    fun s c ph hc hph hfired hopened => congrArg Host.Outcome.next (guardStage3_none hc hph hfired hopened),
    fun s c ph hc hph hbelow hstands => congrArg Host.Outcome.next (guardRecovery_due hc hph hbelow hstands),
    fun s i hi hwaits hwall hstart =>
      ⟨_, congrArg Host.Outcome.next (capActivation_due hi hwaits hwall hstart), objects_activateCap, noticed_activateCap⟩,
    fun s i hi hheld hover => congrArg Host.Outcome.next (capEnd_due hi hheld hover),
    fun s e he hdue => congrArg Host.Outcome.next (reboundDelayEnd_due he hdue)⟩

end Sys2Proof.Machine
end

section
/-! The protected switch channels (O18). What the die has turned off stays off through what safety evaluation does: `DieKeeps` says that
a change keeps what the die knows of a channel and every notice that stands. -/

namespace Sys2Proof.Machine

/-! ### What a change of the safety evaluation keeps of a channel -/

/-- What the die and the under-voltage supervision know of a channel. -/
def Switch.dieView (w : Switch) : Nat × Bool × Bool × Bool := (w.applied, w.uvOff, w.uvSeen, w.tlatch)

/-- What the die knows of channel `n` stands, and no notice is taken back. -/
structure DieKeeps (n : Nat) (s t : State) : Prop where
  view : (t.switch n).dieView = (s.switch n).dieView
  raised : s.recorder.raised ⊆ t.recorder.raised
  size : t.switches.length = s.switches.length

section Keeps
variable (s : State) (n : Nat)

theorem switch_modSwitch_same (f : Switch → Switch) (h : n < s.switches.length) : (s.modSwitch n f).switch n = f (s.switch n) := by
  simp [State.switch, State.modSwitch, List.getD_eq_getElem?_getD, h]

theorem switch_modSwitch_other (m : Nat) (f : Switch → Switch) (h : n ≠ m) : (s.modSwitch m f).switch n = s.switch n := by
  simp [State.switch, State.modSwitch, List.getD_eq_getElem?_getD, Ne.symm h]

/-- A field that a change of a channel keeps reads as before, whether or not the channel exists. -/
theorem switch_modSwitch_view {β : Type} (g : Switch → β) (m : Nat) (f : Switch → Switch) (hf : ∀ w, g (f w) = g w) :
    g ((s.modSwitch m f).switch n) = g (s.switch n) := by
  by_cases hn : n = m
  · subst hn
    by_cases hlen : n < s.switches.length
    · rw [switch_modSwitch_same s n f hlen, hf]
    · simp only [State.switch, State.modSwitch, List.modify_eq_self (by omega : s.switches.length ≤ n)]
  · rw [switch_modSwitch_other s n m f hn]

namespace DieKeeps

theorem refl : DieKeeps n s s := ⟨rfl, List.Subset.refl _, rfl⟩

variable {s n}

theorem trans {t u : State} (h : DieKeeps n s t) (h' : DieKeeps n t u) : DieKeeps n s u :=
  ⟨h'.view.trans h.view, fun _ hx => h'.raised (h.raised hx), h'.size.trans h.size⟩

theorem put {t : State} (h : DieKeeps n s t) (k : Nat) (v : Int) : DieKeeps n s (t.put k v) := ⟨h.view, h.raised, h.size⟩

theorem notice {t : State} (h : DieKeeps n s t) (i c v : Nat) : DieKeeps n s (t.notice i c v) :=
  ⟨h.view, fun _ hx => List.mem_append_left _ (h.raised hx), h.size⟩

theorem modSpoke {t : State} (h : DieKeeps n s t) (sp : Nat) (f : Spoke → Spoke) : DieKeeps n s (t.modSpoke sp f) :=
  ⟨h.view, h.raised, h.size⟩

theorem modSwitch {t : State} (h : DieKeeps n s t) (m : Nat) (f : Switch → Switch) (hf : ∀ w, (f w).dieView = w.dieView) :
    DieKeeps n s (t.modSwitch m f) :=
  ⟨(switch_modSwitch_view t n Switch.dieView m f hf).trans h.view, h.raised, (List.length_modify ..).trans h.size⟩

theorem modSwitch_other {t : State} (h : DieKeeps n s t) {m : Nat} (f : Switch → Switch) (hm : n ≠ m) :
    DieKeeps n s (t.modSwitch m f) :=
  ⟨(congrArg Switch.dieView (switch_modSwitch_other t n m f hm)).trans h.view, h.raised, (List.length_modify ..).trans h.size⟩

theorem count {t : State} (h : DieKeeps n s t) (k : Nat) : DieKeeps n s (t.count k) := by
  unfold State.count
  simp only
  split
  · exact h
  · split
    · exact ((h.put k _).put k00LastSaturatedCount _).notice byDevice _ _
    · exact h.put k _

theorem ite {t u : State} {c : Prop} [Decidable c] (ht : DieKeeps n s t) (hu : DieKeeps n s u) :
    DieKeeps n s (if c then t else u) := by
  split
  · exact ht
  · exact hu

theorem operation {t : State} (h : DieKeeps n s t) (m : Nat) : DieKeeps n s (t.operation m) :=
  ((h.count _).modSwitch m (fun w => { w with warned := true }) fun _ => rfl).notice _ _ _ |>.ite (h.count _)

theorem startProfile {t : State} (h : DieKeeps n s t) (m at_ : Nat) : DieKeeps n s (t.startProfile m at_) :=
  h.modSwitch m _ fun _ => rfl

theorem commandAt {t : State} (h : DieKeeps n s t) (m code frame : Nat) : DieKeeps n s (t.commandAt m code frame) := by
  unfold State.commandAt
  simp only
  refine h.ite (DieKeeps.ite (DieKeeps.operation ?_ m) ?_)
  all_goals
    refine DieKeeps.ite (DieKeeps.startProfile ?_ m _) ?_
    all_goals exact (h.put _ _).modSwitch m _ fun _ => rfl

theorem setGate {t : State} (h : DieKeeps n s t) (sp v : Nat) : DieKeeps n s (t.setGate sp v) := h.ite ((h.put _ _).modSpoke sp _)

theorem setLockState {t : State} (h : DieKeeps n s t) (sp v : Nat) : DieKeeps n s (t.setLockState sp v) :=
  h.ite ((h.put _ _).modSpoke sp _)

theorem showLease {t : State} (h : DieKeeps n s t) : DieKeeps n s t.showLease := (h.put _ _).ite h

theorem showSwitch {t : State} (h : DieKeeps n s t) (m : Nat) : DieKeeps n s (t.showSwitch m) := h.put _ _

theorem openContactsAt {t : State} (h : DieKeeps n s t) (sp gate frame : Nat) : DieKeeps n s (t.openContactsAt sp gate frame) := by
  have hoff := (h.commandAt (4 * sp) 0 frame).commandAt (4 * sp + 1) 0 frame
  unfold State.openContactsAt
  simp only
  refine (h.setGate sp gate).ite (((DieKeeps.modSpoke (DieKeeps.ite (DieKeeps.notice ?_ _ _ _) ?_) sp _).put _ _).setGate sp gate).showLease
  all_goals exact (hoff.count _).ite hoff

theorem interruptLock {t : State} (h : DieKeeps n s t) (sp : Nat) : DieKeeps n s (t.interruptLock sp) := by
  unfold State.interruptLock
  split
  · exact h
  · exact ((h.modSpoke sp _).commandAt _ _ _).setLockState sp 3

/-- What safety evaluation does about an under-voltage that it has seen on channel `m`. -/
theorem dropped {t : State} (h : DieKeeps n s t) (m frame : Nat) : DieKeeps n s
    (if m < 96 && m % 4 = 0 && t.gateState (chSpoke m) = 2 then t.openContactsAt (chSpoke m) 3 frame
      else if m < 96 && m % 4 = 2 then t.interruptLock (chSpoke m) else t) :=
  (h.openContactsAt _ _ _).ite ((h.interruptLock _).ite h)

/-- An under-voltage on another channel. -/
theorem seeUv_other {t : State} (h : DieKeeps n s t) (on : Bool) {m : Nat} (frame : Nat) (hm : n ≠ m) :
    DieKeeps n s (t.seeUv on m frame) := by
  have hseen := h.modSwitch_other (fun w => { w with uvSeen := true, uvClear := 0 }) hm
  exact h.ite ((h.modSwitch_other _ hm).ite ((((hseen.notice _ _ _).ite hseen).dropped m frame).showSwitch m))

end DieKeeps
end Keeps

/-! ### An under-voltage (R283, R286) -/

/-- Channel `n` is turned off in state `t` by an under-voltage; `w` is the channel before, and `on` says that its command was on. -/
structure TurnedOff (on : Bool) (n : Nat) (w : Switch) (t : State) : Prop where
  applied : (t.switch n).applied = 0
  uvOff : (t.switch n).uvOff = true
  latched : w.tlatch = true → (t.switch n).uvSeen = w.uvSeen
  seen : w.tlatch = false → (t.switch n).uvSeen = true
  noticed : w.tlatch = false → w.uvSeen = false → on = true → ⟨0x0901, 0, n⟩ ∈ t.recorder.raised

namespace TurnedOff
variable {on : Bool} {n : Nat} {s t u : State}

theorem after {w : Switch} (h : TurnedOff on n w t) (hk : DieKeeps n t u) : TurnedOff on n w u := by
  have hview := hk.view
  simp only [Switch.dieView, Prod.mk.injEq] at hview
  obtain ⟨happlied, hoff, hseen, -⟩ := hview
  exact ⟨happlied ▸ h.applied, hoff ▸ h.uvOff, fun hl => hseen ▸ h.latched hl, fun hl => hseen ▸ h.seen hl,
    fun hl hs ho => hk.raised (h.noticed hl hs ho)⟩

theorem before (h : TurnedOff on n (t.switch n) u) (hk : DieKeeps n s t) : TurnedOff on n (s.switch n) u := by
  have hview := hk.view
  simp only [Switch.dieView, Prod.mk.injEq] at hview
  obtain ⟨-, -, hseen, hlatch⟩ := hview
  exact ⟨h.applied, h.uvOff, fun hl => (h.latched (hlatch.trans hl)).trans hseen, fun hl => h.seen (hlatch.trans hl),
    fun hl hs ho => h.noticed (hlatch.trans hl) (hseen.trans hs) ho⟩

end TurnedOff

/-- The die turns channel `m` off, and safety evaluation sees it. -/
def State.dieOff (on : Bool) (t : State) (m : Nat) : State :=
  (t.modSwitch m fun w => { w with uvOff := true, applied := 0, driveRun := 0 }).seeUv on m t.nextTick

theorem turnedOff_dieOff (on : Bool) (t : State) {n : Nat} (hn : n < t.switches.length) :
    TurnedOff on n (t.switch n) (t.dieOff on n) := by
  have hoff := switch_modSwitch_same t n (fun w => { w with uvOff := true, applied := 0, driveRun := 0 }) hn
  have hlen : n < (t.modSwitch n fun w => { w with uvOff := true, applied := 0, driveRun := 0 }).switches.length := by
    simpa [State.modSwitch] using hn
  unfold State.dieOff State.seeUv
  generalize t.modSwitch n (fun w => { w with uvOff := true, applied := 0, driveRun := 0 }) = v at hoff hlen ⊢
  simp only [hoff]
  split
  · next hlatch => exact ⟨by rw [hoff], by rw [hoff], fun _ => by rw [hoff], by simp [hlatch], by simp [hlatch]⟩
  · next hlatch =>
    split
    · next hseen =>
      have hsame := switch_modSwitch_same v n (fun w => { w with uvClear := 0 }) hlen
      rw [hoff] at hsame
      exact ⟨by rw [hsame], by rw [hsame], fun h => absurd h hlatch, fun _ => by rw [hsame]; exact hseen, by simp [hseen]⟩
    · have hsame := switch_modSwitch_same v n (fun w => { w with uvSeen := true, uvClear := 0 }) hlen
      rw [hoff] at hsame
      generalize v.modSwitch n (fun w => { w with uvSeen := true, uvClear := 0 }) = x at hsame ⊢
      have hmarked : TurnedOff on n (t.switch n) (if on = true then x.notice byDevice 0x0901 n else x) := by
        split
        · refine ⟨?_, ?_, fun h => absurd h hlatch, fun _ => ?_, fun _ _ _ => List.mem_append_right _ (List.mem_singleton.2 rfl)⟩
          all_goals
            show _ = _
            simp [State.switch, State.notice] at hsame ⊢
            simp [hsame]
        · next hon => exact ⟨by rw [hsame], by rw [hsame], fun h => absurd h hlatch, fun _ => by rw [hsame], fun _ _ ho => absurd ho hon⟩
      exact hmarked.after (((DieKeeps.refl _ n).dropped n t.nextTick).showSwitch n)

theorem dieKeeps_dieOff_other (on : Bool) (t : State) {n m : Nat} (hm : n ≠ m) : DieKeeps n t (t.dieOff on m) :=
  ((DieKeeps.refl t n).modSwitch_other _ hm).seeUv_other on _ hm

/-- Every channel of a bank is turned off once; the others of the walk leave it so. -/
theorem turnedOff_each (on : Nat → Bool) {n : Nat} {l : List Nat} (hn : n ∈ l) (hl : l.Nodup) (t : State) (hlen : n < t.switches.length) :
    TurnedOff (on n) n (t.switch n) (t.each l fun t m => t.dieOff (on m) m) := by
  induction l generalizing t with
  | nil => cases hn
  | cons m l ih =>
    obtain ⟨hml, hl⟩ := List.nodup_cons.1 hl
    rcases List.mem_cons.1 hn with rfl | hn
    · exact (turnedOff_dieOff (on n) t hlen).after (each_keeps (DieKeeps n (t.dieOff (on n) n)) _ l _
        (fun u m hm hu => hu.trans (dieKeeps_dieOff_other _ _ fun e => hml (e ▸ hm))) (DieKeeps.refl _ n))
    · have hk := dieKeeps_dieOff_other (on m) t (n := n) (m := m) fun e => hml (e ▸ hn)
      exact (ih hn hl _ (hk.size ▸ hlen)).before hk

theorem nodup_switchList (s : State) : s.switchList.Nodup := by
  unfold State.switchList
  rw [List.nodup_append]
  have h24 : s.spokeCount ≤ 24 := spokes_le s.variant
  refine ⟨List.nodup_range, List.nodup_range.map fun a b h => by simpa using h, fun a ha b hb => ?_⟩
  simp only [List.mem_range, List.mem_map] at ha hb
  obtain ⟨c, -, rfl⟩ := hb
  omega

theorem underVoltage_turnsOff (s : State) {b n : Nat} (hb : b < 4) (hstate : s.getN (k1CBankState b) = 0) (hn : n ∈ s.switchList)
    (hbank : bankOf n = b) (hlen : n < s.switches.length) : TurnedOff (s.cmd n ≠ 0) n (s.switch n) (underVoltage b s) := by
  have hrun : ¬ (decide (4 ≤ b) || decide (s.getN (k1CBankState b) = 2)) = true := by simp [hstate, hb]
  have hmem : n ∈ ((s.put (k1CBankState b) 1).switchList.filter fun n => bankOf n = b) := List.mem_filter.2 ⟨hn, by simpa using hbank⟩
  have hwalk := turnedOff_each (fun m => s.cmd m ≠ 0) hmem ((nodup_switchList _).filter _) (s.put (k1CBankState b) 1) hlen
  rw [underVoltage, if_neg hrun]
  exact hwalk

/-! ### Restarts (R284) -/

section Restart
variable {s : State} {n : Nat} (hsw : s.hasSwitch n = true) (hdue : s.restartDue n = true)
include hsw hdue

theorem channelRestart_exhausted (hused : 7 ≤ ((s.switch n).restarts.filter fun t => s.since t < 480000).length) :
    channelRestart n s = (((s.modSwitch n fun w => { w with uvSeen := false }).latchSwitch n 5).noticeOpen 0 0x0903) := by
  have hmax : restartMax ≤ ((s.switch n).restarts.filter fun t => s.since t < restartWindow).length := hused
  simp only [channelRestart, hsw, hdue, Bool.not_true, Bool.or_self, Bool.false_eq_true, if_false, if_pos hmax]
  rfl

/-- The channel is switched on again, and the frame that has not been sent carries its command. -/
def State.restarted (s : State) (n : Nat) : State :=
  let t := s.modSwitch n fun w =>
    { w with uvSeen := false, restarts := s.cc :: (s.switch n).restarts.filter fun t => s.since t < restartWindow,
             changedAt := s.frameOpen n, onSince := some ((s.frameOpen n + 1) % ccMod) }
  if s.driveOff then t else t.resend n (s.cmd n)

theorem channelRestart_restarts (hused : ((s.switch n).restarts.filter fun t => s.since t < 480000).length < 7) :
    channelRestart n s = (((((s.restarted n).put (k1CRestartsAvailable n)
      (restartMax - ((s.switch n).restarts.filter fun t => s.since t < restartWindow).length - 1 : Nat)).operation n).startProfile n
        ((s.frameOpen n + 1) % ccMod)).showSwitch n).noticeOpen 0 0x0902 := by
  have hmax : ¬ restartMax ≤ ((s.switch n).restarts.filter fun t => s.since t < restartWindow).length := not_le.2 hused
  simp only [channelRestart, hsw, hdue, Bool.not_true, Bool.or_self, Bool.false_eq_true, if_false, if_neg hmax]
  rfl

end Restart

section Restarted
variable (s : State) (n : Nat)

@[simp] theorem get_startProfile (m at_ k : Nat) : (s.startProfile m at_).get k = s.get k := rfl

theorem get_operation_other (k : Nat) (hk : k ≠ k1COperations n) (hsat : k ≠ k00LastSaturatedCount) :
    (s.operation n).get k = s.get k := by
  unfold State.operation
  simp only
  split
  · exact get_count_other s _ _ hk hsat
  · exact get_count_other s _ _ hk hsat

theorem dieLink_noticeOpen (d : Die) (i c : Nat) : (s.noticeOpen i c).dieLink d = s.dieLink d := by cases d <;> rfl
theorem dieLink_startProfile (d : Die) (at_ : Nat) : (s.startProfile n at_).dieLink d = s.dieLink d := by cases d <;> rfl
theorem dieLink_showSwitch (d : Die) : (s.showSwitch n).dieLink d = s.dieLink d := dieLink_put s d _ _

@[simp] theorem dieLink_operation (d : Die) : (s.operation n).dieLink d = s.dieLink d := by
  unfold State.operation
  simp only
  split
  · exact (dieLink_notice _ d _ _ _).trans (dieLink_count s d _)
  · exact dieLink_count s d _

theorem get_restarted (k : Nat) : (s.restarted n).get k = s.get k := by
  unfold State.restarted
  simp only
  split
  · rfl
  · exact get_modDie _ _ _ _

theorem outgoing_restarted (hdrive : s.driveOff = false) : ((s.restarted n).dieLink (chDie n)).outgoing =
    (s.dieLink (chDie n)).outgoing.map fun f => frameWith f n (s.cmd n) := by
  simp only [State.restarted, hdrive, Bool.false_eq_true, if_false, State.resend, dieLink_modDie_same]
  rfl

variable {s n}

/-- What a restart leaves: the cause of a latch, the restarts that remain, and the frame that carries the command. -/
theorem channelRestart_leaves (hsw : s.hasSwitch n = true) (hdue : s.restartDue n = true)
    (hused : ((s.switch n).restarts.filter fun t => s.since t < 480000).length < 7) :
    (∃ u : State, channelRestart n s = u.noticeOpen 0 0x0902) ∧
    (channelRestart n s).getN (k1CLatchCause n) = s.getN (k1CLatchCause n) ∧
    (channelRestart n s).getN (k1CRestartsAvailable n) = 6 - ((s.switch n).restarts.filter fun x => s.since x < 480000).length ∧
    (s.driveOff = false → ((channelRestart n s).dieLink (chDie n)).outgoing =
      (s.dieLink (chDie n)).outgoing.map fun f => frameWith f n (s.cmd n)) := by
  have hkeep : ∀ (u : State) at_ m, m < 256 → m ≠ 1 → m ≠ 9 →
      ((((u.operation n).startProfile n at_).showSwitch n).noticeOpen 0 0x0902).get (key 0x1C n m) = u.get (key 0x1C n m) :=
    fun u at_ m hm h1 h9 => by
      have hsat : key 0x1C n m ≠ k00LastSaturatedCount := by
        simp only [key]
        omega
      rw [get_noticeOpen, State.showSwitch, get_put_other _ _ _ _ (key_ne_of_member _ _ _ _ hm (by decide) h1), get_startProfile,
        get_operation_other _ _ _ (key_ne_of_member _ _ _ _ hm (by decide) h9) hsat]
  rw [channelRestart_restarts hsw hdue hused]
  refine ⟨⟨_, rfl⟩, congrArg Int.toNat ?_, (congrArg Int.toNat ?_).trans (Int.toNat_natCast _), fun hdrive => ?_⟩
  · rw [hkeep _ _ 2 (by decide) (by decide) (by decide), get_put_other _ _ _ _ (key_ne_of_member _ _ _ _ (by decide) (by decide)
      (by decide)), get_restarted]
  · rw [hkeep _ _ 8 (by decide) (by decide) (by decide), get_put_same]
    exact congrArg Nat.cast (Nat.sub_right_comm 7 _ 1)
  · rw [← outgoing_restarted s n hdrive]
    rw [dieLink_noticeOpen, dieLink_showSwitch, dieLink_startProfile, dieLink_operation, dieLink_put]

end Restarted

/-! ### Latches, off-pulses and commands (R285-R288, R297) -/

section Latches
variable {s : State} {n : Nat}

theorem thermalLatch_latches (hsw : s.hasSwitch n = true) (hfree : (s.switch n).tlatch = false) : thermalLatch n s =
    (((s.notUv n).modSwitch n fun w => { w with tlatch := true, applied := 0, driveRun := 0 }).latchSwitch n 2).noticeOpen 0 0x0911 := by
  simp only [thermalLatch, hsw, hfree, Bool.not_true, Bool.or_self, Bool.false_eq_true, if_false]
  rfl

/-- The clear of a latch is refused while what latched it stands. -/
theorem checkClearLatch_eq : checkClearLatch n 1 s =
    if s.latchCause n = 2 ∧ s.flag (k1CHot n) = true ∨ s.latchCause n = 3 ∧ s.rbOut n = true then stNotNow else stOk := by
  by_cases hhot : s.latchCause n = 2 ∧ s.flag (k1CHot n) = true <;>
    by_cases hstuck : s.latchCause n = 3 ∧ s.rbOut n = true <;>
    simp [checkClearLatch, hhot, hstuck]

theorem offPulse_due (hsw : s.hasSwitch n = true) (hreq : (s.switch n).pulseReq = true) (hcc : s.cc % 8000 = pulseOffset n)
    (happ : s.pulseApplied n = true) : offPulse n s =
      s.modSwitch n fun w => { w with pulseAt := some s.cc, lastPulse := some s.cc, pulseFirst := false, pulseReq := false } := by
  simp [offPulse, hsw, hreq, hcc, happ]

theorem checkHxCommand_listed {v : Int} (h : v = 0 ∨ v = 1) : checkHxCommand v = stOk := by
  rcases h with rfl | rfl <;> rfl

variable {sid : Nat} (hpass : s.rowPasses sid (k1CClearLatch n) 1 = true)
include hpass

theorem clearLatch_clears (hhot : s.latchCause n = 2 → s.flag (k1CHot n) = false) (hstuck : s.latchCause n = 3 → s.rbOut n = false) :
    s.writeRow sid (k1CClearLatch n) 1 (checkClearLatch n 1) (applyClearLatch n 1) =
      (s.writeOne sid (k1CClearLatch n) 1 (applyClearLatch n 1)).atStep5 := by
  refine writeRow_passes s sid _ 1 _ _ hpass (checkClearLatch_eq.trans (if_neg ?_))
  rintro (⟨hc, hh⟩ | ⟨hc, hh⟩)
  · simp [hhot hc] at hh
  · simp [hstuck hc] at hh

theorem clearLatch_refused (h : s.latchCause n = 2 ∧ s.flag (k1CHot n) = true ∨ s.latchCause n = 3 ∧ s.rbOut n = true) :
    s.writeRow sid (k1CClearLatch n) 1 (checkClearLatch n 1) (applyClearLatch n 1) =
      (s.answer sid (k1CClearLatch n) stNotNow).atStep5 :=
  writeRow_answers s sid _ 1 _ _ stNotNow hpass (checkClearLatch_eq.trans (if_pos h)) (by decide) (by decide)

end Latches

/-- Settles O18: the walk of an under-voltage turns every channel of its bank off and keeps it so; the other rows take the branch
their conditions name. -/
theorem switchRows : Obligations.SwitchRows := by
  unfold Obligations.SwitchRows
  refine ⟨fun s b n hb hstate hn hbank hlen => ?_,
    fun s n hsw hdue hused => congrArg Host.Outcome.next (channelRestart_exhausted hsw hdue hused),
    fun s n hsw hdue hused => ⟨_, rfl, channelRestart_leaves hsw hdue hused⟩,
    fun s n hsw hfree => congrArg Host.Outcome.next (thermalLatch_latches hsw hfree),
    fun s sid n hpass hhot hstuck => congrArg Host.Outcome.next (clearLatch_clears hpass hhot hstuck),
    fun s sid n hpass hc hh => congrArg Host.Outcome.next (clearLatch_refused hpass (.inl ⟨hc, hh⟩)),
    fun s sid n hpass hc hh => congrArg Host.Outcome.next (clearLatch_refused hpass (.inr ⟨hc, hh⟩)),
    fun s n hsw hreq hcc happ => congrArg Host.Outcome.next (offPulse_due hsw hreq hcc happ),
    fun s sid h v hpass hv => congrArg Host.Outcome.next (writeRow_passes s sid _ v _ _ hpass (checkHxCommand_listed hv))⟩
  obtain ⟨happlied, hoff, hlatched, hseen, hnoticed⟩ := underVoltage_turnsOff s hb hstate hn hbank hlen
  exact ⟨_, rfl, happlied, hoff, hlatched, fun hl => ⟨hseen hl, fun hs hc => hnoticed hl hs (by simpa using hc)⟩⟩

end Sys2Proof.Machine
end

section
/-! The lock strokes and the weld check (O19): which branch each row takes. -/

namespace Sys2Proof.Machine

section Lock
variable {s : State} {sp sink start : Nat}

/-! ### The lock strokes (R293, R294) -/

theorem strokeEnd_due (hphase : (s.spoke sp).lock.phase = .stroke sink start)
    (hdue : s.dueNext ((start + 8 * s.getN (k1CStrokeTime (4 * sp + 2))) % ccMod) = true) : strokeEnd sp s =
      (s.modLock sp fun l => { l with phase := .brake sink s.nextTick }).commandAt (4 * sp + 2) 4 s.nextTick := by
  simp [strokeEnd, hphase, msTicks, hdue]

/-- The brake phase is over: LK is off, and the lock rests. -/
def State.brakeOver (s : State) (sp : Nat) : State :=
  (s.modLock sp fun l => { l with phase := .idle, endedAt := some s.cc, lostRun := 0 }).command (4 * sp + 2) 0

section Brake
variable (hphase : (s.spoke sp).lock.phase = .brake sink start) (hdue : s.reached ((start + 81) % ccMod) = true)
include hphase hdue

theorem brakeEnd_due : brakeEnd sp s =
    if 8 ≤ (s.spoke sp).lock.received && (s.spoke sp).lock.good = (s.spoke sp).lock.received then
      (s.brakeOver sp).inFrame sp fun t => t.setLockState sp (if sink = 1 then 1 else 0)
    else ((s.brakeOver sp).inFrame sp fun t => t.setLockState sp 3).notice 0 0x0950 (4 * sp + 2) := by
  have hreached : s.reached ((start + brakeTicks + 1) % ccMod) = true := hdue
  simp only [brakeEnd, hphase, hreached]
  rfl

theorem brakeEnd_decides (hreceived : 8 ≤ (s.spoke sp).lock.received) (hgood : (s.spoke sp).lock.good = (s.spoke sp).lock.received) :
    brakeEnd sp s = (s.brakeOver sp).inFrame sp fun t => t.setLockState sp (if sink = 1 then 1 else 0) := by
  rw [brakeEnd_due hphase hdue, if_pos (by simp [hreceived, hgood])]

theorem brakeEnd_unknown (hreceived : (s.spoke sp).lock.received < 8) :
    brakeEnd sp s = ((s.brakeOver sp).inFrame sp fun t => t.setLockState sp 3).notice 0 0x0950 (4 * sp + 2) := by
  rw [brakeEnd_due hphase hdue, if_neg (by simp [hreceived])]

end Brake

theorem lkOvertimeStop_latches (hsp : sp < s.spokeCount) (hovt : (s.switch (4 * sp + 2)).ovt = true)
    (hcause : s.latchCause (4 * sp + 2) ≠ 6) :
    lkOvertimeStop sp s = (s.latchSwitch (4 * sp + 2) 6).noticeOpen 0 0x0952 := by
  simp [lkOvertimeStop, hsp, hovt, hcause, byDevice]

/-! ### The weld check (R295, R296) -/

theorem weldLockout_due {w : Nat} (hfrom : (s.spoke sp).gate.weldFrom = some w) (hsp : sp < s.spokeCount)
    (hcheck : s.getN (k1CWeldCheck (4 * sp)) = 1) (hlate : 801 ≤ s.since w) (hreached : s.reached w = true) : weldLockout sp s =
      (((((s.put (k1CWeldCheck (4 * sp)) 2).modGate sp fun g => { g with weldFrom := none }).inFrame sp fun u =>
        (u.setCause sp 11 true).setGate sp 5).notice 0 0x0940 sp).count k1CWeldedLockouts) := by
  have hcond : (decide (sp < s.spokeCount) && decide (s.getN (k1CWeldCheck (4 * sp)) = 1) && decide (weldLimit + 1 ≤ s.since w) &&
      s.reached w) = true := by
    simp [hsp, hcheck, weldLimit, hlate, hreached]
  simp only [weldLockout, hfrom, hcond]
  rfl

theorem clearWeldLockout_accepted {sid : Nat} (hpass : s.rowPasses sid (k1CClearWeldLockout (4 * sp)) 1 = true)
    (hsense : s.getN (k18WeldSenseState sp) = 0) :
    s.writeRow sid (k1CClearWeldLockout (4 * sp)) 1 (checkClearWeld sp 1) (applyClearWeld sid sp 1) =
      (s.writeOne sid (k1CClearWeldLockout (4 * sp)) 1 (applyClearWeld sid sp 1)).atStep5 :=
  writeRow_passes s sid _ 1 _ _ hpass (by simp [checkClearWeld, hsense])

theorem applyClearWeld_clears (sid : Nat) (hcheck : s.getN (k1CWeldCheck (4 * sp)) = 2) : applyClearWeld sid sp 1 s =
    ((s.put (k1CWeldCheck (4 * sp)) 0).inFrame sp fun u => u.setCause sp 11 false).noticeOpen sid 0x0941 := by
  simp [applyClearWeld, hcheck, cWelded]

end Lock

/-- Settles O19: each row takes the branch its conditions name. -/
theorem lockRows : Obligations.LockRows := by
  unfold Obligations.LockRows
  exact ⟨fun s sp sink start hphase hdue => congrArg Host.Outcome.next (strokeEnd_due hphase hdue),
    fun s sp sink start hphase hdue hreceived hgood => congrArg Host.Outcome.next (brakeEnd_decides hphase hdue hreceived hgood),
    fun s sp sink start hphase hdue hreceived => congrArg Host.Outcome.next (brakeEnd_unknown hphase hdue hreceived),
    fun s sp hsp hovt hcause => congrArg Host.Outcome.next (lkOvertimeStop_latches hsp hovt hcause),
    fun s sp w hfrom hsp hcheck hlate hreached => congrArg Host.Outcome.next (weldLockout_due hfrom hsp hcheck hlate hreached),
    fun s sid sp hpass hsense => congrArg Host.Outcome.next (clearWeldLockout_accepted hpass hsense),
    fun s sid sp hcheck => applyClearWeld_clears sid hcheck⟩

end Sys2Proof.Machine
end

section
/-! The two-channel safety functions, the supervision and the clear of a lockout (O13-O15). What a cause word holds after a change is said
once, and a decision of the running frame leaves what its effect has made of the safety members. -/

namespace Sys2Proof.Machine

/-! ### A bit of a word -/

theorem bit_setBit (w m n : Nat) (b : Bool) : bit (setBit w m b) n = if n = m then b else bit w n := by
  cases b with
  | true =>
    split
    · next h => exact h ▸ bit_setBit_same w n
    · next h => exact bit_setBit_true_other w h
  | false =>
    by_cases hclear : bit w m = false
    · have hsame : setBit w m false = w := if_pos hclear
      rw [hsame]
      split
      · next h => exact h ▸ hclear
      · rfl
    · have hset : bit w m = true := by simpa using hclear
      have hle : 2 ^ m ≤ w := by
        by_contra hlt
        simp [bit, Nat.div_eq_of_lt (not_le.1 hlt)] at hset
      obtain ⟨v, rfl⟩ := Nat.exists_eq_add_of_le hle
      have hv : setBit (2 ^ m + v) m false = v := by
        simp [setBit, hset]
      have hnext : (2 ^ m + v) / 2 ^ m = v / 2 ^ m + 1 := Nat.add_div_left v (Nat.two_pow_pos m)
      have hvm : bit v m = false := by
        simp only [bit, hnext, decide_eq_true_eq, decide_eq_false_iff_not] at hset ⊢
        omega
      rw [hv]
      split
      · next h => exact h ▸ hvm
      · next h =>
        have hback : setBit v m true = 2 ^ m + v := by simp [setBit, hvm, Nat.add_comm]
        rw [← hback, bit_setBit_true_other v h]

theorem ne_zero_of_bit {w n : Nat} (h : bit w n = true) : w ≠ 0 := by
  rintro rfl
  simp [bit] at h

theorem safetyState_ne_zero {w : Nat} (h : w ≠ 0) : safetyState w ≠ 0 := by
  unfold safetyState
  rw [if_pos h]
  split <;> decide

/-! ### A cause word (R299) -/

section Causes
variable (s : State) (sp : Nat)

theorem get_setCauses_causes (w : Nat) : (s.setCauses sp w).causes sp = w := by
  have hne : k1DCauses (16 + sp) ≠ k1DSafetyState (16 + sp) := by simp [key_member_inj]
  unfold State.setCauses State.causes State.getN
  simp only
  split
  · rw [get_put_other _ _ _ _ hne, get_put_same, Int.toNat_natCast]
  · split
    · rw [get_trigger, get_raise, get_put_other _ _ _ _ hne, get_put_same, Int.toNat_natCast]
    · rw [get_raise, get_put_other _ _ _ _ hne, get_put_same, Int.toNat_natCast]

theorem safety_setCauses (w : Nat) : (s.setCauses sp w).safety sp = safetyState w := by
  unfold State.setCauses
  simp only
  split
  · simp [State.safety, State.getN, get_put_same]
  · split <;> simp [State.safety, State.getN, get_put_same]

theorem get_setCauses_other (w k : Nat) (hc : k ≠ k1DCauses (16 + sp)) (hs : k ≠ k1DSafetyState (16 + sp)) :
    (s.setCauses sp w).get k = s.get k := by
  have ht : ((s.put (k1DCauses (16 + sp)) w).put (k1DSafetyState (16 + sp)) (safetyState w)).get k = s.get k :=
    (get_put_other _ _ _ _ hs).trans (get_put_other _ _ _ _ hc)
  unfold State.setCauses
  simp only
  split
  · exact ht
  · split
    · rw [get_trigger, get_raise, ht]
    · rw [get_raise, ht]

theorem causes_setCause (b : Nat) (on : Bool) : (s.setCause sp b on).causes sp = setBit (s.causes sp) b on :=
  get_setCauses_causes s sp _

theorem recorder_setCauses (w : Nat) : (s.setCauses sp w).recorder = s.recorder := by
  have h := congrArg State.recorder (setCauses_rest s sp w)
  exact h

theorem out_setCauses (w : Nat) : (s.setCauses sp w).out = s.out := by
  have h := congrArg State.out (setCauses_rest s sp w)
  exact h

theorem causes_setCause_other (j b : Nat) (on : Bool) (h : j ≠ sp) : (s.setCause sp b on).causes j = s.causes j := by
  refine congrArg Int.toNat (get_setCauses_other s sp _ _ ?_ ?_) <;> simp only [key] <;> omega

theorem safety_setCause_other (j b : Nat) (on : Bool) (h : j ≠ sp) : (s.setCause sp b on).safety j = s.safety j := by
  refine congrArg Int.toNat (get_setCauses_other s sp _ _ ?_ ?_) <;> simp only [key] <;> omega

/-- A spoke with a cause bit that is set does not read safety state 0. -/
theorem safety_setCause_true (b : Nat) : (s.setCause sp b true).safety sp ≠ 0 := by
  rw [State.setCause, safety_setCauses]
  exact safetyState_ne_zero (ne_zero_of_bit (bit_setBit_same _ _))

/-- A walk reaches what one of its steps makes and the others keep. -/
theorem each_reaches {α : Type} (P : State → Prop) {l : List α} {f : State → α → State} {a : α} (ha : a ∈ l)
    (hset : ∀ t, P (f t a)) (hkeep : ∀ t b, P t → P (f t b)) : P (s.each l f) := by
  obtain ⟨l, m, rfl⟩ := List.append_of_mem ha
  rw [each_append, each_cons]
  exact each_keeps P _ m f (fun t b _ ht => hkeep t b ht) (hset _)

theorem zoneCause_stops {f : Nat} (hsp : sp < s.spokeCount) (hzone : bit (s.getN (k1DZone f)) sp = true) :
    bit ((s.zoneCause f).causes sp) f = true ∧ (s.zoneCause f).safety sp ≠ 0 := by
  refine each_reaches s (fun t => bit (t.causes sp) f = true ∧ t.safety sp ≠ 0) (a := sp) ?_ ?_ ?_
  · exact List.mem_filter.2 ⟨List.mem_range.2 hsp, hzone⟩
  · exact fun t => ⟨by rw [causes_setCause, bit_setBit_same], safety_setCause_true t sp f⟩
  · intro t b ht
    by_cases hb : sp = b
    · subst hb
      exact ⟨by rw [causes_setCause, bit_setBit_same], safety_setCause_true t sp f⟩
    · rwa [causes_setCause_other t b sp f true hb, safety_setCause_other t b sp f true hb]

end Causes

/-! ### The rows of the functions (R302-R306) -/

section Functions
variable {s : State} {f : Nat}

theorem functionDemand_demanded (hf : f < 4) (hdemand : s.demands f = true) (hstate : s.fnState f = 0) : functionDemand f s =
    (((s.put (k1DFunctionState f) 1).count (k1DDemands f)).notice 0 0x0A01 f).zoneCause f := by
  simp [functionDemand, hf, hdemand, hstate, byDevice]

theorem functionClear_clears (hf : f < 4) (hrun : 8 ≤ (s.fn f).clearRun) (hstate : s.fnState f = 1)
    (hmode : s.getN (k1DRestartMode f) ≠ 1) : functionClear f s =
      ((s.put (k1DFunctionState f) 0).modFn f fun x => { x with resetOk := false }).each s.spokeList fun t sp => t.setCause sp f false := by
  simp only [functionClear, clearTicks, hf.not_ge, hrun.not_gt, hstate, hmode, decide_false, decide_true, Bool.false_and, Bool.true_or,
    Bool.not_true, Bool.or_self, Bool.false_eq_true, if_false]
  rfl

theorem functionClear_awaits (hf : f < 4) (hrun : 8 ≤ (s.fn f).clearRun) (hstate : s.fnState f = 1)
    (hmode : s.getN (k1DRestartMode f) = 1) (hreset : (s.fn f).resetOk = false) :
    functionClear f s = s.put (k1DFunctionState f) 4 := by
  simp only [functionClear, clearTicks, hf.not_ge, hrun.not_gt, hstate, hmode, hreset, decide_false, decide_true, Bool.true_or,
    Bool.not_true, Bool.not_false, Bool.and_self, Bool.or_self, Bool.false_eq_true, if_false, if_true]

theorem functionReset_accepted {sid : Nat} (hpass : s.rowPasses sid (k1DReset f) 1 = true) (ha : (s.fn f).a = true)
    (hb : (s.fn f).b = true) : s.writeRow sid (k1DReset f) 1 (checkFunctionReset f 1) (applyFunctionReset f 1) =
      (s.writeOne sid (k1DReset f) 1 fun u => u.modFn f fun x => { x with resetOk := true }).atStep5 :=
  writeRow_passes s sid _ 1 _ _ hpass (by simp [checkFunctionReset, ha, hb])

theorem functionReset_refused {sid : Nat} (hpass : s.rowPasses sid (k1DReset f) 1 = true) (hab : ((s.fn f).a && (s.fn f).b) = false) :
    s.writeRow sid (k1DReset f) 1 (checkFunctionReset f 1) (applyFunctionReset f 1) = (s.answer sid (k1DReset f) stNotNow).atStep5 :=
  writeRow_answers s sid _ 1 _ _ stNotNow hpass (by simp only [checkFunctionReset, hab]; rfl) (by decide) (by decide)

theorem discrepancy_found (hf : f < 4) (hstate : s.fnState f ≠ 2)
    (htime : msTicks (s.getN (k1DDiscrepancyTime f)) < (s.fn f).disagree) :
    discrepancy f s = ((s.put (k1DFunctionState f) 2).noticeOpen 0 0x0A02).zoneCause f := by
  simp [discrepancy, hf, hstate, htime, byDevice]

end Functions

/-- Settles O13: the rows take the branch their conditions name, and the walk of a zone stops each of its spokes. -/
theorem safetyFunctionRows : Obligations.SafetyFunctionRows := by
  unfold Obligations.SafetyFunctionRows
  exact ⟨fun s f hf hdemand hstate => congrArg Host.Outcome.next (functionDemand_demanded hf hdemand hstate),
    fun s f hf hrun hstate hmode => congrArg Host.Outcome.next (functionClear_clears hf hrun hstate hmode),
    fun s f hf hrun hstate hmode hreset => congrArg Host.Outcome.next (functionClear_awaits hf hrun hstate hmode hreset),
    fun s sid f hpass ha hb => congrArg Host.Outcome.next (functionReset_accepted hpass ha hb),
    fun s sid f hpass hab => congrArg Host.Outcome.next (functionReset_refused hpass hab),
    fun s f hf hstate htime => congrArg Host.Outcome.next (discrepancy_found hf hstate htime),
    fun s f sp _ hsp hzone => zoneCause_stops s sp hsp hzone⟩

/-! ### A decision of the running frame (R57, R227) -/

section InFrame
variable (s : State)

theorem get_captureTrigger_high (source at_ k : Nat) (h : key 4 0 0 ≤ k) : (s.captureTrigger source at_).get k = s.get k := by
  have hne : ∀ m, m < 256 → k ≠ key 3 0 m := fun m hm => by
    simp only [key] at h ⊢
    omega
  have hsat : k ≠ k00LastSaturatedCount := by
    simp only [key] at h ⊢
    omega
  unfold State.captureTrigger
  split
  · rfl
  · split
    · exact get_count_other s _ _ (hne _ (by decide)) hsat
    · refine get_puts_other s [(k03TriggerCC, (at_ : Int)), (k03CaptureState, 1)] k fun p hp => ?_
      simp only [List.mem_cons, List.not_mem_nil, or_false] at hp
      rcases hp with rfl | rfl
      · exact (hne _ (by decide)).symm
      · exact (hne _ (by decide)).symm

theorem raised_count (k : Nat) : s.recorder.raised ⊆ (s.count k).recorder.raised := by
  unfold State.count
  simp only
  split
  · exact List.Subset.refl _
  · split
    · exact List.subset_append_left ..
    · exact List.Subset.refl _

theorem raised_captureTrigger (source at_ : Nat) : s.recorder.raised ⊆ (s.captureTrigger source at_).recorder.raised := by
  unfold State.captureTrigger
  split
  · exact List.Subset.refl _
  · split
    · exact raised_count s _
    · exact List.Subset.refl _

theorem out_count (k : Nat) : (s.count k).out = s.out := by
  have h := congrArg State.out (count_rest s k)
  exact h

theorem out_captureTrigger (source at_ : Nat) : (s.captureTrigger source at_).out = s.out := by
  unfold State.captureTrigger
  split
  · rfl
  · split
    · exact out_count s _
    · rfl

/-- What the inputs of a sequencer take over changes the sequencer alone. -/
theorem publishInputs_cases (was : State) (sp : Nat) :
    s.publishInputs was sp = s ∨ ∃ f, s.publishInputs was sp = s.modPedal sp f := by
  unfold State.publishInputs
  extract_lets gate safe lock show_ flags
  split
  · exact .inl rfl
  · exact .inr ⟨_, rfl⟩

theorem get_publishInputs (was : State) (sp k : Nat) : (s.publishInputs was sp).get k = s.get k := by
  rcases publishInputs_cases s was sp with h | ⟨f, h⟩ <;> rw [h]
  rfl

theorem recorder_publishInputs (was : State) (sp : Nat) : (s.publishInputs was sp).recorder = s.recorder := by
  rcases publishInputs_cases s was sp with h | ⟨f, h⟩ <;> rw [h]
  rfl

theorem out_publishInputs (was : State) (sp : Nat) : (s.publishInputs was sp).out = s.out := by
  rcases publishInputs_cases s was sp with h | ⟨f, h⟩ <;> rw [h]
  rfl

/-- The state in which a decision of the running frame is made: its own triggers alone are to act. -/
def State.frameStart : State := { s with pannier := { s.pannier with triggers := [] } }

variable (sp : Nat) (f : State → State)

/-- The objects that a decision of the running frame leaves, but for those of the capture ring. -/
theorem get_inFrame (k : Nat) (h : key 4 0 0 ≤ k) : (s.inFrame sp f).get k = (f s.frameStart).get k :=
  (get_publishInputs _ s sp k).trans
    (each_view (fun t => t.get k) _ _ _ fun t b _ => get_captureTrigger_high t b s.cc k h)

theorem raised_inFrame : (f s.frameStart).recorder.raised ⊆ (s.inFrame sp f).recorder.raised := by
  unfold State.inFrame
  simp only
  rw [recorder_publishInputs]
  exact each_keeps (fun t => (f s.frameStart).recorder.raised ⊆ t.recorder.raised) _ _ _
    (fun t b _ ht x hx => raised_captureTrigger t b s.cc (ht hx)) (List.Subset.refl _)

theorem out_inFrame : (s.inFrame sp f).out = (f s.frameStart).out :=
  (out_publishInputs _ s sp).trans (each_view State.out _ _ _ fun t b _ => out_captureTrigger t b s.cc)

theorem causes_inFrame (j : Nat) : (s.inFrame sp f).causes j = (f s.frameStart).causes j :=
  congrArg Int.toNat (get_inFrame s sp f _ (by simp only [key]; omega))

end InFrame

end Sys2Proof.Machine
end

section
/-! Residual trips, cross-checks, earth faults and the clears (O14, O15). -/

namespace Sys2Proof.Machine

section Decisions
variable (s : State) (sp : Nat)

/-- A count of class 1Dh leaves the cause words. -/
theorem causes_count {i m : Nat} (hm : m < 256) (h1 : m ≠ 1) : (s.count (key 0x1D i m)).causes sp = s.causes sp :=
  congrArg Int.toNat (get_count_other s _ _ (key_ne_of_member _ _ _ _ (by decide) hm h1.symm) (by simp only [key]; omega))

theorem bit_causes_setCause (b : Nat) (on : Bool) : bit ((s.setCause sp b on).causes sp) b = on := by
  rw [causes_setCause, bit_setBit, if_pos rfl]

theorem get_setCause_member (b m : Nat) (on : Bool) (hm : m < 256) (h0 : m ≠ 0) (h1 : m ≠ 1) :
    (s.setCause sp b on).get (key 0x1D (16 + sp) m) = s.get (key 0x1D (16 + sp) m) :=
  get_setCause_other s sp b on _ (key_ne_of_member _ _ _ _ hm (by decide) h1) (key_ne_of_member _ _ _ _ hm (by decide) h0)

/-- A count of class 1Dh grows by one beside a cause bit that is set. -/
theorem get_count_beside {u : State} {m : Nat} (hu : u.get (key 0x1D (16 + sp) m) = s.get (key 0x1D (16 + sp) m)) :
    (u.count (key 0x1D (16 + sp) m)).get (key 0x1D (16 + sp) m) = oneMore s (key 0x1D (16 + sp) m) := by
  rw [get_count u _ (by simp only [key]; omega)]
  simp only [oneMore, hu]

theorem recorder_trigger (n : Nat) : (s.trigger n).recorder = s.recorder := by
  have h := congrArg State.recorder (trigger_rest s n)
  exact h

end Decisions

/-! ### Residual trips and cross-checks (R308, R309) -/

section Trips
variable {s : State} {sp pt : Nat}

/-- The trip of a point locks its spoke out. -/
def State.pointLatched (u : State) (sp pt : Nat) : State :=
  (u.modResidual sp fun r => { r with tripped := r.tripped.set pt true }).setCause sp 8 true

/-- What a residual trip does in its frame. -/
def State.tripped (sp pt : Nat) (u : State) : State :=
  (((u.pointLatched sp pt).notice 0 0x0A10 (sp * 256 + pt)).count (k1DResidualTrips (16 + sp))).trigger 1

theorem residualTrip_trips (hsp : sp < s.spokeCount) (hpt : pt < 5) (hdue : s.pointDue sp pt = true)
    (hfirst : (s.resid sp).tripped.getD pt false = false) : residualTrip sp pt s = s.inFrame sp (State.tripped sp pt) := by
  simp only [residualTrip, hsp.not_ge, hpt.not_ge, hdue, hfirst, decide_false, Bool.not_true, Bool.or_self, Bool.false_eq_true, if_false]
  rfl

theorem residualTrip_idle (h : s.pointDue sp pt = false ∨ (s.resid sp).tripped.getD pt false = true) : residualTrip sp pt s = s := by
  refine if_pos ?_
  rcases h with h | h
  · rw [h]
    simp
  · rw [h]
    simp

theorem causes_tripped : bit ((s.inFrame sp (State.tripped sp pt)).causes sp) 8 = true := by
  have hcauses : (State.tripped sp pt s.frameStart).causes sp = (s.frameStart.pointLatched sp pt).causes sp :=
    (congrArg Int.toNat (get_trigger ..)).trans (causes_count _ sp (by decide) (by decide))
  rw [causes_inFrame, hcauses, State.pointLatched, bit_causes_setCause]

theorem count_tripped :
    (s.inFrame sp (State.tripped sp pt)).get (k1DResidualTrips (16 + sp)) = oneMore s (k1DResidualTrips (16 + sp)) := by
  rw [get_inFrame _ _ _ _ (by simp only [key]; omega), State.tripped, get_trigger]
  exact get_count_beside s sp (get_setCause_member _ sp 8 8 true (by decide) (by decide) (by decide))

theorem noticed_tripped : ⟨0x0A10, 0, sp * 256 + pt⟩ ∈ (s.inFrame sp (State.tripped sp pt)).recorder.raised := by
  refine raised_inFrame s sp _ ?_
  rw [State.tripped, recorder_trigger]
  exact raised_count _ _ (List.mem_append_right _ (List.mem_singleton.2 rfl))

/-- What a failed cross-check does in its frame. -/
def State.crossFailed (sp : Nat) (u : State) : State :=
  (((u.modMeter sp fun m => { m with crossRun := 0 }).setCause sp 9 true).count (k1DCrossCheckFailures (16 + sp))).notice 0 0x0A11 sp

theorem crossCheckFailure_fails (hrun : 8 ≤ (s.spoke sp).meter.crossRun) :
    crossCheckFailure sp s = s.inFrame sp (State.crossFailed sp) := if_neg hrun.not_gt

theorem causes_crossFailed : bit ((s.inFrame sp (State.crossFailed sp)).causes sp) 9 = true := by
  have hcauses : (State.crossFailed sp s.frameStart).causes sp =
      (((s.frameStart).modMeter sp fun m => { m with crossRun := 0 }).setCause sp 9 true).causes sp :=
    causes_count _ sp (by decide) (by decide)
  rw [causes_inFrame, hcauses, bit_causes_setCause]

theorem count_crossFailed : (s.inFrame sp (State.crossFailed sp)).get (k1DCrossCheckFailures (16 + sp)) =
    oneMore s (k1DCrossCheckFailures (16 + sp)) := by
  rw [get_inFrame _ _ _ _ (by simp only [key]; omega), State.crossFailed, get_notice]
  exact get_count_beside s sp (get_setCause_member _ sp 9 9 true (by decide) (by decide) (by decide))

theorem noticed_crossFailed : ⟨0x0A11, 0, sp⟩ ∈ (s.inFrame sp (State.crossFailed sp)).recorder.raised :=
  raised_inFrame s sp _ (List.mem_append_right _ (List.mem_singleton.2 rfl))

end Trips

/-! ### Earth (R311) -/

section Earth
variable {s : State} {g : Nat}

/-- A walk sets one cause bit of the spokes it visits, each in its frame. -/
theorem causes_each_inFrame (l : List Nat) (b : Nat) (on : Bool) {sp : Nat} (hsp : sp ∈ l) :
    bit ((s.each l fun t x => t.inFrame x fun t => t.setCause x b on).causes sp) b = on := by
  refine each_reaches s (fun t => bit (t.causes sp) b = on) hsp (fun t => ?_) fun t x ht => ?_
  · rw [causes_inFrame, bit_causes_setCause]
  · rw [causes_inFrame]
    by_cases hx : sp = x
    · rw [hx, bit_causes_setCause]
    · rw [causes_setCause_other _ _ _ _ _ hx]
      exact ht

theorem raised_each_inFrame (l : List Nat) (b : Nat) (on : Bool) :
    s.recorder.raised ⊆ (s.each l fun t x => t.inFrame x fun t => t.setCause x b on).recorder.raised := by
  refine each_keeps (fun t => s.recorder.raised ⊆ t.recorder.raised) s l _ (fun t x _ ht n hn => ?_) (List.Subset.refl _)
  refine raised_inFrame t x _ ?_
  rw [State.setCause, recorder_setCauses]
  exact ht hn

theorem earthFault_found (hon : s.groupOn g = true) (hearth : (s.group g).earth = false) (hhigh : 8 ≤ (s.group g).earthHigh) :
    earthFault g s = ((s.modGroup g fun x => { x with earth := true }).notice 0 0x0A13 g).each (s.groupSpokes g)
      fun t sp => t.inFrame sp fun t => t.setCause sp 5 true := by
  simp only [earthFault, hon, hearth, hhigh.not_gt, decide_false, Bool.not_true, Bool.or_self, Bool.false_eq_true, if_false]
  rfl

theorem earthFault_idle (h : s.groupOn g = false ∨ (s.group g).earth = true ∨ (s.group g).earthHigh < 8) : earthFault g s = s := by
  refine if_pos ?_
  rcases h with h | h | h
  · simp [h]
  · simp [h]
  · simp [h]

theorem earthClear_found (hearth : (s.group g).earth = true) (hlow : 8 ≤ (s.group g).earthLow) :
    earthClear g s = (s.modGroup g fun x => { x with earth := false }).each (s.groupSpokes g)
      fun t sp => t.inFrame sp fun t => t.setCause sp 5 false := by
  simp only [earthClear, hearth, hlow.not_gt, decide_false, Bool.not_true, Bool.or_self, Bool.false_eq_true, if_false]
  rfl

theorem earthClear_idle (h : (s.group g).earth = false ∨ (s.group g).earthLow < 8) : earthClear g s = s := by
  refine if_pos ?_
  rcases h with h | h
  · simp [h]
  · simp [h]

end Earth

/-! ### Clears (R301, R313) -/

section Clears
variable {s : State} {sid sp : Nat}

theorem clearDeviceFault_accepted (hpass : s.rowPasses sid k1DClearDeviceFault 1 = true) (ha : s.getN k00LinkAState ≠ 2)
    (hb : s.getN k00LinkBState ≠ 2) :
    s.writeRow sid k1DClearDeviceFault 1 (checkClearDeviceFault 1) (applyClearDeviceFault sid 1) =
      (s.writeOne sid k1DClearDeviceFault 1 (applyClearDeviceFault sid 1)).atStep5 :=
  writeRow_passes s sid _ 1 _ _ hpass (by simp [checkClearDeviceFault, ha, hb])

theorem applyClearDeviceFault_clears (u : State) : applyClearDeviceFault sid 1 u =
    ((u.put k1DDeviceFaultCauses 0).noticeOpen sid 0x0A21).each u.spokeList fun t sp => t.inFrame sp fun t => t.setCause sp 6 false := rfl

/-- The cause word without the bits of a lockout that can be cleared. -/
def lockoutCleared (w : Nat) : Nat := setBit (setBit (setBit w 8 false) 9 false) 10 false

theorem bit_lockoutCleared (w b : Nat) : bit (lockoutCleared w) b = if 8 ≤ b ∧ b ≤ 10 then false else bit w b := by
  simp only [lockoutCleared, bit_setBit]
  by_cases h : 8 ≤ b ∧ b ≤ 10
  · obtain rfl | rfl | rfl : b = 8 ∨ b = 9 ∨ b = 10 := by omega
    all_goals rfl
  · rw [if_neg (show b ≠ 10 by omega), if_neg (show b ≠ 9 by omega), if_neg (show b ≠ 8 by omega), if_neg h]

theorem applyClearLockout_clears (u : State) : applyClearLockout sid sp 1 u =
    (u.inFrame sp fun t => t.setCauses sp (lockoutCleared (u.causes sp))).notice sid 0x0A22 sp := rfl

theorem causes_applyClearLockout (u : State) : (applyClearLockout sid sp 1 u).causes sp = lockoutCleared (u.causes sp) := by
  rw [applyClearLockout_clears]
  exact (congrArg Int.toNat (get_notice ..)).trans ((causes_inFrame u sp _ sp).trans (get_setCauses_causes _ sp _))

theorem out_applyClearLockout (u : State) : (applyClearLockout sid sp 1 u).out = u.out := by
  rw [applyClearLockout_clears, notice_out]
  exact (out_inFrame u sp _).trans (out_setCauses _ sp _)

theorem causes_answered (eff : State → State) (k st : Nat) :
    (((s.effect sid eff).answer sid k st).atStep5).causes sp = (eff s).causes sp := rfl

theorem out_answered (eff : State → State) (k st : Nat) :
    (((s.effect sid eff).answer sid k st).atStep5).out = (eff s).out ++ [.writeStatus sid k st] := rfl

theorem raised_answered (eff : State → State) (k st : Nat) :
    (((s.effect sid eff).answer sid k st).atStep5).recorder.raised = (s.effect sid eff).recorder.raised := rfl

/-- What a session's accepted write makes of the notices that the effect raised after those of before: each keeps its code and value. -/
theorem mem_raised_effect {eff : State → State} {l : List Notice} {c v i : Nat} (h : (eff s).recorder.raised = l ++ [⟨c, i, v⟩]) :
    ∃ j, ⟨c, j, v⟩ ∈ (s.effect sid eff).recorder.raised := by
  have hmem : (⟨c, i, v⟩ : Notice) ∈ (eff s).recorder.raised.take s.recorder.raised.length ++
      (eff s).recorder.raised.drop s.recorder.raised.length := by
    rw [List.take_append_drop, h]
    exact List.mem_append_right _ (List.mem_singleton.2 rfl)
  rcases List.mem_append.1 hmem with hold | hnew
  · exact ⟨i, List.mem_append_left _ hold⟩
  · by_cases hi : i = byDevice
    · refine ⟨sid, List.mem_append_right _ (List.mem_map.2 ⟨_, hnew, ?_⟩)⟩
      simp [hi]
    · refine ⟨i, List.mem_append_right _ (List.mem_map.2 ⟨_, hnew, ?_⟩)⟩
      simp [hi]

theorem isSetting_clearLockout : ∀ x < 24, isSetting (k1DClearLockout (16 + x)) = false := by decide +kernel

theorem operator_clearLockout (hsp : sp < 24) :
    ∃ r, findRow 0x1D (16 + sp) 7 = some r ∧ writeAccess r 0x1D (16 + sp) 7 = .operator := by
  have hrole : ∀ x < 24, (findRow 0x1D (16 + x) 7).map (fun r => writeAccess r 0x1D (16 + x) 7) = some .operator := by decide +kernel
  exact Option.map_eq_some_iff.1 (hrole sp hsp)

section ClearLockout
variable (hpass : s.rowPasses sid (k1DClearLockout (16 + sp)) 1 = true)
include hpass

theorem clearLockout_accepted (hsp : sp < s.spokeCount) (hrest : ∀ x ∈ (s.resid sp).timers, x = 0) :
    s.writeRow sid (k1DClearLockout (16 + sp)) 1 (checkClearLockout sp 1) (applyClearLockout sid sp 1) =
      ((s.effect sid (applyClearLockout sid sp 1)).answer sid (k1DClearLockout (16 + sp)) stOk).atStep5 := by
  have hchk : checkClearLockout sp 1 s = stOk := by
    refine if_neg ?_
    simp only [decide_true, Bool.true_and, List.any_eq_true, decide_eq_true_eq, not_exists, not_and]
    exact fun x hx => by
      rw [hrest x hx]
      decide
  rw [writeRow_passes s sid _ 1 _ _ hpass hchk,
    writeOne_unlogged s sid _ 1 _ (isSetting_clearLockout sp (hsp.trans_le (spokes_le s.variant)))]

theorem clearLockout_refused {x : Nat} (hx : x ∈ (s.resid sp).timers) (h0 : 0 < x) :
    s.writeRow sid (k1DClearLockout (16 + sp)) 1 (checkClearLockout sp 1) (applyClearLockout sid sp 1) =
      (s.answer sid (k1DClearLockout (16 + sp)) 0x08).atStep5 := by
  refine writeRow_answers s sid _ 1 _ _ stNotNow hpass (if_pos ?_) (by decide) (by decide)
  simpa using ⟨x, hx, h0⟩

end ClearLockout
end Clears

/-- Settles O14, by what a residual trip, a cross-check and an earth fault do in their frames, and by the branch that each idle row
takes. -/
theorem supervisionRows : Obligations.SupervisionRows := by
  unfold Obligations.SupervisionRows
  exact ⟨fun s sp pt hsp hpt hdue hfirst => ⟨_, congrArg Host.Outcome.next (residualTrip_trips hsp hpt hdue hfirst), rfl, causes_tripped,
      count_tripped, noticed_tripped⟩,
    fun s sp pt h => congrArg Host.Outcome.next (residualTrip_idle h),
    fun s sp hrun => ⟨_, congrArg Host.Outcome.next (crossCheckFailure_fails hrun), rfl, causes_crossFailed, count_crossFailed,
      noticed_crossFailed⟩,
    fun s sp hrun => congrArg Host.Outcome.next (if_pos hrun),
    fun s g hon hearth hhigh => ⟨_, congrArg Host.Outcome.next (earthFault_found hon hearth hhigh), rfl,
      fun sp hsp => causes_each_inFrame _ 5 true hsp,
      raised_each_inFrame _ 5 true (List.mem_append_right _ (List.mem_singleton.2 rfl))⟩,
    fun s g h => congrArg Host.Outcome.next (earthFault_idle h),
    fun s g hearth hlow => ⟨_, congrArg Host.Outcome.next (earthClear_found hearth hlow), rfl,
      fun sp hsp => causes_each_inFrame _ 5 false hsp⟩,
    fun s g h => congrArg Host.Outcome.next (earthClear_idle h),
    fun s sid hpass ha hb => congrArg Host.Outcome.next (clearDeviceFault_accepted hpass ha hb)⟩

/-- Settles O15, by what the accepted clear makes of the cause word. -/
theorem lockoutIsCleared : Obligations.LockoutIsCleared := by
  unfold Obligations.LockoutIsCleared
  refine ⟨fun sp hsp => operator_clearLockout hsp, fun s sid sp hsp hpass hrest => ?_,
    fun s sid sp x hpass hx h0 => congrArg Host.Outcome.next (clearLockout_refused hpass hx h0)⟩
  refine ⟨_, congrArg Host.Outcome.next (clearLockout_accepted hpass hsp hrest), ?_, fun b h8 h10 => ?_, fun b hb => ?_, ?_⟩
  · rw [out_answered, out_applyClearLockout]
  · rw [causes_answered, causes_applyClearLockout, bit_lockoutCleared, if_pos ⟨h8, h10⟩]
  · rw [causes_answered, causes_applyClearLockout, bit_lockoutCleared, if_neg (by omega)]
  · rw [raised_answered]
    exact mem_raised_effect (eff := applyClearLockout sid sp 1) (i := sid) (by rw [applyClearLockout_clears, notice_raised])

end Sys2Proof.Machine
end

section
/-! The safety gate (O16, O17): the test winding, the graces, the hold lease, and what the gate decides. -/

namespace Sys2Proof.Machine

/-! ### What the changes of a spoke leave -/

section Spokes
variable (s : State) (sp : Nat)

/-- A part of every spoke that a change of one spoke keeps reads as before. -/
theorem spoke_modSpoke_view {β : Type} (g : Spoke → β) (j : Nat) (f : Spoke → Spoke) (hf : ∀ p, g (f p) = g p) :
    g ((s.modSpoke j f).spoke sp) = g (s.spoke sp) := by
  by_cases hj : sp = j
  · subst hj
    by_cases hlen : sp < s.spokes.length
    · rw [spoke_modSpoke_same s sp f hlen, hf]
    · simp only [State.spoke, State.modSpoke, List.modify_eq_self (by omega : s.spokes.length ≤ sp)]
  · rw [spoke_modSpoke_other s j sp f hj]

theorem pedal_modGate (j : Nat) (f : Gate → Gate) : (s.modGate j f).pedal sp = s.pedal sp :=
  spoke_modSpoke_view s sp Spoke.pedal j _ fun _ => rfl

theorem gateState_setGate (v : Nat) : (s.setGate sp v).gateState sp = v := by
  unfold State.setGate
  split
  · next h => exact h
  · simp [State.gateState, State.getN, get_put_same]

theorem gateState_put_other (k : Nat) (v : Int) (h : k19GateState sp ≠ k) : (s.put k v).gateState sp = s.gateState sp :=
  congrArg Int.toNat (get_put_other s k _ v h)

/-- The lease state that is shown takes no spoke's gate to state 2. -/
theorem gateState_showLease (h : s.gateState sp ≠ 2) : s.showLease.gateState sp ≠ 2 := by
  unfold State.showLease
  split
  · unfold State.gateState State.getN
    rw [get_put]
    split
    · decide
    · exact h
  · exact h

/-- Contacts that open leave gate state 2. -/
theorem gateState_openContactsAt {gate : Nat} (frame : Nat) (h : gate ≠ 2) : (s.openContactsAt sp gate frame).gateState sp ≠ 2 := by
  unfold State.openContactsAt
  split
  · rwa [gateState_setGate]
  · refine gateState_showLease _ sp ?_
    rwa [gateState_setGate]

theorem droppedState_ne_closed : s.droppedState sp ≠ 2 := by
  unfold State.droppedState
  split
  · decide
  · split <;> decide

theorem openState_ne_closed : s.openState sp ≠ 2 := by
  unfold State.openState
  split
  · decide
  · split
    · split <;> decide
    · split <;> decide

theorem gateState_twSample : (s.twSample sp).gateState sp = s.gateState sp := by
  unfold State.twSample
  split <;> rfl

theorem leaseRuns_twSample : (s.twSample sp).leaseRuns = s.leaseRuns := by
  unfold State.twSample
  split <;> rfl

theorem leaseRuns_discardTest : (s.discardTest sp).leaseRuns = s.leaseRuns := by
  unfold State.discardTest
  split <;> rfl

/-- The request is read and the sample of the test has joined: what the gate decides from. -/
theorem gateState_readRequest_twSample : ((s.twSample sp).readRequest sp).gateState sp = s.gateState sp := gateState_twSample s sp

theorem leaseRuns_readRequest_twSample : ((s.twSample sp).readRequest sp).leaseRuns = s.leaseRuns := leaseRuns_twSample s sp

variable {s sp}

/-! ### What the gate decides (R232, R312) -/

/-- An open gate that closes had nothing missing, an armed request and a passed test, outside a lease. -/
theorem gateOpen_closes (h : (s.gateOpen sp).gateState sp = 2) :
    s.blockers sp = 0 ∧ (s.gate sp).passed = true ∧ (s.gate sp).armed = true ∧ s.leaseRuns = false := by
  unfold State.gateOpen at h
  extract_lets ready t at h
  split at h
  · next hcond =>
    simp only [Bool.and_eq_true, Bool.not_eq_true'] at hcond
    obtain ⟨⟨hready, hpassed⟩, hlease⟩ := hcond
    have hsame : t = s ∨ t = s.discardTest sp := by
      simp only [t]
      split
      · exact .inl rfl
      · exact .inr rfl
    have hrest : s.leaseRuns = false := by
      rcases hsame with ht | ht
      · rwa [ht] at hlease
      · rwa [ht, leaseRuns_discardTest] at hlease
    have ht : t = s := if_pos (by rw [hready, hrest]; rfl)
    have hparts : s.blockers sp = 0 ∧ (s.gate sp).armed = true := by simpa [ready] using hready
    obtain ⟨hblockers, harmed⟩ := hparts
    exact ⟨hblockers, ht ▸ hpassed, harmed, hrest⟩
  · rw [gateState_setGate] at h
    exact absurd h (openState_ne_closed _ sp)

theorem gateClosed_opens (h : s.hardOk sp = false) : (s.gateClosed sp).gateState sp ≠ 2 := by
  have hopen : s.gateClosed sp = s.openContacts sp (s.droppedState sp) := if_pos (by rw [h]; rfl)
  rw [hopen]
  exact gateState_openContactsAt s sp s.cc (droppedState_ne_closed s sp)

theorem gateState_evalGate : (s.evalGate sp).gateState sp =
    (if s.gateState sp = 2 then (((s.twSample sp).readRequest sp).gateClosed sp) else
      (((s.twSample sp).readRequest sp).gateOpen sp)).gateState sp := by
  rw [← gateState_readRequest_twSample s sp]
  exact gateState_put_other _ sp _ _ (key_ne_of_member _ _ _ _ (by decide) (by decide) (by decide))

end Spokes

/-- Settles O17, by what an open and a closed gate decide from the state that has read the request. -/
theorem gateDecides : Obligations.GateDecides := by
  unfold Obligations.GateDecides
  refine ⟨fun s sp hopen hclosed => ?_, fun s sp hclosed hhard => ?_⟩
  · rw [gateState_evalGate, if_neg hopen] at hclosed
    obtain ⟨hblockers, hpassed, harmed, hlease⟩ := gateOpen_closes hclosed
    exact ⟨hblockers, hpassed, harmed, (leaseRuns_readRequest_twSample s sp) ▸ hlease⟩
  · rw [gateState_evalGate, if_pos hclosed]
    exact gateClosed_opens hhard

end Sys2Proof.Machine
end

section
/-! The rows of the gate (O16): the test winding, the end of a grace, the hold lease. -/

namespace Sys2Proof.Machine

section Gate
variable {s : State} {sp start : Nat}

/-! ### The test winding (R310) -/

theorem testWinding_starts (hsp : sp < s.spokeCount) (hgate : s.gateState sp = 1) (harmed : (s.gate sp).armed = true)
    (hblockers : s.blockers sp = 0) (hlease : s.leaseRuns = false) (hstage : (s.gate sp).stage = .none)
    (hpassed : (s.gate sp).passed = false) : testWinding sp s =
      (s.modGate sp fun g => { g with stage := .running s.nextTick, samples := [] }).put (k1DTestWindingResult (16 + sp)) 0 := by
  simp [testWinding, hsp, hgate, harmed, hblockers, hlease, hstage, hpassed]

section Result
variable (hstage : (s.gate sp).stage = .running start) (hreached : s.reached start = true) (hdone : 120 < s.since start)
include hstage hreached hdone

/-- The last sample of the third stage decides the test. -/
theorem testWindingResult_due : testWindingResult sp s =
    if s.twPasses sp start then
      (s.modGate sp fun g => { g with stage := .none, samples := [], passed := s.twPasses sp start }).put
        (k1DTestWindingResult (16 + sp)) 1
    else (s.modGate sp fun g => { g with stage := .none, samples := [], passed := s.twPasses sp start }).inFrame sp fun t =>
      ((t.put (k1DTestWindingResult (16 + sp)) 2).setCause sp cWinding true).notice byDevice 0x0A12 sp := by
  have hlast : 3 * twStage < s.since start := hdone
  simp only [testWindingResult, hstage, hreached, hlast, decide_true, Bool.and_self, if_true]

theorem testWindingResult_passed (hok : s.twPasses sp start = true) : testWindingResult sp s =
    (s.modGate sp fun g => { g with stage := .none, samples := [], passed := true }).put (k1DTestWindingResult (16 + sp)) 1 := by
  rw [testWindingResult_due hstage hreached hdone, hok, if_pos rfl]

theorem testWindingResult_failed (hfail : s.twPasses sp start = false) : testWindingResult sp s =
    (s.modGate sp fun g => { g with stage := .none, samples := [], passed := false }).inFrame sp fun u =>
      ((u.put (k1DTestWindingResult (16 + sp)) 2).setCause sp 10 true).notice 0 0x0A12 sp := by
  rw [testWindingResult_due hstage hreached hdone, hfail, if_neg Bool.false_ne_true]
  rfl

end Result

/-! ### Graces and the lease (R312, R323-R325) -/

theorem softGraceEnd_opens {t0 : Nat} (hgrace : t0 ∈ (s.gate sp).graces) (hgate : s.gateState sp = 2)
    (hdue : s.dueNext ((t0 + 24000) % ccMod) = true) :
    softGraceEnd sp s = s.openContactsAt sp (s.droppedState sp) s.nextTick := by
  refine if_pos ?_
  simp only [hgate, decide_true, Bool.true_and, List.any_eq_true]
  exact ⟨t0, hgrace, hdue⟩

theorem leaseReclaim_reclaims (hruns : s.leaseRuns = true) (hfw : s.lease.fwUp = false) : leaseReclaim s =
    ((({ s with lease := { s.lease with startAt := none } } : State).put k1DLeaseState 0).resumePedals 2).noticeOpen 0 0x0A41 := by
  simp [leaseReclaim, hruns, hfw, byDevice]

/-- A lease has expired, before its sequencers are stopped. -/
def State.leaseExpired (s : State) : State :=
  ((({ s with lease := { s.lease with startAt := none, unreclaimed := true } } : State).put k1DLeaseState 3).count
    k1DLeaseExpiries).noticeOpen byDevice 0x0A42

/-- A sequencer after an expiry: its PMODE sink is 1 and its request 0, and a closed spoke enters the stop order. -/
def State.expiryStops (at_ : Nat) (t : State) (sp : Nat) : State :=
  let u := t.modPedal sp fun p => { p with pmode := 1, request := false }
  if u.gateState sp = 2 then u.modGate sp fun g => { g with stopOrder := true, softOrder := some at_ } else u

theorem leaseExpiry_due (hruns : s.leaseRuns = true) (hdue : s.dueNext s.lease.endAt = true) :
    leaseExpiry s = s.leaseExpired.each s.spokeList (State.expiryStops s.nextTick) := by
  have hlist : s.leaseExpired.spokeList = s.spokeList := by
    have hvar : s.leaseExpired.variant = s.variant := by
      have h := congrArg State.variant
        (count_rest (({ s with lease := { s.lease with startAt := none, unreclaimed := true } } : State).put k1DLeaseState 3) k1DLeaseExpiries)
      exact h
    simp only [State.spokeList, hvar]
  rw [← hlist]
  simp only [leaseExpiry, hruns, hdue, Bool.and_self, if_true]
  rfl

theorem lease_leaseExpired : s.leaseExpired.lease = { s.lease with startAt := none, unreclaimed := true } := by
  have h := congrArg State.lease
    (count_rest (({ s with lease := { s.lease with startAt := none, unreclaimed := true } } : State).put k1DLeaseState 3) k1DLeaseExpiries)
  exact h

theorem length_spokes_leaseExpired : s.leaseExpired.spokes.length = s.spokes.length := by
  have h := congrArg (fun u : State => u.spokes.length)
    (count_rest (({ s with lease := { s.lease with startAt := none, unreclaimed := true } } : State).put k1DLeaseState 3) k1DLeaseExpiries)
  exact h

theorem leaseState_leaseExpired : s.leaseExpired.getN k1DLeaseState = 3 := by
  refine congrArg Int.toNat ((get_noticeOpen ..).trans ((get_count_other _ _ _ (by decide) (by decide)).trans (get_put_same ..)))

section Stops
variable (at_ : Nat) (t : State) (j : Nat)

/-- A sequencer that stops changes its spoke alone. -/
theorem expiryStops_eq : ∃ f, t.expiryStops at_ j = (t.modPedal j fun p => { p with pmode := 1, request := false }).modGate j f ∨
    t.expiryStops at_ j = t.modPedal j fun p => { p with pmode := 1, request := false } := by
  unfold State.expiryStops
  extract_lets u
  split
  · exact ⟨_, .inl rfl⟩
  · exact ⟨id, .inr rfl⟩

theorem lease_expiryStops : (t.expiryStops at_ j).lease = t.lease := by
  obtain ⟨f, h | h⟩ := expiryStops_eq at_ t j <;> rw [h] <;> rfl

theorem getN_expiryStops (k : Nat) : (t.expiryStops at_ j).getN k = t.getN k := by
  obtain ⟨f, h | h⟩ := expiryStops_eq at_ t j <;> rw [h] <;> rfl

theorem length_spokes_expiryStops : (t.expiryStops at_ j).spokes.length = t.spokes.length := by
  obtain ⟨f, h | h⟩ := expiryStops_eq at_ t j
  · rw [h, State.modGate, State.modPedal, length_spokes_modSpoke, length_spokes_modSpoke]
  · rw [h, State.modPedal, length_spokes_modSpoke]

/-- The sequencer of a spoke that exists has stopped. -/
def pedalStopped (sp : Nat) (t : State) : Prop :=
  sp < t.spokes.length → (t.pedal sp).pmode = 1 ∧ (t.pedal sp).request = false

theorem pedal_expiryStops : (t.expiryStops at_ j).pedal sp = (t.modPedal j fun p => { p with pmode := 1, request := false }).pedal sp := by
  obtain ⟨f, h | h⟩ := expiryStops_eq at_ t j
  · rw [h, pedal_modGate]
  · rw [h]

theorem pedalStopped_expiryStops_same : pedalStopped sp (t.expiryStops at_ sp) := by
  intro hsp
  rw [length_spokes_expiryStops] at hsp
  rw [pedal_expiryStops, pedal_modPedal _ hsp]
  exact ⟨rfl, rfl⟩

theorem pedalStopped_expiryStops (h : pedalStopped sp t) : pedalStopped sp (t.expiryStops at_ j) := by
  by_cases hj : sp = j
  · exact hj ▸ pedalStopped_expiryStops_same at_ t
  · intro hsp
    rw [length_spokes_expiryStops] at hsp
    have hpedal : (t.expiryStops at_ j).pedal sp = t.pedal sp := by
      rw [pedal_expiryStops]
      exact congrArg Spoke.pedal (spoke_modSpoke_other t j sp _ hj)
    rw [hpedal]
    exact h hsp

end Stops

theorem leaseExpiry_stops (hruns : s.leaseRuns = true) (hdue : s.dueNext s.lease.endAt = true) :
    (leaseExpiry s).lease = { s.lease with startAt := none, unreclaimed := true } ∧ (leaseExpiry s).getN k1DLeaseState = 3 ∧
    ∀ sp, sp < s.spokeCount → sp < s.spokes.length → ((leaseExpiry s).pedal sp).pmode = 1 ∧ ((leaseExpiry s).pedal sp).request = false := by
  rw [leaseExpiry_due hruns hdue]
  refine ⟨?_, ?_, fun sp hsp hlen => ?_⟩
  · rw [each_view State.lease _ _ _ fun t j _ => lease_expiryStops s.nextTick t j, lease_leaseExpired]
  · rw [each_view (fun t => t.getN k1DLeaseState) _ _ _ fun t j _ => getN_expiryStops s.nextTick t j _, leaseState_leaseExpired]
  · refine each_reaches s.leaseExpired (pedalStopped sp) (List.mem_range.2 hsp) (fun t => pedalStopped_expiryStops_same s.nextTick t)
      (fun t j ht => pedalStopped_expiryStops s.nextTick t j ht) ?_
    rwa [each_view (fun t : State => t.spokes.length) _ _ _ fun t j _ => length_spokes_expiryStops s.nextTick t j,
      length_spokes_leaseExpired]

end Gate

/-- Settles O16: the rows take the branch their conditions name; the walk of an expiry stops every sequencer. -/
theorem gateRows : Obligations.GateRows := by
  unfold Obligations.GateRows
  exact ⟨fun s sp hsp hgate harmed hblockers hlease hstage hpassed =>
      congrArg Host.Outcome.next (testWinding_starts hsp hgate harmed hblockers hlease hstage hpassed),
    fun s sp start hstage hreached hdone hok => congrArg Host.Outcome.next (testWindingResult_passed hstage hreached hdone hok),
    fun s sp start hstage hreached hdone hfail => congrArg Host.Outcome.next (testWindingResult_failed hstage hreached hdone hfail),
    fun s sp t0 hgrace hgate hdue => congrArg Host.Outcome.next (softGraceEnd_opens hgrace hgate hdue),
    fun s hruns hfw => congrArg Host.Outcome.next (leaseReclaim_reclaims hruns hfw),
    fun s hruns hdue => ⟨_, rfl, leaseExpiry_stops hruns hdue⟩⟩

end Sys2Proof.Machine
end

section
/-! Tandem (O42): messages, their copies and the loss of a peer. -/

namespace Sys2Proof.Machine

section Tandem
variable {s : State} {m seq net : Nat} {msg : List Byte}

/-! ### The message (R318, R319) -/

theorem length_bytesBE (n v : Nat) : (bytesBE n v).length = n := by
  induction n with
  | zero => rfl
  | succ n ih => rw [bytesBE, List.length_cons, ih]

theorem length_tandemBytes (s : State) (seq : Nat) : (s.tandemBytes seq).length = 28 := by
  simp [State.tandemBytes, length_bytesBE]

/-- The sequence number of the next message. -/
def State.nextSeq (s : State) : Nat := (s.getN k1ESequenceSent + 1) % 4294967296

theorem tandemSend_due (hon : s.flag k1EEnable = true) (hfw : s.lease.fwUp = true) (hcc : s.cc % 80 = 0)
    (hfirst : s.tandemAt ≠ some s.cc) : tandemSend s =
      (({ s.put k1ESequenceSent s.nextSeq with tandemAt := some s.cc } : State).send
        (.canFrame 1 (canIdent 0 0x1F 0 (s.getN (k04NodeID 1)) (s.getN k1EMemberNumber)) (tandemMessage 0 (s.tandemBytes s.nextSeq)))).send
        (.tandem (s.getN k1ETandemPort) (tandemMessage 1 (s.tandemBytes s.nextSeq))) := by
  simp only [tandemSend, hon, hfw, hcc, hfirst, decide_true, Bool.and_self, ne_eq, not_false_eq_true, if_true]
  rfl

theorem sequence_tandemSend (hon : s.flag k1EEnable = true) (hfw : s.lease.fwUp = true) (hcc : s.cc % 80 = 0)
    (hfirst : s.tandemAt ≠ some s.cc) : (tandemSend s).getN k1ESequenceSent = s.nextSeq := by
  rw [tandemSend_due hon hfw hcc hfirst]
  refine (congrArg Int.toNat (get_put_same s k1ESequenceSent s.nextSeq)).trans (Int.toNat_natCast _)

/-! ### Loss (R320, R321) -/

theorem getN_setCause_other (t : State) (sp b : Nat) (on : Bool) {i n : Nat} (hn : n < 256) (hsp : sp < 24) :
    (t.setCause sp b on).getN (key 0x1E i n) = t.getN (key 0x1E i n) := by
  refine congrArg Int.toNat (get_setCause_other t sp b on _ ?_ ?_) <;> simp only [key] <;> omega

/-- The causes of tandem leave the members of its class. -/
theorem getN_refreshTandem {i n : Nat} (hn : n < 256) : s.refreshTandem.getN (key 0x1E i n) =
    (s.put k1ETandemState (if !s.flag k1EEnable then 0 else if s.anyLost then 2 else 1)).getN (key 0x1E i n) := by
  refine each_view (fun t => t.getN (key 0x1E i n)) _ _ _ fun t sp hsp => getN_setCause_other t sp _ _ hn ?_
  exact (List.mem_range.1 hsp).trans_le (spokes_le s.variant)

theorem anyLost_of_lost (hm : m < 16) (hon : s.flag k1EEnable = true) (hmask : bit (s.getN k1EPeerMask) m = true)
    (hlost : s.getN (k1EPeerState (16 + m)) = 2) : s.anyLost = true := by
  refine List.any_eq_true.2 ⟨m, List.mem_range.2 hm, ?_⟩
  simp [State.supervised, State.peerLost, hm, hon, hmask, hlost]

/-- A peer that is lost shows it, and so does the tandem. -/
theorem losePeer_shows (code : Nat) (hm : m < 16) (hon : s.flag k1EEnable = true) (hmask : bit (s.getN k1EPeerMask) m = true) :
    (s.losePeer m code).getN (k1EPeerState (16 + m)) = 2 ∧ (s.losePeer m code).getN k1ETandemState = 2 := by
  let t := ((s.put (k1EPeerState (16 + m)) 2).modPeer m fun p => { p with run := 0 }).noticeOpen byDevice code
  have hget : ∀ k, t.get k = (s.put (k1EPeerState (16 + m)) 2).get k := fun k => rfl
  have hpeer : t.getN (k1EPeerState (16 + m)) = 2 := congrArg Int.toNat ((hget _).trans (get_put_same ..))
  have henable : t.get k1EEnable = s.get k1EEnable := (hget _).trans (get_put_other _ _ _ _ (by simp only [key]; omega))
  have hpeermask : t.get k1EPeerMask = s.get k1EPeerMask := (hget _).trans (get_put_other _ _ _ _ (by simp only [key]; omega))
  have hon' : t.flag k1EEnable = true := by rwa [State.flag, henable]
  have hlost : t.anyLost = true := anyLost_of_lost hm hon' (by rwa [State.getN, hpeermask]) hpeer
  refine ⟨(getN_refreshTandem (s := t) (by decide)).trans ?_, (getN_refreshTandem (s := t) (by decide)).trans ?_⟩
  · exact (congrArg Int.toNat (get_put_other _ _ _ _ (by simp only [key]; omega))).trans hpeer
  · rw [State.getN, get_put_same, hon', hlost]
    rfl

theorem missingTwin_late {c : Nat × Nat × Nat × List Byte} (hc : (s.peer m).copies.find? (fun c => c.2.1 = seq) = some c)
    (hsup : s.supervised m = true) (hlate : s.compareWindow < s.since c.2.2.1) :
    missingTwin m seq s = ((s.acceptSeq m seq).count (k1EMissingTwins (16 + m))).losePeer m 0x0A31 := by
  simp only [missingTwin, hc, hsup, hlate, decide_true, Bool.and_self, if_true]

theorem tandemSilence_silent (hsup : s.supervised m = true) (hvalid : s.getN (k1EPeerState (16 + m)) = 1)
    (hlate : 80 + s.compareWindow < s.since (s.peer m).lastPair) : tandemSilence m s = s.losePeer m 0x0A32 := by
  simp only [tandemSilence, hsup, hvalid, hlate, decide_true, Bool.and_self, if_true]

/-! ### The last SEQ of a peer (R319) -/

theorem peer_modPeer_same (f : Peer → Peer) (h : m < s.peers.length) : (s.modPeer m f).peer m = f (s.peer m) := by
  simp [State.peer, State.modPeer, List.getD_eq_getElem?_getD, h]

theorem lastSeq_acceptSeq_newer (h : s.seqOk m seq = true) : (s.acceptSeq m seq).getN (k1ELastSEQ (16 + m)) = seq := by
  simp only [State.acceptSeq, h, if_true]
  exact (congrArg Int.toNat (get_put_same s _ _)).trans (Int.toNat_natCast _)

theorem lastSeq_acceptSeq_older (h : s.seqOk m seq = false) :
    (s.acceptSeq m seq).getN (k1ELastSEQ (16 + m)) = s.getN (k1ELastSEQ (16 + m)) := by
  simp only [State.acceptSeq, h, Bool.false_eq_true, if_false]
  rfl

theorem peer_acceptSeq (hm : m < s.peers.length) :
    ((s.acceptSeq m seq).peer m).accepted = true ∧ ∀ c ∈ ((s.acceptSeq m seq).peer m).copies, c.2.1 ≠ seq := by
  have hlen : m < (if s.seqOk m seq then s.put (k1ELastSEQ (16 + m)) seq else s).peers.length := by
    split <;> exact hm
  rw [State.acceptSeq, peer_modPeer_same _ hlen]
  refine ⟨rfl, fun c hc => ?_⟩
  simpa using (List.mem_filter.1 hc).2

/-! ### Copies (R319-R321) -/

section Copies
variable (hon : s.flag k1EEnable = true) (hfw : s.lease.fwUp = true) (hlen : msg.length = 32)
include hon hfw hlen

theorem tandemCopy_badCrc (hcrc : numBE ((natBytes msg).drop 28) ≠ crc32From (tandemInit net) ((natBytes msg).take 28)) :
    tandemCopy net msg s = s.count (k1ECRCFailures (16 + (natBytes msg).headD 0 % 16)) := by
  have hbytes : (natBytes msg).length = 32 := by rw [natBytes, List.length_map, hlen]
  simp only [tandemCopy, hon, hfw, hbytes, Bool.not_true, Bool.or_self, ne_eq, not_true_eq_false, decide_false, Bool.false_eq_true, if_false]
  exact if_pos hcrc

theorem tandemCopy_kept (hm : m = (natBytes msg).headD 0 % 16) (hseq : seq = numBE (((natBytes msg).take 28 |>.drop 4).take 4))
    (hcrc : numBE ((natBytes msg).drop 28) = crc32From (tandemInit net) ((natBytes msg).take 28))
    (hgroup : numBE (((natBytes msg).take 28 |>.drop 2).take 2) = s.getN k1EGroupIdentity) (hsup : s.supervised m = true)
    (hnewer : s.seqOk m seq = true) (hdemand : field (numBE (((natBytes msg).take 28 |>.drop 14).take 2)) 13 10 = 0)
    (hfresh : ∀ c ∈ (s.peer m).copies, c.2.1 ≠ seq) : tandemCopy net msg s = s.modPeer m fun p =>
      { p with copies := p.copies ++ [(net, seq, s.cc, toBytes ((natBytes msg).take 28))] } := by
  have hbytes : (natBytes msg).length = 32 := by rw [natBytes, List.length_map, hlen]
  have hnotwin : (s.peer m).copies.find? (fun c => c.1 ≠ net && c.2.1 = seq && s.since c.2.2.1 ≤ s.compareWindow) = none := by
    refine List.find?_eq_none.2 fun c hc => ?_
    simp [hfresh c hc]
  have hnocopy : ((s.peer m).copies.any fun c => c.1 = net && c.2.1 = seq) = false := by
    refine List.any_eq_false.2 fun c hc => ?_
    simp [hfresh c hc]
  subst hm hseq
  simp only [tandemCopy, hon, hfw, hbytes, hcrc, hgroup, hsup, hnewer, hdemand, hnotwin, hnocopy, Bool.not_true, Bool.or_self, ne_eq,
    not_true_eq_false, decide_false, Bool.false_eq_true, if_false]

end Copies
end Tandem

/-- Settles O42: the message and the copies by the branch their conditions name, the loss of a peer by what it shows. -/
theorem tandemRows : Obligations.TandemRows := by
  unfold Obligations.TandemRows
  refine ⟨fun s hon hfw hcc hfirst => ⟨_, rfl, sequence_tandemSend hon hfw hcc hfirst, ?_, _, rfl, length_tandemBytes .., ?_⟩,
    fun s net msg hon hfw hlen hcrc => congrArg Host.Outcome.next (tandemCopy_badCrc hon hfw hlen hcrc),
    fun s m seq c hc hsup hlate => congrArg Host.Outcome.next (missingTwin_late hc hsup hlate),
    fun s m seq => ⟨lastSeq_acceptSeq_newer, lastSeq_acceptSeq_older, peer_acceptSeq⟩,
    fun s m hsup hvalid hlate => congrArg Host.Outcome.next (tandemSilence_silent hsup hvalid hlate),
    fun s m code hm hon hmask => losePeer_shows code hm hon hmask,
    fun s net msg m seq hm hseq hon hfw hlen hcrc hgroup hsup hnewer hdemand hfresh => congrArg Host.Outcome.next
      (tandemCopy_kept hon hfw hlen hm hseq hcrc hgroup hsup hnewer hdemand hfresh)⟩
  · rw [tandemSend_due hon hfw hcc hfirst]
    rfl
  · rw [sequence_tandemSend hon hfw hcc hfirst, tandemSend_due hon hfw hcc hfirst]
    simp only [send_out, List.append_assoc, List.cons_append, List.nil_append]
    rfl

end Sys2Proof.Machine
end

section
/-! Contactless readers (O43): pings, polling, the settled tap, the decision on it, an external field. -/

namespace Sys2Proof.Machine

/-! ### Aerials -/

section Aerials
variable (s : State) {a : Nat}

@[simp] theorem get_modAerial (b : Nat) (f : Aerial → Aerial) (k : Nat) : (s.modAerial b f).get k = s.get k := rfl
@[simp] theorem getN_modAerial (b : Nat) (f : Aerial → Aerial) (k : Nat) : (s.modAerial b f).getN k = s.getN k := rfl
@[simp] theorem out_modAerial (b : Nat) (f : Aerial → Aerial) : (s.modAerial b f).out = s.out := rfl

theorem aerial_modAerial_same (f : Aerial → Aerial) (h : a < s.aerials.length) : (s.modAerial a f).aerial a = f (s.aerial a) := by
  simp [State.aerial, State.modAerial, List.getD_eq_getElem?_getD, h]

/-- A field that a change of an aerial keeps reads as before, whether or not the aerial exists. -/
theorem aerial_modAerial_view {β : Type} (g : Aerial → β) (b : Nat) (f : Aerial → Aerial) (hf : ∀ x, g (f x) = g x) :
    g ((s.modAerial b f).aerial a) = g (s.aerial a) := by
  by_cases hb : b = a
  · subst hb
    by_cases hlen : b < s.aerials.length
    · rw [aerial_modAerial_same s f hlen, hf]
    · simp [State.aerial, State.modAerial, List.modify_eq_self (by omega : s.aerials.length ≤ b)]
  · simp [State.aerial, State.modAerial, List.getD_eq_getElem?_getD, hb]

theorem getN_put_same (k n : Nat) : (s.put k n).getN k = n :=
  (congrArg Int.toNat (get_put_same s k n)).trans (Int.toNat_natCast n)

theorem getN_put_other (k j : Nat) (v : Int) (h : j ≠ k) : (s.put k v).getN j = s.getN j :=
  congrArg Int.toNat (get_put_other s k j v h)

theorem getN_setAerial (v : Nat) : (s.setAerial a v).aerialState a = v := getN_put_same s _ v

end Aerials

/-! ### Pings (R357) -/

section Pings
variable {s : State} {a r : Nat} (ha : a < 24) (hcc : s.cc % 1600 = pingPhase a) (hidle : s.aerialState a = 0)
  (hloud : s.silenced (feOf a) = false) (hfree : s.holder (feOf a) = none) (hdet : s.detects = true)
include ha hcc hidle hloud hfree hdet

theorem ping_below (hbase : s.getN (k21Baseline (16 + a)) ≠ 0) (hdev : s.deviation a r < s.getN (k21Threshold (16 + a))) :
    ping a r false s = ((s.put (k21Deviation (16 + a)) (s.deviation a r)).modAerial a fun x => { x with response := r }).put
      (k21Baseline (16 + a)) (roundQ ((s.getN (k21Baseline (16 + a)) : Rat) + ((r : Rat) - s.getN (k21Baseline (16 + a))) / 16)) := by
  simp [ping, ha, hcc, hidle, hloud, hfree, hdet, hbase, hdev]

theorem ping_detects (hdev : s.getN (k21Threshold (16 + a)) ≤ s.deviation a r) : ping a r false s =
    ((((if s.getN (k21Baseline (16 + a)) = 0 then s.drew else s).put (k21Deviation (16 + a)) (s.deviation a r)).modAerial a fun x =>
      { x with response := r }).setAerial a 1).modAerial a fun x => { x with pollAt := some (s.after 1) } := by
  simp [ping, ha, hcc, hidle, hloud, hfree, hdet, Nat.not_lt.2 hdev]

end Pings

/-! ### Polling (R358) -/

section Polling
variable {s : State} {a : Nat} {cards : List Card}

/-- What a card sends is not lost by the order of the anticollision. -/
theorem enumerated_ne_nil (h : cards ≠ []) : enumerated cards ≠ [] := by
  obtain ⟨c, hc⟩ := List.exists_mem_of_ne_nil cards h
  refine List.ne_nil_of_mem (a := c) ?_
  cases hb : c.typeB <;> simp [enumerated, hc, hb]

theorem out_each_reader (s : State) (a : Nat) (l : List (List Byte × Nat)) :
    (s.each l fun t x => t.send (.reader a x.1 x.2)).out = s.out ++ l.map fun x => .reader a x.1 x.2 := by
  induction l generalizing s with
  | nil => simp
  | cons x l ih => rw [each_cons, ih, send_out, List.map_cons, List.append_assoc, List.singleton_append]

/-- A void tap changes nothing but that it is void, and the notice. -/
theorem ambiguous_cases : (s.ambiguous a cards = s) ∨ ∃ b n, s.ambiguous a cards =
    ((s.modAerial a fun x => { x with void := true }).modAerial b fun x => { x with void := true }).notice byDevice 0x0C05 n := by
  unfold State.ambiguous
  dsimp only
  split
  · exact .inr ⟨_, _, rfl⟩
  · exact .inl rfl

theorem get_ambiguous (k : Nat) : (s.ambiguous a cards).get k = s.get k := by
  obtain h | ⟨b, n, h⟩ := ambiguous_cases (s := s) (a := a) (cards := cards) <;> rw [h]
  rfl

theorem out_ambiguous : (s.ambiguous a cards).out = s.out := by
  obtain h | ⟨b, n, h⟩ := ambiguous_cases (s := s) (a := a) (cards := cards) <;> rw [h]
  rfl

theorem aerial_ambiguous_view {β : Type} (g : Aerial → β) (hg : ∀ x, g { x with void := true } = g x) :
    g ((s.ambiguous a cards).aerial a) = g (s.aerial a) := by
  obtain h | ⟨b, n, h⟩ := ambiguous_cases (s := s) (a := a) (cards := cards) <;> rw [h]
  exact (aerial_modAerial_view _ g b _ hg).trans (aerial_modAerial_view s g a _ hg)

/-- What a polling counts, and the notice of one that was cut short. -/
def State.pollCounted (s : State) (a : Nat) (cards : List Card) (late : Bool) : State :=
  ((s.count (k21Transactions (feOf a))).put (k21CardsInField (16 + a)) (min 255 cards.length : Nat)).when late fun t => t.noticeOpen byDevice 0x0C07

/-- The polling was cut short: it ends more than 300 ms after it was due (R358). -/
def State.pollLate (s : State) (a : Nat) : Bool :=
  match (s.aerial a).pollAt with
  | some p => decide (pollLimit < s.since p)
  | none => false

/-- The commands of the polling have been sent. -/
def State.pollSent (s : State) (a : Nat) (cards : List Card) (late : Bool) : State :=
  ((s.pollCounted a cards late).each ((s.pollCounted a cards late).pollFrames cards) fun t x => t.send (.reader a x.1 x.2)).drew

/-- The polling before the cards are compared with those of other aerials. -/
def State.polled (s : State) (a : Nat) (cards : List Card) : State :=
  ((s.pollSent a cards (s.pollLate a)).modAerial a fun x => { x with pollAt := none, cards := enumerated cards, void := false }).modAerial a
    fun x => { x with empty := 0, settleEnd := some (s.after (msTicks (s.getN k21SettleTime))) }

theorem polling_found (ha : a < 24) (hstate : s.aerialState a = 1) (hdue : s.reachedOpt (s.aerial a).pollAt = true)
    (hrun : s.runsFully = true) (hloud : s.silenced (feOf a) = false) (hholds : s.holder (feOf a) = some a) (hcards : cards ≠ []) :
    polling a cards false s = (s.polled a cards).ambiguous a (enumerated cards) := by
  have hpoll : s.pollDue a = true := by simp [State.pollDue, hstate, hdue]
  simp only [polling, ha, hpoll, hrun, hloud, hholds, decide_true, Bool.not_false, Bool.and_self, Bool.not_true, Bool.false_eq_true, if_false,
    enumerated_ne_nil hcards, Bool.false_or]
  unfold State.polled State.pollSent State.pollCounted State.pollLate
  rfl

theorem get_pollCounted (late : Bool) (k : Nat) : (s.pollCounted a cards late).get k =
    ((s.count (k21Transactions (feOf a))).put (k21CardsInField (16 + a)) (min 255 cards.length : Nat)).get k := by
  cases late <;> rfl

theorem get_pollSent (late : Bool) (k : Nat) : (s.pollSent a cards late).get k = (s.pollCounted a cards late).get k := by
  unfold State.pollSent
  rw [get_drew]
  exact each_view (fun t => t.get k) _ _ _ fun _ _ _ => rfl

theorem get_polled (k : Nat) : (s.polled a cards).get k =
    ((s.count (k21Transactions (feOf a))).put (k21CardsInField (16 + a)) (min 255 cards.length : Nat)).get k :=
  (get_pollSent _ k).trans (get_pollCounted _ k)

theorem aerials_pollSent (late : Bool) : (s.pollSent a cards late).aerials = s.aerials := by
  have hcount : (s.count (k21Transactions (feOf a))).aerials = s.aerials := by
    have h := congrArg State.aerials (count_rest s (k21Transactions (feOf a)))
    exact h
  have hcounted : (s.pollCounted a cards late).aerials = s.aerials := by
    unfold State.pollCounted
    cases late <;> exact hcount
  unfold State.pollSent
  rw [drew_aerials, ← hcounted]
  exact each_view State.aerials _ _ _ fun _ _ _ => rfl

theorem aerial_polled (h : a < s.aerials.length) : (s.polled a cards).aerial a =
    { s.aerial a with pollAt := none, cards := enumerated cards, void := false, empty := 0,
                      settleEnd := some (s.after (msTicks (s.getN k21SettleTime))) } := by
  have hlen : a < (s.pollSent a cards (s.pollLate a)).aerials.length := by rw [aerials_pollSent]; exact h
  unfold State.polled
  rw [aerial_modAerial_same _ _ (by simpa [State.modAerial] using hlen), aerial_modAerial_same _ _ hlen]
  simp only [State.aerial, aerials_pollSent]

theorem out_polled (hlate : s.pollLate a = false) :
    (s.polled a cards).out = s.out ++ (s.pollFrames cards).map fun x => .reader a x.1 x.2 := by
  have hout : (s.pollCounted a cards false).out = s.out := out_count s _
  have hdraw : (s.count (k21Transactions (feOf a))).draw = s.draw := by
    have h := congrArg State.draw (count_rest s (k21Transactions (feOf a)))
    exact h
  have hframes : (s.pollCounted a cards false).pollFrames cards = s.pollFrames cards := by
    simp only [State.pollFrames, State.pollCounted, State.when, Bool.false_eq_true, if_false, put_draw, hdraw]
  unfold State.polled State.pollSent
  rw [hlate, out_modAerial, out_modAerial, drew_out, out_each_reader, hout, hframes]

theorem pollLate_of_since (h : ∀ p, (s.aerial a).pollAt = some p → s.since p ≤ 2400) : s.pollLate a = false := by
  unfold State.pollLate
  split
  · next p hp => exact decide_eq_false (Nat.not_lt.2 (h p hp))
  · rfl

end Polling

/-! ### The settled tap and its decision (R360, R361) -/

section Taps
variable {s : State} {a : Nat} {sid : Nat} {v : Int}

theorem getN_tapResult (r : Nat) : (s.tapResult a r).getN (k21LastResult (16 + a)) = r := by
  unfold State.tapResult
  dsimp only
  split <;> exact getN_put_same s _ r

theorem get_tapResult_other (r k : Nat) (h : k ≠ k21LastResult (16 + a)) : (s.tapResult a r).get k = s.get k := by
  unfold State.tapResult
  dsimp only
  split <;> exact get_put_other s _ k r h

/-- The tap is settled: the aerial stands in state 2 and shows the identity. -/
theorem settleEnd_random {c : Card} (ha : a < 24) (hdue : s.reachedOpt (s.aerial a).settleEnd = true) (hfw : s.firmwareUp = true)
    (hvalid : (s.aerial a).void = false) (hcards : (s.aerial a).cards = [c]) (hrandom : cardRandom c = true) :
    settleEnd a s = (((((s.setAerial a 2).modAerial a fun x =>
      { x with settleEnd := none, void := false, cards := [], low := 0, card := x.cards.head? }).put
        (k21LastIdentity (16 + a)) (cardText c)).modAerial a fun x => { x with card := some c }).tapResult a 7) := by
  have hused : s.usedCard [c] = some c := by simp [State.usedCard, hrandom]
  simp only [settleEnd, ha, hdue, hfw, hvalid, hcards, hused, hrandom, decide_true, Bool.and_self, Bool.not_true, Bool.false_eq_true, if_false,
    if_true]

/-- The identity of the first of some cards. -/
def firstIdentity : Option Card → Int
  | some c => cardText c
  | none => 0

theorem settleEnd_void (ha : a < 24) (hdue : s.reachedOpt (s.aerial a).settleEnd = true) (hfw : s.firmwareUp = true)
    (hvoid : (s.aerial a).void = true) : settleEnd a s = ((((s.setAerial a 2).modAerial a fun x =>
      { x with settleEnd := none, void := false, cards := [], low := 0, card := x.cards.head? }).put
        (k21LastIdentity (16 + a)) (firstIdentity (s.aerial a).cards.head?)).tapResult a 5) := by
  simp only [settleEnd, ha, hdue, hfw, hvoid, decide_true, Bool.and_self, Bool.not_true, Bool.false_eq_true, if_false, if_true]
  unfold firstIdentity
  rfl

theorem decision_pending (hpass : s.rowPasses sid (k21Decision (16 + a)) v = true) (h : s.getN (k21LastResult (16 + a)) = 6) :
    execDecision sid a v s = .next ((s.writeOne sid (k21Decision (16 + a)) v (applyDecision a v)).atStep5) :=
  congrArg Host.Outcome.next (writeRow_passes s sid _ v _ _ hpass (if_pos h))

theorem decision_refused (hpass : s.rowPasses sid (k21Decision (16 + a)) v = true) (h : s.getN (k21LastResult (16 + a)) ≠ 6) :
    execDecision sid a v s = .next ((s.answer sid (k21Decision (16 + a)) stNotNow).atStep5) :=
  congrArg Host.Outcome.next (writeRow_answers s sid _ v _ _ stNotNow hpass (if_neg h) (by decide) (by decide))

theorem decisionTimeout_due (ha : a < 24) (hwaits : s.getN (k21LastResult (16 + a)) = 6) (hdue : s.reachedOpt (s.aerial a).decisionEnd = true) :
    decisionTimeout a s = (s.modAerial a fun x => { x with decisionEnd := none }).tapResult a 3 := by
  simp only [decisionTimeout, ha, hwaits, hdue, decide_true, Bool.and_self, if_true]

/-! ### An external field (R366) -/

@[simp] theorem emulation_showFront (f : Nat) : (s.showFront f).emulation = s.emulation := rfl
@[simp] theorem emulation_endExchange (st : Nat) : (s.endExchange a st).emulation = s.emulation := rfl

theorem emulation_externalField (h : s.emulation.field = false) : (externalField s).emulation.field = true := by
  simp only [externalField, h, Bool.false_eq_true, if_false]
  cases (s.frontEnd 0).busy <;> dsimp only <;> split <;> rfl

end Taps

/-- Settles O43: each clause by the branch its conditions name; what a polling leaves is read off its stages. -/
theorem tapRows : Obligations.TapRows := by
  unfold Obligations.TapRows
  refine ⟨fun s a r ha hcc hidle hloud hfree hdet hbase hdev => ⟨_, rfl, ?_⟩,
    fun s a r ha hcc hidle hloud hfree hdet hdev => ⟨_, rfl, ?_⟩,
    fun s a cards ha hstate hdue hrun hloud hholds hcards hfew hlen => ⟨_, rfl, ?_⟩,
    fun s a c ha hdue hfw hvalid hcards hrandom => ⟨_, rfl, ?_⟩,
    fun s a ha hdue hfw hvoid => ⟨_, rfl, ?_⟩,
    fun s sid a v => decision_pending,
    fun s sid a v => decision_refused,
    fun s a ha hwaits hdue => ⟨_, rfl, by rw [decisionTimeout_due ha hwaits hdue, getN_tapResult]⟩,
    fun s h => ⟨_, rfl, emulation_externalField h, by simp [State.silenced, emulation_externalField h]⟩,
    fun s => rfl⟩
  · rw [ping_below ha hcc hidle hloud hfree hdet hbase hdev]
    refine ⟨?_, ?_, get_put_same ..⟩
    · rw [getN_put_other _ _ _ _ (by simp only [key]; omega), getN_modAerial, getN_put_same]
    · rw [State.aerialState, getN_put_other _ _ _ _ (by simp only [key]; omega), getN_modAerial,
        getN_put_other _ _ _ _ (by simp only [key]; omega)]
      exact hidle
  · rw [ping_detects ha hcc hidle hloud hfree hdet hdev]
    refine ⟨(getN_modAerial ..).trans (getN_setAerial _ 1), fun hlen => congrArg Aerial.pollAt (aerial_modAerial_same _ _ ?_)⟩
    simp only [State.setAerial, put_aerials, State.modAerial, List.length_modify]
    split <;> exact hlen
  · rw [polling_found ha hstate hdue hrun hloud hholds hcards]
    refine ⟨?_, ?_, ?_, ?_, fun hsince => ?_⟩
    · rw [State.getN, get_ambiguous, get_polled, get_put_same, Int.toNat_natCast]
      omega
    · rw [aerial_ambiguous_view Aerial.settleEnd fun _ => rfl, aerial_polled hlen]
    · rw [aerial_ambiguous_view Aerial.cards fun _ => rfl, aerial_polled hlen]
    · rw [get_ambiguous, get_polled, get_put_other _ _ _ _ (by simp only [key]; omega), get_count _ _ (by simp only [key]; omega)]
    · rw [out_ambiguous, out_polled (pollLate_of_since hsince)]
  · rw [settleEnd_random ha hdue hfw hvalid hcards hrandom]
    refine ⟨?_, getN_tapResult 7, ?_, ?_⟩
    · rw [State.aerialState, State.getN, get_tapResult_other _ _ (by simp only [key]; omega), get_modAerial,
        get_put_other _ _ _ _ (by simp only [key]; omega)]
      exact getN_setAerial s 2
    · rw [get_tapResult_other _ _ (by simp only [key]; omega), get_modAerial, get_put_same]
    · exact List.mem_append_right _ (List.mem_singleton.2 rfl)
  · rw [settleEnd_void ha hdue hfw hvoid]
    refine ⟨?_, getN_tapResult 5⟩
    rw [State.aerialState, State.getN, get_tapResult_other _ _ (by simp only [key]; omega), get_put_other _ _ _ _ (by simp only [key]; omega)]
    exact getN_setAerial s 2

end Sys2Proof.Machine
end

section
/-! Exchanges with a card and card emulation (O44). -/

namespace Sys2Proof.Machine

/-! ### Exchanges (R362, R363) -/

section Exchanges
variable {s : State} {a : Nat} {resp : List Byte}

@[simp] theorem out_endExchange (st : Nat) : (s.endExchange a st).out = s.out := rfl
@[simp] theorem recorder_endExchange (st : Nat) : (s.endExchange a st).recorder = s.recorder := rfl

theorem get_showFront_other (f k : Nat) (h : k ≠ k21FrontEndState f) : (s.showFront f).get k = s.get k := get_put_other s _ k _ h

theorem get_endExchange_other (st k : Nat) (hstate : k ≠ k21FrontEndState (feOf a)) (hstatus : k ≠ k21APDUStatus (16 + a)) :
    (s.endExchange a st).get k = s.get k :=
  (get_showFront_other _ k hstate).trans (get_put_other s _ k st hstatus)

/-- The status of an exchange that ended. -/
theorem status_endExchange (st : Nat) : (s.endExchange a st).getN (k21APDUStatus (16 + a)) = st := by
  have hfront : (s.endExchange a st).get (k21APDUStatus (16 + a)) = (s.put (k21APDUStatus (16 + a)) st).get (k21APDUStatus (16 + a)) :=
    get_showFront_other _ _ (by simp only [key]; omega)
  rw [State.getN, hfront, get_put_same, Int.toNat_natCast]

section Awaited
variable (ha : a < 24) (hawaits : s.awaits a = true)
include ha hawaits

theorem apduResponse_wtx (m : Nat) (hiso : s.speaksIso4 a = true) : apduResponse a (some m) resp s =
    (s.modAerial a fun x => { x with waitEnd := s.after (max 1 m * frameWait (((s.aerial a).card.map Card.fwi).getD 4)) }).send
      (.card a [0xF2, BitVec.ofNat 8 m]) := by
  simp only [apduResponse, ha, hawaits, hiso, decide_true, Bool.and_self, Bool.not_true, Bool.false_eq_true, if_false]

theorem apduResponse_badType {m : Option Nat} (hiso : s.speaksIso4 a = false) (h : m ≠ none ∨ resp ≠ []) :
    apduResponse a m resp s = s.endExchange a stBadType := by
  have hanswered : (resp = [] && m.isNone) = false := by cases m <;> simp_all
  simp only [apduResponse, ha, hawaits, hiso, hanswered, decide_true, Bool.and_self, Bool.not_true, Bool.not_false, Bool.false_eq_true, if_false,
    if_true]

theorem apduResponse_answer (hiso : s.speaksIso4 a = true) (h : resp ≠ []) : apduResponse a none resp s =
    ((s.put (k21APDUResponse (16 + a)) (blkOf ((natBytes resp).take 258))).endExchange a stOk).send (.card a [0xC2]) := by
  simp only [apduResponse, ha, hawaits, hiso, h, decide_true, Bool.and_self, Bool.not_true, Bool.false_eq_true, if_false]
  rfl

theorem apduResponse_empty (hiso : s.speaksIso4 a = true) : apduResponse a none [] s = s.endExchange a stNoObject := by
  simp only [apduResponse, ha, hawaits, hiso, decide_true, Bool.and_self, Bool.not_true, Bool.false_eq_true, if_false, if_true]

end Awaited

theorem waitingTimeCap_due (ha : a < 24) (hdue : s.reachedOpt (s.aerial a).exchangeEnd = true) :
    waitingTimeCap a s = ((s.endExchange a stExpired).notice byDevice 0x0C10 a).send (.card a [0xC2]) := by
  simp only [waitingTimeCap, ha, hdue, decide_true, Bool.and_self, if_true]
  rfl

end Exchanges

/-! ### Card emulation (R365) -/

section Emulation
variable {s : State}

theorem emulationApdu_selectKod (h : s.emulates = true) :
    emulationApdu [0x00, 0xA4, 0x04, 0x00, 0x07, 0xF0, 0x54, 0x52, 0x54, 0x4B, 0x4F, 0x44] s =
      ({ s with emulation := { s.emulation with app := 2, file := 0 } } : State).send (.emulation [0x90, 0x00]) := by
  simp only [emulationApdu, h, Bool.not_true, Bool.false_eq_true, if_false]
  rfl

theorem emulationApdu_selectFile (h : s.emulates = true) (happ : s.emulation.app = 1) :
    emulationApdu [0x00, 0xA4, 0x00, 0x0C, 0x02, 0xE1, 0x04] s =
      ({ s with emulation := { s.emulation with file := 0xE104 } } : State).send (.emulation [0x90, 0x00]) := by
  have hselect : (natBytes [0x00, 0xA4, 0x00, 0x0C, 0x02, 0xE1, 0x04]).take 4 = [0x00, 0xA4, 0x00, 0x0C] := by decide
  have hfile : numBE (((natBytes [0x00, 0xA4, 0x00, 0x0C, 0x02, 0xE1, 0x04]).drop 5).take 2) = 0xE104 := by decide
  simp only [emulationApdu, h, happ, hselect, hfile, Bool.not_true, Bool.false_eq_true, if_false, if_true, decide_true, Bool.and_self,
    Bool.or_true]
  rfl

theorem emulationWtx_late {t0 : Nat} (hwaits : s.emulation.waiting = some t0) (hlate : 40000 ≤ s.since t0) : emulationWtx s =
    (({ s with emulation := { s.emulation with waiting := none, wtx := 0 } } : State).send (.emulation [0x6F, 0x00])).noticeOpen byDevice 0x0C20 := by
  have hend : secTicks 5 ≤ s.since t0 := hlate
  simp only [emulationWtx, hwaits, hend, if_true]
  rfl

theorem emulationWtx_asks {t0 : Nat} (hwaits : s.emulation.waiting = some t0) (hearly : s.since t0 < 40000)
    (hdue : 2696 * (s.emulation.wtx + 1) ≤ 10 * s.since t0) :
    emulationWtx s = ({ s with emulation := { s.emulation with wtx := s.emulation.wtx + 1 } } : State).send .wtx := by
  have hend : ¬ secTicks 5 ≤ s.since t0 := Nat.not_le.2 hearly
  simp only [emulationWtx, hwaits, hend, hdue, if_true, if_false]

end Emulation

/-- Settles O44: an answer by what the card speaks and whether it came, the emulation by the command that is selected. -/
theorem exchangeRows : Obligations.ExchangeRows := by
  unfold Obligations.ExchangeRows
  refine ⟨fun s sid a apdu hpass hcheck => congrArg Host.Outcome.next (writeRow_passes s sid _ _ _ _ hpass hcheck),
    fun s a m resp ha hawaits hiso => congrArg Host.Outcome.next (apduResponse_wtx ha hawaits m hiso),
    fun s a m resp ha hawaits hiso h => ⟨_, rfl, ?_⟩,
    fun s a resp ha hawaits hiso h => ⟨_, rfl, ?_⟩,
    fun s a ha hawaits hiso => ⟨_, rfl, by rw [apduResponse_empty ha hawaits hiso, status_endExchange]⟩,
    fun s a ha hdue => ⟨_, rfl, ?_⟩,
    fun s h => congrArg Host.Outcome.next (emulationApdu_selectKod h),
    fun s h happ => congrArg Host.Outcome.next (emulationApdu_selectFile h happ),
    fun s t0 hwaits hlate => ⟨_, rfl, by rw [emulationWtx_late hwaits hlate]; exact ⟨rfl, rfl⟩⟩,
    fun s t0 hwaits hearly hdue => congrArg Host.Outcome.next (emulationWtx_asks hwaits hearly hdue)⟩
  · rw [apduResponse_badType ha hawaits hiso h]
    exact ⟨status_endExchange stBadType, rfl⟩
  · rw [apduResponse_answer ha hawaits hiso h]
    refine ⟨(getN_send ..).trans (status_endExchange stOk), ?_, rfl⟩
    exact (get_send ..).trans <| (get_endExchange_other _ _ (by simp only [key]; omega) (by simp only [key]; omega)).trans (get_put_same ..)
  · rw [waitingTimeCap_due ha hdue]
    exact ⟨(getN_send ..).trans ((getN_notice ..).trans (status_endExchange stExpired)), rfl, rfl⟩

end Sys2Proof.Machine
end

section
/-! The dormant tag (O45): its air interface, its writes and the field. -/

namespace Sys2Proof.Machine

section Tag
variable {s : State} {page : Nat} {data : List Byte}

/-! ### The air interface (R371) -/

section Air
variable {l n u : Nat} {h : Bool}

theorem reqa_programming (hprog : s.tag.prog.isSome = true) : reqa s = s.modTag fun t => { t with field := true } := if_pos hprog
theorem wupa_programming (hprog : s.tag.prog.isSome = true) : wupa s = s.modTag fun t => { t with field := true } := if_pos hprog
theorem anticollision_programming (hprog : s.tag.prog.isSome = true) : anticollision l n u s = s := if_pos hprog

theorem reqa_idle (hidle : s.tag.picc = .idle) (hprog : s.tag.prog = none) :
    reqa s = (s.modTag fun t => { t with field := true, picc := .ready 1 false }).tagReply [0x44, 0x00] := by simp [reqa, hidle, hprog]

theorem reqa_halted (hhalt : s.tag.picc = .halt) (hprog : s.tag.prog = none) : reqa s = s := by simp [reqa, hhalt, hprog]

theorem wupa_halted (hhalt : s.tag.picc = .halt) (hprog : s.tag.prog = none) :
    wupa s = (s.modTag fun t => { t with field := true, picc := .ready 1 true }).tagReply [0x44, 0x00] := by simp [wupa, hhalt, hprog]

section Ready
variable (hready : s.tag.picc = .ready l h) (hprog : s.tag.prog = none)
include hready hprog

theorem anticollision_partial (hn : n < 40) (hmatch : u % 2 ^ n = levelBits l % 2 ^ n) :
    anticollision l n u s = s.send (.tagBits (40 - n) (levelBits l / 2 ^ n)) := by
  simp [anticollision, hready, hprog, hmatch, show ¬ 40 < n by omega, show n ≠ 40 by omega]

theorem anticollision_mismatch (hmatch : u % 2 ^ n ≠ levelBits l % 2 ^ n) :
    anticollision l n u s = s.modTag fun t => { t with picc := if h then .halt else .idle } := by
  simp [anticollision, hready, hprog, hmatch]

theorem anticollision_selects : anticollision l 40 (levelBits l) s =
    if l = 1 then (s.modTag fun t => { t with picc := .ready 2 h }).tagReply [0x04]
    else (s.modTag fun t => { t with picc := .active }).tagReply [0x00] := by
  simp [anticollision, hready, hprog]

end Ready

theorem hlta_active (hactive : s.tag.picc = .active) : hlta s = s.modTag fun t => { t with picc := .halt } := if_pos hactive

theorem tagRead_page (hserves : s.tagServes = true) (hpage : page < 516) :
    tagRead page s = s.tagReply ((List.range 16).map fun i => tagByte s.tag ((4 * page + i) % 2064)) := by
  have hin : ¬ tagPages ≤ page := Nat.not_le.2 hpage
  simp only [tagRead, hserves, hin, Bool.not_true, Bool.false_eq_true, if_false]
  rfl

end Air

/-! ### Writes (R372, R373) -/

/-- The pages of the slots lie behind the markers. -/
theorem not_marker_of_inSlot {k : Nat} (h : inSlot k page = true) : ¬ (page = 133 ∨ page = 134) := by
  have hle : slotPage k ≤ page := of_decide_eq_true (Bool.and_eq_true_iff.1 h).1
  have hfrom : 136 ≤ slotPage k := Nat.le_add_right ..
  omega

theorem tagWrite_shadow (hserves : s.tagServes = true) (hin : inSlot (shadowSlot s.tag) page = true) :
    tagWrite page data true s = s.startProg (.page page data) := by
  simp [tagWrite, not_marker_of_inSlot hin, hserves, hin]

theorem tagWrite_outside (hserves : s.tagServes = true) (h133 : page ≠ 133) (h134 : page ≠ 134)
    (hout : inSlot (shadowSlot s.tag) page = false) : tagWrite page data true s = s.tagReply [0x00] := by
  simp [tagWrite, h133, h134, hserves, hout]

/-- The pointer to the shadow slot that follows an accepted marker. -/
def pointerFor (t : Tag) (data : List Byte) : List Byte :=
  toBytes (shadowSlot t :: (natBytes data).take 2 ++ [crc8 (shadowSlot t :: (natBytes data).take 2)])

theorem markerPage_shadow (t : Tag) : markerPage (shadowSlot t) = 133 ∨ markerPage (shadowSlot t) = 134 := by
  unfold shadowSlot
  split
  · exact .inr rfl
  · exact .inl rfl

theorem commitMarkerWrite_accepted (hserves : s.tagServes = true) (haccepted : markerAccepted s.tag data = true) :
    commitMarkerWrite (markerPage (shadowSlot s.tag)) data true s =
      s.startProg (.marker (markerPage (shadowSlot s.tag)) data (pointerFor s.tag data)) := by
  have hpage : (decide (markerPage (shadowSlot s.tag) = 133) || decide (markerPage (shadowSlot s.tag) = 134)) = true := by
    simpa using markerPage_shadow s.tag
  simp only [commitMarkerWrite, hserves, haccepted, hpage, Bool.not_true, Bool.or_self, Bool.false_eq_true, if_false, ne_eq, not_true_eq_false,
    decide_false]
  rfl

/-- What a write of the air interface may do: nothing but an answer, or begin a page of the shadow slot or a marker. -/
inductive TagWriteLeaves (s : State) : State → Prop
  | nothing : TagWriteLeaves s s
  | reply (b : List Nat) : TagWriteLeaves s (s.tagReply b)
  | page (p : Nat) (d : List Byte) : inSlot (shadowSlot s.tag) p = true → TagWriteLeaves s (s.startProg (.page p d))
  | marker (p : Nat) (d q : List Byte) : TagWriteLeaves s (s.startProg (.marker p d q))

theorem commitMarkerWrite_leaves (ok : Bool) : TagWriteLeaves s (commitMarkerWrite page data ok s) := by
  unfold commitMarkerWrite
  dsimp only
  split
  · exact .nothing
  · split
    · exact .reply _
    · split
      · exact .reply _
      · exact .marker ..

theorem tagWrite_leaves (ok : Bool) : TagWriteLeaves s (tagWrite page data ok s) := by
  unfold tagWrite
  split
  · exact commitMarkerWrite_leaves ok
  · split
    · exact .nothing
    · split
      · exact .reply _
      · split
        · next hin => exact .page _ _ hin
        · exact .reply _

namespace TagWriteLeaves
variable {t : State}

theorem mem (h : TagWriteLeaves s t) : t.tag.mem = s.tag.mem := by cases h <;> rfl
theorem obj (h : TagWriteLeaves s t) : t.obj = s.obj := by cases h <;> rfl

theorem shadow {p : Nat} {d : List Byte} (h : TagWriteLeaves s t) (hprog : t.tag.prog = some (.page p d)) (hnew : t.tag.prog ≠ s.tag.prog) :
    inSlot (shadowSlot s.tag) p = true := by
  cases h with
  | nothing => exact absurd rfl hnew
  | reply b => exact absurd rfl hnew
  | page p' d' hin =>
    obtain ⟨rfl, -⟩ := TagProg.page.inj (Option.some.inj hprog)
    exact hin
  | marker p' d' q => exact absurd hprog (by simp [State.startProg, State.modTag])

end TagWriteLeaves

/-! ### The field (R374, R375) -/

theorem tagFieldLost_quiet (hprog : s.tag.prog = none) : tagFieldLost s =
    (s.modTag fun x => { x with prog := none, picc := .idle, field := false, fieldGone := some s.cc }).put k22TagState 0 := by
  simp only [tagFieldLost, hprog]

theorem fdetRelease_released (hfdet : s.tag.fdet = false) : fdetRelease s =
    ((s.modTag fun t => { t with fdet := true, field := true, fieldGone := none }).put k22TagState 1).count k22FieldEvents := by
  simp [fdetRelease, hfdet]

theorem fdetLow_due {t0 : Nat} (hgone : s.tag.fieldGone = some t0) (hfdet : s.tag.fdet = true) (hfield : s.tag.field = false)
    (hdue : s.reached ((t0 + 800) % ccMod) = true) : fdetLow s = s.modTag fun x => { x with fdet := false, fieldGone := none } := by
  have hdue' : s.reached ((t0 + msTicks 100) % ccMod) = true := hdue
  simp only [fdetLow, hgone, hfdet, hfield, hdue', Bool.not_false, Bool.and_self, Bool.or_true, if_true]

/-! ### The identity area (R376) -/

/-- The first page of the identity area that differs. -/
theorem ownPage_differs {i : Nat} (hfield : s.tag.field = false) (hprog : s.tag.prog = none) (hi : i < 128)
    (hdiffers : tagPage s.tag (4 + i) ≠ (s.identityArea.drop (4 * i)).take 4)
    (hfirst : ∀ j < i, tagPage s.tag (4 + j) = (s.identityArea.drop (4 * j)).take 4) :
    s.ownPage = s.startProg (.own (4 + i) (toBytes ((s.identityArea.drop (4 * i)).take 4))) := by
  have hfind : ((List.range 128).find? fun i => tagPage s.tag (4 + i) ≠ (s.identityArea.drop (4 * i)).take 4) = some i := by
    rw [List.find?_range_eq_some]
    exact ⟨by simpa using hdiffers, by simpa using hi, fun j hj => by simpa using hfirst j hj⟩
  simp only [State.ownPage, hfield, hprog, Option.isSome_none, Bool.or_self, Bool.false_eq_true, if_false, hfind]

theorem ownPage_idle (h : (∀ i < 128, tagPage s.tag (4 + i) = (s.identityArea.drop (4 * i)).take 4) ∨ s.tag.field = true) : s.ownPage = s := by
  unfold State.ownPage
  split
  · rfl
  · next hfree =>
    have hsame := h.resolve_right fun hf => hfree (by rw [hf]; rfl)
    have hfind : ((List.range 128).find? fun i => tagPage s.tag (4 + i) ≠ (s.identityArea.drop (4 * i)).take 4) = none :=
      List.find?_eq_none.2 fun i hi => by simpa using hsame i (List.mem_range.1 hi)
    rw [hfind]

theorem identityRewrite_idle (h : (∀ i < 128, tagPage s.tag (4 + i) = (s.identityArea.drop (4 * i)).take 4) ∨ s.tag.field = true) :
    identityRewrite s = s := by
  unfold identityRewrite
  split
  · exact ownPage_idle h
  · rfl

end Tag

/-- Settles O45: each clause by the branch its conditions name; a write by the four things it may leave. -/
theorem tagRows : Obligations.TagRows := by
  unfold Obligations.TagRows
  refine ⟨fun s hidle hprog => congrArg Host.Outcome.next (reqa_idle hidle hprog),
    fun s hhalt hprog => ⟨congrArg Host.Outcome.next (reqa_halted hhalt hprog), congrArg Host.Outcome.next (wupa_halted hhalt hprog)⟩,
    fun s l n u hprog => ⟨congrArg Host.Outcome.next (reqa_programming hprog), congrArg Host.Outcome.next (wupa_programming hprog),
      congrArg Host.Outcome.next (anticollision_programming hprog)⟩,
    fun s h l n u hready hprog hn hmatch => congrArg Host.Outcome.next (anticollision_partial hready hprog hn hmatch),
    fun s h l n u hready hprog _ hmatch => congrArg Host.Outcome.next (anticollision_mismatch hready hprog hmatch),
    fun s h hready hprog => ⟨_, congrArg Host.Outcome.next (anticollision_selects hready hprog), rfl, rfl⟩,
    fun s h hready hprog => ⟨_, congrArg Host.Outcome.next (anticollision_selects hready hprog), rfl, rfl⟩,
    fun s hactive => congrArg Host.Outcome.next (hlta_active hactive),
    fun s page hserves hpage => congrArg Host.Outcome.next (tagRead_page hserves hpage),
    fun s page data hserves hin => ⟨_, congrArg Host.Outcome.next (tagWrite_shadow hserves hin), rfl, rfl, rfl⟩,
    fun s page data hserves h133 h134 hout => congrArg Host.Outcome.next (tagWrite_outside hserves h133 h134 hout),
    fun s data hserves haccepted => ⟨_, _, congrArg Host.Outcome.next (commitMarkerWrite_accepted hserves haccepted), rfl, rfl⟩,
    fun s hprog => ⟨_, congrArg Host.Outcome.next (tagFieldLost_quiet hprog), rfl, rfl, rfl, getN_put_same _ _ 0⟩,
    fun s hfdet => ⟨_, congrArg Host.Outcome.next (fdetRelease_released hfdet), ?_, ?_, ?_⟩,
    fun s t0 hgone hfdet hfield hdue => congrArg Host.Outcome.next (fdetLow_due hgone hfdet hfield hdue),
    fun s i hpowered hfield hprog hdiffers hi hfirst => congrArg Host.Outcome.next
      ((if_pos hpowered).trans (ownPage_differs hfield hprog hi hdiffers hfirst)),
    fun s h => congrArg Host.Outcome.next (identityRewrite_idle h),
    fun s page data ok t ht => ?_⟩
  · have h := congrArg State.tag (count_rest
      ((s.modTag fun t => { t with fdet := true, field := true, fieldGone := none }).put k22TagState 1) k22FieldEvents)
    exact (congrArg Tag.fdet h :)
  · rw [State.getN, get_count_other _ _ _ (by decide) (by decide), get_put_same]
    rfl
  · rw [get_count _ _ (by decide)]
    simp only [oneMore, get_put_other _ k22TagState k22FieldEvents _ (by decide)]
    rfl
  · have h : TagWriteLeaves s t := Host.Outcome.next.inj ht ▸ tagWrite_leaves ok
    exact ⟨h.mem, h.obj, fun p d => h.shadow⟩

end Sys2Proof.Machine
end

section
/-! The keypad and the display (O46). -/

namespace Sys2Proof.Machine

/-! ### Keys and digits (R369, R370) -/

section Keypad
variable {s : State} {k : Nat}

theorem keyPress_accepted (hk : k < 16) (hup : s.keypad.pressed.getD k false = false) (hrun : 20 ≤ s.keypad.runs.getD k 0) :
    keyPress k s = (s.keyEvent k true).tokenKey k := by
  have hscans : scansToAccept ≤ s.keypad.runs.getD k 0 := hrun
  simp only [keyPress, hk, hup, hscans, decide_true, Bool.not_false, Bool.and_self, if_true]

theorem keyRelease_accepted (hk : k < 16) (hdown : s.keypad.pressed.getD k false = true) (hrun : 20 ≤ s.keypad.runs.getD k 0) :
    keyRelease k s = s.keyEvent k false := by
  have hscans : scansToAccept ≤ s.keypad.runs.getD k 0 := hrun
  simp only [keyRelease, hk, hdown, hscans, decide_true, Bool.and_self, if_true]

/-- The code by which an accepted key is reported. -/
def State.keyCode (s : State) (k : Nat) : Nat := if s.flag k23TokenEntry && keyMasked k then 255 else k

theorem keyCode_eq : s.keyCode k = if s.flag k23TokenEntry = true ∧ k % 4 ≠ 3 then 255 else k := by simp [State.keyCode, keyMasked]

/-- The state of a key event before its debounce state. -/
def State.keyCounted (s : State) (k n : Nat) : State := (s.put k23LastKeyEvent (s.keyCode k * 256 + n : Nat)).count k23KeyEvents

theorem getN_keyCounted (n : Nat) : (s.keyCounted k n).getN k23LastKeyEvent = s.keyCode k * 256 + n := by
  rw [State.getN, State.keyCounted, get_count_other _ _ _ (by decide) (by decide), get_put_same, Int.toNat_natCast]

theorem count_keyCounted (n : Nat) : (s.keyCounted k n).get k23KeyEvents = oneMore s k23KeyEvents := by
  rw [State.keyCounted, get_count _ _ (by decide), oneMore, get_put_other _ _ _ _ (by decide)]
  rfl

theorem cc_keyCounted (n : Nat) : (s.keyCounted k n).cc = s.cc := by
  rw [State.cc, State.getN, State.keyCounted, get_count_other _ _ _ (by decide) (by decide), get_put_other _ _ _ _ (by decide)]
  rfl

@[simp] theorem digits_setDigits (l : List Nat) : (s.setDigits l).keypad.digits = l := rfl
@[simp] theorem getN_setDigits (l : List Nat) : (s.setDigits l).getN k23DigitsEntered = l.length := getN_put_same s _ _

section Entry
variable (hon : s.flag k23TokenEntry = true)
include hon

theorem tokenKey_one (hroom : s.keypad.digits.length < 20) : s.tokenKey 0 = s.setDigits (s.keypad.digits ++ [0x31]) := by
  simp [State.tokenKey, hon, keyChar, hroom]

theorem tokenKey_star : s.tokenKey 12 = s.setDigits [] := by simp [State.tokenKey, hon, keyChar]

theorem tokenKey_hash : s.tokenKey 14 = (s.enterToken 34 s.keypad.digits).setDigits [] := by
  simp [State.tokenKey, hon, keyChar, byKeypad]

theorem entryTimeout_due (hdigits : s.keypad.digits ≠ [])
    (hdue : s.reached ((s.keypad.lastKey + secTicks (s.getN k23EntryTimeout)) % ccMod) = true) :
    entryTimeout s = (s.setDigits []).noticeOpen byDevice 0x0C41 := by
  simp only [entryTimeout, hon, hdigits, hdue, ne_eq, not_false_eq_true, decide_true, Bool.and_self, if_true]

end Entry
end Keypad

/-! ### Requests (R421) -/

section Display
variable {s : State} {sid i r v : Nat} {low high : Bool}

theorem checkUpdateRequest_accepted (hrect : rectOk (s.getN k24Width) (s.getN k24Height) v = true) (hroom : s.display.queue.length < 16)
    (hcrack : s.flag k24CrackState = false) (hdecision : s.pf.active = false) (hengine : s.getN k24EngineState ≠ 4) :
    checkUpdateRequest v s = stOk := by
  simp [checkUpdateRequest, hrect, Nat.not_le.2 hroom, hcrack, hdecision, hengine]

theorem checkUpdateRequest_full (hrect : rectOk (s.getN k24Width) (s.getN k24Height) v = true) (hfull : 16 ≤ s.display.queue.length) :
    checkUpdateRequest v s = stFull := by
  simp [checkUpdateRequest, hrect, hfull]

/-- The request stands at the end of the queue before the slots that it frees. -/
def State.requested (s : State) (v : Nat) : State :=
  (s.dsp fun d => { d with queue := d.queue ++ [v], idleSince := none }).put k24Waiting ((s.display.queue ++ [v]).length : Nat)

theorem applyUpdateRequest_waits : (applyUpdateRequest v s).display.queue = s.display.queue ++ [v] ∧
    (applyUpdateRequest v s).getN k24Waiting = s.display.queue.length + 1 := by
  have hview : ∀ {β : Type} (g : State → β), (∀ t i, g (t.put (k24SlotState (16 + i)) 0) = g t) →
      g (applyUpdateRequest v s) = g (s.requested v) := fun g hg => by
    unfold applyUpdateRequest State.requested
    refine each_view g _ _ _ fun t i _ => ?_
    split
    · exact hg t i
    · rfl
  refine ⟨hview (fun t => t.display.queue) fun _ _ => rfl, (hview (fun t => t.getN k24Waiting) fun t i => ?_).trans ?_⟩
  · exact getN_put_other t _ _ _ (by simp only [key]; omega)
  · rw [State.requested, getN_put_same, List.length_append, List.length_singleton]

/-! ### What the steps of the engine leave -/

@[simp] theorem getN_dsp (f : Display → Display) (k : Nat) : (s.dsp f).getN k = s.getN k := rfl
@[simp] theorem display_dsp (f : Display → Display) : (s.dsp f).display = f s.display := rfl
@[simp] theorem getN_modRect (f : Slot → Slot) (k : Nat) : (s.modRect i f).getN k = s.getN k := rfl
@[simp] theorem getN_watchIdle (k : Nat) : s.watchIdle.getN k = s.getN k := rfl
@[simp] theorem getN_panelOff (later : Bool) (k : Nat) : (s.panelOff later).getN k = s.getN k := rfl
@[simp] theorem display_showEngine : s.showEngine.display = s.display := rfl

theorem getN_showEngine_other (k : Nat) (h : k ≠ k24EngineState) : s.showEngine.getN k = s.getN k := getN_put_other s _ k _ h

@[simp] theorem getN_panelOn (k : Nat) : s.panelOn.getN k = s.getN k := by
  unfold State.panelOn
  split <;> rfl

theorem en_panelOn : s.panelOn.display.en = true := by
  unfold State.panelOn
  split
  · assumption
  · rfl

@[simp] theorem draw_panelOn : s.panelOn.display.draw = s.display.draw := by
  unfold State.panelOn
  split <;> rfl

@[simp] theorem display_refuseRect (st : Nat) : (s.refuseRect st).display = s.display := by
  unfold State.refuseRect
  split <;> rfl

theorem getN_refuseRect_other (st k : Nat) (h : ∀ i, k ≠ k24Result (16 + i)) : (s.refuseRect st).getN k = s.getN k := by
  unfold State.refuseRect
  split
  · exact getN_put_other s _ k _ (h _)
  · rfl

theorem getN_puts_other (l : List (Nat × Int)) (k : Nat) (h : ∀ p ∈ l, p.1 ≠ k) : (s.puts l).getN k = s.getN k :=
  congrArg Int.toNat (get_puts_other s l k h)

@[simp] theorem draw_beginMode (range : Nat) : (s.beginMode i range).display.draw = s.display.draw := rfl

theorem getN_beginMode_other (range k : Nat) (hdone : k ≠ k24FramesDone (16 + i)) (htotal : k ≠ k24FramesTotal (16 + i)) :
    (s.beginMode i range).getN k = s.getN k :=
  getN_puts_other _ k (by simpa using ⟨hdone.symm, htotal.symm⟩)

/-! ### Admission (R422) -/

@[simp] theorem getN_loadTable_slot : s.loadTable.getN (k24SlotState (16 + i)) = s.getN (k24SlotState (16 + i)) := by
  unfold State.loadTable
  split
  · rfl
  · exact getN_put_other s _ _ _ (by simp only [key]; omega)

/-- The members of the display that loading the table leaves. -/
theorem display_loadTable : ∃ l, s.loadTable.display = { s.display with table := l } := by
  unfold State.loadTable
  split
  · exact ⟨_, rfl⟩
  · exact ⟨_, rfl⟩

/-- What the admission leaves of the state that its requests leave. -/
def State.admissionDone (u : State) (kept : List Nat) : State :=
  (((u.dsp fun d => { d with queue := kept }).put k24Waiting (kept.length : Nat)).watchIdle).showEngine

theorem getN_admissionDone_other (u : State) (kept : List Nat) (k : Nat) (hw : k ≠ k24Waiting) (he : k ≠ k24EngineState) :
    (u.admissionDone kept).getN k = u.getN k := by
  rw [State.admissionDone, getN_showEngine_other _ he, getN_watchIdle, getN_put_other _ _ _ _ hw, getN_dsp]

theorem getN_admissionDone_waiting (u : State) (kept : List Nat) : (u.admissionDone kept).getN k24Waiting = kept.length := by
  rw [State.admissionDone, getN_showEngine_other _ (by decide), getN_watchIdle, getN_put_same]

theorem front_admissionDone (u : State) (kept : List Nat) : (u.admissionDone kept).display.front = u.display.front := rfl

/-- A queue of one request. -/
theorem displayAdmission_one (hqueue : s.display.queue = [r]) (hdecision : s.pf.active = false) (hfw : s.firmwareUp = true)
    (hdue : s.admissionDue = true) : displayAdmission low high s =
      (s.loadTable.tryAdmit (loopClosed low high) [] r).1.admissionDone (s.loadTable.tryAdmit (loopClosed low high) [] r).2 := by
  have hload : s.loadTable.display.queue = [r] := by
    obtain ⟨l, hl⟩ := display_loadTable (s := s)
    rw [hl, ← hqueue]
  simp only [displayAdmission, hqueue, hdecision, hfw, hdue, List.cons_ne_nil, decide_false, Bool.not_true, Bool.or_self, Bool.false_eq_true, if_false,
    hload, List.foldl_cons, List.foldl_nil]
  rfl

theorem tryAdmit_noTable {closed : Bool} {kept : List Nat} (h : s.display.table = []) :
    s.tryAdmit closed kept r = (s.refuseRect stNoObject, kept) := if_pos h

/-- What a request that is admitted to a slot shows. -/
structure Admitted (s : State) (i r : Nat) (u : State) : Prop where
  state : u.getN (k24SlotState (16 + i)) = 1
  rect : u.getN (k24Rectangle (16 + i)) = r
  draw : u.display.draw = s.display.draw

theorem Admitted.beginMode {t : State} (h : Admitted s i r t) (range : Nat) : Admitted s i r (t.beginMode i range) :=
  ⟨(getN_beginMode_other range _ (by simp only [key]; omega) (by simp only [key]; omega)).trans h.state,
    (getN_beginMode_other range _ (by simp only [key]; omega) (by simp only [key]; omega)).trans h.rect, h.draw⟩

/-- The request takes the slot: its members, its part of the front buffer and its planes. -/
def State.placed (s : State) (i r : Nat) : State :=
  ((s.puts [(k24SlotState (16 + i), 1), (k24Rectangle (16 + i), r), (k24FramesDone (16 + i), 0), (k24FramesTotal (16 + i), 0),
    (k24Result (16 + i), 0)]).dsp fun d => { d with
      front := (List.range (rY1 r + 1 - rY0 r)).foldl (fun a j => copyRow (s.getN k24Width) s.display.draw a (rX0 r) (rX1 r) (rY0 r + j))
        s.display.front }).modRect i fun _ =>
      { mode := rMode r, started := s.display.nextFrame.isSome, place := s.freePlace (planeSize r), p0 := List.replicate (planeSize r) 0,
        p1 := List.replicate (planeSize r) 0 }

theorem Admitted.placed : Admitted s i r (s.placed i r) := by
  unfold State.placed
  refine ⟨?_, ?_, rfl⟩
  · rw [getN_modRect, getN_dsp, State.getN, puts_cons, get_puts_other _ _ _ (by simp [key]), get_put_same]
    rfl
  · rw [getN_modRect, getN_dsp, State.getN, puts_cons, puts_cons, get_puts_other _ _ _ (by simp [key]), get_put_same, Int.toNat_natCast]

theorem Admitted.panelOn {t : State} (h : Admitted s i r t) : Admitted s i r t.panelOn :=
  ⟨(getN_panelOn _).trans h.state, (getN_panelOn _).trans h.rect, draw_panelOn.trans h.draw⟩

section Admissible
variable {kept : List Nat} (htable : s.display.table ≠ []) (hfits : s.scanFits = true) (hplace : s.admissible kept r = some i)
include htable hfits hplace

/-- A loop that is open latches the crack state. -/
theorem tryAdmit_open : s.tryAdmit false kept r = (((s.put k24CrackState 1).noticeOpen byDevice 0x0E01).refuseRect stIntegrity, kept) := by
  simp only [State.tryAdmit, htable, hfits, hplace, if_false, Bool.not_true, Bool.not_false, Bool.false_eq_true, if_true]

theorem tryAdmit_closed (hrange : s.display.goodAt.isSome = true → s.tempRange.isSome = true) :
    (s.tryAdmit true kept r).2 = kept ∧ Admitted s i r (s.tryAdmit true kept r).1 ∧ (s.tryAdmit true kept r).1.display.en = true := by
  have hserved : (s.display.goodAt.isSome && s.tempRange.isNone) = false := by
    cases hgood : s.display.goodAt
    · rfl
    · rw [Option.isNone_eq_false_iff.2 (hrange (by rw [hgood]; rfl)), Bool.and_false]
  have hadmit : s.tryAdmit true kept r = ((match (s.placed i r).tempRange with
      | some g => if s.display.goodAt.isSome then (s.placed i r).beginMode i g else s.placed i r
      | none => s.placed i r).panelOn, kept) := by
    simp only [State.tryAdmit, htable, hfits, hplace, hserved, if_false, Bool.not_true, Bool.false_eq_true]
    rfl
  rw [hadmit]
  refine ⟨rfl, Admitted.panelOn ?_, en_panelOn⟩
  split
  · split
    · exact Admitted.placed.beginMode _
    · exact .placed
  · exact .placed

end Admissible

/-- The slot that is offered is free. -/
theorem slotState_of_admissible {kept : List Nat} (h : s.admissible kept r = some i) : s.getN (k24SlotState (16 + i)) = 0 := by
  unfold State.admissible at h
  dsimp only at h
  split at h
  · simpa using List.find?_some h
  · simp at h

/-! ### Frames and power (R417, R424) -/

theorem panelFrame_idle {u : List Nat} {n : Nat} (hnext : s.display.nextFrame = some n) (hdue : s.reached n = true) (hdecision : s.pf.active = false)
    (hfree : s.slotsInFlight = []) : panelFrame u s =
      (((s.scanned u).dsp fun d => { d with oe := true, nextFrame := some ((n + wtFrame d.table) % ccMod) }).watchIdle).showEngine := by
  have hfree' : (s.scanned u).slotsInFlight = [] := by
    refine Eq.trans ?_ hfree
    unfold State.scanned
    split <;> rfl
  simp only [panelFrame, hnext, hdue, hdecision, hfree, hfree', Bool.not_true, Bool.or_self, Bool.false_eq_true, if_false, List.filter_nil, each_nil]

theorem scanned_shows (u : List Nat) : (s.scanned u).display = s.display ∧ (s.scanned u).out = s.out ++ (if s.display.oe = true then
    [.panel ((List.range (s.getN k24Height)).map (s.scanLine u))] else []) := by
  unfold State.scanned
  cases hoe : s.display.oe
  · exact ⟨rfl, (List.append_nil _).symm⟩
  · exact ⟨rfl, rfl⟩

/-- The panel shows good: the reading is taken, and the first frame comes two ticks later. -/
theorem powerGood_good {reg : Nat} {temp : Option Int} (hen : s.display.en = true) (hgood : s.display.goodAt = none) (hoff : s.display.enOff = none)
    (hsoon : s.since s.display.enAt ≤ powerTicks) (hphase : s.since s.display.enAt % 8 = 0)
    (hreg : reg &&& s.getN k24PowerGoodMask = s.getN k24PowerGoodMask) (hfree : s.slotsInFlight = []) :
    (powerGood reg temp s).display.goodAt = some s.cc ∧ (powerGood reg temp s).display.nextFrame = some (s.after 2) := by
  let t := s.send (.net "I2C" (s.getN k24SupplyAddress)
    (toBytes [s.getN k24VCOMRegister, s.getN k24VCOMValue / 256, s.getN k24VCOMValue % 256]))
  let u := (t.readTemp temp).dsp fun d => { d with goodAt := some s.cc, nextFrame := some (s.after 2) }
  have hslots : u.slotsInFlight = [] := by
    refine Eq.trans (List.filter_congr fun j _ => ?_) hfree
    have hslot : u.getN (k24SlotState (16 + j)) = s.getN (k24SlotState (16 + j)) := by
      cases temp with
      | none => rfl
      | some v => exact getN_put_other t _ _ v (by simp only [key]; omega)
    simp only [State.inFlight, hslot]
  have hpower : powerGood reg temp s = (u.takeRanges).watchIdle.showEngine := by
    simp only [powerGood, hen, hgood, hoff, hphase, hreg, Nat.not_lt.2 hsoon, Bool.not_true, Option.isSome_none, Bool.or_self, ne_eq,
      not_true_eq_false, decide_false, Bool.false_eq_true, if_false]
    rfl
  rw [hpower, State.takeRanges, hslots, each_nil]
  exact ⟨rfl, rfl⟩

theorem powerGoodTimeout_due (hen : s.display.en = true) (hgood : s.display.goodAt = none) (hoff : s.display.enOff = none)
    (hlate : powerTicks ≤ s.since s.display.enAt) : powerGoodTimeout s =
      (((s.each s.slotsInFlight fun s i => s.endRect i 0x0F).panelOff false).noticeOpen byDevice 0x0E04).showEngine := by
  simp only [powerGoodTimeout, hen, hgood, hoff, Nat.not_lt.2 hlate, Bool.not_true, Option.isSome_none, Bool.or_self, decide_false,
    Bool.false_eq_true, if_false]

theorem off_panelOff : (s.panelOff false).display.en = false := Bool.and_false _

theorem displayIdle_due (hidle : s.display.idleSince = some i) (hfree : s.slotsInFlight = []) (hqueue : s.display.queue = [])
    (hdue : s.reached ((i + msTicks (s.getN k24IdleTime)) % ccMod) = true) : displayIdle s = (s.panelOff true).put k24EngineState 0 := by
  simp only [displayIdle, hidle, hfree, hqueue, hdue, decide_true, Bool.and_self, if_true]

theorem panelTemperatureRead_due {g : Nat} {x : Int} (hgood : s.display.goodAt = some g) (hen : s.display.en = true) (hpos : 0 < s.since g)
    (hphase : s.since g % 480000 = 0) : panelTemperatureRead (some x) s =
      (s.put k24PanelTemperature x).dsp fun d => { d with tempAt := some s.cc } := by
  have hphase' : s.since g % tempTicks = 0 := hphase
  simp only [panelTemperatureRead, hgood, hen, hpos, hphase', decide_true, Bool.and_self, if_true]
  rfl

/-! ### The crack loop and the draw window (R425, R416) -/

theorem checkClearCrack_open (h : low = true ∨ high = false) : checkClearCrack low high 1 s = stNotNow := by
  have hopen : loopClosed low high = false := by
    rcases h with rfl | rfl
    · rfl
    · exact Bool.and_false _
  rw [checkClearCrack, hopen]
  rfl

theorem drawWindow_in (w : Option Nat) (hin : s.getN k24DrawOffset < drawWords) : s.drawWindow w =
    (stOk, storeRead whiteWord (w.elim s.display.draw (storeWrite whiteWord s.display.draw (s.getN k24DrawOffset))) (s.getN k24DrawOffset),
      (s.dsp fun d => { d with draw := w.elim d.draw (storeWrite whiteWord d.draw (s.getN k24DrawOffset)) }).put k24DrawOffset
        (s.getN k24DrawOffset + 1)) := by
  simp only [State.drawWindow, Nat.not_le.2 hin, if_false]
  cases w <;> rfl

theorem applyDrawData_in (w : Nat) (hin : s.getN k24DrawOffset < drawWords) : applyDrawData w s =
    (s.dsp fun d => { d with draw := storeWrite whiteWord d.draw (s.getN k24DrawOffset) w }).put k24DrawOffset (s.getN k24DrawOffset + 1) := by
  rw [applyDrawData, Int.toNat_natCast, drawWindow_in _ hin]
  rfl

theorem drawData_read (hcheck : s.checkRead sid k24DrawData = stOk) (hin : s.getN k24DrawOffset < drawWords) : drawData sid none s =
    (s.put k24DrawOffset (s.getN k24DrawOffset + 1)).send
      (.dataWord sid k24DrawData (storeRead whiteWord s.display.draw (s.getN k24DrawOffset))) := by
  simp only [drawData, hcheck, ne_eq, not_true_eq_false, if_false, drawWindow_in none hin, State.windowRow, if_true]
  rfl

end Display

/-- Settles O46: keys and digits by the legend, an admission by the conditions of R422, the draw window by its offset. -/
theorem panelRows : Obligations.PanelRows := by
  unfold Obligations.PanelRows
  refine ⟨fun s k hk hup hrun => congrArg Host.Outcome.next (keyPress_accepted hk hup hrun),
    fun s k hk hdown hrun => congrArg Host.Outcome.next (keyRelease_accepted hk hdown hrun),
    fun s k p => ⟨(getN_keyCounted _).trans (by rw [keyCode_eq]), count_keyCounted _, cc_keyCounted _⟩,
    fun s hon hroom => by
      rw [tokenKey_one hon hroom, getN_setDigits, List.length_append]
      exact ⟨rfl, rfl⟩,
    fun s hon => by rw [tokenKey_star hon, digits_setDigits],
    fun s hon => tokenKey_hash hon,
    fun s hdigits hon hdue => ⟨_, congrArg Host.Outcome.next (entryTimeout_due hon hdigits hdue), rfl, (getN_noticeOpen ..).trans (getN_setDigits [])⟩,
    ⟨fun s sid v hpass hrect hroom hcrack hdecision hengine => congrArg Host.Outcome.next (writeRow_passes s sid _ _ _ _ hpass
        (checkUpdateRequest_accepted hrect hroom hcrack hdecision hengine)),
      fun s sid v hpass hrect hfull => congrArg Host.Outcome.next (writeRow_answers s sid _ _ _ _ stFull hpass
        (checkUpdateRequest_full hrect hfull) (by decide) (by decide)),
      fun s v => applyUpdateRequest_waits,
      fun s low high r hqueue hdecision hfw hdue htable =>
        ⟨_, congrArg Host.Outcome.next (displayAdmission_one hqueue hdecision hfw hdue), ?_⟩,
      fun s low high r i hqueue hdecision hfw hdue htable hfits hplace hclosed hrange =>
        ⟨_, congrArg Host.Outcome.next (displayAdmission_one hqueue hdecision hfw hdue), ?_⟩,
      fun s low high r i hqueue hdecision hfw hdue htable hfits hplace hopen =>
        ⟨_, congrArg Host.Outcome.next (displayAdmission_one hqueue hdecision hfw hdue), ?_⟩,
      fun s u n hnext hdue hdecision hfree => ⟨_, congrArg Host.Outcome.next (panelFrame_idle hnext hdue hdecision hfree), rfl,
        (scanned_shows u).2, ?_⟩,
      fun s reg temp hen hgood hoff hsoon hphase hreg hfree => ⟨_, rfl, powerGood_good hen hgood hoff hsoon hphase hreg hfree⟩,
      fun s hen hgood hoff hlate => ⟨_, congrArg Host.Outcome.next (powerGoodTimeout_due hen hgood hoff hlate), off_panelOff, rfl, rfl⟩,
      fun s i hidle hfree hqueue hdue => ⟨_, congrArg Host.Outcome.next (displayIdle_due hidle hfree hqueue hdue), rfl, rfl,
        getN_put_same _ _ 0⟩,
      fun s g v hgood hen hpos hphase => ⟨_, congrArg Host.Outcome.next (panelTemperatureRead_due hgood hen hpos hphase),
        objects_put s _ v⟩,
      fun s sid hpass => congrArg Host.Outcome.next (writeRow_passes s sid _ _ _ _ hpass rfl),
      fun s sid low high hpass h => congrArg Host.Outcome.next (writeRow_answers s sid _ _ _ _ stNotNow hpass (checkClearCrack_open h)
        (by decide) (by decide)),
      fun s sid x hpass hin => congrArg Host.Outcome.next (writeRow_passes s sid _ _ _ _ hpass
        (congrArg Prod.fst (drawWindow_in none hin))),
      fun s sid hcheck hin => congrArg Host.Outcome.next (drawData_read hcheck hin)⟩,
    fun s w hin => ?_⟩
  · obtain ⟨l, hl⟩ := display_loadTable (s := s)
    rw [tryAdmit_noTable htable]
    exact ⟨rfl, getN_admissionDone_waiting _ []⟩
  · obtain ⟨l, hl⟩ := display_loadTable (s := s)
    obtain ⟨hkept, ⟨hstate, hrect, hdraw⟩, hen⟩ := tryAdmit_closed (kept := []) htable hfits hplace (by rw [hl]; exact hrange)
    rw [hclosed, hkept]
    refine ⟨?_, ?_, rfl, getN_admissionDone_waiting _ [], hen, hdraw.trans (by rw [hl])⟩
    · rw [getN_admissionDone_other _ _ _ (by simp only [key]; omega) (by simp only [key]; omega), hstate]
    · rw [getN_admissionDone_other _ _ _ (by simp only [key]; omega) (by simp only [key]; omega), hrect]
  · obtain ⟨l, hl⟩ := display_loadTable (s := s)
    rw [hopen, tryAdmit_open (kept := []) htable hfits hplace]
    refine ⟨?_, rfl, ?_, ?_⟩
    · rw [getN_admissionDone_other _ _ _ (by decide) (by decide), getN_refuseRect_other _ _ fun j => by simp only [key]; omega]
      exact (getN_noticeOpen ..).trans (getN_put_same _ _ 1)
    · rw [getN_admissionDone_other _ _ _ (by simp only [key]; omega) (by simp only [key]; omega),
        getN_refuseRect_other _ (k24SlotState (16 + i)) fun j => by simp only [key]; omega, getN_noticeOpen]
      exact (getN_put_other s.loadTable _ _ 1 (by simp only [key]; omega)).trans (slotState_of_admissible hplace)
    · have hfront : s.loadTable.display.front = s.display.front := by rw [hl]
      rw [front_admissionDone, display_refuseRect, noticeOpen_display, put_display, hfront]
  · rw [← (scanned_shows (s := s) u).1]
    rfl
  · rw [applyDrawData_in w hin]
    exact ⟨storeRead_write_same _ _ _ _, getN_put_same _ _ _, fun j hj => storeRead_write_other _ _ _ _ _ _ hj⟩

end Sys2Proof.Machine
end

section
/-! Tamper and the vault (O47): a change of the controllers that waits. -/

namespace Sys2Proof.Machine

/-- A root stands, the device runs, and a change that waits at the controllers names the state of the vault. -/
def changeOfVaultWaits : State :=
  { vault := { root := some 1 }, kod := { changes := [(k28VaultState, 0, 0)] }, modes := { powered := true, coreInReset := false } }

/-- The restart after the tamper puts the waiting change in force, over the state that the zeroisation has left. -/
theorem vaultState_tampered : (tamper 1 changeOfVaultWaits).getN k28VaultState = 0 := by decide +kernel

/-- Refutes O47 by its first clause: a tamper in Run restarts the core domain, and the restart writes the changes that wait at the
controllers (R465); the clause lets them name any object, here the state of the vault, which then does not read 2. -/
theorem not_vaultRows : ¬ Obligations.VaultRows := by
  unfold Obligations.VaultRows
  intro ⟨htamper, _⟩
  obtain ⟨t, ht, -, hstate, -⟩ := htamper changeOfVaultWaits 1 (by decide) (by decide) (by decide) rfl
  obtain rfl : tamper 1 changeOfVaultWaits = t := Host.Outcome.next.inj ht
  exact absurd (vaultState_tampered.symm.trans hstate) (by decide)

end Sys2Proof.Machine
end

section
/-! Which key of an image is accepted (O48); histograms, freezing, clearing and saving of the recorder (O12). -/

namespace Sys2Proof.Machine

/-! ### The key of an image (R436) -/

theorem keyAccepted_eq (s : State) (r : Nat) {w key : List Nat} (hlen : key.length = 97)
    (hkey : ((w.drop 20).take 17).flatMap wordBytes = key ++ [0, 0, 0, 0, 0]) :
    s.keyAccepted r w = if r ≠ 0 && s.flag k28OwnerKeyProgrammed then decide (key = s.ownerBytes) else decide (Config.sha384 key = Config.h0) := by
  have htake : (key ++ [0, 0, 0, 0, 0]).take 97 = key := List.take_left' hlen
  have hdrop : (key ++ [0, 0, 0, 0, 0]).drop 97 = [0, 0, 0, 0, 0] := List.drop_left' hlen
  simp only [State.keyAccepted, hkey, htake, hdrop]
  exact Bool.true_and _

/-- Settles O48: the five bytes behind the key are zero, and the table of R436 decides on it. -/
theorem imageKeyIsAccepted : Obligations.ImageKeyIsAccepted := by
  unfold Obligations.ImageKeyIsAccepted
  refine fun s r w key hlen hkey => ⟨?_, fun hr howner => ?_, fun hr howner => ?_⟩
  · simp [keyAccepted_eq s 0 hlen hkey]
  · simp [keyAccepted_eq s r hlen hkey, hr, howner]
  · simp [keyAccepted_eq s r hlen hkey, howner]

/-! ### Definitions (R404) -/

section Recorder
variable {s : State} {sid h i x slot : Nat} {v : Int}

theorem keyClass_key (c : Nat) {i m : Nat} (hi : i < 1024) (hm : m < 256) : keyClass (key c i m) = c := by
  simp only [keyClass, key]
  omega

theorem keyInst_key (c : Nat) {i m : Nat} (hi : i < 1024) (hm : m < 256) : keyInst (key c i m) = i := by
  simp only [keyInst, key]
  omega

theorem keyMember_key (c i : Nat) {m : Nat} (hm : m < 256) : keyMember (key c i m) = m := by
  simp only [keyMember, key]
  omega

/-- A source that differs is stored and empties its histogram. -/
theorem apply29_source (hi : 256 ≤ i) (hi' : i ≤ 1023) : (fun u => apply29 sid u (key 0x29 i 38) i 38 v) =
    fun u => if u.get (key 0x29 i 38) = v then u else (u.put (key 0x29 i 38) v).clearHist sid i := by
  funext u
  simp [apply29, show i ≠ 254 by omega, show i ≠ 255 by omega]

theorem histogramDefinition_source (hi : 256 ≤ i) (hi' : i ≤ 1023) (hpass : s.rowPasses sid (key 0x29 i 38) v = true)
    (hsource : s.checkSource v = stOk) : histogramDefinition sid (key 0x29 i 38) v s =
      (s.writeOne sid (key 0x29 i 38) v fun u =>
        if u.get (key 0x29 i 38) = v then u else (u.put (key 0x29 i 38) v).clearHist sid i).atStep5 := by
  have hcheck : check29 s i 38 v = stOk := by simp [check29, show i ≠ 254 by omega, show i ≠ 255 by omega, hsource]
  simp only [histogramDefinition, keyClass_key 0x29 (Nat.lt_succ_of_le hi') (by decide : 38 < 256),
    keyInst_key 0x29 (Nat.lt_succ_of_le hi') (by decide : 38 < 256), keyMember_key 0x29 i (by decide : 38 < 256), hi]
  exact (writeRow_passes s sid _ v _ _ hpass hcheck).trans (by rw [apply29_source hi hi'])

/-! ### Freezing (R410) -/

theorem checkFreeze_free (hv : v ≠ 0) (hend : s.recorder.freezeEnd = none) (hlast : s.recorder.freezeLast = none) : checkFreeze v s = stOk := by
  simp [checkFreeze, hv, hend, hlast]

/-- The metrology histograms stand still until the freeze ends. -/
def State.startFreeze (u : State) (v : Int) : State :=
  ({ u with recorder := { u.recorder with freezeEnd := some (u.after (msTicks v.toNat)) } } : State).each
    (metrologyHists u.variant) fun t h => t.put (k29Frozen h) 1

theorem applyFreeze_starts (hv : v ≠ 0) : applyFreeze v = fun u => u.startFreeze v := by
  funext u
  rw [applyFreeze, if_neg hv]
  rfl

/-- A count changes of the recorder nothing but the raised notices. -/
theorem recorder_count (k : Nat) : ∃ l, (s.count k).recorder = { s.recorder with raised := l } := by
  unfold State.count
  dsimp only
  split
  · exact ⟨_, rfl⟩
  · split <;> exact ⟨_, rfl⟩

theorem recorder_addBin (h m : Nat) : ∃ l, (s.addBin h m).recorder = { s.recorder with raised := l } := by
  obtain ⟨l, hl⟩ := recorder_count (s := s) (k29Bin031 h m)
  refine ⟨l, Eq.trans ?_ hl⟩
  unfold State.addBin
  dsimp only
  split <;> rfl

/-- The freeze is over, nothing is held, and the gap to the next one begins. -/
theorem recorder_endFreeze : s.endFreeze.recorder.freezeEnd = none ∧ s.endFreeze.recorder.held = [] ∧
    s.endFreeze.recorder.freezeLast = some s.cc := by
  have hview : ∀ {β : Type} (g : Recorder → β), (∀ (r : Recorder) l, g { r with raised := l } = g r) →
      g s.endFreeze.recorder = g { s.recorder with held := [], freezeEnd := none, freezeLast := some s.cc } := fun g hg => by
    have hbins := each_view (fun t => g t.recorder)
      { s with recorder := { s.recorder with held := [], freezeEnd := none, freezeLast := some s.cc } } s.recorder.held
      (fun t p => t.addBin p.1 p.2) fun t p _ => by
        obtain ⟨l, hl⟩ := recorder_addBin (s := t) p.1 p.2
        rw [hl, hg]
    refine Eq.trans ?_ hbins
    unfold State.endFreeze
    exact each_view (fun t => g t.recorder) _ _ _ fun _ _ _ => rfl
  exact ⟨hview Recorder.freezeEnd fun _ _ => rfl, hview Recorder.held fun _ _ => rfl, hview Recorder.freezeLast fun _ _ => rfl⟩

theorem freezeEnd_due {e : Nat} (hend : s.recorder.freezeEnd = some e) (hdue : s.reached e = true) : freezeEnd s = s.endFreeze := by
  have hdue' : s.reachedOpt s.recorder.freezeEnd = true := by rw [hend]; exact hdue
  exact if_pos hdue'

/-! ### Clearing (R411) -/

@[simp] theorem get_recorderSave (k : Nat) : s.recorderSave.get k = s.get k := by
  unfold State.recorderSave
  split <;> rfl

theorem get_stepSequence_other (j k : Nat) (hk : k ≠ j) : (s.stepSequence j).get k = s.get k := get_put_other s j k _ hk

theorem checkClearHist_free (hfree : metrologyHist h = false ∨ s.recorder.freezeEnd = none) : checkClearHist h 1 s = stOk := by
  rcases hfree with hother | hend
  · simp [checkClearHist, hother]
  · simp [checkClearHist, hend]

/-- Writing one value to several members leaves it in each of them. -/
theorem get_each_put (l : List Nat) (k : Nat → Nat) {m : Nat} (hm : m ∈ l) : (s.each l fun t a => t.put (k a) 0).get (k m) = 0 := by
  refine each_reaches s (fun t => t.get (k m) = 0) hm (fun t => get_put_same t _ _) fun t a ht => ?_
  by_cases hk : k m = k a
  · rw [hk, get_put_same]
  · rw [get_put_other t _ _ _ hk, ht]

theorem get_clearHist_bin {m : Nat} (hm : m < 34) : (s.clearHist sid h).get (key 0x29 h m) = 0 := by
  rw [State.clearHist, get_recorderSave, get_notice, get_stepSequence_other _ _ (by simp only [key]; omega),
    get_put_other _ _ _ _ (by simp only [key]; omega)]
  exact get_each_put _ _ (List.mem_range.2 hm)

theorem get_clearPair (k : Nat) (hk : k ≠ k2ASequence x) : (s.clearPair sid x).get k = (s.puts [(k2AMinimum x, 0), (k2AMinimumTime x, 0),
    (k2AMaximum x, 0), (k2AMaximumTime x, 0), (k2AFlags x, 1)]).get k := by
  rw [State.clearPair, get_recorderSave, get_notice, get_stepSequence_other _ _ hk]

theorem clearPair_cleared : (s.clearPair sid x).get (k2AMinimum x) = 0 ∧ (s.clearPair sid x).get (k2AMaximum x) = 0 ∧
    (s.clearPair sid x).get (k2AFlags x) = 1 := by
  have hputs : objects s (s.puts _) _ := objects_puts s [(k2AMinimum x, 0), (k2AMinimumTime x, 0), (k2AMaximum x, 0), (k2AMaximumTime x, 0),
    (k2AFlags x, 1)] (by simp [key])
  refine ⟨?_, ?_, ?_⟩
  · exact (get_clearPair _ (by simp only [key]; omega)).trans (hputs.1 (k2AMinimum x, 0) (by simp))
  · exact (get_clearPair _ (by simp only [key]; omega)).trans (hputs.1 (k2AMaximum x, 0) (by simp))
  · exact (get_clearPair _ (by simp only [key]; omega)).trans (hputs.1 (k2AFlags x, 1) (by simp))

/-! ### Saves (R412) -/

/-- The save that ends well, before its record enters the slot. -/
def State.saveCounted (s : State) : State :=
  (s.puts [(k29SaveCount, ((s.getN k29SaveCount + 1) % 2 ^ 32 : Nat)), (k29LastSaveTime, s.stamp)]).forTag s.journalKey

theorem saveComplete_good (hsaving : s.recorder.saving = some slot) (hdue : s.recorder.saveDue = false) (hfw : s.firmwareUp = true) :
    saveComplete true s = { s.saveCounted with draw := s.saveCounted.draw + 1, recorder := { s.saveCounted.recorder with
      saving := none, saveDue := false, saveBuf := [], saveAt := 0, saveSlot := 1 - slot,
      saved := s.saveCounted.recorder.saved.set slot (some (s.saveCounted.recSave ((s.getN k29SaveCount + 1) % 2 ^ 32))) } } := by
  simp only [saveComplete, hsaving, hdue, hfw, Bool.not_true, Bool.false_eq_true, if_false, if_true]
  rfl

theorem get_saveCounted (k : Nat) : s.saveCounted.get k =
    (s.puts [(k29SaveCount, ((s.getN k29SaveCount + 1) % 2 ^ 32 : Nat)), (k29LastSaveTime, s.stamp)]).get k := get_forTag _ _ k

theorem saveComplete_failed (hsaving : s.recorder.saving = some slot) (hfw : s.firmwareUp = true) : saveComplete false s =
    { ((s.count k29SaveFailures).noticeOpen byDevice 0x0145).startSave (1 - slot) with recorder :=
      { (((s.count k29SaveFailures).noticeOpen byDevice 0x0145).startSave (1 - slot)).recorder with saveDue := s.recorder.saveDue } } := by
  simp only [saveComplete, hsaving, hfw, Bool.not_true, Bool.false_eq_true, if_false]

end Recorder

/-- Settles O12: each clause by the effect of its row; what an ended freeze leaves is read off the counts of the held increments. -/
theorem recorderRows : Obligations.RecorderRows := by
  unfold Obligations.RecorderRows
  refine ⟨fun s sid i v hi hi' hpass hsource => congrArg Host.Outcome.next (histogramDefinition_source hi hi' hpass hsource),
    fun s sid v hpass hv hend hlast => congrArg Host.Outcome.next
      ((writeRow_passes s sid _ v _ _ hpass (checkFreeze_free hv hend hlast)).trans (by rw [applyFreeze_starts hv]; rfl)),
    fun s e hend hdue => ⟨_, congrArg Host.Outcome.next (freezeEnd_due hend hdue), recorder_endFreeze⟩,
    fun s sid h hpass hfree => congrArg Host.Outcome.next (writeRow_passes s sid _ 1 _ _ hpass (checkClearHist_free hfree)),
    fun s sid h m hm => get_clearHist_bin hm,
    fun s sid x hpass => congrArg Host.Outcome.next (writeRow_passes s sid _ 1 _ _ hpass rfl),
    fun s sid x => clearPair_cleared,
    fun s sid hpass => congrArg Host.Outcome.next (writeRow_passes s sid _ 1 _ _ hpass rfl),
    fun s sid hpass => congrArg Host.Outcome.next (writeRow_passes s sid _ 1 _ _ hpass rfl),
    fun s slot hsaving hdue hfw => ⟨_, congrArg Host.Outcome.next (saveComplete_good hsaving hdue hfw), ?_, ?_, rfl, rfl⟩,
    fun s slot hsaving hfw => ⟨_, congrArg Host.Outcome.next (saveComplete_failed hsaving hfw), rfl, ?_⟩⟩
  · refine (get_saveCounted _).trans ?_
    rw [puts_cons, puts_cons, get_puts_other _ [] _ (by simp), get_put_other _ _ _ _ (show k29SaveCount ≠ k29LastSaveTime by decide), get_put_same]
  · refine (get_saveCounted _).trans ?_
    rw [puts_cons, puts_cons, get_puts_other _ [] _ (by simp), get_put_same]
  · exact (get_count s k29SaveFailures (by decide) :)

end Sys2Proof.Machine
end

section
/-! Verification, commit, trial, the setting log and the flash operations (O54). -/

namespace Sys2Proof.Machine

section Update
variable {s : State} {r st i : Nat}

@[simp] theorem getN_modRegion (f : Region → Region) (k : Nat) : (s.modRegion r f).getN k = s.getN k := rfl

/-! ### Verification (R444) -/

theorem imageVerification_failed (hstate : s.regionState r = 2) (hdecision : s.pf.active = false)
    (hhead : (s.flushRegion r).headCheck r ((s.flushRegion r).getN (k0FDeclaredSize r))
      (((s.flushRegion r).region r).words ((s.flushRegion r).otherSlot r)) = some (st, i)) (hsvn : i ≠ 1) :
    imageVerification r s = (s.flushRegion r).failRegion r st i := by
  have hverifying : s.regionState r = rVerifying := hstate
  simp only [imageVerification, hverifying, hdecision, hhead, hsvn, ne_eq, not_true_eq_false, decide_false, Bool.or_self, Bool.false_eq_true,
    if_false, Bool.false_and]

/-- The words of the slot that a verification of the firmware reads back. -/
def State.fwImage (s : State) : List Nat := ((s.flushRegion 0).region 0).words ((s.flushRegion 0).otherSlot 0)

/-- The firmware is staged. -/
def State.fwStaged (s : State) : State :=
  (s.flushRegion 0).puts [(k0FState 0, rStaged), (k0FResult 0, stOk), (k31OtherSlot (16 + 0), 3), (k31OtherImage (16 + 0), imageId s.fwImage)]

theorem getN_fwStaged : s.fwStaged.regionState 0 = 3 ∧ s.fwStaged.getN (k0FResult 0) = 0 ∧ s.fwStaged.getN (k31OtherSlot 16) = 3 := by
  have hputs : objects (s.flushRegion 0) s.fwStaged _ := objects_puts _ _ (by simp [key])
  refine ⟨congrArg Int.toNat (hputs.1 (k0FState 0, rStaged) (by simp)), congrArg Int.toNat (hputs.1 (k0FResult 0, stOk) (by simp)),
    congrArg Int.toNat (hputs.1 (k31OtherSlot (16 + 0), 3) (by simp))⟩

theorem imageVerification_staged (hstate : s.regionState 0 = 2) (hdecision : s.pf.active = false) (howner : s.regionOwner 0 ≠ 255)
    (hhead : (s.flushRegion 0).headCheck 0 ((s.flushRegion 0).getN (k0FDeclaredSize 0)) s.fwImage = none) :
    imageVerification 0 s = s.fwStaged := by
  have hverifying : s.regionState 0 = rVerifying := hstate
  have howned : s.fwStaged.regionOwner 0 ≠ chainlineOwner := by
    have hkeep : s.fwStaged.regionOwner 0 = s.regionOwner 0 :=
      (congrArg Int.toNat (get_puts_other _ _ _ (by simp [key]))).trans (getN_put_other _ _ _ _ (by decide))
    rw [hkeep]
    exact howner
  unfold State.fwImage at hhead
  simp only [imageVerification, hverifying, hdecision, hhead, ne_eq, not_true_eq_false, decide_false, Bool.or_self, Bool.false_eq_true, if_false,
    State.bodyCheck]
  exact if_neg howned

theorem failRegion_fails : (s.failRegion r st i).regionState r = 0 ∧ (s.failRegion r st i).getN (k0FResult r) = st ∧
    ⟨0x0F10, 0, r * 2 ^ 40 + st * 2 ^ 32 + i⟩ ∈ (s.failRegion r st i).recorder.raised := by
  have hget : ∀ k, k ≠ k31OtherSlot (16 + r) → k ≠ k31OtherImage (16 + r) → (s.failRegion r st i).getN k =
      (s.puts [(k0FState r, rIdle), (k0FOwner r, 0), (k0FResult r, st)]).getN k := fun k hslot himage =>
    (getN_notice ..).trans ((getN_modRegion ..).trans (getN_puts_other _ k (by simpa using ⟨hslot.symm, himage.symm⟩)))
  have hputs : objects s (s.puts _) _ := objects_puts s [(k0FState r, rIdle), (k0FOwner r, 0), (k0FResult r, (st : Int))] (by simp [key])
  refine ⟨(hget _ (by simp only [key]; omega) (by simp only [key]; omega)).trans (congrArg Int.toNat (hputs.1 (k0FState r, rIdle) (by simp))),
    (hget _ (by simp only [key]; omega) (by simp only [key]; omega)).trans ?_, List.mem_append_right _ (List.mem_singleton.2 rfl)⟩
  exact (congrArg Int.toNat (hputs.1 (k0FResult r, (st : Int)) (by simp))).trans (Int.toNat_natCast st)

/-! ### Commits (R445) -/

/-- The commit has swapped the slots and is counted; the effect of the region follows. -/
def State.commitCounted (s : State) (r : Nat) : State :=
  (((s.swapSlots r 1).puts [(k0FState r, rCommitted), (k0FOwner r, 0), (k31LastCommitTime (16 + r), s.stamp)]).count
    (k31Commits (16 + r))).modRegion r fun x => { x with committing := false, recorded := false, received := [], chlId := 0 }

theorem commitEffect_due (hcommitting : (s.region r).committing = true) (hrecorded : (s.region r).recorded = true)
    (hstate : s.regionState r = 3) : commitEffect r s = ((s.commitCounted r).notice byDevice 0x0F11
      (r * 2 ^ 40 + (s.commitCounted r).getN (k31ActiveImage (16 + r)))).regionEffect r := by
  have hstaged : s.regionState r = rStaged := hstate
  simp only [commitEffect, hcommitting, hrecorded, hstaged, decide_true, Bool.and_self, Bool.not_true, Bool.false_eq_true, if_false]
  rfl

/-- The regions but FW and CFG change the tariff's or the sequencers' objects, and no other. -/
theorem get_regionEffect (h2 : 2 ≤ r) (h5 : r ≤ 5) (k : Nat) (hk : keyClass k ≠ 0x10 ∧ keyClass k ≠ 0x19) : (s.regionEffect r).get k = s.get k := by
  have hother : ∀ c i m, i < 1024 → m < 256 → c = 0x10 ∨ c = 0x19 → k ≠ key c i m := by
    rintro c i m hi hm hc rfl
    rw [keyClass_key c hi hm] at hk
    omega
  obtain rfl | rfl | rfl | rfl : r = 2 ∨ r = 3 ∨ r = 4 ∨ r = 5 := by omega
  · exact get_puts_other s _ k (by
      simpa using ⟨(hother 0x10 _ _ (by decide) (by decide) (.inl rfl)).symm, (hother 0x10 _ _ (by decide) (by decide) (.inl rfl)).symm⟩)
  · rfl
  · refine (get_puts_other _ _ k ?_).trans (each_view (fun t => t.get k) s s.spokeList _ fun _ _ _ => rfl)
    simpa using ⟨(hother 0x19 _ _ (by decide) (by decide) (.inr rfl)).symm, (hother 0x19 _ _ (by decide) (by decide) (.inr rfl)).symm⟩
  · rfl

theorem get_commitCounted_other (k : Nat) (hk : k ≠ k31Commits (16 + r)) (hsat : k ≠ k00LastSaturatedCount) : (s.commitCounted r).get k =
    ((s.swapSlots r 1).puts [(k0FState r, rCommitted), (k0FOwner r, 0), (k31LastCommitTime (16 + r), s.stamp)]).get k :=
  get_count_other _ _ _ hk hsat

/-- What a commit of a region shows, before its effect. -/
theorem commitCounted_shows : (s.commitCounted r).regionState r = 5 ∧ (s.commitCounted r).regionOwner r = 0 ∧
    (s.commitCounted r).getN (k31ActiveSlot (16 + r)) = s.otherSlot r ∧
    (s.commitCounted r).get (k31Commits (16 + r)) = oneMore s (k31Commits (16 + r)) := by
  have hputs : objects (s.swapSlots r 1) _ _ := objects_puts (s.swapSlots r 1) [(k0FState r, rCommitted), (k0FOwner r, 0),
    (k31LastCommitTime (16 + r), (s.stamp : Int))] (by simp [key]; omega)
  have hswap : objects s (s.swapSlots r 1) _ := objects_puts s _ (by simp [key])
  refine ⟨?_, ?_, ?_, ?_⟩
  · exact congrArg Int.toNat ((get_commitCounted_other _ (by simp only [key]; omega) (by simp only [key]; omega)).trans
      (hputs.1 (k0FState r, rCommitted) (by simp)))
  · exact congrArg Int.toNat ((get_commitCounted_other _ (by simp only [key]; omega) (by simp only [key]; omega)).trans
      (hputs.1 (k0FOwner r, 0) (by simp)))
  · refine (congrArg Int.toNat ((get_commitCounted_other _ (by simp only [key]; omega) (by simp only [key]; omega)).trans
      ((hputs.2 _ ?_).trans (hswap.1 (k31ActiveSlot (16 + r), (s.otherSlot r : Nat)) (by simp))))).trans (Int.toNat_natCast _)
    simp [key]; omega
  · refine (get_count _ _ (by simp only [key]; omega)).trans ?_
    rw [oneMore, hputs.2 _ (by simp [key]; omega), hswap.2 _ (by simp [key])]
    rfl

/-! ### Trial and fallback (R447, R448) -/

theorem trialWindowEnd_due {e : Nat} (hend : s.flash.trialEnd = some e) (htrial : s.regionState 0 = 4) (hdue : s.dueNext e = true) :
    trialWindowEnd s = s.fallBack 1 := by
  have htrial' : s.regionState 0 = rTrial := htrial
  simp only [trialWindowEnd, hend, htrial', hdue, decide_true, Bool.and_self, if_true]

theorem selfConfirmation_due (htrial : s.regionState 0 = 4) (hmode : s.getN k31ConfirmationMode = 0) (hfw : s.firmwareUp = true)
    (hplan : s.getN k02PlanState = 1) (hvalid : (s.group (s.getN k09ReferenceGroup)).valid = true) : selfConfirmation s = s.confirmTrial := by
  have htrial' : s.regionState 0 = rTrial := htrial
  simp only [selfConfirmation, htrial', hmode, hfw, hplan, hvalid, decide_true, Bool.and_self, if_true]

/-- The other slot is in force again, and its header record is queued. -/
def State.fellBack (s : State) (c : Nat) : State :=
  ((s.swapSlots 0 2).puts [(k0FState 0, rCommitted), (k31TrialRemaining, 0), (k31TrialBoots, 0), (k31LastFallback, c)]).flashOp (.header 0)

theorem fallBack_eq (c : Nat) : s.fallBack c = ((({ s.fellBack c with flash := { (s.fellBack c).flash with fwTrial := false, trialEnd := none } } :
    State).notice byDevice 0x0F14 c).restartNow) := rfl

theorem get_fallBack (c k : Nat) : (s.fallBack c).get k = ((s.swapSlots 0 2).puts [(k0FState 0, rCommitted), (k31TrialRemaining, 0),
    (k31TrialBoots, 0), (k31LastFallback, c)]).get k := by
  have hget : (s.fallBack c).get k = (s.fellBack c).get k := by rw [fallBack_eq]; rfl
  rw [hget, State.fellBack, get_flashOp]

/-- The firmware of the other slot is in force, and the device restarts at the coming boundary. -/
theorem fallBack_shows (c : Nat) : (s.fallBack c).regionState 0 = 5 ∧ (s.fallBack c).getN k31LastFallback = c ∧
    (s.fallBack c).flash.fwTrial = false ∧ (s.fallBack c).modes.restartAt = some s.nextTick := by
  have hputs : objects (s.swapSlots 0 2) _ _ := objects_puts (s.swapSlots 0 2) [(k0FState 0, rCommitted), (k31TrialRemaining, 0),
    (k31TrialBoots, 0), (k31LastFallback, (c : Int))] (by simp [key])
  have hcc : (s.fallBack c).cc = s.cc := congrArg Int.toNat ((get_fallBack c _).trans
    ((hputs.2 _ (by simp [key])).trans (get_puts_other s _ _ (by simp [key]))))
  refine ⟨congrArg Int.toNat ((get_fallBack c _).trans (hputs.1 (k0FState 0, rCommitted) (by simp))),
    (congrArg Int.toNat ((get_fallBack c _).trans (hputs.1 (k31LastFallback, (c : Int)) (by simp)))).trans (Int.toNat_natCast c), rfl, ?_⟩
  exact congrArg (fun n => some ((n + 1) % ccMod)) hcc

/-! ### The setting log and flash operations (R434, R430) -/

theorem settingLogAppend_turn {k : Nat} {v : Int} {rest : List (Nat × Int)} (hdue : s.flash.logDue = (k, v) :: rest) (hturn : s.logTurn = true) :
    settingLogAppend s =
      ({ s with flash := { s.flash with logDue := rest, log := s.flash.log ++ [s.logEntry k v] } } : State).showLog := by
  simp only [settingLogAppend, hdue, hturn, Bool.not_true, Bool.false_eq_true, if_false]

/-- Sending leaves the objects and the flash. -/
theorem transmit_keeps (ep : Endpoint) (prio service : Nat) (pdu : List Nat) : (s.transmit ep prio service pdu).obj = s.obj ∧
    (s.transmit ep prio service pdu).flash = s.flash := by
  cases ep with
  | can c node => exact ⟨each_view State.obj _ _ _ fun _ _ _ => rfl, each_view State.flash _ _ _ fun _ _ _ => rfl⟩
  | udp a p =>
    unfold State.transmit
    dsimp only
    split <;> exact ⟨rfl, rfl⟩
  | nfc =>
    unfold State.transmit
    dsimp only
    split <;> exact ⟨rfl, rfl⟩

theorem conclude_keeps (q : KodReq) (service k : Nat) (body : List Nat) : (s.conclude q service k body).obj = s.obj ∧
    (s.conclude q service k body).flash = s.flash := by
  have hsent := transmit_keeps (s := s.forTag (some k)) q.ep q.prio service (sealedPdu 1 service (some k) q.sid q.seq body)
  unfold State.conclude
  dsimp only
  split <;> exact hsent

theorem answerHeld_keeps (w : PendingWrite) : (s.answerHeld w).obj = s.obj ∧ (s.answerHeld w).flash = s.flash := by
  unfold State.answerHeld
  split
  · exact ⟨rfl, rfl⟩
  · split
    · exact conclude_keeps ..
    · exact ⟨rfl, rfl⟩

theorem obj_answerTokens : s.answerTokens.obj = s.obj := by
  unfold State.answerTokens
  exact each_view State.obj _ _ _ fun _ w _ => (answerHeld_keeps w).1

theorem flash_answerTokens : s.answerTokens.flash = s.flash := by
  unfold State.answerTokens
  exact each_view State.flash _ _ _ fun _ w _ => (answerHeld_keeps w).2

theorem operationEnds_keyStore (hrun : s.runningOp = some .keyStore) : s.operationEnds true =
    { s.opDone .keyStore with flash := { (s.opDone .keyStore).flash with keyStore := s.vault.slots } } := by
  simp only [State.operationEnds, hrun, if_true, State.opEnds]

theorem operationEnds_failed (hrun : s.runningOp = some .keyStore) : s.operationEnds false =
    { (s.count k30ProgramFailures).noticeOpen byDevice 0x0F32 with
      flash := { ((s.count k30ProgramFailures).noticeOpen byDevice 0x0F32).flash with current := none } } := by
  simp only [State.operationEnds, hrun, Bool.false_eq_true, if_false, reduceCtorEq]

end Update

/-- Settles O54: each clause by the branch its conditions name, what a commit and a fallback show by the members they write. -/
theorem updateRows : Obligations.UpdateRows := by
  unfold Obligations.UpdateRows
  refine ⟨fun s r st i hstate hdecision hhead hsvn => congrArg Host.Outcome.next (imageVerification_failed hstate hdecision hhead hsvn),
    fun s hstate hdecision howner => ⟨_, rfl, fun hhead => ?_⟩,
    fun s r st i => failRegion_fails,
    fun s r h2 h5 hcommitting hrecorded hstate =>
      ⟨_, congrArg Host.Outcome.next (commitEffect_due hcommitting hrecorded hstate), ?_⟩,
    fun s e hend htrial hdue => congrArg Host.Outcome.next (trialWindowEnd_due hend htrial hdue),
    fun s sid hpass htrial => congrArg Host.Outcome.next (writeRow_passes s sid _ 1 _ _ hpass (if_pos htrial)),
    fun s sid hpass htrial => congrArg Host.Outcome.next (writeRow_passes s sid _ 1 _ _ hpass (if_pos htrial)),
    fun s htrial hmode hfw hplan hvalid => congrArg Host.Outcome.next (selfConfirmation_due htrial hmode hfw hplan hvalid),
    fun s c => fallBack_shows c,
    fun s k v rest hdue hturn => ⟨_, s.logEntry k v, congrArg Host.Outcome.next (settingLogAppend_turn hdue hturn), rfl, rfl, rfl, rfl,
      fun j hj => get_put_other _ _ _ _ (by simpa using hj)⟩,
    fun s hrun => ⟨_, rfl, ?_⟩,
    fun s hrun => ⟨_, rfl, ?_⟩⟩
  · rw [imageVerification_staged hstate hdecision howner hhead]
    exact getN_fwStaged
  · have hget : ∀ k, keyClass k ≠ 0x10 ∧ keyClass k ≠ 0x19 → (((s.commitCounted r).notice byDevice 0x0F11
        (r * 2 ^ 40 + (s.commitCounted r).getN (k31ActiveImage (16 + r)))).regionEffect r).get k = (s.commitCounted r).get k :=
      fun k hk => get_regionEffect h2 h5 k hk
    have hclass : ∀ c m, c ≠ 0x10 ∧ c ≠ 0x19 → m < 256 → ∀ i < 1024, keyClass (key c i m) ≠ 0x10 ∧ keyClass (key c i m) ≠ 0x19 :=
      fun c m hc hm i hi => by rwa [keyClass_key c hi hm]
    obtain ⟨hstate', howner, hslot, hcount⟩ := commitCounted_shows (s := s) (r := r)
    refine ⟨?_, ?_, ?_, ?_⟩
    · exact (congrArg Int.toNat (hget _ (hclass 0x0F 1 (by decide) (by decide) r (by omega)))).trans hstate'
    · exact (congrArg Int.toNat (hget _ (hclass 0x0F 2 (by decide) (by decide) r (by omega)))).trans howner
    · exact (congrArg Int.toNat (hget _ (hclass 0x31 0 (by decide) (by decide) (16 + r) (by omega)))).trans hslot
    · exact (hget _ (hclass 0x31 _ (by decide) (by decide) (16 + r) (by omega))).trans hcount
  · rw [flashOperationComplete, flash_answerTokens, obj_answerTokens, operationEnds_keyStore hrun]
    exact ⟨rfl, by simp [State.opDone], rfl⟩
  · rw [flashOperationComplete, flash_answerTokens, State.get, obj_answerTokens, operationEnds_failed hrun]
    have hops := congrArg (fun t : State => t.flash.ops) (count_rest s k30ProgramFailures)
    exact ⟨rfl, hops, get_count s k30ProgramFailures (by decide)⟩

end Sys2Proof.Machine
end

section
/-! Exits from a mode and Workstand (O26), the safety-domain reset (O28), the commanded restart (O29), the self-tests (O30). -/

namespace Sys2Proof.Machine

section Modes
variable {s : State} {sid : Nat}

/-! ### Exits, wakes and Workstand (R454, R457, R459) -/

theorem knownEventExit_due (hpowered : s.modes.powered = true) (hlow : 1 ≤ s.getN k01Mode) (hhigh : s.getN k01Mode ≤ 3)
    (hkind : s.getN k01NextEventKind ≠ 0)
    (hdue : 125 * s.ticksTo (s.getN k01NextEventTick) < exitLatency (s.getN k01Mode) + s.getN k01Margin + 125) :
    knownEventExit s = s.startExit := by
  simp only [knownEventExit, hpowered, hlow, hhigh, hkind, hdue, ne_eq, not_false_eq_true, decide_true, Bool.and_self, if_true]

theorem wake_ends (src : WakeSource) (hpowered : s.modes.powered = true) (hends : (wakeEnds src).contains (s.getN k01Mode) = true) :
    wake src s = (if src = WakeSource.knownEvent then s else s.count (k01Wakes (16 + s.getN k01Mode))).startExit := by
  simp only [wake, State.wakeBy, hpowered, hends, Bool.and_self, if_true]

theorem startExit_starts (h : s.modes.exitEnd = none) :
    s.startExit = { s with modes := { s.modes with exitEnd := some (s.after ((exitLatency (s.getN k01Mode) + 124) / 125)) } } := by
  simp only [State.startExit, h, Option.isSome_none, Bool.false_eq_true, if_false]

theorem checkWorkstand_idle (h : ∀ sp, sp < s.spokeCount → s.openSlot sp = none ∧ s.gateState sp = 0) : checkWorkstand 1 s = stOk := by
  have hidle : s.spokeList.any (fun sp => (s.openSlot sp).isSome || s.gateState sp ≠ 0) = false := by
    refine List.any_eq_false.2 fun sp hsp => ?_
    obtain ⟨hslot, hgate⟩ := h sp (List.mem_range.1 hsp)
    simp [hslot, hgate]
  rw [checkWorkstand, hidle]
  rfl

theorem checkWorkstand_busy {sp : Nat} (hsp : sp < s.spokeCount) (hgate : s.gateState sp ≠ 0) : checkWorkstand 1 s = stNotNow := by
  have hbusy : s.spokeList.any (fun sp => (s.openSlot sp).isSome || s.gateState sp ≠ 0) = true :=
    List.any_eq_true.2 ⟨sp, List.mem_range.2 hsp, by simp [hgate]⟩
  rw [checkWorkstand, hbusy]
  rfl

theorem applyWorkstand_enters (h : s.workstand = false) : applyWorkstand 1 s =
    ({ s.puts [(k01Workstand, 1), (k01Mode, 5)] with modes := { s.modes with exitEnd := none } } : State).noticeOpen byDevice 0x0103 := by
  simp only [applyWorkstand, h, Bool.not_false, decide_true, Bool.and_self, if_true]

theorem applyWorkstand_leaves (h : s.workstand = true) :
    applyWorkstand 0 s = (s.puts [(k01Workstand, 0), (k01Mode, 0)]).noticeOpen byDevice 0x0104 := by
  simp [applyWorkstand, h]

theorem workstand_puts (w m : Int) : (s.puts [(k01Workstand, w), (k01Mode, m)]).get k01Mode = m ∧
    (s.puts [(k01Workstand, w), (k01Mode, m)]).get k01Workstand = w := by
  have h := objects_puts s [(k01Workstand, w), (k01Mode, m)] (by simp [key])
  exact ⟨h.1 (k01Mode, m) (by simp), h.1 (k01Workstand, w) (by simp)⟩

end Modes

/-- Settles O26: each clause by the conditions of its row. -/
theorem modeRows : Obligations.ModeRows := by
  unfold Obligations.ModeRows
  refine ⟨fun s hpowered hlow hhigh hkind hdue => congrArg Host.Outcome.next (knownEventExit_due hpowered hlow hhigh hkind hdue),
    fun s src hpowered hends hsrc => congrArg Host.Outcome.next ((wake_ends src hpowered hends).trans (by rw [if_neg hsrc])),
    fun s hpowered hends => congrArg Host.Outcome.next (wake_ends .knownEvent hpowered hends),
    fun s h => by
      rw [startExit_starts h]
      exact ⟨rfl, rfl⟩,
    fun s sid hpass hidle => congrArg Host.Outcome.next (writeRow_passes s sid _ 1 _ _ hpass (checkWorkstand_idle hidle)),
    fun s sid sp hpass hsp hgate => congrArg Host.Outcome.next (writeRow_answers s sid _ 1 _ _ stNotNow hpass
      (checkWorkstand_busy hsp hgate) (by decide) (by decide)),
    fun s h => by
      rw [applyWorkstand_enters h, get_noticeOpen, get_noticeOpen]
      exact workstand_puts (s := s) 1 5,
    fun s h => by
      rw [applyWorkstand_leaves h, get_noticeOpen, get_noticeOpen]
      exact workstand_puts (s := s) 0 0⟩

/-! ### The safety-domain reset (R464, R465, R486) -/

section SafetyReset
variable (s : State) (cause k : Nat)

/-- What stands beside the defaults after a power-on reset are safety states (R306). -/
theorem keyClass_resetObj : ∀ p ∈ resetObj, keyClass p.1 = 0x1D := by decide +kernel

theorem get_dropOther_other (r : Nat) (hk : keyClass k ≠ 0x31) (hr : r < 6) : (s.dropOther r).get k = s.get k := by
  have hne : ∀ m < 256, key 0x31 (16 + r) m ≠ k := by
    rintro m hm rfl
    exact hk (keyClass_key 0x31 (by omega) hm)
  exact get_puts_other s _ k (by simpa using ⟨hne _ (by decide), hne _ (by decide)⟩)

theorem keptMember_slotState : ∀ j ∈ keySlots, keptMember (k28SlotState j) = true := by decide +kernel

theorem get_loadKeys_other (hk : keptMember k = false) : s.loadKeys.get k = s.get k := by
  refine each_view (fun t => t.get k) _ _ _ fun t j hj => get_put_other t _ _ _ ?_
  rintro rfl
  rw [keptMember_slotState j (List.mem_filter.1 hj).1] at hk
  exact Bool.noConfusion hk

theorem get_applyFuses_other (hk : keyClass k ≠ 0x38) : s.applyFuses.get k = s.get k := by
  have hne : ∀ i m, i < 1024 → m < 256 → key 0x38 i m ≠ k := by
    rintro i m hi hm rfl
    exact hk (keyClass_key 0x38 hi hm)
  exact get_puts_other _ _ k (by simpa using ⟨hne _ _ (by decide) (by decide), hne _ _ (by decide) (by decide), hne _ _ (by decide) (by decide),
    hne _ _ (by decide) (by decide)⟩)

theorem puts_pending (l : List (Nat × Int)) : (s.puts l).pending = s.pending := by
  have h := congrArg State.pending (puts_rest s l)
  exact h

theorem modes_loadKeys : s.loadKeys.modes = s.modes := each_view State.modes _ _ _ fun _ _ _ => rfl
theorem pending_loadKeys : s.loadKeys.pending = s.pending := each_view State.pending _ _ _ fun _ _ _ => rfl

/-- A safety-domain reset begins with the store of `State.reset` and puts the kept members over it; regions in progress give up their
slots, and the keys, the fuses and the seal are read again. -/
theorem safetyReset_stages : ∃ (t : State) (kept : List (Nat × Int)) (dropped : List Nat), s.safetyReset cause =
    ((t.puts kept).each dropped fun t r => t.dropOther r).loadKeys.applyFuses.showSeal ∧ t.obj = resetObj ∧ t.variant = s.variant ∧
      t.pending = s.pending ∧ t.modes.cause = s.lowestCause cause ∧ (∀ p ∈ kept, keptMember p.1 = true) ∧ ∀ r ∈ dropped, r < 6 :=
  ⟨_, _, _, rfl, rfl, rfl, rfl, rfl, fun _ hp => (List.mem_filter.1 hp).2, fun _ hr => List.mem_range.1 (List.mem_filter.1 hr).1⟩

theorem get_safetyReset (hkept : keptMember k = false) (hseal : k ≠ k0DSealState) (hsafety : keyClass k ≠ 0x1D) (hheader : keyClass k ≠ 0x31)
    (hbist : keyClass k ≠ 0x38) : (s.safetyReset cause).get k = defaultOf s.variant k := by
  obtain ⟨t, kept, dropped, hreset, hobj, hvariant, -, -, hmembers, hregions⟩ := safetyReset_stages s cause
  have hdropped : ((t.puts kept).each dropped fun t r => t.dropOther r).get k = (t.puts kept).get k :=
    each_view (fun t => t.get k) _ _ _ fun u r hr => get_dropOther_other u k r hheader (hregions r hr)
  have hputs : (t.puts kept).get k = t.get k := get_puts_other t kept k fun p hp hkey => by
    rw [← hkey, hmembers p hp] at hkept
    exact Bool.noConfusion hkept
  rw [hreset, State.showSeal, get_put_other _ _ _ _ hseal, get_applyFuses_other _ _ hbist, get_loadKeys_other _ _ hkept, hdropped, hputs,
    State.get, hobj, hvariant]
  refine storeRead_of_not_mem _ _ _ fun hk => ?_
  obtain ⟨p, hp, rfl⟩ := List.mem_map.1 hk
  exact hsafety (keyClass_resetObj p hp)

/-- Neither the cause nor the queue of commands is touched by what follows the power-on state. -/
theorem cause_safetyReset : (s.safetyReset cause).modes.cause = s.lowestCause cause := by
  obtain ⟨t, kept, dropped, hreset, -, -, -, hcause, -, -⟩ := safetyReset_stages s cause
  have hmodes : ((t.puts kept).each dropped fun t r => t.dropOther r).modes = t.modes := by
    refine (each_view State.modes _ _ _ fun u r _ => ?_).trans ?_
    · exact puts_modes u _
    · exact puts_modes t _
  rw [hreset, State.showSeal, put_modes, State.applyFuses, puts_modes]
  exact (congrArg Modes.cause ((modes_loadKeys _).trans hmodes)).trans hcause

theorem pending_safetyReset : (s.safetyReset cause).pending = s.pending := by
  obtain ⟨t, kept, dropped, hreset, -, -, hpending, -, -, -⟩ := safetyReset_stages s cause
  have hdropped : ((t.puts kept).each dropped fun t r => t.dropOther r).pending = t.pending := by
    refine (each_view State.pending _ _ _ fun u r _ => ?_).trans ?_
    · exact puts_pending u _
    · exact puts_pending t _
  rw [hreset, State.showSeal, put_pending, State.applyFuses, puts_pending]
  exact (pending_loadKeys _).trans (hdropped.trans hpending)

end SafetyReset

/-- Settles O28: the members that the reset writes and keeps are those that the statement leaves out. -/
theorem safetyResetClears : Obligations.SafetyResetClears := by
  unfold Obligations.SafetyResetClears
  refine ⟨fun s cause k hkept hseal hsafety hheader hbist => get_safetyReset s cause k hkept hseal hsafety hheader hbist,
    fun s cause hbooted hup => ?_, fun s cause hat => ?_, fun s cause hbooted hat hcause => ?_, fun s cause => pending_safetyReset s cause⟩
  · rw [cause_safetyReset, State.lowestCause, hbooted, hup]
    rfl
  · rw [cause_safetyReset, State.lowestCause, decide_eq_false hat, Bool.and_false, Bool.false_and]
    rfl
  · rw [cause_safetyReset]
    simp [State.lowestCause, hbooted, hat, hcause]

/-! ### The commanded restart (R468) -/

section Restart
variable {s : State} {sid at_ : Nat}

theorem checkRestart_free (hlease : s.leaseRuns = false) (horders : s.stopOrders = false) : checkRestart 1 s = stOk := by
  simp [checkRestart, hlease, horders]

theorem checkRestart_runs (h : s.leaseRuns = true ∨ s.stopOrders = true) : checkRestart 1 s = stNotNow := by
  rcases h with hlease | horders
  · simp [checkRestart, hlease]
  · simp [checkRestart, horders]

theorem commandedRestart_early (hat : s.modes.restartAt = some at_) (hearly : s.reached at_ = false) : commandedRestart s = s := by
  have hdue : s.reachedOpt s.modes.restartAt = false := by rw [hat]; exact hearly
  simp only [commandedRestart, hdue, Bool.false_eq_true, if_false]

theorem commandedRestart_due (hat : s.modes.restartAt = some at_) (hdue : s.reached at_ = true) : commandedRestart s = s.coreReset 7 := by
  have hdue' : s.reachedOpt s.modes.restartAt = true := by rw [hat]; exact hdue
  simp only [commandedRestart, hdue', if_true]

/-- The core domain of a device that runs enters its reset, and the cause is latched. -/
theorem modes_coreReset (cause : Nat) (hpowered : s.modes.powered = true) (hbooted : s.modes.booted = true) (hup : s.modes.coreInReset = false) :
    (s.coreReset cause).modes.cause = cause ∧ (s.coreReset cause).modes.coreInReset = true := by
  have hcause : s.lowestCause cause = cause := by
    rw [State.lowestCause, hbooted, hup]
    rfl
  simp only [State.coreReset, hpowered, hup, Bool.not_true, Bool.false_eq_true, if_false, hcause, and_self]

end Restart

/-- Settles O29: the row of 01h/0/7, the write by its checks, the restart by its tick. -/
theorem commandedRestartFollows : Obligations.CommandedRestartFollows := by
  unfold Obligations.CommandedRestartFollows
  refine ⟨⟨_, rfl, by decide⟩,
    fun s sid hpass hlease horders => ⟨_, congrArg Host.Outcome.next ((writeRow_passes s sid _ 1 _ _ hpass
      (checkRestart_free hlease horders)).trans (congrArg State.atStep5 (writeOne_unlogged s sid _ 1 _ (by decide)))), rfl, rfl, rfl⟩,
    fun s at_ hat hearly => congrArg Host.Outcome.next (commandedRestart_early hat hearly),
    fun s at_ hpowered hbooted hup hat hdue => ⟨_, rfl, commandedRestart_due hat hdue, ?_⟩,
    fun s sid hpass h => congrArg Host.Outcome.next (writeRow_answers s sid _ 1 _ _ stNotNow hpass (checkRestart_runs h)
      (by decide) (by decide))⟩
  rw [commandedRestart_due hat hdue]
  exact modes_coreReset 7 hpowered hbooted hup

/-! ### Self-tests (R473, R474, R477) -/

section Bist
variable {s : State} {sid n : Nat}

theorem bistPassDue_due (hlow : 1 ≤ n) (hhigh : n ≤ 6) (hrun : s.bistInterval n ≤ s.since (s.bist.lastPass.getD (n - 1) 0))
    (hstate : s.getN (k38TargetState n) ≠ 3) (hwanted : s.passWanted n = false) : bistPassDue n s =
      if n = 1 then { s with bist := { s.bist with due := s.bist.due.set (n - 1) true } }
      else ({ s with bist := { s.bist with due := s.bist.due.set (n - 1) true } } : State).put (k38TargetState n) 1 := by
  simp only [bistPassDue, hlow, hhigh, hrun, hstate, hwanted, ne_eq, not_false_eq_true, decide_true, Bool.not_false, Bool.and_self, if_true]

theorem adcTest_begins {sp : Nat} (hwanted : s.passWanted 4 = true) (hfree : s.bist.adc = none) (hidle : s.nextIdle s.bist.adcNext = some sp)
    (hrun : bistStopped (s.getN k01Mode) 4 = false) : adcTest sp s = { s with bist := { s.bist with
      adc := some { spoke := sp, start := s.nextTick, samples := (List.range 5).map fun c => (5 * sp + c, []), stopped := none } } } := by
  simp only [adcTest, hwanted, hfree, hidle, hrun, Option.isNone_none, decide_true, Bool.not_false, Bool.and_self, if_true]

theorem adc_passDone (state : Nat) : (s.passDone n state).bist.adc = s.bist.adc := by
  have hcount := congrArg (fun t : State => t.bist.adc) (count_rest s (k38Passes n))
  have hputs := congrArg (fun t : State => t.bist.adc)
    (puts_rest (s.count (k38Passes n)) [(k38LastPass n, (s.count (k38Passes n)).stamp), (k38TargetState n, state)])
  exact hputs.trans hcount

/-- The test of a spoke is over; the next idle spoke follows, or the pass is complete. -/
def State.adcDone (t : State) (sp : Nat) : State :=
  let t := { t with bist := { t.bist with adc := none, adcNext := sp + 1 } }
  if (t.nextIdle t.bist.adcNext).isSome then t
  else { t with bist := { t.bist with adcNext := 0 } }.passDone 4 (if t.bist.adcFailed.isEmpty then 0 else 2)

theorem adc_adcDone (t : State) (sp : Nat) : (t.adcDone sp).bist.adc = none := by
  unfold State.adcDone
  dsimp only
  split
  · rfl
  · exact adc_passDone _

theorem adcTestEnd_over {a : AdcTest} (hadc : s.bist.adc = some a) (hover : s.adcOver a = true) : (adcTestEnd s).bist.adc = none := by
  simp only [adcTestEnd, hadc, hover, Bool.not_true, Bool.false_eq_true, if_false]
  exact adc_adcDone _ a.spoke

theorem checkProgramFuses_free (hworkstand : s.workstand = true) (hfree : s.bist.fused.length < fuseMax) : checkProgramFuses s = stOk := by
  simp only [checkProgramFuses, hworkstand, Nat.not_le.2 hfree, Bool.not_true, Bool.false_eq_true, if_false]

theorem checkProgramFuses_running (hworkstand : s.workstand = false) : checkProgramFuses s = stNotNow := by
  simp only [checkProgramFuses, hworkstand, Bool.not_false, if_true]

theorem checkProgramFuses_full (hworkstand : s.workstand = true) (hfull : fuseMax ≤ s.bist.fused.length) : checkProgramFuses s = stFull := by
  simp only [checkProgramFuses, hworkstand, hfull, Bool.not_true, Bool.false_eq_true, if_false, if_true]

/-- The pending repairs for which a fuse is free are programmed. -/
theorem fused_applyProgramFuses :
    (applyProgramFuses 1 s).bist.fused = s.bist.fused ++ s.bist.fuseList.take (fuseMax - s.bist.fused.length) := by
  have hnotices : (s.each (s.bist.fuseList.take (fuseMax - s.bist.fused.length)) fun t _ => t.noticeOpen byDevice 0x1014).bist = s.bist :=
    each_view State.bist _ _ _ fun _ _ _ => rfl
  exact congrArg (fun b : Bist => b.fused ++ s.bist.fuseList.take (fuseMax - s.bist.fused.length)) hnotices

end Bist

/-- Settles O30: each clause by the branch its conditions name. -/
theorem bistRows : Obligations.BistRows := by
  unfold Obligations.BistRows
  refine ⟨fun s t hlow hhigh hrun hstate hwanted => congrArg Host.Outcome.next
      ((bistPassDue_due (by omega) hhigh hrun hstate hwanted).trans (if_neg (by omega))),
    fun s hrun hstate hwanted => congrArg Host.Outcome.next (bistPassDue_due (by decide) (by decide) hrun hstate hwanted),
    fun s sp hwanted hfree hidle hrun => ⟨_, _, congrArg Host.Outcome.next (adcTest_begins hwanted hfree hidle hrun), rfl, rfl, rfl, rfl⟩,
    fun s a hadc hover => ⟨_, rfl, adcTestEnd_over hadc hover⟩,
    fun s sid hpass hworkstand hfree => congrArg Host.Outcome.next (writeRow_passes s sid _ 1 _ _ hpass
      (checkProgramFuses_free hworkstand hfree)),
    fun s sid hpass hworkstand => congrArg Host.Outcome.next (writeRow_answers s sid _ 1 _ _ stNotNow hpass
      (checkProgramFuses_running hworkstand) (by decide) (by decide)),
    fun s sid hpass hworkstand hfull => congrArg Host.Outcome.next (writeRow_answers s sid _ 1 _ _ stFull hpass
      (checkProgramFuses_full hworkstand hfull) (by decide) (by decide)),
    fun s => fused_applyProgramFuses⟩

end Sys2Proof.Machine
end

section
/-! Chainline, I: time, snapshots, billing and caps (O55). -/

namespace Sys2Proof.Machine

section Chainline
variable {s : State} {h : ChlHdr} {n at_ i : Nat} {w : List Nat} {rest : List (Nat × ChlHdr × List Nat × Nat)}

/-! ### What the parts of a command leave -/

@[simp] theorem get_modChl (f : Chainline → Chainline) (k : Nat) : (s.modChl f).get k = s.get k := rfl
@[simp] theorem getN_modChl (f : Chainline → Chainline) (k : Nat) : (s.modChl f).getN k = s.getN k := rfl
@[simp] theorem obj_queueMessage (cmd unit : Nat) (words : List Nat) : (s.queueMessage cmd unit words).obj = s.obj := rfl

@[simp] theorem getN_logCap (i k : Nat) : (s.logCap i).getN k = s.getN k := rfl

theorem length_queueMessage (cmd unit : Nat) (words : List Nat) :
    (s.queueMessage cmd unit words).chainline.queue.length = s.chainline.queue.length + 1 := List.length_append

/-- A result leaves everything but the queue, the draws and the notices. -/
theorem result_cases (cmd st : Nat) : ∃ t, (t = s ∨ t = s.notice byChainline 0x0B12 (cmd * 256 + st)) ∧
    (s.result cmd h st = t ∨ s.result cmd h st = t.queueMessage 0x83 h.unit [cmd * 2 ^ 40 + h.seq * 2 ^ 28 + st]) := by
  refine ⟨if st = stOk then s else s.notice byChainline 0x0B12 (cmd * 256 + st), ?_, ?_⟩
  · split
    · exact .inl rfl
    · exact .inr rfl
  · unfold State.result
    cases h.single
    · exact .inl rfl
    · exact .inr rfl

/-- A view that the queue, the draws and the notices leave alone. -/
theorem view_result {β : Type} (g : State → β) (hnotice : ∀ t c v, g (t.notice byChainline c v) = g t)
    (hqueue : ∀ t c u l, g (t.queueMessage c u l) = g t) (cmd st : Nat) : g (s.result cmd h st) = g s := by
  obtain ⟨t, ht, hr⟩ := result_cases (s := s) (h := h) cmd st
  have htg : g t = g s := by
    rcases ht with rfl | rfl
    · rfl
    · exact hnotice ..
  rcases hr with hr | hr
  · rw [hr, htg]
  · rw [hr, hqueue, htg]

@[simp] theorem get_result (cmd st k : Nat) : (s.result cmd h st).get k = s.get k :=
  view_result (fun t => t.get k) (fun _ _ _ => rfl) (fun _ _ _ _ => rfl) cmd st
@[simp] theorem getN_result (cmd st k : Nat) : (s.result cmd h st).getN k = s.getN k := congrArg Int.toNat (get_result cmd st k)
@[simp] theorem commands_result (cmd st : Nat) : (s.result cmd h st).chainline.commands = s.chainline.commands :=
  view_result (fun t => t.chainline.commands) (fun _ _ _ => rfl) (fun _ _ _ _ => rfl) cmd st
@[simp] theorem events_result (cmd st : Nat) : (s.result cmd h st).chainline.events = s.chainline.events :=
  view_result (fun t => t.chainline.events) (fun _ _ _ => rfl) (fun _ _ _ _ => rfl) cmd st
@[simp] theorem kod_result (cmd st : Nat) : (s.result cmd h st).kod = s.kod :=
  view_result State.kod (fun _ _ _ => rfl) (fun _ _ _ _ => rfl) cmd st

/-! ### Time (R346) -/

/-- MC after an alignment. -/
def State.alignedMc (s : State) (h : ChlHdr) (mc at_ : Nat) : Nat :=
  (((s.mc : Int) + mcDiff ((mc + (h.slot + 1) * 112) % ccMod) at_ + ccMod) % ccMod).toNat

/-- MC is aligned, and the events that it has passed are reported and moved. -/
theorem timeAlign_front {mc : Nat} (hfw : s.firmwareUp = true) (hcommands : s.chainline.commands = (1, h, w, at_) :: rest) (hmc : w.getD 1 0 = mc) :
    ∃ t : State, timeAlign h mc s = ((t.puts [(k20MC, s.alignedMc h mc at_), (k20MCState, 2)]).notice byChainline 0x0B01
      (pattern 48 (mcDiff ((mc + (h.slot + 1) * 112) % ccMod) at_))).result 1 h stOk ∧ t.chainline.commands = rest := by
  refine ⟨_, carryOut_front s 1 h w at_ rest _ _ hfw hcommands (decide_eq_true hmc), ?_⟩
  exact each_view (fun t => t.chainline.commands) (chlTaken s rest) _ _ fun _ _ _ => rfl

/-- The next value of MC with some low 40 bits. -/
def State.nextLow (s : State) (mcLow : Nat) : Nat :=
  (mcLow + 1099511627776 - s.mc % 1099511627776) % 1099511627776

theorem nextLow_low {mcLow : Nat} (hlow : mcLow < 2 ^ 40) :
    (s.mc + if s.nextLow mcLow = 0 then 1099511627776 else s.nextLow mcLow) % ccMod % 2 ^ 40 = mcLow := by
  have hmod : ccMod = 2 ^ 48 := rfl
  rw [hmod, Nat.mod_mod_of_dvd _ (by decide : 2 ^ 40 ∣ 2 ^ 48)]
  unfold State.nextLow
  split <;> omega

section TimeSet
variable {target mcLow : Nat} {ok : Bool} (hfw : s.firmwareUp = true) (hcommands : s.chainline.commands = (2, h, w, at_) :: rest)
  (htarget : w.getD 1 0 = target) (hlow : field (w.getD 2 0) 47 8 = mcLow) (hok : bit (w.getD 2 0) 0 = ok)
include hfw hcommands htarget hlow hok

theorem timeSet_front : timeSet h target mcLow ok s =
    if (chlTaken s rest).mcState ≠ 2 then (chlTaken s rest).result 2 h stNotNow
    else ((chlTaken s rest).schedule ((s.mc + if s.nextLow mcLow = 0 then 1099511627776 else s.nextLow mcLow) % ccMod)
      (.timeSet target ok)).result 2 h stOk :=
  carryOut_front _ _ _ _ _ _ _ _ hfw hcommands (by simp only [htarget, hlow, hok, decide_true, Bool.and_self])

theorem timeSet_scheduled (hstate : s.mcState = 2) : timeSet h target mcLow ok s =
    ((chlTaken s rest).schedule ((s.mc + if s.nextLow mcLow = 0 then 1099511627776 else s.nextLow mcLow) % ccMod)
      (.timeSet target ok)).result 2 h stOk :=
  (timeSet_front hfw hcommands htarget hlow hok).trans (if_neg (not_not_intro hstate))

theorem timeSet_refused (hstate : s.mcState ≠ 2) : timeSet h target mcLow ok s = (chlTaken s rest).result 2 h stNotNow :=
  (timeSet_front hfw hcommands htarget hlow hok).trans (if_pos hstate)

end TimeSet

/-! ### Snapshots and billing closes (R347) -/

theorem snapshot_scheduled {mc : Nat} (hfw : s.firmwareUp = true) (hcommands : s.chainline.commands = (3, h, w, at_) :: rest)
    (hmc : w.getD 1 0 = mc) (hstate : s.mcState = 2) (htarget : s.mcTargetOk mc = true) (hfree : s.snapshotPending = false) :
    snapshot h mc s = ((chlTaken s rest).schedule mc .snapshot).result 3 h stOk := by
  have hstate' : (chlTaken s rest).mcState = 2 := hstate
  have htarget' : (chlTaken s rest).mcTargetOk mc = true := htarget
  have hfree' : (chlTaken s rest).snapshotPending = false := hfree
  rw [snapshot, carryOut_front _ _ _ _ _ _ _ _ hfw hcommands (decide_eq_true hmc)]
  simp only [hstate', htarget', hfree', ne_eq, not_true_eq_false, if_false, Bool.not_true, Bool.false_eq_true]

theorem billingClose_scheduled {mc : Nat} (hfw : s.firmwareUp = true) (hcommands : s.chainline.commands = (4, h, w, at_) :: rest)
    (hmc : w.getD 1 0 = mc) (hstate : s.mcState = 2) (htarget : s.mcTargetOk mc = true) :
    billingCloseCommand h mc s = ((chlTaken s rest).schedule mc .billingClose).result 4 h stOk := by
  have hstate' : (chlTaken s rest).mcState = 2 := hstate
  have htarget' : (chlTaken s rest).mcTargetOk mc = true := htarget
  rw [billingCloseCommand, carryOut_front _ _ _ _ _ _ _ _ hfw hcommands (decide_eq_true hmc)]
  simp only [hstate', htarget', ne_eq, not_true_eq_false, if_false, Bool.not_true, Bool.false_eq_true]

/-! ### Caps (R348) -/

/-- The members of a cap that a DR_CAP brings. -/
def State.capMembers (s : State) (i ident target mask cap duration start : Nat) : List (Nat × Int) :=
  [(k1BCapState i, 1), (k1BTarget i, target), (k1BPhaseMask i, mask), (k1BCap i, cap), (k1BStart i, s.wallAtMc start),
    (k1BEnd i, (s.wallAtMc start + (if duration = 0 then dayMillis else duration * 1000 / s.nominalHz) : Nat)), (k1BCapIdentity i, ident)]

/-- The event at which a cap starts, in place of an older one of its slot. -/
def State.capStartAt (s : State) (i start : Nat) : State :=
  s.modChl fun c => { c with events := (c.events.filter fun x => x.2 ≠ ChlEvent.capStart i) ++ [(start, .capStart i)] }

theorem drCap_held {ident target mask cap duration start : Nat} (hfw : s.firmwareUp = true)
    (hcommands : s.chainline.commands = (5, h, w, at_) :: rest) (hident : field (w.getD 1 0) 47 16 = ident)
    (htarget : field (w.getD 1 0) 15 12 = target) (hmask : field (w.getD 1 0) 11 9 = mask) (hcap : field (w.getD 2 0) 47 24 = cap)
    (hduration : field (w.getD 2 0) 23 0 = duration) (hstart : w.getD 3 0 = start) (hstate : s.mcState = 2) (hsite : target ≤ siteNum)
    (htime : s.timeValid = true) (hslot : s.capSlotFor ident = some i) : drCap h ident target mask cap duration start s =
      (((((chlTaken s rest).capStartAt i start).puts
        ((chlTaken s rest).capMembers i ident target mask cap duration start)).logCap i).result 5 h stOk) := by
  have hstate' : (chlTaken s rest).mcState = 2 := hstate
  have htime' : (chlTaken s rest).timeValid = true := htime
  have hslot' : (chlTaken s rest).capSlotFor ident = some i := hslot
  rw [drCap, carryOut_front _ _ _ _ _ _ _ _ hfw hcommands (by simp only [hident, htarget, hmask, hcap, hduration, hstart, decide_true, Bool.and_self])]
  simp only [hstate', Nat.not_lt.2 hsite, hslot', htime', ne_eq, not_true_eq_false, if_false, Bool.not_true, Bool.false_eq_true]
  rfl

theorem objects_capMembers (t : State) (ident target mask cap duration start : Nat) :
    objects t (t.puts (s.capMembers i ident target mask cap duration start)) (s.capMembers i ident target mask cap duration start) :=
  objects_puts t _ (by simp [State.capMembers, key_member_inj])

/-- A member of a cap just brought reads what the command gives, whatever is logged and answered after. -/
theorem getN_capBrought {t : State} {ident target mask cap duration start k v : Nat}
    (hk : (k, (v : Int)) ∈ s.capMembers i ident target mask cap duration start) :
    (((t.puts (s.capMembers i ident target mask cap duration start)).logCap i).result 5 h stOk).getN k = v := by
  rw [getN_result, getN_logCap]
  exact congrArg Int.toNat ((objects_capMembers t ident target mask cap duration start).1 _ hk)

theorem drCancel_found {ident : Nat} (hfw : s.firmwareUp = true) (hcommands : s.chainline.commands = (6, h, w, at_) :: rest)
    (hident : field (w.getD 1 0) 47 16 = ident)
    (hslot : (capSlots.find? fun i => s.getN (k1BCapState i) ≠ 0 && s.getN (k1BCapIdentity i) = ident) = some i) :
    drCancel h ident s = ((chlTaken s rest).freeCap i).result 6 h stOk := by
  have hslot' : (capSlots.find? fun i => (chlTaken s rest).getN (k1BCapState i) ≠ 0 &&
      (chlTaken s rest).getN (k1BCapIdentity i) = ident) = some i := hslot
  rw [drCancel, carryOut_front _ _ _ _ _ _ _ _ hfw hcommands (decide_eq_true hident), hslot']

/-- After TIME_ALIGN, MC is aligned and valid, and the command has been taken. -/
theorem timeAlign_aligned {mc : Nat} (hfw : s.firmwareUp = true) (hcommands : s.chainline.commands = (1, h, w, at_) :: rest)
    (hmc : w.getD 1 0 = mc) : (timeAlign h mc s).getN k20MCState = 2 ∧ (timeAlign h mc s).chainline.commands = rest ∧
      (timeAlign h mc s).getN k20MC = s.alignedMc h mc at_ := by
  obtain ⟨t, ht, hcommands'⟩ := timeAlign_front hfw hcommands hmc
  have hputs := objects_puts t [(k20MC, (s.alignedMc h mc at_ : Int)), (k20MCState, 2)] (by simp [key])
  have hstate : (t.puts [(k20MC, (s.alignedMc h mc at_ : Int)), (k20MCState, 2)]).getN k20MCState = 2 :=
    congrArg Int.toNat (hputs.1 (k20MCState, 2) (by simp))
  have hnow : (t.puts [(k20MC, (s.alignedMc h mc at_ : Int)), (k20MCState, 2)]).getN k20MC = s.alignedMc h mc at_ :=
    (congrArg Int.toNat (hputs.1 (k20MC, (s.alignedMc h mc at_ : Int)) List.mem_cons_self)).trans (Int.toNat_natCast _)
  rw [ht, getN_result, getN_notice, getN_result, getN_notice, commands_result]
  refine ⟨hstate, ?_, hnow⟩
  rw [notice_chainline, puts_cons, puts_cons, puts_nil, put_chainline, put_chainline, hcommands']

end Chainline

/-- Settles O55: every command stands at the front of those that wait, and is carried out by the branch its conditions name. -/
theorem chainlineTimeRows : Obligations.ChainlineTimeRows := by
  unfold Obligations.ChainlineTimeRows
  refine ⟨fun s h mc w at_ rest hfw hcommands hmc => ⟨timeAlign h mc s, rfl, timeAlign_aligned hfw hcommands hmc⟩,
    fun s h target mcLow ok w at_ rest hfw hcommands htarget hlow hok hstate =>
      ⟨_, nextLow_low (s := s) (hlow ▸ Nat.mod_lt _ (by decide)),
        congrArg Host.Outcome.next (timeSet_scheduled hfw hcommands htarget hlow hok hstate)⟩,
    fun s h target mcLow ok w at_ rest hfw hcommands htarget hlow hok hstate =>
      congrArg Host.Outcome.next (timeSet_refused hfw hcommands htarget hlow hok hstate),
    fun s h mc w at_ rest hfw hcommands hmc hstate htarget hfree =>
      congrArg Host.Outcome.next (snapshot_scheduled hfw hcommands hmc hstate htarget hfree),
    fun s h mc w at_ rest hfw hcommands hmc hstate htarget =>
      congrArg Host.Outcome.next (billingClose_scheduled hfw hcommands hmc hstate htarget),
    fun s h ident target mask cap duration start w at_ rest i hfw hcommands hident htarget hmask hcap hduration hstart hstate hsite htime
      hslot _ => ⟨_, congrArg Host.Outcome.next
        (drCap_held hfw hcommands hident htarget hmask hcap hduration hstart hstate hsite htime hslot), ?_⟩,
    fun s h ident w at_ rest i hfw hcommands hident hslot => congrArg Host.Outcome.next (drCancel_found hfw hcommands hident hslot),
    fun s => rfl⟩
  refine ⟨getN_capBrought ?_, getN_capBrought ?_, getN_capBrought ?_, getN_capBrought ?_, ?_⟩
  iterate 4 simp [State.capMembers]
  rw [events_result]
  exact List.mem_append_right _ (List.mem_singleton.2 rfl)

end Sys2Proof.Machine
end

section
/-! Chainline, II: tariff images, readings, registration, repeaters and acknowledgements (O56). -/

namespace Sys2Proof.Machine

section ChainlineService
variable {s : State} {h : ChlHdr} {at_ : Nat} {w : List Nat} {rest : List (Nat × ChlHdr × List Nat × Nat)}

@[simp] theorem candidate_result (cmd st : Nat) : (s.result cmd h st).chainline.candidate = s.chainline.candidate :=
  view_result (fun t => t.chainline.candidate) (fun _ _ _ => rfl) (fun _ _ _ _ => rfl) cmd st
@[simp] theorem registerAt_result (cmd st : Nat) : (s.result cmd h st).chainline.registerAt = s.chainline.registerAt :=
  view_result (fun t => t.chainline.registerAt) (fun _ _ _ => rfl) (fun _ _ _ _ => rfl) cmd st

/-! ### Tariff images (R349) -/

section Tariff
variable {tid size off : Nat} {words : List Nat}

/-- TARIFF as it opens for Chainline, under the identity of its image. -/
def State.tariffOpened (s : State) (tid size : Nat) : State :=
  (s.openRegion 2 255 size).modRegion 2 fun x => { x with chlId := tid }

theorem length_regions_openRegion (r sid : Nat) : (s.openRegion r sid size).kod.regions.length = s.kod.regions.length := by
  simp only [State.openRegion, State.dropOther, State.modRegion, List.length_modify, puts_kod]

theorem tariffOpened_opened (hregions : 2 < s.kod.regions.length) : (s.tariffOpened tid size).regionState 2 = 1 ∧
    (s.tariffOpened tid size).ownsTariff tid = true ∧ (s.tariffOpened tid size).getN (k0FDeclaredSize 2) = size := by
  obtain ⟨hstate, howner, -⟩ := openRegion_opened (s := s) (r := 2) (sid := 255) size
  have hchl : ((s.tariffOpened tid size).region 2).chlId = tid := by
    rw [State.tariffOpened, region_modRegion_same _ 2 _ ((length_regions_openRegion ..).symm ▸ hregions)]
  have hput := (objects_puts s [(k0FState 2, (rReceiving : Int)), (k0FOwner 2, (255 : Nat)), (k0FDeclaredSize 2, size), (k0FOffset 2, 0),
    (k0FFlushMark 2, 0), (k0FHighWater 2, 0), (k31OtherSlot (16 + 2), 0), (k31OtherImage (16 + 2), 0)] (by simp [key])).1
      (k0FDeclaredSize 2, size) (by simp)
  have hsize : (s.openRegion 2 255 size).getN (k0FDeclaredSize 2) = size := by
    rw [State.getN, get_openRegion, hput]
    exact Int.toNat_natCast size
  have howner' : (s.tariffOpened tid size).regionOwner rTariff = chainlineOwner := howner
  have hchl' : ((s.tariffOpened tid size).region rTariff).chlId = tid := hchl
  exact ⟨hstate, by simp only [State.ownsTariff, hchl', howner', decide_true, Bool.and_self], hsize⟩

@[simp] theorem getN_tariffHeard (k : Nat) : s.tariffHeard.getN k = s.getN k := rfl

theorem ownsTariff_answered (cmd st : Nat) : (s.tariffHeard.result cmd h st).ownsTariff tid = s.ownsTariff tid := by
  rw [State.ownsTariff, State.regionOwner, State.region, getN_result, kod_result]
  rfl

theorem tariffBegin_opens (hfw : s.firmwareUp = true) (hcommands : s.chainline.commands = (7, h, w, at_) :: rest)
    (htid : field (w.getD 1 0) 47 16 = tid) (hsize : field (w.getD 1 0) 15 0 = size) (hstate : s.regionState 2 = 0 ∨ s.regionState 2 = 5)
    (hpos : size ≠ 0) (hlimit : size ≤ s.regionLimit 2) :
    tariffBegin h tid size s = ((chlTaken s rest).tariffOpened tid size).tariffHeard.result 7 h stOk := by
  have hstate' : (chlTaken s rest).regionState rTariff = rIdle ∨ (chlTaken s rest).regionState rTariff = rCommitted := hstate
  have hlimit' : ¬ (chlTaken s rest).regionLimit rTariff < size := hlimit.not_gt
  have hopens : (decide ((chlTaken s rest).regionState rTariff = rIdle) || decide ((chlTaken s rest).regionState rTariff = rCommitted)) =
      true := by
    simpa only [Bool.or_eq_true, decide_eq_true_eq] using hstate'
  have hfits : (decide (size = 0) || decide ((chlTaken s rest).regionLimit rTariff < size)) = false := by
    simp only [hpos, hlimit', decide_false, Bool.or_self]
  rw [tariffBegin, carryOut_front s 7 h w at_ rest _ _ hfw hcommands (by simp only [htid, hsize, decide_true, Bool.and_self])]
  exact (if_pos hopens).trans (if_neg (Bool.eq_false_iff.1 hfits))

theorem tariffData_receives (hfw : s.firmwareUp = true) (hcommands : s.chainline.commands = (8, h, w, at_) :: rest)
    (htid : field (w.getD 1 0) 47 16 = tid) (hoff : field (w.getD 1 0) 15 0 = off) (hwords : w.drop 2 = words)
    (howns : s.ownsTariff tid = true) (hstate : s.regionState 2 = 1) : tariffData h tid off words s =
      ((chlTaken s rest).tariffHeard.each words.zipIdx fun s x => s.receiveWord (off + x.2) x.1).result 8 h stOk := by
  have howns' : (chlTaken s rest).ownsTariff tid = true := howns
  have hstate' : (chlTaken s rest).regionState rTariff = rReceiving := hstate
  rw [tariffData, carryOut_front s 8 h w at_ rest _ _ hfw hcommands (by simp only [htid, hoff, hwords, decide_true, Bool.and_self])]
  simp only [howns', hstate', decide_true, Bool.and_self, if_true]

theorem tariffEnd_complete (hfw : s.firmwareUp = true) (hcommands : s.chainline.commands = (9, h, w, at_) :: rest)
    (htid : field (w.getD 1 0) 47 16 = tid) (howns : s.ownsTariff tid = true) (hstate : s.regionState 2 = 1)
    (hmissing : s.missingWords = []) : tariffEnd h tid s = ((chlTaken s rest).tariffHeard.finishRegion 2).result 9 h stOk := by
  have howns' : (chlTaken s rest).ownsTariff tid = true := howns
  have hstate' : (chlTaken s rest).regionState rTariff = rReceiving := hstate
  have hmissing' : (chlTaken s rest).missingWords = [] := hmissing
  rw [tariffEnd, carryOut_front s 9 h w at_ rest _ _ hfw hcommands (decide_eq_true htid)]
  simp only [howns', hstate', hmissing', decide_true, Bool.and_self, Bool.not_true, Bool.false_eq_true, if_false]
  rfl

theorem tariffAbort_aborts (hfw : s.firmwareUp = true) (hcommands : s.chainline.commands = (10, h, w, at_) :: rest)
    (htid : field (w.getD 1 0) 47 16 = tid) (howns : s.ownsTariff tid = true) (hlo : 1 ≤ s.regionState 2) (hhi : s.regionState 2 ≤ 3) :
    tariffAbort h tid s = ((chlTaken s rest).abortRegion 2).result 10 h stOk := by
  have howns' : (chlTaken s rest).ownsTariff tid = true := howns
  have hlo' : 1 ≤ (chlTaken s rest).regionState rTariff := hlo
  have hhi' : (chlTaken s rest).regionState rTariff ≤ 3 := hhi
  rw [tariffAbort, carryOut_front s 10 h w at_ rest _ _ hfw hcommands (decide_eq_true htid)]
  simp only [howns', hlo', hhi', decide_true, Bool.and_self, if_true]
  rfl

theorem tariffIdleTimeout_aborts (howner : s.regionOwner 2 = 255) (hstate : s.regionState 2 = 1)
    (hreached : s.reached ((s.chainline.tariffLast + secTicks (s.getN k20TariffIdleTimeout)) % ccMod) = true) :
    tariffIdleTimeout s = (s.abortRegion 2).noticeOpen 33 0x0B21 := by
  have howner' : s.regionOwner rTariff = chainlineOwner := howner
  have hstate' : s.regionState rTariff = rReceiving := hstate
  rw [tariffIdleTimeout, if_pos (by simp only [howner', hstate', hreached, decide_true, Bool.and_self])]
  rfl

end Tariff

/-! ### Readings (R350) -/

/-- Word 1 of a READ of one figure ends in bits that no index uses. -/
theorem readWord_single (shadow : Bool) (i : Nat) : readWord shadow [i] / 2 ^ 39 * 2 ^ 39 = readWord shadow [i] := by
  refine Nat.div_mul_cancel ?_
  cases shadow <;> simp [readWord] <;> omega

theorem chainlineRead_single {shadow : Bool} {i : Nat} (hfw : s.firmwareUp = true)
    (hcommands : s.chainline.commands = (11, h, w, at_) :: rest) (hsingle : h.single = true) (hunit : 1 ≤ h.unit) (hi : i ≤ 23)
    (hw : w.getD 1 0 = readWord shadow [i]) :
    ∃ l, chainlineRead h shadow [i] s = (chlTaken s rest).queueMessage 0x82 h.unit l := by
  have hit : (decide ([i].length ≤ 6) && decide (w.getD 1 0 / 2 ^ (44 - 5 * [i].length) * 2 ^ (44 - 5 * [i].length) =
      readWord shadow [i])) = true := by
    rw [hw]
    simp only [List.length_singleton, Nat.reduceMul, Nat.reduceSub, readWord_single, decide_true, Bool.and_true]
    exact decide_eq_true (by omega)
  rw [chainlineRead, carryOut_front s 11 h w at_ rest _ _ hfw hcommands hit]
  have hinside : (decide ([i] = []) || [i].any fun i => decide ((if h.unit = 0 then 3 else 23) < i)) = false := by
    simp [Nat.one_le_iff_ne_zero.1 hunit, hi]
  exact ⟨_, (if_neg (Bool.eq_false_iff.1 hinside)).trans (if_neg (by simp [hsingle]))⟩

/-! ### Registration (R345, R351) -/

@[simp] theorem getN_drawRegistration (k v : Nat) (x : Int) : ((s.logSetting v x).drawRegistration).getN k = s.getN k := rfl

section Registration
variable {window : Nat} (hfw : s.firmwareUp = true) (hcommands : s.chainline.commands = (12, h, w, at_) :: rest)
  (hwindow : field (w.getD 1 0) 31 0 = window) (hlo : 1 ≤ window) (hhi : window ≤ 86400)
include hfw hcommands hwindow hlo hhi

theorem reregister_draws (hrng : s.rngOk = true) : reregister h window s = ((((chlTaken s rest).put k20RegistrationWindow window).logSetting
    k20RegistrationWindow window).drawRegistration).result 12 h stOk := by
  have hrng' : (chlTaken s rest).rngOk = true := hrng
  rw [reregister, carryOut_front s 12 h w at_ rest _ _ hfw hcommands (decide_eq_true hwindow)]
  simp only [Nat.not_lt.2 hlo, Nat.not_lt.2 hhi, hrng', decide_false, Bool.or_self, if_false, Bool.not_true, Bool.false_eq_true]

theorem reregister_refused (hrng : s.rngOk = false) : reregister h window s = (chlTaken s rest).result 12 h stInternal := by
  have hrng' : (chlTaken s rest).rngOk = false := hrng
  rw [reregister, carryOut_front s 12 h w at_ rest _ _ hfw hcommands (decide_eq_true hwindow)]
  simp only [Nat.not_lt.2 hlo, Nat.not_lt.2 hhi, hrng', decide_false, Bool.or_self, Bool.false_eq_true, if_false, Bool.not_false, if_true]

end Registration

theorem registration_registers (hfw : s.firmwareUp = true) (hon : s.chlOn = true) (hreached : s.reachedOpt s.chainline.registerAt = true) :
    registration s = (s.modChl fun c => { c with registerAt := none }).register :=
  if_pos (by simp only [hfw, hon, hreached, Bool.and_self])

theorem orphanCall_registers (hfw : s.firmwareUp = true) (hon : s.chlOn = true) (hreached : s.reachedOpt s.chainline.orphanAt = true) :
    orphanCall s = (s.modChl fun c => { c with orphanAt := some (s.after 28800000) }).register :=
  if_pos (by simp only [hfw, hon, hreached, Bool.and_self])

theorem hello_announces (hfw : s.firmwareUp = true) (hon : s.chlOn = true) (hrelay : s.getN k20RelayNumber0 ≠ 0)
    (hreached : s.reachedOpt s.chainline.helloAt = true) : hello s =
      (s.modChl fun c => { c with helloAt := some (s.after 172800000) }).queueMessage 0x86 0
        [s.getN k20RelayNumber0 * 2 ^ 41 + s.tier % 8 * 2 ^ 38] :=
  if_pos (by simp only [hfw, hon, hrelay, hreached, ne_eq, not_false_eq_true, decide_true, Bool.and_self])

/-! ### Repeaters and acknowledgements (R342, R344) -/

theorem repeater_relays {relay veto : Nat} (hfw : s.firmwareUp = true) (hcommands : s.chainline.commands = (13, h, w, at_) :: rest)
    (hrelay : field (w.getD 1 0) 47 41 = relay) (hveto : field (w.getD 1 0) 40 25 = veto) (hlo : 1 ≤ relay) (hhi : relay ≤ 126) :
    repeater h relay veto s = ((((chlTaken s rest).candidateAnswered.put k20RelayNumber0 relay).modChl fun c =>
      { c with candidate := false, helloAt := some ((chlTaken s rest).candidateAnswered.after helloTicks) }).result 13 h stOk) := by
  have hpos : relay ≠ 0 := by omega
  rw [repeater, carryOut_front s 13 h w at_ rest _ _ hfw hcommands (by simp only [hrelay, hveto, decide_true, Bool.and_self])]
  simp only [Nat.not_lt.2 hhi, hpos, if_false, ne_eq, not_false_eq_true, if_true]

theorem ack_acknowledges {seq : Nat} (hfw : s.firmwareUp = true) (hcommands : s.chainline.commands = (14, h, w, at_) :: rest)
    (hseq : field (w.getD 1 0) 11 0 = seq) : chlAck h seq s = ((chlTaken s rest).modChl fun c =>
      { c with queue := c.queue.filter fun m => !(m.own && m.frame.seq = seq && m.sendings ≠ 0) }).result 14 h stOk := by
  rw [chlAck, carryOut_front s 14 h w at_ rest _ _ hfw hcommands (decide_eq_true hseq)]

end ChainlineService

/-- Settles O56: the command at the front is carried out, and a call of the node queues its message and sets the next instant. -/
theorem chainlineServiceRows : Obligations.ChainlineServiceRows := by
  unfold Obligations.ChainlineServiceRows
  refine ⟨fun s h tid size w at_ rest hfw hcommands htid hsize hstate hpos hlimit hregions =>
      ⟨_, congrArg Host.Outcome.next (tariffBegin_opens hfw hcommands htid hsize hstate hpos hlimit), ?_⟩,
    fun s h tid off words w at_ rest hfw hcommands htid hoff hwords howns hstate =>
      congrArg Host.Outcome.next (tariffData_receives hfw hcommands htid hoff hwords howns hstate),
    fun s h tid w at_ rest hfw hcommands htid howns hstate hmissing =>
      congrArg Host.Outcome.next (tariffEnd_complete hfw hcommands htid howns hstate hmissing),
    fun s h tid w at_ rest hfw hcommands htid howns hlo hhi =>
      congrArg Host.Outcome.next (tariffAbort_aborts hfw hcommands htid howns hlo hhi),
    fun s howner hstate hreached => congrArg Host.Outcome.next (tariffIdleTimeout_aborts howner hstate hreached),
    fun s h shadow i w at_ rest hfw hcommands hsingle hunit hi hw => ?_,
    fun s h window w at_ rest hfw hcommands hwindow hlo hhi hrng =>
      ⟨_, congrArg Host.Outcome.next (reregister_draws hfw hcommands hwindow hlo hhi hrng), ?_, ?_⟩,
    fun s h window w at_ rest hfw hcommands hwindow hlo hhi hrng =>
      congrArg Host.Outcome.next (reregister_refused hfw hcommands hwindow hlo hhi hrng),
    fun s hfw hon hreached => congrArg Host.Outcome.next (registration_registers hfw hon hreached),
    fun s hfw hon hreached => ⟨_, congrArg Host.Outcome.next (orphanCall_registers hfw hon hreached), rfl, length_queueMessage ..⟩,
    fun s hfw hon hrelay hreached => ⟨_, congrArg Host.Outcome.next (hello_announces hfw hon hrelay hreached), rfl, length_queueMessage ..⟩,
    fun s h relay veto w at_ rest hfw hcommands hrelay hveto hlo hhi =>
      ⟨_, congrArg Host.Outcome.next (repeater_relays hfw hcommands hrelay hveto hlo hhi), ?_, candidate_result ..⟩,
    fun s h seq w at_ rest hfw hcommands hseq => congrArg Host.Outcome.next (ack_acknowledges hfw hcommands hseq)⟩
  · obtain ⟨hopen, howns, hdeclared⟩ := tariffOpened_opened (s := chlTaken s rest) (tid := tid) (size := size) hregions
    rw [ownsTariff_answered, State.regionState, getN_result, getN_result, getN_tariffHeard, getN_tariffHeard]
    exact ⟨hopen, howns, hdeclared⟩
  · obtain ⟨l, hl⟩ := chainlineRead_single hfw hcommands hsingle hunit hi hw
    exact ⟨_, congrArg Host.Outcome.next hl, rfl, length_queueMessage ..⟩
  · rw [getN_result, getN_drawRegistration]
    exact getN_put_same ..
  · rw [registerAt_result]
    rfl
  · rw [getN_result, getN_modChl]
    exact getN_put_same ..

end Sys2Proof.Machine
end

section
/-! Chainline, III: frames, acknowledgements and the neighbour table (O57). -/

namespace Sys2Proof.Machine

section ChainlineFrame
variable {s t u : State} {f : ChlFrame}

/-- The status of a command depends on the spokes there are. -/
theorem commandStatus_congr (h : t.variant = s.variant) : t.commandStatus f = s.commandStatus f := by
  rw [State.commandStatus, State.commandStatus, State.spokeCount, State.spokeCount, h]

/-! ### What hearing a frame leaves (R339, R341) -/

/-- The objects that the hearing and the relaying of a frame write. -/
def heardKeys : List Nat := [k20Erasures, k20LastMargin, k20Tier0, k20Parent, k20FramesSent, k00LastSaturatedCount]

/-- What the checks of R339 read is the same in both states, and so are the commands that wait. -/
structure HeardAs (s t : State) : Prop where
  get : ∀ k, k ∉ heardKeys → t.get k = s.get k
  variant : t.variant = s.variant
  slots : t.vault.slots = s.vault.slots
  root : t.vault.root = s.vault.root
  bootKey : t.vault.bootKey = s.vault.bootKey
  commands : t.chainline.commands = s.chainline.commands
  accepted : t.chainline.accepted = s.chainline.accepted

namespace HeardAs

theorem refl : HeardAs s s := ⟨fun _ _ => rfl, rfl, rfl, rfl, rfl, rfl, rfl⟩

theorem trans (h1 : HeardAs s t) (h2 : HeardAs t u) : HeardAs s u :=
  ⟨fun k hk => (h2.get k hk).trans (h1.get k hk), h2.variant.trans h1.variant, h2.slots.trans h1.slots, h2.root.trans h1.root,
    h2.bootKey.trans h1.bootKey, h2.commands.trans h1.commands, h2.accepted.trans h1.accepted⟩

theorem put {k : Nat} (hk : k ∈ heardKeys) (v : Int) : HeardAs s (s.put k v) :=
  ⟨fun j hj => get_put_other s k j v fun h => hj (h ▸ hk), rfl, rfl, rfl, rfl, rfl, rfl⟩

theorem useKey (k : Nat) : HeardAs s (s.useKey k) := ⟨fun _ _ => rfl, rfl, rfl, rfl, rfl, rfl, rfl⟩

theorem drew : HeardAs s s.drew := ⟨fun _ _ => rfl, rfl, rfl, rfl, rfl, rfl, rfl⟩

theorem send (m : Output) : HeardAs s (s.send m) := ⟨fun _ _ => rfl, rfl, rfl, rfl, rfl, rfl, rfl⟩

theorem modChl {g : Chainline → Chainline} (hcommands : (g s.chainline).commands = s.chainline.commands)
    (haccepted : (g s.chainline).accepted = s.chainline.accepted) : HeardAs s (s.modChl g) :=
  ⟨fun _ _ => rfl, rfl, rfl, rfl, rfl, hcommands, haccepted⟩

/-- Of a state that differs in its objects and notices alone, the objects decide. -/
theorem of_rest (hget : ∀ k, k ∉ heardKeys → t.get k = s.get k) (hrest : { t with obj := s.obj, recorder := s.recorder } = s) :
    HeardAs s t :=
  ⟨hget, (congrArg State.variant hrest :), (congrArg (fun x : State => x.vault.slots) hrest :),
    (congrArg (fun x : State => x.vault.root) hrest :), (congrArg (fun x : State => x.vault.bootKey) hrest :),
    (congrArg (fun x : State => x.chainline.commands) hrest :), (congrArg (fun x : State => x.chainline.accepted) hrest :)⟩

theorem count {k : Nat} (hk : k ∈ heardKeys) : HeardAs s (s.count k) :=
  of_rest (fun j hj => get_count_other s k j (fun h => hj (h ▸ hk)) (fun h => hj (h ▸ by decide))) (count_rest s k)

theorem countBy {k : Nat} (hk : k ∈ heardKeys) (n : Nat) : HeardAs s (s.countBy k n) :=
  of_rest (fun j hj => get_countBy_other s k n j (fun h => hj (h ▸ hk)) (fun h => hj (h ▸ by decide))) (countBy_rest s k n)

theorem showParent : HeardAs s s.showParent := by
  have hput : HeardAs s (s.put k20Parent s.parentOf) := put (by decide) _
  unfold State.showParent
  dsimp only
  split
  · exact hput.trans (modChl rfl rfl)
  · split
    · exact hput
    · exact hput.trans ((modChl rfl rfl).trans drew)

theorem showTier : HeardAs s s.showTier := (put (by decide) _).trans showParent

/-- Valid MC is not moved by a header. -/
theorem heardHeader (hstate : s.mcState = 2) : HeardAs s (s.heardHeader f) := by
  have hfound : s.findBoundary = s := if_neg (by simp [hstate])
  rw [State.heardHeader, hfound]
  exact (put (by decide) _).trans ((modChl rfl rfl).trans showTier)

theorem sendFrame (channel : Nat) : HeardAs s (s.sendFrame f channel) :=
  (send _).trans ((modChl rfl rfl).trans (count (by decide)))

theorem retransmit : HeardAs s (s.retransmit f) := by
  unfold State.retransmit
  split
  · exact sendFrame _
  · exact refl

/-! What the checks read. -/

variable (h : HeardAs s t)
include h

theorem getN {k : Nat} (hk : k ∉ heardKeys) : t.getN k = s.getN k := congrArg Int.toNat (h.get k hk)

theorem mc : t.mc = s.mc := h.getN (by decide)
theorem mcState : t.mcState = s.mcState := h.getN (by decide)

theorem nodeAddr : t.nodeAddr = s.nodeAddr := by
  rw [State.nodeAddr, State.nodeAddr, h.getN (by decide)]

theorem unwrap (b : Blob) : t.unwrap b = s.unwrap b := by
  have hgen : t.wrapGen b.domain = s.wrapGen b.domain := by
    rw [State.wrapGen, State.wrapGen, State.generation, State.generation, h.getN (by simp [heardKeys, key]; omega)]
  have hsecret : t.wrapSecret b.domain = s.wrapSecret b.domain := by
    rw [State.wrapSecret, State.wrapSecret, h.root, h.bootKey]
  rw [State.unwrap, State.unwrap, hgen, hsecret, h.getN (by decide)]

theorem chainlineKey : t.chainlineKey = s.chainlineKey := by
  have hunwrap : t.unwrap = s.unwrap := funext h.unwrap
  rw [State.chainlineKey, State.chainlineKey, State.slotKey, State.slotKey, State.slotBlob, State.slotBlob, h.slots, hunwrap,
    h.getN (by decide), h.nodeAddr]

end HeardAs

/-! ### Frames from the head-end and from nodes -/

theorem outboundFrame_decoded (hon : s.chlOn = true) (hver : f.ver = 1) (htype : f.type = 0) (hlo : 1 ≤ f.len) (hhi : f.len ≤ 8) :
    outboundFrame f s = (s.countBy k20Erasures (s.erasuresOf f)).takeOutbound f :=
  if_neg (by simp [hon, hver, htype, Nat.one_le_iff_ne_zero.1 hlo, hhi])

theorem inboundFrame_decoded (hon : s.chlOn = true) (hver : f.ver = 1) (htype : f.type = 1) (hlo : 1 ≤ f.len) (hhi : f.len ≤ 8) :
    inboundFrame f s = (s.countBy k20Erasures (s.erasuresOf f)).takeInbound f :=
  if_neg (by simp [hon, hver, htype, Nat.one_le_iff_ne_zero.1 hlo, hhi])

/-- The lengths of a frame whose header passes check 1. -/
theorem chlHeadOk_bounds {type : Nat} (h : chlHeadOk f type = true) : f.ver = 1 ∧ f.type = type ∧ 1 ≤ f.len ∧ f.len ≤ 8 := by
  simp only [chlHeadOk, Bool.and_eq_true, decide_eq_true_eq] at h
  obtain ⟨⟨⟨⟨⟨hver, htype⟩, hlo⟩, hhi⟩, -⟩, -⟩ := h
  exact ⟨hver, htype, hlo, hhi⟩

/-- The frame is remembered as seen. -/
def State.remember (s : State) (f : ChlFrame) : State :=
  s.modChl fun c => { c with accepted := ((chlMcref f, f.seq) :: c.accepted).take 64 }

theorem variant_remember (s : State) : (s.remember f).variant = s.variant := rfl
theorem commands_remember (s : State) : (s.remember f).chainline.commands = s.chainline.commands := rfl

theorem mem_accepted_remember (s : State) : (chlMcref f, f.seq) ∈ (s.remember f).chainline.accepted := by
  simp [State.remember, State.modChl]

/-- A fresh frame to this node that passes every check leaves its command among those that wait (R339). -/
theorem takeOutbound_accepts {k : Nat} (hhead : chlHeadOk f 0 = true) (hkey : s.chainlineKey = some k) (hmac : chlMac k f = f.mac)
    (haddr : f.addr = s.nodeAddr) (hstate : s.mcState = 2) (hfresh : (s.mc + ccMod - chlMcref f) % 2 ^ 40 ≤ 4096)
    (hunseen : s.chainline.accepted.contains (chlMcref f, f.seq) = false) (hstatus : s.commandStatus f = stOk) :
    ∃ t u : State, HeardAs s t ∧ HeardAs (t.remember f) u ∧ s.takeOutbound f = (u.count k20FramesAccepted).modChl fun c =>
      { c with commands := c.commands ++ [(chlCmd f, { single := decide (f.addr ≠ allNodes), unit := f.unit, seq := f.seq, slot := f.slot },
        f.payload, u.mc)] } := by
  have ht : HeardAs s ((s.heardHeader f).useKey k) := (HeardAs.heardHeader hstate).trans (HeardAs.useKey k)
  have hu : HeardAs (((s.heardHeader f).useKey k).remember f) ((((s.heardHeader f).useKey k).remember f).retransmit f) :=
    HeardAs.retransmit
  refine ⟨_, _, ht, hu, ?_⟩
  have hkey' : (s.heardHeader f).chainlineKey = some k := (HeardAs.heardHeader hstate).chainlineKey.trans hkey
  have hstatus' : ((((s.heardHeader f).useKey k).remember f).retransmit f).commandStatus f = stOk :=
    (commandStatus_congr (hu.variant.trans ((variant_remember _).trans ht.variant))).trans hstatus
  unfold State.takeOutbound
  rw [if_neg (by simp [hhead])]
  dsimp only
  rw [hkey']
  dsimp only
  rw [if_neg (not_not_intro hmac), ht.mcState, ht.mc, ht.nodeAddr, ht.accepted, if_neg (by simpa using fun _ => hfresh), if_neg (by rw [hunseen]; decide),
    if_neg (by simp [haddr])]
  exact if_neg (not_not_intro hstatus')

theorem outboundFrame_accepted {k : Nat} (hon : s.chlOn = true) (hhead : chlHeadOk f 0 = true) (hkey : s.chainlineKey = some k)
    (hmac : chlMac k f = f.mac) (haddr : f.addr = s.nodeAddr) (hstate : s.mcState = 2)
    (hfresh : (s.mc + ccMod - chlMcref f) % 2 ^ 40 ≤ 4096)
    (hunseen : s.chainline.accepted.contains (chlMcref f, f.seq) = false) (hstatus : s.commandStatus f = stOk)
    (hnode : s.nodeAddr ≠ allNodes) : (outboundFrame f s).chainline.commands = s.chainline.commands ++
        [(chlCmd f, { single := true, unit := f.unit, seq := f.seq, slot := f.slot }, f.payload, s.mc)] ∧
      (chlMcref f, f.seq) ∈ (outboundFrame f s).chainline.accepted ∧
      (outboundFrame f s).get k20FramesAccepted = oneMore s k20FramesAccepted := by
  obtain ⟨hver, htype, hlo, hhi⟩ := chlHeadOk_bounds hhead
  have h0 : HeardAs s (s.countBy k20Erasures (s.erasuresOf f)) := HeardAs.countBy (by decide) _
  obtain ⟨t, u, ht, hu, htake⟩ := takeOutbound_accepts hhead (h0.chainlineKey.trans hkey) hmac (haddr.trans h0.nodeAddr.symm)
    (h0.mcState.trans hstate) (h0.mc ▸ hfresh) (h0.accepted ▸ hunseen) ((commandStatus_congr h0.variant).trans hstatus)
  have hst : HeardAs s t := h0.trans ht
  have hcount : (u.count k20FramesAccepted).chainline = u.chainline := (congrArg State.chainline (count_rest u k20FramesAccepted) :)
  have hmc : u.mc = s.mc := hu.mc.trans hst.mc
  rw [outboundFrame_decoded hon hver htype hlo hhi, htake, get_modChl, get_count _ _ (by decide)]
  refine ⟨?_, ?_, ?_⟩
  · have hsingle : decide (f.addr ≠ allNodes) = true := decide_eq_true (haddr ▸ hnode)
    simp only [State.modChl, hcount, hmc, hsingle]
    rw [hu.commands]
    exact congrArg (· ++ _) ((commands_remember t).trans hst.commands)
  · simp only [State.modChl, hcount]
    rw [hu.accepted]
    exact mem_accepted_remember t
  · have hget : u.get k20FramesAccepted = s.get k20FramesAccepted := (hu.get _ (by decide)).trans (hst.get _ (by decide))
    rw [oneMore, oneMore, hget]

/-! ### Sending and acknowledgement (R344) -/

variable {m : InMsg} {rest : List InMsg}

/-- In a queue that holds a message once, at its front, a change of that message changes no other. -/
theorem map_front_alone (hm : m ∉ rest) (g : InMsg → InMsg) :
    ((m :: rest).map fun x => if x = m then g x else x) = g m :: rest := by
  have hrest : (rest.map fun x => if x = m then g x else x) = rest :=
    (List.map_congr_left fun x hx => if_neg fun h : x = m => hm (h ▸ hx)).trans (List.map_id' rest)
  rw [List.map_cons, if_pos rfl, hrest]

theorem filter_front_alone (hm : m ∉ rest) : (m :: rest).filter (· ≠ m) = rest := by
  simp only [ne_eq, List.filter_cons_of_neg, decide_not, decide_true, Bool.not_true, Bool.false_eq_true, not_false_eq_true]
  exact List.filter_eq_self.2 fun x hx => by simpa using fun h : x = m => hm (h ▸ hx)

/-- The frame that leaves keeps its number and names the parent. -/
theorem frameOut_own (hown : m.own = true) : (s.frameOut m).seq = m.frame.seq ∧ (s.frameOut m).relay = s.parentOf := by
  rw [State.frameOut, if_pos hown]
  constructor
  · dsimp only
    split <;> rfl
  · rfl

/-- A frame on its way. -/
def State.onAir (s : State) (f : ChlFrame) : ChlSending :=
  { channel := s.uplinkChannel, phase := s.getN k20TransmitPhase
    boundary := ((s.chainline.phy.phases.getD 0 {}).crossings.head?.map Prod.fst).getD 0
    positions := framePositions { f with margin := 0, erased := 0, crc := chlCrc f } }

theorem sendFrame_chainline (channel : Nat) (hchannel : channel = s.uplinkChannel) : (s.sendFrame f channel).chainline =
    { s.chainline with sending := s.chainline.sending ++ [s.onAir f] } := by
  subst hchannel
  exact (congrArg State.chainline (count_rest _ k20FramesSent) :)

/-- The first message whose back-off has run out is sent at a frame boundary (R344). -/
theorem inboundSend_chainline (hqueue : s.chainline.queue = m :: rest) (hbackoff : m.backoff = 0) (hidle : m.sentAt = none)
    (hown : m.own = true) (hm : m ∉ rest) (hstart : s.mayStart = true) : (inboundSend s).chainline =
      { s.chainline with
        sending := s.chainline.sending ++ [s.onAir (s.frameOut m)]
        sendEnd := some ((s.mc + frameMcs (s.frameOut m).len) % ccMod)
        queue := { m with frame := s.frameOut m, sendings := m.sendings + 1, sentAt := some s.cc } :: rest } := by
  obtain ⟨k, hk⟩ : ∃ k, s.chainlineKey = some k := by
    simp only [State.mayStart, Bool.and_eq_true] at hstart
    exact Option.isSome_iff_exists.1 hstart.1.2
  have hfind : (s.chainline.queue.find? fun m => m.backoff = 0 && m.sentAt.isNone) = some m := by
    rw [hqueue, List.find?_cons_of_pos]
    simp [hbackoff, hidle]
  have hmap := map_front_alone hm fun _ => ({ m with frame := s.frameOut m, sendings := m.sendings + 1, sentAt := some s.cc } : InMsg)
  have hsent : ((s.useKey k).sendFrame (s.frameOut m) (s.useKey k).uplinkChannel).chainline =
      { s.chainline with sending := s.chainline.sending ++ [s.onAir (s.frameOut m)] } := sendFrame_chainline _ rfl
  have hcc : (s.useKey k).cc = s.cc := rfl
  simp only [hown] at hmap
  unfold inboundSend
  rw [hfind]
  dsimp only
  rw [if_neg (by simp [hstart]), if_pos hown, hk]
  simp only [State.modChl, State.forTag, hsent, hown, if_true, hqueue, hcc, hmap]
  rfl

section Timeout
variable {seq t0 : Nat} (hqueue : s.chainline.queue = m :: rest) (hown : m.own = true) (hseq : m.frame.seq = seq)
  (hsent : m.sentAt = some t0) (hdue : s.reached ((t0 + secTicks (s.getN k20AckTimeout)) % ccMod) = true)
include hqueue hown hseq hsent hdue

theorem ackTimeout_front : ackTimeout seq s = if 4 ≤ m.sendings then
    (s.modChl fun c => { c with queue := c.queue.filter (· ≠ m) }).noticeOpen byChainline 0x0B41
    else (s.modChl fun c => { c with queue := c.queue.map fun x =>
      if x = m then { x with cw := min 64 (2 * m.cw), backoff := s.drawnIn 0 (min 64 (2 * m.cw) - 1), sentAt := none } else x }).drew := by
  have hfind : (s.chainline.queue.find? fun m => m.own && m.frame.seq = seq) = some m := by
    rw [hqueue, List.find?_cons_of_pos]
    simp [hown, hseq]
  unfold ackTimeout
  rw [hfind]
  dsimp only
  rw [hsent]
  dsimp only
  rw [if_neg (by simp [hdue])]

theorem ackTimeout_drops (hm : m ∉ rest) (hfour : 4 ≤ m.sendings) : (ackTimeout seq s).chainline.queue = rest := by
  rw [ackTimeout_front hqueue hown hseq hsent hdue, if_pos hfour, noticeOpen_chainline]
  exact (congrArg (List.filter (· ≠ m)) hqueue).trans (filter_front_alone hm)

theorem ackTimeout_backsOff (hm : m ∉ rest) (hfour : m.sendings < 4) : (ackTimeout seq s).chainline.queue =
    { m with cw := min 64 (2 * m.cw), backoff := s.drawnIn 0 (min 64 (2 * m.cw) - 1), sentAt := none } :: rest := by
  rw [ackTimeout_front hqueue hown hseq hsent hdue, if_neg (by omega)]
  exact (congrArg (List.map _) hqueue).trans (map_front_alone hm
    fun x => { x with cw := min 64 (2 * m.cw), backoff := s.drawnIn 0 (min 64 (2 * m.cw) - 1), sentAt := none })

end Timeout

/-- A draw below a window. -/
theorem drawnIn_lt_window (cw : Nat) : s.drawnIn 0 (cw - 1) < cw + if cw = 0 then 1 else 0 := by
  have hlt : s.drawn % (cw - 1 - 0 + 1) < cw - 1 - 0 + 1 := Nat.mod_lt _ (Nat.succ_pos _)
  simp only [State.drawnIn]
  split <;> omega

/-! ### The neighbour table (R341) -/

theorem neighbours_showParent : s.showParent.chainline.neighbours = s.chainline.neighbours := by
  unfold State.showParent
  dsimp only
  split
  · rfl
  · split <;> rfl

theorem puts_chainline (s : State) (l : List (Nat × Int)) : (s.puts l).chainline = s.chainline :=
  each_view State.chainline s l _ fun _ _ _ => rfl

/-- The members of a neighbour entry. -/
def neighbourMembers (i : Nat) : List (Nat × Int) := (List.range 5).map fun m => (key 0x20 (neighbourInst i) m, 0)

theorem neighbourExpiry_drops {addr i : Nat} (hfind : ((List.range 64).find? fun i => (s.chainline.neighbours.getD i {}).used &&
      decide (s.getN (k20Address (neighbourInst i)) = addr)) = some i) (hhz : s.nominalHz = 50)
    (hweek : 30240000 ≤ (s.mc + ccMod - s.getN (k20LastHeard (neighbourInst i))) % ccMod) : neighbourExpiry addr s =
      ((s.puts (neighbourMembers i)).modChl fun c => { c with neighbours := c.neighbours.set i {} }).showParent := by
  unfold neighbourExpiry
  dsimp only
  rw [hfind, hhz]
  exact if_pos hweek

theorem getN_neighbourAddress_dropped {i : Nat} (hi : i < 64) (t : State) (ht : ∀ k, t.get k = (s.puts (neighbourMembers i)).get k) :
    t.showParent.getN (k20Address (neighbourInst i)) = 0 := by
  have hfar : k20Address (neighbourInst i) ∉ heardKeys := by
    simp [heardKeys, key, neighbourInst]
    omega
  rw [HeardAs.showParent.getN hfar, State.getN, ht]
  exact congrArg Int.toNat ((objects_puts s (neighbourMembers i) (by simp [neighbourMembers, List.range_succ, key])).1
    (k20Address (neighbourInst i), 0) (by simp [neighbourMembers, List.range_succ]))

end ChainlineFrame

/-- Settles O57: the checks of a frame in their order, the queue by its front, and the table by the entry of the address. -/
theorem chainlineFrameRows : Obligations.ChainlineFrameRows := by
  unfold Obligations.ChainlineFrameRows
  refine ⟨fun s f hon hver htype hlo hhi hhead => ?_,
    fun s f k hon hhead hkey hmac haddr hstate hfresh hunseen hstatus hnode =>
      ⟨_, rfl, outboundFrame_accepted hon hhead hkey hmac haddr hstate hfresh hunseen hstatus hnode⟩,
    fun s f hon hhead => ?_, fun s f hon hver htype hlo hhi hhead => ?_,
    fun s m rest hqueue hbackoff hidle hown hm hstart => ⟨_, _, rfl, (frameOut_own (s := s) hown).1, (frameOut_own hown).2, ?_⟩,
    fun s seq m t0 rest hqueue hown hseq hsent hm hdue hfour =>
      ⟨_, rfl, ackTimeout_drops hqueue hown hseq hsent hdue hm hfour⟩,
    fun s seq m t0 rest hqueue hown hseq hsent hm hdue hfour =>
      ⟨_, _, rfl, ?_, ackTimeout_backsOff hqueue hown hseq hsent hdue hm hfour⟩,
    fun s addr i hfind hhz hweek hi => ⟨_, congrArg Host.Outcome.next (neighbourExpiry_drops hfind hhz hweek), ?_, ?_⟩⟩
  · refine congrArg Host.Outcome.next ((outboundFrame_decoded hon hver htype hlo hhi).trans ?_)
    exact if_pos (by simp [hhead])
  · obtain ⟨hver, htype, hlo, hhi⟩ := chlHeadOk_bounds hhead
    refine congrArg Host.Outcome.next ((inboundFrame_decoded hon hver htype hlo hhi).trans ?_)
    exact if_neg (by simp [hhead])
  · refine congrArg Host.Outcome.next ((inboundFrame_decoded hon hver htype hlo hhi).trans ?_)
    exact if_pos (by simp [hhead])
  · rw [inboundSend_chainline hqueue hbackoff hidle hown hm hstart]
    exact ⟨rfl, rfl, _, rfl, rfl, rfl⟩
  · have hlt := drawnIn_lt_window (s := s) (min 64 (2 * m.cw))
    split at hlt <;> split <;> omega
  · have hchl : (s.puts (neighbourMembers i)).chainline = s.chainline := puts_chainline s _
    rw [neighbours_showParent]
    simp [State.modChl, hchl, hi]
  · exact getN_neighbourAddress_dropped (List.mem_range.1 (List.mem_of_find?_eq_some hfind)) (s := s) _ fun k => get_modChl ..

end Sys2Proof.Machine
end

section
/-! Canonical stores, I: the rules of the shared operations, the plan, Pannier, the recorder, channels and metering (O4). -/

namespace Sys2Proof.Machine
set_option Elab.async false

/-- The stores of a state are in their canonical form. A rule below says of an operation that it keeps this form; the proof of a
rule has the shape of the operation it speaks of. -/
structure Canonical (s : State) : Prop where
  wf : Memory.wf s

/-! ### What a reset and a write of a page of the tag leave -/

theorem resetObj_wf (v : Variant) : storeWf (defaultOf v) resetObj := by
  cases v <;> decide +kernel

theorem tagSet_wf {t : Tag} {p : Nat} {data : List Byte} (h : storeWf (fun _ => (0 : Byte)) t.mem) :
    storeWf (fun _ => (0 : Byte)) (tagSet t p data).mem := by
  unfold tagSet
  dsimp only
  generalize List.range 4 = l, t.mem = m at h ⊢
  induction l generalizing m with
  | nil => exact h
  | cons i l ih => exact ih _ (storeWrite_wf (fun _ => 0) m _ _ h)

theorem tornPage_wf {t : Tag} {p v : Nat} {holds : Tag → Bool} (h : storeWf (fun _ => (0 : Byte)) t.mem) :
    storeWf (fun _ => (0 : Byte)) (tornPage t p v holds).mem := by
  unfold tornPage
  dsimp only
  split <;> exact tagSet_wf h

theorem cutOwn_wf {t : Tag} {v : Nat} (h : storeWf (fun _ => (0 : Byte)) t.mem) : storeWf (fun _ => (0 : Byte)) (t.cutOwn v).mem := by
  unfold Tag.cutOwn
  split
  · exact tagSet_wf h
  · exact h

section Rules
variable {s t u : State}

/-! ### The writes of the stores, and what leaves them alone -/

theorem Canonical.put (h : Canonical s) {k : Nat} {v : Int} : Canonical (s.put k v) := ⟨put_wf s k v h.wf⟩
theorem Canonical.puts (h : Canonical s) {l : List (Nat × Int)} : Canonical (s.puts l) := ⟨puts_wf s l h.wf⟩
theorem Canonical.setWord (h : Canonical s) {a w : Nat} : Canonical (s.setWord a w) := ⟨setWord_wf s a w h.wf⟩

theorem Canonical.tag (h : Canonical s) : storeWf (fun _ => (0 : Byte)) s.tag.mem := h.wf.2.2

theorem Canonical.modTag (h : Canonical s) {f : Tag → Tag}
    (hf : storeWf (fun _ => (0 : Byte)) s.tag.mem → storeWf (fun _ => (0 : Byte)) (f s.tag).mem := by exact fun h => h) :
    Canonical (s.modTag f) :=
  ⟨h.wf.1, h.wf.2.1, hf h.tag⟩

/-- An update of the other parts of the state. -/
theorem Canonical.update (h : Canonical s) {pending out draw linkA linkB ports plan pannier dma kod chans groups spokes pulses beacon pf
    billing sessions sessionSeq lowPurses tokenFails tokenLock slac peloton switches functions lease peers tandemAt chainline frontEnds
    aerials emulation keypad tag vault sealFilter recorder display flash modes bist : _}
    (hp : pannier.mem = s.pannier.mem := by rfl) (hg : tag.mem = s.tag.mem := by rfl) :
    Canonical ⟨s.variant, s.obj, pending, out, draw, linkA, linkB, ports, plan, pannier, dma, kod, chans, groups, spokes, pulses, beacon,
      pf, billing, sessions, sessionSeq, lowPurses, tokenFails, tokenLock, slac, peloton, switches, functions, lease, peers, tandemAt,
      chainline, frontEnds, aerials, emulation, keypad, tag, vault, sealFilter, recorder, display, flash, modes, bist⟩ := by
  obtain ⟨hobj, hmem, htag⟩ := h.wf
  exact ⟨hobj, hp ▸ hmem, hg ▸ htag⟩

/-! ### Branches and repetition -/

theorem Canonical.ite {c : Prop} [Decidable c] (hs : Canonical s) (ht : Canonical t) : Canonical (if c then s else t) := by
  split
  · exact hs
  · exact ht

theorem Canonical.pair {α : Type} {x : α} (h : Canonical s) : Canonical (s, x).1 := h

theorem Canonical.iteFst {α : Type} {x y : State × α} {c : Prop} [Decidable c] (hx : Canonical x.1) (hy : Canonical y.1) :
    Canonical (if c then x else y).1 := by
  split
  · exact hx
  · exact hy

theorem Canonical.iteSnd {α : Type} {x y : α × State} {c : Prop} [Decidable c] (hx : Canonical x.2) (hy : Canonical y.2) :
    Canonical (if c then x else y).2 := by
  split
  · exact hx
  · exact hy

theorem Canonical.iteThird {α β : Type} {x y : α × β × State} {c : Prop} [Decidable c] (hx : Canonical x.2.2) (hy : Canonical y.2.2) :
    Canonical (if c then x else y).2.2 := by
  split
  · exact hx
  · exact hy

theorem Canonical.foldl {α : Type} {l : List α} {f : State → α → State} (h : Canonical s)
    (hf : ∀ {t x}, Canonical t → Canonical (f t x)) : Canonical (l.foldl f s) := by
  induction l generalizing s with
  | nil => exact h
  | cons x l ih => exact ih (hf h)

theorem Canonical.each {α : Type} {l : List α} {f : State → α → State} (h : Canonical s)
    (hf : ∀ {t x}, Canonical t → Canonical (f t x)) : Canonical (s.each l f) := h.foldl hf

theorem Canonical.foldlFst {α β : Type} {l : List β} {p : State × α} {f : State × α → β → State × α} (h : Canonical p.1)
    (hf : ∀ {p x}, Canonical p.1 → Canonical (f p x).1) : Canonical (l.foldl f p).1 := by
  induction l generalizing p with
  | nil => exact h
  | cons x l ih => exact ih (hf h)

/-! ### Counts, notices and the lists of the state -/

theorem Canonical.clear (h : Canonical s) {k : Nat} : Canonical (s.clear k) := h.put

theorem Canonical.atStep (h : Canonical s) {k : Nat} {f : State → State} (hf : ∀ {t}, Canonical t → Canonical (f t)) :
    Canonical (s.atStep k f) :=
  .ite h (.update (hf h))

theorem Canonical.notice (h : Canonical s) {inst code value : Nat} : Canonical (s.notice inst code value) := h.update
theorem Canonical.saturated (h : Canonical s) {k : Nat} : Canonical (s.saturated k) := h.put.notice
theorem Canonical.count (h : Canonical s) {k : Nat} : Canonical (s.count k) := .ite h (.ite h.put.saturated h.put)
theorem Canonical.countBy (h : Canonical s) {k n : Nat} : Canonical (s.countBy k n) := .ite h (.ite h.put.saturated h.put)
theorem Canonical.bump (h : Canonical s) {k n : Nat} : Canonical (s.bump k n) := h.put
theorem Canonical.ratchet (h : Canonical s) {k n : Nat} : Canonical (s.ratchet k n) := .ite h.put h
theorem Canonical.modSpoke (h : Canonical s) {i : Nat} {f : Spoke → Spoke} : Canonical (s.modSpoke i f) := h.update
theorem Canonical.modPedal (h : Canonical s) {i : Nat} {f : Pedal → Pedal} : Canonical (s.modPedal i f) := h.modSpoke
theorem Canonical.modPilot (h : Canonical s) {i : Nat} {f : Pilot → Pilot} : Canonical (s.modPilot i f) := h.modSpoke
theorem Canonical.modGate (h : Canonical s) {i : Nat} {f : Gate → Gate} : Canonical (s.modGate i f) := h.modSpoke
theorem Canonical.modVLink (h : Canonical s) {i : Nat} {f : VLink → VLink} : Canonical (s.modVLink i f) := h.modSpoke
theorem Canonical.modMeter (h : Canonical s) {i : Nat} {f : Meter → Meter} : Canonical (s.modMeter i f) := h.modSpoke
theorem Canonical.modResidual (h : Canonical s) {i : Nat} {f : Residual → Residual} : Canonical (s.modResidual i f) := h.modSpoke
theorem Canonical.modLock (h : Canonical s) {i : Nat} {f : Lock → Lock} : Canonical (s.modLock i f) := h.modSpoke
theorem Canonical.modSwitch (h : Canonical s) {n : Nat} {f : Switch → Switch} : Canonical (s.modSwitch n f) := h.update
theorem Canonical.modChan (h : Canonical s) {n : Nat} {f : Chan → Chan} : Canonical (s.modChan n f) := h.update
theorem Canonical.modGroup (h : Canonical s) {g : Nat} {f : Group → Group} : Canonical (s.modGroup g f) := h.update
theorem Canonical.modPelo (h : Canonical s) {sp : Nat} {f : PeloSpoke → PeloSpoke} : Canonical (s.modPelo sp f) := h.update

theorem Canonical.modDie (h : Canonical s) {d : Die} {f : SpokeLink → SpokeLink} : Canonical (s.modDie d f) := by
  unfold State.modDie
  split <;> exact h.update

theorem Canonical.when (h : Canonical s) {c : Bool} {f : State → State} (hf : ∀ {t}, Canonical t → Canonical (f t)) :
    Canonical (s.when c f) :=
  .ite (hf h) h

theorem Canonical.drew (h : Canonical s) : Canonical s.drew := h.update
theorem Canonical.noticeOpen (h : Canonical s) {inst code : Nat} : Canonical (s.noticeOpen inst code) := h.notice.drew
theorem Canonical.journal (h : Canonical s) {trigger : Nat} : Canonical (s.journal trigger) := h.update
theorem Canonical.flashOp (h : Canonical s) {o : FlashOp} : Canonical (s.flashOp o) := .ite h h.update
theorem Canonical.send (h : Canonical s) {o : Output} : Canonical (s.send o) := h.update
theorem Canonical.useKey (h : Canonical s) {k : Nat} : Canonical (s.useKey k) := h.update

theorem Canonical.forTag (h : Canonical s) {a0 : Option Nat} : Canonical (s.forTag a0) := by
  unfold State.forTag
  split
  · exact h.useKey
  · exact h

theorem Canonical.captureKey (h : Canonical s) {k : Nat} : Canonical (s.captureKey k) := h.update
theorem Canonical.cryptoTick (h : Canonical s) : Canonical s.cryptoTick := h.update
theorem Canonical.raise (h : Canonical s) {sp flag : Nat} : Canonical (s.raise sp flag) := h.modPedal

/-! ### Sessions and the write of one object -/

theorem Canonical.modSession (h : Canonical s) {sid : Nat} {f : KodSession → KodSession} : Canonical (s.modSession sid f) :=
  h.update

theorem Canonical.logSetting (h : Canonical s) {k : Nat} {v : Int} : Canonical (s.logSetting k v) := h.update
theorem Canonical.answer (h : Canonical s) {sid k st : Nat} : Canonical (s.answer sid k st) := h.send

theorem Canonical.effect (h : Canonical s) {sid : Nat} {eff : State → State} (heff : ∀ {t}, Canonical t → Canonical (eff t)) :
    Canonical (s.effect sid eff) := (heff h).update

theorem Canonical.writeOne (h : Canonical s) {sid k : Nat} {v : Int} {eff : State → State}
    (heff : ∀ {t}, Canonical t → Canonical (eff t)) :
    Canonical (s.writeOne sid k v eff) :=
  .ite (.answer (h.effect heff)) (.ite (.answer (.logSetting (h.effect heff))) h.noticeOpen.answer)

theorem Canonical.queueRow (h : Canonical s) {sid : Nat} {it : WItem} : Canonical (s.queueRow sid it) := h.update
theorem Canonical.internalNotice (h : Canonical s) {st : Nat} : Canonical (s.internalNotice st) := .ite h.notice h
theorem Canonical.atStep5 (h : Canonical s) : Canonical s.atStep5 := h.update

theorem Canonical.inTurn (h : Canonical s) {sid : Nat} {it : WItem} {f : State → State}
    (hf : ∀ {t}, Canonical t → Canonical (f t)) :
    Canonical (s.inTurn sid it f) :=
  .ite (.atStep5 (hf h)) h.queueRow

theorem Canonical.rowEffect (h : Canonical s) {sid k : Nat} {v : Int} {chk : State → Nat} {eff : State → State}
    (heff : ∀ {t}, Canonical t → Canonical (eff t)) :
    Canonical (s.rowEffect sid k v chk eff) :=
  .ite h.answer (.ite h.internalNotice.answer (h.writeOne heff))

theorem Canonical.writeRow (h : Canonical s) {sid k : Nat} {v : Int} {chk : State → Nat} {eff : State → State}
    (heff : ∀ {t}, Canonical t → Canonical (eff t)) :
    Canonical (s.writeRow sid k v chk eff) :=
  h.inTurn fun ht => ht.rowEffect heff

/-! ### Flags and safety causes -/

theorem Canonical.trigger (h : Canonical s) {source : Nat} : Canonical (s.trigger source) := .ite h h.update

theorem Canonical.setCauses (h : Canonical s) {sp w : Nat} : Canonical (s.setCauses sp w) :=
  .ite h.put.put (.ite h.put.put.raise.trigger h.put.put.raise)

theorem Canonical.setCause (h : Canonical s) {sp b : Nat} {on : Bool} : Canonical (s.setCause sp b on) := h.setCauses

theorem Canonical.deviceFault (h : Canonical s) {cause : Nat} : Canonical (s.deviceFault cause) :=
  h.put.notice.each fun ht => ht.setCause

theorem Canonical.setGate (h : Canonical s) {sp v : Nat} : Canonical (s.setGate sp v) := .ite h h.put.raise
theorem Canonical.setLockState (h : Canonical s) {sp v : Nat} : Canonical (s.setLockState sp v) := .ite h h.put.raise
theorem Canonical.setLinkState (h : Canonical s) {sp v : Nat} : Canonical (s.setLinkState sp v) := .ite h h.put.raise
theorem Canonical.setVehicleMax (h : Canonical s) {sp v : Nat} : Canonical (s.setVehicleMax sp v) := .ite h h.put.raise
theorem Canonical.startExit (h : Canonical s) : Canonical s.startExit := .ite h h.update
theorem Canonical.wakeBy (h : Canonical s) {src : WakeSource} : Canonical (s.wakeBy src) := .ite (.startExit (.ite h h.count)) h

/-! ### The plan -/

theorem Canonical.reportPlan (h : Canonical s) {r : Option PlanRefusal} : Canonical (s.reportPlan r) := by
  unfold State.reportPlan
  split <;> exact h.puts

theorem Canonical.awaitPlan (h : Canonical s) {p : List Nat} {capture tick : Nat} {budgets : List Nat} :
    Canonical (s.awaitPlan p capture tick budgets) :=
  h.put.update

theorem Canonical.setCapture (h : Canonical s) {len : Nat} : Canonical (s.setCapture len) := h.puts.update

theorem Canonical.runPlan (h : Canonical s) {p budgets : List Nat} : Canonical (s.runPlan p budgets) :=
  .update (.each (h.puts.each fun ht => ht.put) fun ht => ht.put)

theorem Canonical.switchPlan (h : Canonical s) : Canonical s.switchPlan := by
  unfold State.switchPlan
  split
  · exact .ite (.ite h.runPlan.setCapture h.runPlan) h
  · exact h

theorem Canonical.planSwitch (h : Canonical s) : Canonical (planSwitch s) := h.atStep fun ht => ht.switchPlan

theorem Canonical.overrun (h : Canonical s) {e : Nat} {unreached : List Nat} : Canonical (overrun e unreached s) := by
  unfold Machine.overrun
  extract_lets t1 t2 t3 t4
  have h1 : Canonical t1 := h.count
  have h2 : Canonical t2 := .ite h1.put h1
  have h3 : Canonical t3 := h2.notice
  have h4 : Canonical t4 := .ite h3.deviceFault (.ite h3.deviceFault h3)
  refine .ite h ?_
  split
  · exact h4.each fun ht => ht.modChan
  · exact h4.each fun ht => .ite ht.modChan ht.modMeter
  · exact h4.each fun ht => ht.modPedal
  · exact h4.update
  · exact h4

/-! ### Pannier and the capture ring -/

theorem Canonical.lastError (h : Canonical s) {port a : Nat} : Canonical (s.lastError port a) := h.put

theorem Canonical.corrected (h : Canonical s) {port a : Nat} : Canonical (s.corrected port a) :=
  .ite h.count.count.notice.lastError.update h.count.count.notice.lastError

theorem Canonical.setWord0 (h : Canonical s) {a w : Nat} : Canonical (s.setWord0 a w) := .ite h.setWord.setWord h.setWord

theorem Canonical.uncorrectable0 (h : Canonical s) {a : Nat} {both : Bool} : Canonical (s.uncorrectable0 a both) := by
  unfold State.uncorrectable0
  extract_lets t1
  have h1 : Canonical t1 := h.count.lastError
  split
  · exact .ite h1.deviceFault h1.setWord0.notice
  · exact h1.modChan
  · exact h1

theorem Canonical.error0 (h : Canonical s) {e : ReadError} : Canonical (s.error0 e) := by
  unfold State.error0
  split
  · exact h.corrected
  · exact h.uncorrectable0
  · exact h.uncorrectable0

theorem Canonical.poisonedRead (h : Canonical s) {port a : Nat} : Canonical (s.poisonedRead port a) :=
  .ite h.count.lastError.notice h.count.lastError.notice.update

theorem Canonical.scrubbed (h : Canonical s) : Canonical s.scrubbed := h.update

theorem Canonical.captureSlot (h : Canonical s) {at_ : Nat} : Canonical (s.captureSlot at_) :=
  .ite h (.update (h.each fun ht => ht.setWord0))

theorem Canonical.captureTrigger (h : Canonical s) {source at_ : Nat} : Canonical (s.captureTrigger source at_) :=
  .ite h (.ite h.count h.puts.update)

theorem Canonical.runTriggers (h : Canonical s) : Canonical s.runTriggers := .each h.update fun ht => ht.captureTrigger
theorem Canonical.publishInputs (h : Canonical s) {sp : Nat} : Canonical (s.publishInputs t sp) := .ite h h.modPedal

theorem Canonical.inFrame (h : Canonical s) {sp : Nat} {f : State → State} (hf : ∀ {t}, Canonical t → Canonical (f t)) :
    Canonical (s.inFrame sp f) :=
  .publishInputs (.each (.update (hf h.update)) fun ht => ht.captureTrigger)

theorem Canonical.applyManualTrigger (h : Canonical s) {v : Int} : Canonical (applyManualTrigger v s) := .ite h.captureTrigger h
theorem Canonical.applyRelease (h : Canonical s) {v : Int} : Canonical (applyRelease v s) := .ite h.put h
theorem Canonical.postTriggerEnd (h : Canonical s) : Canonical (postTriggerEnd s) := .ite h.put h

theorem Canonical.pannierSlice (h : Canonical s) {cycles : Nat} : Canonical (s.pannierSlice cycles) := by
  unfold State.pannierSlice
  dsimp only
  split
  · exact h.scrubbed.update
  · exact h.scrubbed.update
  · exact h.scrubbed

theorem Canonical.dwellEnd (h : Canonical s) : Canonical (dwellEnd s) := .ite h.put.update h

theorem Canonical.mapSwitch (h : Canonical s) : Canonical (mapSwitch s) := by
  unfold Machine.mapSwitch
  dsimp only
  split
  · exact .ite h.puts.update h
  · exact h

/-! ### The recorder -/

theorem Canonical.stepSequence (h : Canonical s) {k : Nat} : Canonical (s.stepSequence k) := h.put

theorem Canonical.addBin (h : Canonical s) {hist m : Nat} : Canonical (s.addBin hist m) :=
  .ite h.count.stepSequence.put h.count.stepSequence

theorem Canonical.binSample (h : Canonical s) {hist m : Nat} : Canonical (s.binSample hist m) := .ite h.update h.addBin

theorem Canonical.histogram (h : Canonical s) {hist : Nat} {v lo width : Rat} : Canonical (s.histogram hist v lo width) :=
  h.binSample

theorem Canonical.extreme (h : Canonical s) {x : Nat} {v : Int} : Canonical (s.extreme x v) := by
  unfold State.extreme
  extract_lets _ _ _ _ _ _ _ _ t1 t2
  have h1 : Canonical t1 := h.when fun ht => ht.puts
  have h2 : Canonical t2 := h1.when fun ht => ht.puts
  exact .ite h2.put.stepSequence h2

theorem Canonical.newRecord (h : Canonical s) {n : Notice} : Canonical (s.newRecord n) := .stepSequence h.puts.update

theorem Canonical.enterNotice (h : Canonical s) {n : Notice} : Canonical (s.enterNotice n) :=
  .ite h.newRecord (.ite h (.ite h.put.stepSequence.put.newRecord h.put.stepSequence))

theorem Canonical.emptyRing (h : Canonical s) : Canonical s.emptyRing := .stepSequence h.puts.update

theorem Canonical.clearRings (h : Canonical s) : Canonical s.clearRings :=
  .ite h (.each (.emptyRing h.update) fun ht => ht.enterNotice)

theorem Canonical.flushNotices (h : Canonical s) : Canonical s.flushNotices := .each (.clearRings h.update) fun ht => ht.enterNotice
theorem Canonical.startSave (h : Canonical s) {slot : Nat} : Canonical (s.startSave slot) := h.update
theorem Canonical.recorderSave (h : Canonical s) : Canonical s.recorderSave := .ite h.update h.startSave
theorem Canonical.saveTick (h : Canonical s) : Canonical s.saveTick := .ite h (.ite h.drew.update (.ite h.startSave h))
theorem Canonical.applySaveNow (h : Canonical s) {v : Int} : Canonical (applySaveNow v s) := .ite h.recorderSave h
theorem Canonical.endFreeze (h : Canonical s) : Canonical s.endFreeze := .each (.each h.update fun ht => ht.addBin) fun ht => ht.put

theorem Canonical.applyFreeze (h : Canonical s) {v : Int} : Canonical (applyFreeze v s) :=
  .ite (.ite h.endFreeze h) (.each h.update fun ht => ht.put)

theorem Canonical.freezeEnd (h : Canonical s) : Canonical (freezeEnd s) := .ite h.endFreeze h

theorem Canonical.clearHist (h : Canonical s) {sid hist : Nat} : Canonical (s.clearHist sid hist) :=
  .recorderSave (.notice (.stepSequence (.put (h.each fun ht => ht.put))))

theorem Canonical.clearPair (h : Canonical s) {sid x : Nat} : Canonical (s.clearPair sid x) :=
  h.puts.stepSequence.notice.recorderSave

theorem Canonical.applyClearHist (h : Canonical s) {sid hist : Nat} {v : Int} : Canonical (applyClearHist sid hist v s) :=
  .ite h.clearHist h

theorem Canonical.applyClearPair (h : Canonical s) {sid x : Nat} {v : Int} : Canonical (applyClearPair sid x v s) :=
  .ite h.clearPair h

theorem Canonical.applyClearRing (h : Canonical s) {sid : Nat} {v : Int} : Canonical (applyClearRing sid v s) :=
  .ite (.recorderSave h.update) h

theorem Canonical.apply29 (h : Canonical s) {sid k i m : Nat} {v : Int} : Canonical (apply29 sid s k i m v) :=
  .ite (.ite h.applyFreeze (.ite h.applySaveNow h.put)) (.ite h.put.notice.recorderSave (.ite h.applyClearHist (.ite h
    h.put.clearHist)))

theorem Canonical.apply2A (h : Canonical s) {sid k i m : Nat} {v : Int} : Canonical (apply2A sid s k i m v) :=
  .ite h.applyClearPair (.ite h h.put.clearPair)

theorem Canonical.apply2B (h : Canonical s) {sid k m : Nat} {v : Int} : Canonical (apply2B sid s k m v) :=
  .ite h.applyClearRing h.put

theorem Canonical.histogramDefinition (h : Canonical s) {sid a : Nat} {v : Int} : Canonical (histogramDefinition sid a v s) :=
  .ite (h.writeRow fun ht => ht.apply29) (.ite (h.writeRow fun ht => ht.apply2A) h.answer)

theorem Canonical.setDisplayWord (h : Canonical s) {o w : Nat} : Canonical (s.setDisplayWord o w) :=
  .ite h.update (.ite h.update h.update)

theorem Canonical.storeWord (h : Canonical s) {a w : Nat} : Canonical (s.storeWord a w) := by
  unfold State.storeWord
  split
  · exact h.setDisplayWord
  · exact h.setWord

/-! ### Self-tests -/

theorem Canonical.bistPassDue (h : Canonical s) {target : Nat} : Canonical (bistPassDue target s) :=
  .ite (.ite h.update (.put h.update)) h

theorem Canonical.bistFailure (h : Canonical s) {target code value : Nat} : Canonical (s.bistFailure target code value) :=
  h.count.put.notice

theorem Canonical.passDone (h : Canonical s) {target state : Nat} : Canonical (s.passDone target state) := h.count.puts.update

theorem Canonical.failingRow (h : Canonical s) {target block row : Nat} : Canonical (s.failingRow target block row).1 := by
  unfold State.failingRow
  extract_lets _ t1 _ _ t2 t3
  have h1 : Canonical t1 := h.bistFailure
  have h2 : Canonical t2 := h1.update
  have h3 : Canonical t3 := h2.count.notice
  exact .iteFst h1 (.iteFst h1 (.iteFst h3 (.iteFst h3.noticeOpen (.put h3.update))))

theorem Canonical.failingRows (h : Canonical s) {target block : Nat} {rows : List Nat} :
    Canonical (s.failingRows target block rows).1 :=
  h.foldlFst fun ht => .iteFst ht ht.failingRow

theorem Canonical.newSpare (h : Canonical s) {failRows : List Nat} : Canonical (newSpare failRows s) := by
  unfold Machine.newSpare
  split
  · exact .ite (.ite (.passDone h.failingRows.count.puts.update) (.passDone h.failingRows.puts.notice.update)) h
  · exact h

theorem Canonical.switchSegment (h : Canonical s) : Canonical s.switchSegment := by
  unfold State.switchSegment
  split
  · exact h.update
  · exact h

theorem Canonical.segmentPass (h : Canonical s) {rows : List Nat} : Canonical (s.segmentPass rows) :=
  .ite (.passDone (.update h.failingRows.update)) (.passDone (.noticeOpen h.failingRows.update))

theorem Canonical.segmentSlice (h : Canonical s) {cycles : Nat} {rows : List Nat} : Canonical (s.segmentSlice cycles rows) :=
  .ite (.when h.update fun ht => ht.switchSegment) (.when h.update fun ht => ht.segmentPass)

theorem Canonical.goldenPass (h : Canonical s) {fails : List Nat} : Canonical (s.goldenPass fails) :=
  .ite (.passDone h.update) (.ite (.passDone (.deviceFault h.bistFailure.update)) (.put h.bistFailure.update))

theorem Canonical.loopbackPass (h : Canonical s) {unpowered fails : List Nat} : Canonical (s.loopbackPass unpowered fails) :=
  .passDone (.update (h.each fun ht => ht.bistFailure))

theorem Canonical.cryptoPass (h : Canonical s) {fails : List Nat} : Canonical (s.cryptoPass fails) :=
  .passDone (.update (h.each fun ht => ht.bistFailure))

theorem Canonical.bistSlice (h : Canonical s) {done : Bool} {fails : List Nat} : Canonical (s.bistSlice done fails) := by
  unfold State.bistSlice
  extract_lets t run
  have ht : Canonical t := h.put
  clear_value run
  split
  · exact ht.segmentSlice
  · exact ht.goldenPass
  · exact .ite ht.loopbackPass ht
  · exact .ite ht.cryptoPass ht
  · exact ht.pannierSlice

theorem Canonical.adcTest (h : Canonical s) {sp : Nat} : Canonical (adcTest sp s) := .ite h.update h
theorem Canonical.adcResult (h : Canonical s) {a : AdcTest} : Canonical (s.adcResult a) := .update (h.each fun ht => ht.bistFailure)

theorem Canonical.adcTestEnd (h : Canonical s) : Canonical (adcTestEnd s) := by
  unfold Machine.adcTestEnd
  split
  · extract_lets t1 t2 _ t3
    have h1 : Canonical t1 := h.each fun ht => .ite ht.modChan ht
    have h2 : Canonical t2 := .ite h1.count h1.adcResult
    have h3 : Canonical t3 := h2.update
    exact .ite h (.ite h3 (.passDone h3.update))
  · exact h

theorem Canonical.adcTick (h : Canonical s) {at_ : Nat} {raw : Nat → Option Int} : Canonical (s.adcTick at_ raw) := by
  unfold State.adcTick
  split
  · extract_lets _ t1 _ t2
    have h1 : Canonical t1 := .ite h.update h
    have h2 : Canonical t2 := h1.each fun ht => ht.modChan
    refine .ite ?_ h1
    split
    · exact h2.update
    · exact h2
  · exact h

theorem Canonical.applyProgramFuses (h : Canonical s) {v : Int} : Canonical (applyProgramFuses v s) :=
  .ite h (.puts (.update (h.each fun ht => ht.noticeOpen)))

theorem Canonical.applyFuses (h : Canonical s) : Canonical s.applyFuses := .puts h.update

theorem Canonical.apply38 (h : Canonical s) {k i m : Nat} {v : Int} : Canonical (apply38 s k i m v) :=
  .ite h.applyProgramFuses h.put

/-! ### Spoke links -/

theorem Canonical.clipFlag (h : Canonical s) {n : Nat} {x : Int} {flag : Bool} : Canonical (s.clipFlag n x flag) :=
  .ite (h.modChan.put.count.when fun ht => ht.notice) h.modChan.put

theorem Canonical.clipFlags (h : Canonical s) {d : Die} {f : UpFrame} : Canonical (s.clipFlags d f) := h.each fun ht => ht.clipFlag
theorem Canonical.readbacks (h : Canonical s) {l : List (Nat × Nat)} : Canonical (s.readbacks l) := h.each fun ht => ht.puts

theorem Canonical.upstreamFrame (h : Canonical s) {d : Die} {f : UpFrame} {crc : Nat} : Canonical (upstreamFrame d f crc s) :=
  .ite h (.ite h.modDie.clipFlags.readbacks (.notice (h.modDie.count.each fun ht => ht.count)))

theorem Canonical.downstreamFrame (h : Canonical s) {d : Die} {f : DownFrame} {crc : Nat} : Canonical (downstreamFrame d f crc s) :=
  .ite h (.ite h.modDie h.modDie.count.notice)

theorem Canonical.endLease (h : Canonical s) : Canonical s.endLease :=
  .ite h (.ite (.put (.each h.update fun ht => ht.modGate)) (.put (.each h.update fun ht => ht.modGate)))

theorem Canonical.linkRetrained (h : Canonical s) {d : Die} : Canonical (linkRetrained d s) := .ite h h.put.modDie

/-! ### The pilot -/

theorem Canonical.drivePilot (h : Canonical s) {sp mode duty : Nat} : Canonical (s.drivePilot sp mode duty) := by
  unfold State.drivePilot
  exact .modPilot (.puts (.ite h h.modPilot))

theorem Canonical.dieCut (h : Canonical s) {d : Die} : Canonical (s.dieCut d) :=
  .each (h.modDie.each fun ht => ht.modSwitch) fun ht => ht.modPilot.drivePilot

theorem Canonical.spokeLinkFailed (h : Canonical s) {d : Die} {dir : LinkDir} : Canonical (spokeLinkFailed d dir s) :=
  .ite h (.ite (.ite h.dieCut h) (.endLease (.notice (.deviceFault (.put (.ite h.dieCut h))))))

theorem Canonical.holdPilot (h : Canonical s) {sp w : Nat} : Canonical (s.holdPilot sp w) :=
  .ite h.modPilot.put.drivePilot h.modPilot.put

theorem Canonical.pilotPeriodStart (h : Canonical s) {sp : Nat} : Canonical (pilotPeriodStart sp s) := .ite h.drivePilot h

theorem Canonical.newEntry (h : Canonical s) {sp old v : Nat} : Canonical (s.newEntry sp old v) :=
  .ite (.modVLink (h.when fun ht => ht.put)) h

theorem Canonical.setPilotState (h : Canonical s) {sp v : Nat} : Canonical (s.setPilotState sp v) := by
  unfold State.setPilotState
  extract_lets t1 t2
  have h1 : Canonical t1 := h.newEntry
  have h2 : Canonical t2 := h1.put.count.put.raise
  exact .ite h2.notice (.ite h2.notice h2)

theorem Canonical.filterPilot (h : Canonical s) {sp : Nat} {fresh : Bool} : Canonical (s.filterPilot sp fresh) :=
  .ite h.setPilotState.modPilot (.ite h (.ite h.modPilot.setPilotState h.modPilot))

theorem Canonical.filterDiode (h : Canonical s) {sp : Nat} {fresh : Bool} : Canonical (s.filterDiode sp fresh) :=
  .ite h.modPilot (.ite (.ite h.modPilot.put.raise.count.notice h.modPilot.put.raise) (.ite h (.ite (.ite
    h.modPilot.modPilot.put.raise.count.notice h.modPilot.modPilot.put.raise) h.modPilot)))

theorem Canonical.setProximity (h : Canonical s) {sp v rating : Nat} : Canonical (s.setProximity sp v rating) := by
  unfold State.setProximity
  extract_lets t1 t2
  have h1 : Canonical t1 := h.puts.raise
  have h2 : Canonical t2 := .ite h1.notice h1
  exact .ite h2.notice h2

theorem Canonical.proximity (h : Canonical s) {sp : Nat} {code : Option Nat} : Canonical (s.proximity sp code) := by
  unfold State.proximity
  extract_lets t1
  have h1 : Canonical t1 := by
    unfold t1
    split
    · exact h.modPilot
    · exact h
  split
  · exact h1
  · exact .ite h1.put.modPilot (.ite h1.put.modPilot.setProximity h1.put.modPilot)

theorem Canonical.tethered (h : Canonical s) {sp : Nat} : Canonical (s.tethered sp) := .ite (.ite h.put h.put.put.raise) h

theorem Canonical.weldSense (h : Canonical s) {sp : Nat} {code : Option Nat} : Canonical (s.weldSense sp code) :=
  .ite h.modPilot.puts.notice h.modPilot.puts

theorem Canonical.rememberWave (h : Canonical s) {sp : Nat} : Canonical (s.rememberWave sp) := h.modPilot

theorem Canonical.senseSpoke (h : Canonical s) {sp : Nat} : Canonical (s.senseSpoke sp) := by
  unfold State.senseSpoke
  dsimp only
  split
  · exact h.modPilot.proximity.tethered.weldSense
  · exact h.proximity.tethered.weldSense

theorem Canonical.showPlateaus (h : Canonical s) {sp : Nat} : Canonical (s.showPlateaus sp) := h.puts
theorem Canonical.evalPilot (h : Canonical s) {sp : Nat} : Canonical (s.evalPilot sp) := h.showPlateaus.filterPilot.filterDiode.put
theorem Canonical.apply18 (h : Canonical s) {k i m : Nat} {v : Int} : Canonical (apply18 s k i m v) := .ite h.put.modPilot h.put

/-! ### Channels and their settings -/

theorem Canonical.takeSample (h : Canonical s) {n : Nat} : Canonical (s.takeSample n) := .ite h.modChan.put.count h.modChan.put
theorem Canonical.pipeline (h : Canonical s) {n : Nat} : Canonical (s.pipeline n) := h.modChan

theorem Canonical.runChannel (h : Canonical s) {n : Nat} : Canonical (s.runChannel n) :=
  .ite h.modChan.puts (.ite h.modChan.put (.ite h.put.takeSample h.put.takeSample.pipeline))

theorem Canonical.calibrated (h : Canonical s) {sid k : Nat} : Canonical (s.calibrated sid k) := .ite h.put.notice.put h.put.notice

theorem Canonical.apply08 (h : Canonical s) {sid k i m : Nat} {v : Int} : Canonical (apply08 sid s k i m v) := by
  unfold Machine.apply08
  extract_lets _ t1 t2 t3
  have h1 : Canonical t1 := h.put
  have h2 : Canonical t2 := .ite h1.modChan h1
  have h3 : Canonical t3 := .ite h2.modChan.puts h2
  exact .ite h3.calibrated h3

theorem Canonical.assignMasks (h : Canonical s) : Canonical s.assignMasks := h.each fun ht => ht.put

theorem Canonical.restartIntegrators (h : Canonical s) {sp : Nat} : Canonical (s.restartIntegrators sp) :=
  h.each fun ht => .ite ht.modChan ht

theorem Canonical.sealSample (h : Canonical s) {low : Bool} : Canonical (s.sealSample low) := h.update
theorem Canonical.showSeal (h : Canonical s) : Canonical s.showSeal := h.put
theorem Canonical.sealWasClosed (h : Canonical s) : Canonical s.sealWasClosed := h.update

theorem Canonical.sealOpening (h : Canonical s) : Canonical (sealOpening s) :=
  .ite (.showSeal (.ite (.sealWasClosed (.noticeOpen (.update (.notice (.put h.update))))) (.notice (.put h.update)))) h

theorem Canonical.sealClosing (h : Canonical s) : Canonical (sealClosing s) :=
  .ite (.showSeal (.sealWasClosed (.noticeOpen h.update))) h

theorem Canonical.apply0D (h : Canonical s) {sid k i m : Nat} {v : Int} : Canonical (apply0D sid s k i m v) :=
  .ite h.put.calibrated h.put

/-! ### Metering -/

theorem Canonical.addFine (h : Canonical s) {sp idx : Nat} {x : Rat} : Canonical (s.addFine sp idx x) := h.modMeter

theorem Canonical.routeActive (h : Canonical s) {sp : Nat} {e : Rat} : Canonical (s.routeActive sp e) :=
  .each (h.each fun ht => .ite ht.addFine (.ite ht.addFine ht)) fun ht => .ite ht.addFine (.ite ht.addFine ht)

theorem Canonical.routeApparent (h : Canonical s) {sp : Nat} {e : Rat} {importing : Bool} :
    Canonical (s.routeApparent sp e importing) :=
  .ite (.addFine (.ite h.addFine h)) (.ite h.addFine h)

theorem Canonical.addRegister (h : Canonical s) {inst n : Nat} : Canonical (s.addRegister inst n) := .ite h.put h.put.ratchet.notice

theorem Canonical.moveFine (h : Canonical s) {sp : Nat} : Canonical (s.moveFine sp) :=
  h.modMeter.each fun ht => .ite ht.put ht.put.addRegister

theorem Canonical.closeSegment (h : Canonical s) {sp : Nat} : Canonical (s.closeSegment sp) :=
  .ite h.routeActive.modMeter.moveFine h

theorem Canonical.closeSegments (h : Canonical s) : Canonical s.closeSegments := h.each fun ht => ht.closeSegment

theorem Canonical.spokeWindow (h : Canonical s) {g sp : Nat} {ta tb : Rat} {timeout : Bool} :
    Canonical (s.spokeWindow g sp ta tb timeout) := by
  unfold State.spokeWindow
  extract_lets _ _ _ _ _ _ _ _ _ _ _ _ _ _ _ _ _ _ _ _ _ _ t1 _ _ t2 _ _ _ _ _ t3 t4 t5 t6 _ _ t7
  have h1 : Canonical t1 := h.puts
  have h2 : Canonical t2 := .ite h1 h1.routeActive
  have h3 : Canonical t3 := .ite h2 h2.addFine.routeApparent
  have h4 : Canonical t4 := h3.modMeter
  have h5 : Canonical t5 := h4.extreme
  have h6 : Canonical t6 := .ite h5.put h5
  have h7 : Canonical t7 := h6.modMeter
  exact .ite h.modMeter (.ite (.ite h7 h7.histogram) h7)

theorem Canonical.voltageSample (h : Canonical s) {g ph rms : Nat} : Canonical (s.voltageSample g ph rms) :=
  .ite h.histogram.extreme.modGroup (.modGroup (.ite h.histogram.extreme.histogram.histogram.count.trigger h.histogram.extreme))

theorem Canonical.earthWindow (h : Canonical s) {g np : Nat} : Canonical (s.earthWindow g np) := h.modGroup
theorem Canonical.chlBoundary (h : Canonical s) : Canonical s.chlBoundary := .ite h.update h
theorem Canonical.countMc (h : Canonical s) {g : Nat} {tb : Rat} : Canonical (s.countMc g tb) := .ite h (.chlBoundary h.bump.update)
theorem Canonical.beaconPeriod (h : Canonical s) {tb : Rat} : Canonical (s.beaconPeriod tb) := .each h.update fun ht => ht.send

theorem Canonical.beaconWindow (h : Canonical s) {g : Nat} {tb : Rat} {valid : Bool} : Canonical (s.beaconWindow g tb valid) :=
  .ite h (.ite (.ite h.beaconPeriod.noticeOpen h) (.ite h.beaconPeriod h.update))

theorem Canonical.jitterFree (h : Canonical s) {g : Nat} : Canonical (s.jitterFree g) := h.modGroup

theorem Canonical.closeWindow (h : Canonical s) {g : Nat} {tb : Rat} {timeout valid : Bool} :
    Canonical (s.closeWindow g tb timeout valid) := by
  unfold State.closeWindow
  extract_lets _ _ _ _ _ _ t1 t2 t3 _ t4 t5 t6 t7 t8
  have h1 : Canonical t1 := h.modGroup
  have h2 : Canonical t2 := h1.puts
  have h3 : Canonical t3 := h2.each fun ht => ht.voltageSample
  have h4 : Canonical t4 := .ite h3 h3.histogram.extreme
  have h5 : Canonical t5 := h4.each fun ht => ht.spokeWindow
  have h6 : Canonical t6 := h5.modGroup
  have h7 : Canonical t7 := h6.earthWindow
  have h8 : Canonical t8 := .ite h7.jitterFree h7
  exact h8.countMc.beaconWindow

theorem Canonical.halfEnds (h : Canonical s) {g : Nat} {time : Rat} {positive stands : Bool} :
    Canonical (s.halfEnds g time positive stands) :=
  .ite h.update h

theorem Canonical.relock (h : Canonical s) {g : Nat} {t0 time : Rat} {pol : Bool} : Canonical (s.relock g t0 time pol) := by
  unfold State.relock
  extract_lets _ t1 t2 _ t3
  have h1 : Canonical t1 := h.modGroup.notice
  have h2 : Canonical t2 := h1.jitterFree
  have h3 : Canonical t3 := .ite h2.update h2
  exact .halfEnds (.ite h3.closeWindow h3.modGroup)

theorem Canonical.validCrossing (h : Canonical s) {g : Nat} {time : Rat} {pol : Bool} : Canonical (s.validCrossing g time pol) :=
  .halfEnds (.ite h.modGroup.closeWindow h.modGroup)

theorem Canonical.loseSymbol (h : Canonical s) {g : Nat} : Canonical (s.loseSymbol g) := .ite h.update h

theorem Canonical.detected (h : Canonical s) {g : Nat} {time : Rat} {pol : Bool} : Canonical (s.detected g time pol) := by
  unfold State.detected
  extract_lets _ _ t1 t2
  have h1 : Canonical t1 := h.count.notice.loseSymbol
  have h2 : Canonical t2 := by
    refine .ite ?_ (.ite h.validCrossing h1)
    split
    · exact .ite h.relock (.ite h h1)
    · exact .ite h h1
  exact h2.modGroup

theorem Canonical.crossGroup (h : Canonical s) {g : Nat} : Canonical (s.crossGroup g) := .modGroup (.ite h.detected h)

theorem Canonical.freeWindow (h : Canonical s) {g : Nat} : Canonical (s.freeWindow g) :=
  .ite h.loseSymbol.halfEnds.closeWindow.halfEnds.modGroup h

theorem Canonical.missingCrossing (h : Canonical s) {g : Nat} : Canonical (missingCrossing g s) :=
  .ite (.ite h.loseSymbol.modGroup.modGroup.put.count.notice.halfEnds (.halfEnds (.ite h.loseSymbol.modGroup.modGroup.closeWindow
    h.loseSymbol.modGroup.modGroup))) h

theorem Canonical.addRows (h : Canonical s) {g : Nat} : Canonical (s.addRows g) := h.modGroup.each fun ht => ht.modMeter

theorem Canonical.accrue (h : Canonical s) {sp : Nat} : Canonical (s.accrue sp) := by
  unfold State.accrue
  exact h.modMeter

theorem Canonical.clearUnreached (h : Canonical s) : Canonical s.clearUnreached :=
  .each (h.each fun ht => .ite ht.modChan ht) fun ht => ht.modMeter

theorem Canonical.pulseTick (h : Canonical s) {po : Nat} : Canonical (s.pulseTick po) := by
  unfold State.pulseTick
  extract_lets _ _ _ t1 t2 _ _ _ _ _ _ _ _ _ _ _ _ t3 t4 _ t5
  have h1 : Canonical t1 := h.put
  have h2 : Canonical t2 := h1.update
  have h3 : Canonical t3 := h2.put.count
  have h4 : Canonical t4 := .ite (.send h3.update) h2.put
  have h5 : Canonical t5 := .ite h4.notice h4
  exact .ite h2 h5.update

theorem Canonical.jitterFreeEnd (h : Canonical s) {po : Nat} : Canonical (jitterFreeEnd po s) := .ite (.put (.modGroup h.update)) h
theorem Canonical.apply0C (h : Canonical s) {k i m : Nat} {v : Int} : Canonical (apply0C s k i m v) := .ite h.put.put h.put

theorem Canonical.pulseOutputChange (h : Canonical s) {sid po m : Nat} {v : Int} : Canonical (pulseOutputChange sid po m v s) :=
  h.writeRow fun ht => ht.apply0C

theorem Canonical.applySnapshotRequest (h : Canonical s) {v : Int} : Canonical (applySnapshotRequest v s) := h.put.update

theorem Canonical.latchSnapshot (h : Canonical s) {source : Nat} : Canonical (s.latchSnapshot source) :=
  .journal (.notice (.puts (h.closeSegments.each fun ht => ht.puts)))

theorem Canonical.latchDue (h : Canonical s) : Canonical s.latchDue := by
  unfold State.latchDue
  split
  · exact .ite (.latchSnapshot h.put.update) h
  · exact h

theorem Canonical.snapshotLatch (h : Canonical s) : Canonical (snapshotLatch s) := h.atStep fun ht => ht.latchDue

theorem Canonical.applyClearRegisters (h : Canonical s) {sid : Nat} {v : Int} : Canonical (applyClearRegisters sid v s) :=
  .ite h (.notice (.update (.each (.each (h.each fun ht => ht.puts) fun ht => ht.modMeter) fun ht => ht.put)))

theorem Canonical.apply0B (h : Canonical s) {sid k i m : Nat} {v : Int} : Canonical (apply0B sid s k i m v) :=
  .ite (.ite h.applySnapshotRequest (.ite h.applyClearRegisters h.put)) (.ite (.calibrated (.put (.ite h h.closeSegment))) h.put)

theorem Canonical.apply0A (h : Canonical s) {sid k m : Nat} {v : Int} : Canonical (apply0A sid s k m v) :=
  .ite h.put.calibrated h.put

theorem Canonical.startGroup (h : Canonical s) {g : Nat} : Canonical (s.startGroup g) := h.modGroup

theorem Canonical.apply09 (h : Canonical s) {sid k i m : Nat} {v : Int} : Canonical (apply09 sid s k i m v) := by
  unfold Machine.apply09
  extract_lets t1 _ t2
  have h1 : Canonical t1 := h.put
  have h2 : Canonical t2 := .ite h.closeSegment.put.restartIntegrators.assignMasks.setCause (.ite h1.update (.ite h.put.startGroup
    h.put))
  exact .ite h2.calibrated h2

theorem Canonical.meterFrame (h : Canonical s) : Canonical s.meterFrame := by
  unfold State.meterFrame
  extract_lets t1 t2 _ t3 t4 t5 t6
  have h1 : Canonical t1 := h.each fun ht => ht.runChannel
  have h2 : Canonical t2 := h1.each fun ht => ht.accrue
  have h3 : Canonical t3 := h2.each fun ht => ht.addRows
  have h4 : Canonical t4 := h3.each fun ht => ht.crossGroup.freeWindow
  have h5 : Canonical t5 := h4.each fun ht => ht.moveFine
  have h6 : Canonical t6 := h5.each fun ht => ht.pulseTick
  exact .ite h6.clearUnreached.put h6.clearUnreached

end Rules

end Sys2Proof.Machine
end

section
/-! Canonical stores, II: safety functions, switches, sequencers, gates, billing, DMA and sessions (O4). -/

namespace Sys2Proof.Machine
set_option Elab.async false

section Rules
variable {s t u : State}

/-! ### Safety functions and residual currents -/

theorem Canonical.modFn (h : Canonical s) {f : Nat} {g : SafetyFn → SafetyFn} : Canonical (s.modFn f g) := h.update
theorem Canonical.zoneCause (h : Canonical s) {f : Nat} : Canonical (s.zoneCause f) := h.each fun ht => ht.setCause
theorem Canonical.zoneOnly (h : Canonical s) {f : Nat} : Canonical (s.zoneOnly f) := h.each fun ht => ht.setCause

theorem Canonical.latchFn (h : Canonical s) {f : Nat} {a b : Bool} : Canonical (s.latchFn f a b) := by
  unfold State.latchFn
  extract_lets t1 t2
  have h1 : Canonical t1 := h.modFn.put
  have h2 : Canonical t2 := .ite h1.zoneCause h1
  exact .ite h2.put h2

theorem Canonical.startFunctions (h : Canonical s) : Canonical s.startFunctions :=
  h.each fun ht => .ite ht.put.zoneOnly (.ite (ht.put.each fun hu => hu.setCause) (.ite ht ht.zoneOnly))

theorem Canonical.functionDemand (h : Canonical s) {f : Nat} : Canonical (functionDemand f s) :=
  .ite h (.ite h.put.count.notice.zoneCause (.ite h.put h))

theorem Canonical.discrepancy (h : Canonical s) {f : Nat} : Canonical (discrepancy f s) := .ite h.put.noticeOpen.zoneCause h

theorem Canonical.functionClear (h : Canonical s) {f : Nat} : Canonical (functionClear f s) :=
  .ite h (.ite h.put (h.put.modFn.each fun ht => ht.setCause))

theorem Canonical.applyFunctionReset (h : Canonical s) {f : Nat} {v : Int} : Canonical (applyFunctionReset f v s) := .ite h.modFn h

theorem Canonical.evalResidual (h : Canonical s) {sp : Nat} : Canonical (s.evalResidual sp) :=
  .ite h.modResidual h.modResidual.modResidual.puts.modResidual

theorem Canonical.residualTrip (h : Canonical s) {sp pt : Nat} : Canonical (residualTrip sp pt s) :=
  .ite h (h.inFrame fun ht => ht.modResidual.setCause.notice.count.trigger)

theorem Canonical.crossCheckFailure (h : Canonical s) {sp : Nat} : Canonical (crossCheckFailure sp s) :=
  .ite h (h.inFrame fun ht => ht.modMeter.setCause.count.notice)

theorem Canonical.earthFault (h : Canonical s) {g : Nat} : Canonical (earthFault g s) :=
  .ite h (h.modGroup.notice.each fun ht => ht.inFrame fun hu => hu.setCause)

theorem Canonical.earthClear (h : Canonical s) {g : Nat} : Canonical (earthClear g s) :=
  .ite h (h.modGroup.each fun ht => ht.inFrame fun hu => hu.setCause)

theorem Canonical.applyClearLockout (h : Canonical s) {sid sp : Nat} {v : Int} : Canonical (applyClearLockout sid sp v s) :=
  .ite h (.notice (h.inFrame fun ht => ht.setCauses))

theorem Canonical.applyClearDeviceFault (h : Canonical s) {sid : Nat} {v : Int} : Canonical (applyClearDeviceFault sid v s) :=
  .ite h (h.put.noticeOpen.each fun ht => ht.inFrame fun hu => hu.setCause)

theorem Canonical.restartCurve (h : Canonical s) : Canonical s.restartCurve := h.each fun ht => ht.modResidual

theorem Canonical.apply1D (h : Canonical s) {sid k i m : Nat} {v : Int} : Canonical (apply1D sid s k i m v) :=
  .ite h.put.restartCurve (.ite h.applyFunctionReset (.ite (.ite h.put (h.put.each fun ht => ht.inFrame fun hu => .ite hu.setCause
    hu)) (.ite h.applyClearLockout (.ite h.applyClearDeviceFault h.put))))

/-! ### Switch channels and locks -/

theorem Canonical.operation (h : Canonical s) {n : Nat} : Canonical (s.operation n) := .ite h.count.modSwitch.notice h.count
theorem Canonical.startProfile (h : Canonical s) {n at_ : Nat} : Canonical (s.startProfile n at_) := h.modSwitch

theorem Canonical.commandAt (h : Canonical s) {n code frame : Nat} : Canonical (s.commandAt n code frame) := by
  unfold State.commandAt
  extract_lets _ t1 t2
  have h1 : Canonical t1 := h.put.modSwitch
  have h2 : Canonical t2 := .ite h1.startProfile h1
  exact .ite h (.ite h2.operation h2)

theorem Canonical.command (h : Canonical s) {n code : Nat} : Canonical (s.command n code) := h.commandAt
theorem Canonical.showSwitch (h : Canonical s) {n : Nat} : Canonical (s.showSwitch n) := h.put

theorem Canonical.interruptLock (h : Canonical s) {sp : Nat} : Canonical (s.interruptLock sp) := by
  unfold State.interruptLock
  split
  · exact h
  · exact h.modLock.command.setLockState

theorem Canonical.latchSwitch (h : Canonical s) {n cause : Nat} : Canonical (s.latchSwitch n cause) := by
  unfold State.latchSwitch
  extract_lets t1 _ t2
  have h1 : Canonical t1 := h.put.showSwitch
  have h2 : Canonical t2 := h1.setCause
  exact .ite h1 (.ite (.ite h2 h2.notice) (.ite h1.interruptLock h1))

theorem Canonical.showLease (h : Canonical s) : Canonical s.showLease := .ite h.put h

theorem Canonical.openContactsAt (h : Canonical s) {sp gate frame : Nat} : Canonical (s.openContactsAt sp gate frame) := by
  unfold State.openContactsAt
  extract_lets t1 t2 t3 t4
  have h1 : Canonical t1 := h.commandAt.commandAt
  have h2 : Canonical t2 := .ite h1.count h1
  have h3 : Canonical t3 := .ite h2.notice h2
  have h4 : Canonical t4 := h3.modGate
  exact .ite h.setGate h4.put.setGate.showLease

theorem Canonical.openContacts (h : Canonical s) {sp gate : Nat} : Canonical (s.openContacts sp gate) := h.openContactsAt
theorem Canonical.closeContacts (h : Canonical s) {sp : Nat} : Canonical (s.closeContacts sp) := h.command.command.setGate.modGate
theorem Canonical.applyCode (h : Canonical s) {n code : Nat} : Canonical (s.applyCode n code) := h.modSwitch
theorem Canonical.weldWaits (h : Canonical s) {sp : Nat} : Canonical (s.weldWaits sp) := .ite h.modGate h

theorem Canonical.applySwitches (h : Canonical s) : Canonical s.applySwitches := by
  refine .each (h.each fun ht => ?_) fun ht => ht.weldWaits
  split
  · exact ht.applyCode
  · exact .ite ht.modSwitch ht

theorem Canonical.lkOvertimeStop (h : Canonical s) {sp : Nat} : Canonical (lkOvertimeStop sp s) := .ite h.latchSwitch.noticeOpen h

theorem Canonical.seeUv (h : Canonical s) {on : Bool} {n frame : Nat} : Canonical (s.seeUv on n frame) := by
  unfold State.seeUv
  extract_lets t1 t2 t3
  have h1 : Canonical t1 := h.modSwitch
  have h2 : Canonical t2 := .ite h1.notice h1
  have h3 : Canonical t3 := .ite h2.openContactsAt (.ite h2.interruptLock h2)
  exact .ite h (.ite h.modSwitch h3.showSwitch)

theorem Canonical.underVoltage (h : Canonical s) {b : Nat} : Canonical (underVoltage b s) :=
  .ite h (h.put.each fun ht => ht.modSwitch.seeUv)

theorem Canonical.resend (h : Canonical s) {n code : Nat} : Canonical (s.resend n code) := h.modDie

theorem Canonical.channelRestart (h : Canonical s) {n : Nat} : Canonical (channelRestart n s) :=
  .ite h (.ite h.modSwitch.latchSwitch.noticeOpen (.noticeOpen (.showSwitch (.startProfile (.operation (.put (.ite h.modSwitch
    h.modSwitch.resend)))))))

theorem Canonical.notUv (h : Canonical s) {n : Nat} : Canonical (s.notUv n) := .ite h.modSwitch.update h

theorem Canonical.thermalLatch (h : Canonical s) {n : Nat} : Canonical (thermalLatch n s) :=
  .ite h h.notUv.modSwitch.latchSwitch.noticeOpen

theorem Canonical.applyClearLatch (h : Canonical s) {n : Nat} {v : Int} : Canonical (applyClearLatch n v s) := by
  unfold Machine.applyClearLatch
  extract_lets t1 t2 t3 t4
  have h1 : Canonical t1 := h.puts.modSwitch
  have h2 : Canonical t2 := h1.startProfile.noticeOpen
  have h3 : Canonical t3 := .ite h2.modLock h2
  have h4 : Canonical t4 := .ite h3.setCause h3
  exact .ite h h4.showSwitch

theorem Canonical.applyHxCommand (h : Canonical s) {n : Nat} {v : Int} : Canonical (applyHxCommand n v s) := h.commandAt.showSwitch
theorem Canonical.offPulse (h : Canonical s) {n : Nat} : Canonical (offPulse n s) := .ite h.modSwitch h
theorem Canonical.pulseLost (h : Canonical s) {n : Nat} : Canonical (s.pulseLost n) := .ite h.modSwitch.noticeOpen h.modSwitch

theorem Canonical.pulseFailed (h : Canonical s) {n cause code : Nat} : Canonical (s.pulseFailed n cause code) :=
  h.modSwitch.count.latchSwitch.noticeOpen

theorem Canonical.judgePulse (h : Canonical s) {n : Nat} : Canonical (s.judgePulse n) := by
  refine .ite (.ite h h.pulseLost) ?_
  split
  · exact .ite h (.ite h.pulseLost (.ite (.ite h.pulseFailed h.modSwitch) (.ite h.pulseLost (.ite h.modSwitch.put h.pulseFailed))))
  · exact h

theorem Canonical.superviseSwitch (h : Canonical s) {on : Bool} {n : Nat} : Canonical (s.superviseSwitch on n) := by
  unfold State.superviseSwitch
  extract_lets _ _ _ t1 t2 _ _ t3 t4 t5
  have h1 : Canonical t1 := h.modSwitch
  have h2 : Canonical t2 := .ite h1.latchSwitch.notice h1
  have h3 : Canonical t3 := h2.modSwitch
  have h4 : Canonical t4 := .ite h3.latchSwitch.noticeOpen (.ite h3.latchSwitch.noticeOpen h3)
  have h5 : Canonical t5 := .ite h4.seeUv h4.modSwitch
  exact .ite h (.ite h5.modSwitch h5)

theorem Canonical.showBanks (h : Canonical s) : Canonical s.showBanks := h.each fun ht => .ite ht (.ite ht ht.put)

theorem Canonical.evalSwitches (h : Canonical s) : Canonical s.evalSwitches :=
  .each (.showBanks (h.each fun ht => ht.superviseSwitch.judgePulse)) fun ht => ht.modSwitch.put.showSwitch

theorem Canonical.startStroke (h : Canonical s) {sp sink : Nat} : Canonical (s.startStroke sp sink) :=
  h.modLock.command.startProfile.operation.setLockState

theorem Canonical.serveLock (h : Canonical s) {sp : Nat} : Canonical (s.serveLock sp) := by
  unfold State.serveLock
  dsimp only
  split
  · exact .ite h (.ite h.modLock (.ite h.startStroke h))
  · exact h

theorem Canonical.watchLock (h : Canonical s) {sp : Nat} : Canonical (s.watchLock sp) := by
  unfold State.watchLock
  extract_lets _ _ _ _ t1 t2 _ t3 t4 t5
  have h1 : Canonical t1 := .ite h.interruptLock h
  have h2 : Canonical t2 := by
    unfold t2
    split
    · exact .ite (.modLock (.ite h1.command h1)) (.ite h1.command h1)
    · exact h1
  have h3 : Canonical t3 := h2.modLock
  have h4 : Canonical t4 := .ite h3.setLockState.notice h3
  have h5 : Canonical t5 := h4.modLock
  exact .ite h4 (.ite (.ite h5.setLockState (.ite h5.setLockState h5)) h5)

theorem Canonical.strokeEnd (h : Canonical s) {sp : Nat} : Canonical (strokeEnd sp s) := by
  unfold Machine.strokeEnd
  split
  · exact .ite h.modLock.commandAt h
  · exact h

theorem Canonical.brakeEnd (h : Canonical s) {sp : Nat} : Canonical (brakeEnd sp s) := by
  unfold Machine.brakeEnd
  dsimp only
  split
  · exact .ite (.ite (h.modLock.command.inFrame fun ht => ht.setLockState) (.notice (h.modLock.command.inFrame fun ht =>
      ht.setLockState))) h
  · exact h

theorem Canonical.weldStep (h : Canonical s) {sp : Nat} : Canonical (s.weldStep sp) := by
  unfold State.weldStep
  split
  · exact .ite (.ite h.put.modGate.setGate h.put.modGate) h
  · exact h

theorem Canonical.weldLockout (h : Canonical s) {sp : Nat} : Canonical (weldLockout sp s) := by
  unfold Machine.weldLockout
  split
  · exact .ite (.count (.notice (h.put.modGate.inFrame fun ht => ht.setCause.setGate))) h
  · exact h

theorem Canonical.applyClearWeld (h : Canonical s) {sid sp : Nat} {v : Int} : Canonical (applyClearWeld sid sp v s) :=
  .ite (.noticeOpen (h.put.inFrame fun ht => ht.setCause)) h

theorem Canonical.apply1C (h : Canonical s) {sid k i m : Nat} {v : Int} : Canonical (apply1C sid s k i m v) := by
  refine .ite h.put ?_
  split
  · exact h.applyHxCommand
  · exact h.applyClearLatch
  · exact h.put.modSwitch
  · exact h.applyClearWeld
  · exact h.put

/-! ### Pedal sequencers -/

theorem Canonical.startProgram (h : Canonical s) {sp cause : Nat} : Canonical (s.startProgram sp cause) := h.modPedal.raise.put

theorem Canonical.loadNext (h : Canonical s) {sp : Nat} : Canonical (s.loadNext sp) := by
  unfold State.loadNext
  split
  · exact h.modPedal.puts.put
  · exact h

theorem Canonical.programSwitch (h : Canonical s) {sp : Nat} : Canonical (programSwitch sp s) :=
  .ite h.loadNext.startProgram.notice h

theorem Canonical.applyPedalRestart (h : Canonical s) {sp : Nat} {v : Int} : Canonical (applyPedalRestart sp v s) :=
  .ite h.loadNext.startProgram h

theorem Canonical.applyBroadcast (h : Canonical s) {v : Int} : Canonical (applyBroadcast v s) := h.put.each fun ht => ht.raise
theorem Canonical.timerExpiry (h : Canonical s) {sp n : Nat} : Canonical (timerExpiry sp n s) := .ite h.modPedal.raise h

theorem Canonical.deliver (h : Canonical s) {sp : Nat} : Canonical (s.deliver sp) := by
  unfold State.deliver
  extract_lets t1
  have h1 : Canonical t1 := by
    unfold t1
    split
    · exact h.modPedal.raise.put
    · exact h
  exact .ite h1 h1.modPedal

theorem Canonical.holdPedals (h : Canonical s) : Canonical s.holdPedals := h.each fun ht => .ite ht.modPedal ht.modPedal.put

theorem Canonical.resumePedals (h : Canonical s) {cause : Nat} : Canonical (s.resumePedals cause) :=
  h.each fun ht => .ite ht.modPedal ht

theorem Canonical.latchSeen (h : Canonical s) {sp : Nat} : Canonical (s.latchSeen sp) := by
  unfold State.latchSeen
  exact h.modPedal

theorem Canonical.sinkError (h : Canonical s) {sp sink : Nat} : Canonical (s.sinkError sp sink) := h.count.notice

theorem Canonical.writeSink (h : Canonical s) {sp sink : Nat} {v : Int} : Canonical (s.writeSink sp sink v) := by
  refine .ite h.sinkError ?_
  dsimp only
  split
  · exact h.modPedal
  · exact h.modPedal
  · exact h.modPedal
  · exact .ite h.notice h.modPedal
  · exact h.modPedal
  · exact h.modPedal
  · exact .ite h.modPedal h.sinkError
  · exact h.modPedal

theorem Canonical.haltPedal (h : Canonical s) {sp pc : Nat} : Canonical (s.haltPedal sp pc) := h.modPedal.puts.notice
theorem Canonical.pedalOp (h : Canonical s) {sp : Nat} {f : Pedal → Pedal} : Canonical (s.pedalOp sp f) := .ite h.modPedal.put h

theorem Canonical.pedalEffect (h : Canonical s) {sp : Nat} {f : State → State} (hf : ∀ {t}, Canonical t → Canonical (f t)) :
    Canonical (s.pedalEffect sp f) :=
  .ite (hf h.modPedal.put) h

theorem Canonical.pedalBranch (h : Canonical s) {sp : Nat} {taken : Bool} {target : Nat} :
    Canonical (s.pedalBranch sp taken target) :=
  .ite h.modPedal.put h

theorem Canonical.pedNop (h : Canonical s) {sp : Nat} : Canonical (pedNop sp s) := h.pedalOp
theorem Canonical.pedLdi (h : Canonical s) {sp d : Nat} {imm : Int} : Canonical (pedLdi sp d imm s) := h.pedalOp
theorem Canonical.pedLdu (h : Canonical s) {sp d imm : Nat} : Canonical (pedLdu sp d imm s) := h.pedalOp
theorem Canonical.pedMov (h : Canonical s) {sp d a : Nat} : Canonical (pedMov sp d a s) := h.pedalOp
theorem Canonical.pedAdd (h : Canonical s) {sp d a b : Nat} : Canonical (pedAdd sp d a b s) := h.pedalOp
theorem Canonical.pedSub (h : Canonical s) {sp d a b : Nat} : Canonical (pedSub sp d a b s) := h.pedalOp
theorem Canonical.pedAddi (h : Canonical s) {sp d a : Nat} {imm : Int} : Canonical (pedAddi sp d a imm s) := h.pedalOp
theorem Canonical.pedAnd (h : Canonical s) {sp d a b : Nat} : Canonical (pedAnd sp d a b s) := h.pedalOp
theorem Canonical.pedOr (h : Canonical s) {sp d a b : Nat} : Canonical (pedOr sp d a b s) := h.pedalOp
theorem Canonical.pedMin (h : Canonical s) {sp d a b : Nat} : Canonical (pedMin sp d a b s) := h.pedalOp
theorem Canonical.pedMax (h : Canonical s) {sp d a b : Nat} : Canonical (pedMax sp d a b s) := h.pedalOp
theorem Canonical.pedEnc (h : Canonical s) {sp d a : Nat} : Canonical (pedEnc sp d a s) := h.pedalOp
theorem Canonical.pedBr (h : Canonical s) {sp cond a b target : Nat} : Canonical (pedBr sp cond a b target s) := h.pedalBranch
theorem Canonical.pedBf (h : Canonical s) {sp mask target : Nat} : Canonical (pedBf sp mask target s) := h.pedalBranch

theorem Canonical.pedWait (h : Canonical s) {sp : Nat} {start : Bool} {mask : Nat} : Canonical (pedWait sp start mask s) :=
  .ite h (.ite h.pedalOp h.modPedal.put)

theorem Canonical.pedYield (h : Canonical s) {sp : Nat} : Canonical (pedYield sp s) := h.pedalOp

theorem Canonical.pedTake (h : Canonical s) {sp d : Nat} {start : Bool} {mask : Nat} : Canonical (pedTake sp d start mask s) :=
  h.pedalOp

theorem Canonical.pedIn (h : Canonical s) {sp d src : Nat} : Canonical (pedIn sp d src s) := h.pedalOp

theorem Canonical.pedOut (h : Canonical s) {sp a sink : Nat} : Canonical (pedOut sp a sink s) :=
  h.pedalEffect fun ht => ht.writeSink

theorem Canonical.pedOuti (h : Canonical s) {sp imm sink : Nat} : Canonical (pedOuti sp imm sink s) :=
  h.pedalEffect fun ht => ht.writeSink

theorem Canonical.pedTset (h : Canonical s) {sp n a : Nat} : Canonical (pedTset sp n a s) := h.pedalOp
theorem Canonical.pedTseti (h : Canonical s) {sp n imm : Nat} : Canonical (pedTseti sp n imm s) := h.pedalOp
theorem Canonical.pedNote (h : Canonical s) {sp a code : Nat} : Canonical (pedNote sp a code s) := h.pedalEffect fun ht => ht.notice
theorem Canonical.pedHalt (h : Canonical s) {sp : Nat} : Canonical (pedHalt sp s) := .ite h.haltPedal h

theorem Canonical.runInstr (h : Canonical s) {i : Instr} : Canonical (s.runInstr i).1 := by
  unfold State.runInstr
  split
  · exact h.pedNop
  · exact h.pedLdi
  · exact h.pedLdu
  · exact h.pedMov
  · exact h.pedAdd
  · exact h.pedSub
  · exact h.pedAddi
  · exact h.pedAnd
  · exact h.pedOr
  · exact h.pedMin
  · exact h.pedMax
  · exact h.pedEnc
  · exact h.pedBr
  · exact h.pedBf
  · exact h.pedWait
  · exact h.pedYield
  · exact h.pedTake
  · exact h.pedIn
  · exact h.pedOut
  · exact h.pedOuti
  · exact h.pedTset
  · exact h.pedTseti
  · exact h.pedNote
  · exact h.pedHalt
  · exact h

theorem Canonical.turn (h : Canonical s) {sp n : Nat} : Canonical (s.turn sp n) := by
  induction n generalizing s with
  | zero => exact h
  | succ n ih =>
    unfold State.turn
    dsimp only
    split
    · exact h.haltPedal
    · split
      · exact h.haltPedal
      · exact .ite (ih h.runInstr) h.runInstr

theorem Canonical.takeFlags (h : Canonical s) {sp mask : Nat} : Canonical (s.takeFlags sp mask) := h.modPedal

theorem Canonical.enterDefault (h : Canonical s) {sp : Nat} {d : DefaultState} : Canonical (s.enterDefault sp d) := by
  unfold State.enterDefault
  extract_lets t1
  have h1 : Canonical t1 := h.modPedal
  split
  · exact h1.takeFlags.modPedal
  · exact h1.takeFlags.takeFlags.modPedal.modPedal
  · exact h1.takeFlags.modPedal
  · exact h1.takeFlags.modPedal
  · exact h1.modPedal
  · exact h1

theorem Canonical.defaultSinks (h : Canonical s) {sp : Nat} : Canonical (s.defaultSinks sp) := by
  unfold State.defaultSinks
  dsimp only
  split <;> exact h.modPedal

theorem Canonical.defaultActs (h : Canonical s) {sp : Nat} : Canonical (s.defaultActs sp) := by
  unfold State.defaultActs
  extract_lets _ _ _ _ _ _ _ t1 t2 t3
  have h1 : Canonical t1 := .ite h.modPedal h
  have h2 : Canonical t2 := .ite h.modPedal h
  have h3 : Canonical t3 := .ite h.modPedal h
  split
  · exact .ite h1.enterDefault h1
  · exact .ite h.takeFlags.enterDefault h
  · exact .ite h.enterDefault (.ite h.notice.enterDefault h)
  · exact .ite h.enterDefault (.ite h.modPedal (.ite h2.modPedal h2))
  · exact .ite h.takeFlags.enterDefault (.ite h.modPedal.enterDefault (.ite h.modPedal.enterDefault (.ite h.enterDefault h)))
  · exact .ite h.enterDefault (.ite h.modPedal h)
  · exact .ite h3.modPedal h3
  · exact .ite h.enterDefault h

theorem Canonical.builtinTurn (h : Canonical s) {sp : Nat} : Canonical (s.builtinTurn sp) := by
  unfold State.builtinTurn
  extract_lets _ _ _ _ t1 _ _ _ _ t2 t3
  have h1 : Canonical t1 := .ite h h.takeFlags
  have h2 : Canonical t2 := .ite h1.enterDefault (.ite h1.enterDefault (.ite h1.enterDefault (.ite h1.enterDefault h1.defaultActs)))
  have h3 : Canonical t3 := h2.defaultSinks
  exact h3.modPedal

theorem Canonical.pedalTurn (h : Canonical s) {sp : Nat} : Canonical (s.pedalTurn sp) :=
  .ite h.modPedal (.ite h.modPedal.builtinTurn h.modPedal.turn)

theorem Canonical.offer (h : Canonical s) {sp : Nat} {identity : Int} {purse : Nat} : Canonical (s.offer sp identity purse) :=
  h.modPedal.raise

theorem Canonical.offerLapse (h : Canonical s) {sp : Nat} : Canonical (offerLapse sp s) := by
  unfold Machine.offerLapse
  split
  · exact .ite h.modPedal.raise.notice h
  · exact h

theorem Canonical.pedalCommit (h : Canonical s) {p : List Nat} : Canonical (s.pedalCommit p) := .puts (h.each fun ht => ht.modPedal)

theorem Canonical.pedalBoot (h : Canonical s) {image : Option (List Nat)} : Canonical (s.pedalBoot image) := by
  refine .each ?_ fun ht => ht.startProgram
  split
  · exact h.pedalCommit.each fun ht => ht.loadNext
  · exact h

theorem Canonical.apply19 (h : Canonical s) {k i m : Nat} {v : Int} : Canonical (apply19 s k i m v) :=
  .ite (.ite h.applyBroadcast h.put) (.ite h.applyPedalRestart h.put)

/-! ### Gates and the lease -/

theorem Canonical.watchSoft (h : Canonical s) {sp : Nat} : Canonical (s.watchSoft sp) := h.modGate

theorem Canonical.discardTest (h : Canonical s) {sp : Nat} : Canonical (s.discardTest sp) := by
  unfold State.discardTest
  split
  · exact h.modGate
  · exact h

theorem Canonical.twSample (h : Canonical s) {sp : Nat} : Canonical (s.twSample sp) := by
  unfold State.twSample
  split
  · exact h.modGate
  · exact h

theorem Canonical.testWinding (h : Canonical s) {sp : Nat} : Canonical (testWinding sp s) := .ite h.modGate.put h

theorem Canonical.testWindingResult (h : Canonical s) {sp : Nat} : Canonical (testWindingResult sp s) := by
  unfold Machine.testWindingResult
  split
  · exact .ite (.ite h.modGate.put (h.modGate.inFrame fun ht => ht.put.setCause.notice)) h
  · exact h

theorem Canonical.readRequest (h : Canonical s) {sp : Nat} : Canonical (s.readRequest sp) := by
  unfold State.readRequest
  exact h.modGate

theorem Canonical.gateClosed (h : Canonical s) {sp : Nat} : Canonical (s.gateClosed sp) :=
  .ite h.openContacts (.ite h.openContacts h.watchSoft)

theorem Canonical.gateOpen (h : Canonical s) {sp : Nat} : Canonical (s.gateOpen sp) :=
  .ite (.modGate (.closeContacts (.ite h h.discardTest))) (.setGate (.ite h h.discardTest))

theorem Canonical.evalGate (h : Canonical s) {sp : Nat} : Canonical (s.evalGate sp) :=
  .put (.ite h.twSample.readRequest.gateClosed h.twSample.readRequest.gateOpen)

theorem Canonical.softGraceEnd (h : Canonical s) {sp : Nat} : Canonical (softGraceEnd sp s) := .ite h.openContactsAt h

theorem Canonical.startLease (h : Canonical s) : Canonical s.startLease :=
  .ite h (.noticeOpen (.put (.each h.update fun ht => ht.discardTest)))

theorem Canonical.leaseReclaim (h : Canonical s) : Canonical (leaseReclaim s) :=
  .ite (.noticeOpen (.resumePedals (.put h.update))) h

theorem Canonical.leaseExpiry (h : Canonical s) : Canonical (leaseExpiry s) :=
  .ite (.each (.noticeOpen (.count (.put h.update))) fun ht => .ite ht.modPedal.modGate ht.modPedal) h

/-! ### Time, tariffs and billing -/

theorem Canonical.noteRate (h : Canonical s) {r : Nat} : Canonical (s.noteRate r) := h.update

theorem Canonical.selectRate (h : Canonical s) {w : Option Nat} : Canonical (s.selectRate w) :=
  .ite h h.closeSegments.put.noteRate.journal

theorem Canonical.rateSwitch (h : Canonical s) : Canonical (rateSwitch s) := h.atStep fun ht => .ite ht ht.selectRate
theorem Canonical.periodFlag (h : Canonical s) {b : Nat} : Canonical (s.periodFlag b) := h.put.flashOp

theorem Canonical.intervalOf (h : Canonical s) {sp : Nat} {full : Bool} {e stamp : Nat} :
    Canonical (s.intervalOf sp full e stamp) :=
  .ite (.ite h.ratchet.puts h.ratchet) h.ratchet

theorem Canonical.closeIntervalWith (h : Canonical s) {stamp : Nat} {flagged : Bool} {energy : Nat → Nat} :
    Canonical (s.closeIntervalWith stamp flagged energy) :=
  .update (.flashOp (.put (.ite (h.each fun ht => ht.intervalOf) (.notice (h.each fun ht => ht.intervalOf)))))

theorem Canonical.closeInterval (h : Canonical s) {stamp : Nat} {flagged : Bool} : Canonical (s.closeInterval stamp flagged) :=
  h.closeSegments.closeIntervalWith

theorem Canonical.startInterval (h : Canonical s) {w : Nat} {short outage : Bool} : Canonical (s.startInterval w short outage) :=
  h.put.update

theorem Canonical.intervalDue (h : Canonical s) : Canonical s.intervalDue := by
  unfold State.intervalDue
  split
  · exact .ite h.closeInterval h
  · exact h

theorem Canonical.demandIntervalClose (h : Canonical s) : Canonical (demandIntervalClose s) := h.atStep fun ht => ht.intervalDue

theorem Canonical.agePeriod (h : Canonical s) {p : Nat} : Canonical (s.agePeriod p) :=
  .each (h.each fun ht => ht.each fun hu => hu.put) fun ht => ht.put

theorem Canonical.latchPeriod (h : Canonical s) : Canonical s.latchPeriod := h.each fun ht => ht.each fun hu => hu.puts

theorem Canonical.billingClose (h : Canonical s) {cause stamp : Nat} : Canonical (s.billingClose cause stamp) :=
  .journal (.flashOp (.flashOp (.notice (.puts (.each (.puts (.foldl (.latchPeriod (.ite h.closeSegments.periodFlag
    h.closeSegments)) fun ht => ht.agePeriod)) fun ht => ht.puts)))))

theorem Canonical.closeAt (h : Canonical s) {cause x : Nat} : Canonical (s.closeAt cause x) := h.billingClose.put

theorem Canonical.periodDue (h : Canonical s) : Canonical s.periodDue := by
  unfold State.periodDue
  split
  · exact .ite (.billingClose h.update) h
  · split
    · exact .ite h.closeAt h
    · exact h

theorem Canonical.billingPeriodClose (h : Canonical s) : Canonical (billingPeriodClose s) := h.atStep fun ht => ht.periodDue
theorem Canonical.applyCloseNow (h : Canonical s) {v : Int} : Canonical (applyCloseNow v s) := .ite h.update h
theorem Canonical.showTariff (h : Canonical s) : Canonical s.showTariff := h.puts.each fun ht => ht.puts
theorem Canonical.tariffCommit (h : Canonical s) {p : List Nat} : Canonical (s.tariffCommit p) := h.puts.update

theorem Canonical.activateTariff (h : Canonical s) {w : Nat} : Canonical (s.activateTariff w) :=
  .selectRate (.periodFlag (.notice (.puts (.showTariff (.update (.ite h h.closeInterval))))))

theorem Canonical.tariffDue (h : Canonical s) : Canonical s.tariffDue := by
  unfold State.tariffDue
  split
  · exact .ite h.activateTariff h
  · exact h

theorem Canonical.tariffActivation (h : Canonical s) : Canonical (tariffActivation s) := h.atStep fun ht => ht.tariffDue
theorem Canonical.applySlew (h : Canonical s) {v : Int} : Canonical (applySlew v s) := h.put.update
theorem Canonical.stepTo (h : Canonical s) {inst v : Nat} : Canonical (s.stepTo inst v) := h.puts.notice.update
theorem Canonical.applyStep (h : Canonical s) {sid : Nat} {v : Int} : Canonical (applyStep sid v s) := h.stepTo

theorem Canonical.closesUpTo (h : Canonical s) {cause w n : Nat} : Canonical (s.closesUpTo cause w n) := by
  induction n generalizing s with
  | zero => exact h
  | succ n ih =>
    unfold State.closesUpTo
    split
    · exact .ite (ih h.closeAt) h
    · exact h

theorem Canonical.regression (h : Canonical s) {old new : Nat} : Canonical (s.regression old new) := h.notice.puts.periodFlag

theorem Canonical.stepDue (h : Canonical s) : Canonical s.stepDue := by
  unfold State.stepDue
  extract_lets _ _ _ t1 t2
  have h1 : Canonical t1 := .periodFlag h.update
  have h2 : Canonical t2 := .ite h1.regression h1
  split
  · exact .ite h (.selectRate (.ite h2.startInterval.closesUpTo (.ite (.closeInterval (.ite h1.regression h1))
      h1.closeInterval.closesUpTo)))
  · exact h

theorem Canonical.stepEffect (h : Canonical s) : Canonical (stepEffect s) := h.atStep fun ht => ht.stepDue
theorem Canonical.advanceWall (h : Canonical s) : Canonical s.advanceWall := .ite h (.ite h.puts.update (.put h.puts.update))
theorem Canonical.invalidateTime (h : Canonical s) : Canonical s.invalidateTime := h.puts.update

theorem Canonical.apply05 (h : Canonical s) {sid k m : Nat} {v : Int} : Canonical (apply05 sid s k m v) :=
  .ite h.applyStep (.ite h.applySlew h.put)

/-! ### Ports and DMA -/

theorem Canonical.modDma (h : Canonical s) {ch : Nat} {f : DmaChan → DmaChan} : Canonical (s.modDma ch f) := h.update
theorem Canonical.dmaStop (h : Canonical s) {ch st : Nat} : Canonical (s.dmaStop ch st) := h.put.modDma
theorem Canonical.dmaError (h : Canonical s) {ch cause : Nat} : Canonical (s.dmaError ch cause) := h.put.dmaStop
theorem Canonical.dmaPoisoned (h : Canonical s) {ch addr : Nat} : Canonical (s.dmaPoisoned ch addr) := h.put.notice.dmaError

theorem Canonical.dmaLoad (h : Canonical s) {ch addr : Nat} : Canonical (s.dmaLoad ch addr) := by
  refine .ite h.put.dmaError ?_
  split
  · exact h.put.poisonedRead.dmaPoisoned
  · exact .ite h.put.dmaError (.ite h.put.dmaError h.put.put.modDma)

theorem Canonical.applyDmaStart (h : Canonical s) {ch : Nat} : Canonical (applyDmaStart ch s) := h.modDma.dmaLoad
theorem Canonical.applyDmaAbort (h : Canonical s) {ch : Nat} : Canonical (applyDmaAbort ch s) := .ite h (.ite h.modDma h.dmaStop)

theorem Canonical.dmaMove (h : Canonical s) {port ch : Nat} {r : RoundIn} : Canonical (s.dmaMove port ch r) := by
  refine .ite h ?_
  split
  · exact h.poisonedRead.dmaPoisoned
  · extract_lets t1 _ t2 t3
    have h1 : Canonical t1 := by
      unfold t1
      split
      · exact h.corrected
      · exact h
    have h2 : Canonical t2 := by
      refine .ite h1.send ?_
      split
      · exact h1.storeWord
      · exact h1
    have h3 : Canonical t3 := h2.modDma
    exact .ite h3.dmaStop h3

theorem Canonical.descriptorComplete (h : Canonical s) {ch : Nat} : Canonical (descriptorComplete ch s) := by
  unfold Machine.descriptorComplete
  extract_lets _ t1
  have h1 : Canonical t1 := .ite h.count h
  exact .ite h (.ite h1.dmaStop (.ite h1.dmaStop h1.modDma.dmaLoad))

theorem Canonical.queueResume (h : Canonical s) {ch fill : Nat} {ended : Bool} : Canonical (queueResume ch fill ended s) := by
  unfold Machine.queueResume
  split
  · exact .ite h.put.put h.put
  · exact h

theorem Canonical.apply03 (h : Canonical s) {k i m : Nat} {v : Int} : Canonical (apply03 s k i m v) :=
  .ite h.applyManualTrigger (.ite h.applyRelease (.ite (.ite h.applyDmaStart h.applyDmaAbort) h.put))

theorem Canonical.coreRead (h : Canonical s) {a : Nat} : Canonical (s.coreRead a).2 := .iteSnd h.drew.poisonedRead h

theorem Canonical.descriptorWindow (h : Canonical s) {w : Option Nat} : Canonical (s.descriptorWindow w).2.2 := by
  refine .iteThird h ?_
  split
  · exact h.setWord.put
  · exact h.coreRead.put

theorem Canonical.hostWindow (h : Canonical s) : Canonical s.hostWindow.2.2 := .iteThird h h.coreRead.put

theorem Canonical.windowRow (h : Canonical s) {sid k : Nat} {r : Nat × Nat × State} (hr : Canonical r.2.2) :
    Canonical (s.windowRow sid k r) :=
  .ite hr.send h.answer

theorem Canonical.applyDescriptorData (h : Canonical s) {v : Int} : Canonical (applyDescriptorData v s) := h.descriptorWindow

theorem Canonical.descriptorWindowData (h : Canonical s) {sid : Nat} {w : Option Nat} : Canonical (descriptorWindowData sid w s) := by
  unfold Machine.descriptorWindowData
  split
  · exact h.writeRow fun ht => ht.applyDescriptorData
  · exact .ite h.answer (h.windowRow h.descriptorWindow)

theorem Canonical.hostAreaData (h : Canonical s) {sid : Nat} : Canonical (hostAreaData sid s) :=
  .ite h.answer (h.windowRow h.hostWindow)

theorem Canonical.modPort (h : Canonical s) {p : Nat} {f : Port → Port} : Canonical (s.modPort p f) := h.update

theorem Canonical.portAccess (h : Canonical s) {port q : Nat} {r : RoundIn} : Canonical (s.portAccess port q r) := by
  refine .ite h.dmaMove ?_
  split
  · exact h.setWord
  · split
    · exact h.corrected
    · exact h.poisonedRead
    · exact .ite h.poisonedRead h

theorem Canonical.sampleFills (h : Canonical s) {fills : List (Nat × Nat)} : Canonical (s.sampleFills fills) := by
  refine .each (h.each fun ht => ht.put) fun ht => ?_
  split
  · exact .ite ht.put ht
  · exact ht

theorem Canonical.derailleurRound (h : Canonical s) {port : Nat} {r : RoundIn} : Canonical (derailleurRound port r s) := by
  unfold Machine.derailleurRound
  extract_lets _ t1 t2 t3
  have h1 : Canonical t1 := h.sampleFills
  have h2 : Canonical t2 := h1.modPort
  have h3 : Canonical t3 := by
    unfold t3
    split
    · exact .ite h2.count h2.portAccess
    · exact h1
  refine .ite h ?_
  split
  · exact .ite h3.modPort h3.modPort
  · exact h3.modPort

theorem Canonical.coreResetPorts (h : Canonical s) : Canonical s.coreResetPorts :=
  .each (h.each fun ht => ht.modPort) fun ht => ht.dmaStop.modDma

/-! ### Key slots -/

theorem Canonical.unwrapFailed (h : Canonical s) {k : Nat} : Canonical (s.unwrapFailed k) := .ite h h.notice
theorem Canonical.orphan (h : Canonical s) {domain : Nat} : Canonical (s.orphan domain) := h.each fun ht => .ite ht.put ht

/-! ### Images -/

theorem Canonical.modRegion (h : Canonical s) {r : Nat} {f : Region → Region} : Canonical (s.modRegion r f) := h.update

/-! ### Charging sessions, credit and tokens -/

theorem Canonical.modSlot (h : Canonical s) {j : Nat} {f : Session → Session} : Canonical (s.modSlot j f) := h.update

theorem Canonical.lowCredit (h : Canonical s) {purse : Nat} : Canonical (s.lowCredit purse) :=
  .ite h (.ite (.notice h.update) (.ite h.update h))

theorem Canonical.savePurse (h : Canonical s) {purse sid : Nat} : Canonical (s.savePurse purse sid) := .ite h h.flashOp
theorem Canonical.priceSlot (h : Canonical s) {j at_ : Nat} : Canonical (s.priceSlot j at_) := h.puts.puts

theorem Canonical.openSession (h : Canonical s) {sp : Nat} {ident : Int} {purse : Nat} : Canonical (s.openSession sp ident purse) := by
  unfold State.openSession
  split
  · exact h
  · exact .lowCredit (.journal (.raise (.priceSlot (.modSlot (.puts (.each (.update (.ite h.notice h)) fun ht => ht.put))))))

theorem Canonical.authorise (h : Canonical s) {sp : Nat} {ident : Int} {purse : Nat} : Canonical (s.authorise sp ident purse).1 :=
  .iteFst h.openSession (.iteFst h.offer h)

theorem Canonical.applyAuthorise (h : Canonical s) {v : Int} : Canonical (applyAuthorise v s) := h.openSession
theorem Canonical.refusedAuthorise (h : Canonical s) {v : Int} : Canonical (s.refusedAuthorise v) := .ite h.offer h

theorem Canonical.authoriseSpoke (h : Canonical s) {sid : Nat} {v : Int} : Canonical (authoriseSpoke sid v s) :=
  .ite (.refusedAuthorise (h.writeRow fun ht => ht.applyAuthorise)) (h.writeRow fun ht => ht.applyAuthorise)

theorem Canonical.endSlot (h : Canonical s) {j reason at_ stamp : Nat} : Canonical (s.endSlot j reason at_ stamp) :=
  .savePurse (.lowCredit (.journal (.raise (.histogram (.modPelo (.ite h.priceSlot.puts h.priceSlot.puts.put))))))

theorem Canonical.endSession (h : Canonical s) {sp reason at_ stamp : Nat} : Canonical (s.endSession sp reason at_ stamp) := by
  unfold State.endSession
  split
  · exact h.endSlot
  · exact h

theorem Canonical.sessionEnd (h : Canonical s) {sp : Nat} : Canonical (s.sessionEnd sp) := by
  unfold State.sessionEnd
  exact .modGate (.ite h.endSession (.ite h.endSession h))

theorem Canonical.sessionEnds (h : Canonical s) : Canonical s.sessionEnds := h.each fun ht => ht.sessionEnd

theorem Canonical.replaceSessions (h : Canonical s) : Canonical s.replaceSessions := by
  refine h.each fun ht => .ite ht ?_
  dsimp only
  split
  · exact .ite ht.modPedal.endSession.openSession ht.modPedal.endSession
  · exact ht.modPedal

theorem Canonical.applyStop (h : Canonical s) {j : Nat} {v : Int} : Canonical (applyStop j v s) := .ite h.raise h
theorem Canonical.applyCollect (h : Canonical s) {j : Nat} {v : Int} : Canonical (applyCollect j v s) := .ite h.put h

theorem Canonical.checkCredit (h : Canonical s) {j : Nat} : Canonical (s.checkCredit j) :=
  .ite h (.ite h.modSlot.raise.notice h.modSlot)

theorem Canonical.costRecomputation (h : Canonical s) : Canonical (costRecomputation s) :=
  .ite h (.each (.each (h.each fun ht => ht.priceSlot.modSlot) fun ht => ht.checkCredit) fun ht => ht.lowCredit)

theorem Canonical.showPurse (h : Canonical s) {p : Nat} : Canonical (s.showPurse p) := h.put
theorem Canonical.showPurses (h : Canonical s) : Canonical s.showPurses := h.each fun ht => ht.showPurse

theorem Canonical.useTid (h : Canonical s) {p tid : Nat} : Canonical (s.useTid p tid) :=
  .ite h.puts (.ite h.puts.notice.put h.puts.notice)

theorem Canonical.acceptToken (h : Canonical s) {inst v : Nat} : Canonical (s.acceptToken inst v) :=
  .lowCredit (.put (.notice (.savePurse (.count (.ite h h.useTid.put)))))

theorem Canonical.refuseToken (h : Canonical s) {inst : Nat} {l : List Nat} {st : Nat} : Canonical (s.refuseToken inst l st) := by
  unfold State.refuseToken
  extract_lets _ t1 t2
  have h1 : Canonical t1 := h.put.notice.drew
  have h2 : Canonical t2 := .ite h1.unwrapFailed h1
  exact .ite h1 (.ite (.noticeOpen h2.update) h2.update)

theorem Canonical.loadTokenKey (h : Canonical s) {v : Nat} : Canonical (s.loadTokenKey v) := .ite h h.forTag

theorem Canonical.enterToken (h : Canonical s) {inst : Nat} {l : List Nat} : Canonical (s.enterToken inst l) := by
  unfold State.enterToken
  dsimp only
  split
  · exact .ite h.loadTokenKey.acceptToken h.loadTokenKey.refuseToken
  · exact h.refuseToken

theorem Canonical.holdAnswer (h : Canonical s) {w : PendingWrite} : Canonical (s.holdAnswer w) := h.update

theorem Canonical.tokenRow (h : Canonical s) {sid : Nat} {v : Int} : Canonical (s.tokenRow sid v) :=
  .ite h.answer (.ite h.enterToken.holdAnswer h.enterToken.answer)

theorem Canonical.tokenLockoutEnd (h : Canonical s) : Canonical (tokenLockoutEnd s) := .ite h.update h

theorem Canonical.apply12 (h : Canonical s) {k i m : Nat} {v : Int} : Canonical (apply12 s k i m v) :=
  .ite (.ite h.applyAuthorise h.put) (.ite h.applyCollect (.ite h.applyStop h.put))

theorem Canonical.apply13 (h : Canonical s) {sid k i m : Nat} {v : Int} : Canonical (apply13 sid s k i m v) :=
  .ite (.ite h.enterToken h.put) (.ite h.put.showPurse (.ite h.put.lowCredit h.put))

end Rules

end Sys2Proof.Machine
end

section
/-! Canonical stores, III: contactless, power loss, tandem, update, the display, power sharing and the tag (O4). -/

namespace Sys2Proof.Machine
set_option Elab.async false

section Rules
variable {s t u : State}

/-! ### Taps and card emulation -/

theorem Canonical.modAerial (h : Canonical s) {a : Nat} {f : Aerial → Aerial} : Canonical (s.modAerial a f) := h.update
theorem Canonical.modFrontEnd (h : Canonical s) {f : Nat} {g : FrontEnd → FrontEnd} : Canonical (s.modFrontEnd f g) := h.update
theorem Canonical.setAerial (h : Canonical s) {a v : Nat} : Canonical (s.setAerial a v) := h.put
theorem Canonical.showFront (h : Canonical s) {f : Nat} : Canonical (s.showFront f) := h.put

theorem Canonical.endExchange (h : Canonical s) {a st : Nat} : Canonical (s.endExchange a st) :=
  h.put.modAerial.modFrontEnd.showFront

theorem Canonical.externalField (h : Canonical s) : Canonical (externalField s) := by
  unfold Machine.externalField
  extract_lets _ t1 t2 t3
  have h1 : Canonical t1 := h.update
  have h2 : Canonical t2 := by
    unfold t2
    split
    · exact h1.endExchange
    · exact h1
  have h3 : Canonical t3 := h2.showFront
  exact .ite h (.ite h3.send h3)

theorem Canonical.fieldAbsent (h : Canonical s) : Canonical (fieldAbsent s) := .showFront h.update

theorem Canonical.ping (h : Canonical s) {a response : Nat} {field : Bool} : Canonical (ping a response field s) := by
  unfold Machine.ping
  extract_lets _ _ _ t1 t2
  have h1 : Canonical t1 := .put (.ite h.drew h)
  have h2 : Canonical t2 := h1.modAerial
  refine .ite h (.ite h.externalField (.ite h ?_))
  split
  · exact .ite h2.put h2.setAerial.modAerial
  · exact .ite (.ite h2.modAerial h2.setAerial.modAerial) h2.modAerial
  · exact h2

theorem Canonical.ambiguous (h : Canonical s) {a : Nat} {cards : List Card} : Canonical (s.ambiguous a cards) := by
  unfold State.ambiguous
  dsimp only
  split
  · exact h.modAerial.modAerial.notice
  · exact h

theorem Canonical.polling (h : Canonical s) {a : Nat} {cards : List Card} {limit : Bool} : Canonical (polling a cards limit s) := by
  unfold Machine.polling
  extract_lets _ _ t1 t2 _ t3 t4
  have h1 : Canonical t1 := h.count.put.when fun ht => ht.noticeOpen
  have h2 : Canonical t2 := .drew (h1.each fun ht => ht.send)
  have h3 : Canonical t3 := h2.modAerial
  have h4 : Canonical t4 := h3.setAerial.notice
  exact .ite h (.ite (.ite h4.modAerial h4.put.noticeOpen.modAerial) h3.modAerial.ambiguous)

theorem Canonical.tapResult (h : Canonical s) {a r : Nat} : Canonical (s.tapResult a r) := .ite h.put h.put.notice

theorem Canonical.lookUp (h : Canonical s) {a : Nat} {ident : Int} : Canonical (s.lookUp a ident) := by
  refine .ite h.tapResult ?_
  split
  · exact .ite h.authorise.tapResult h.tapResult
  · exact .ite h.tapResult h.tapResult.modAerial

theorem Canonical.settleEnd (h : Canonical s) {a : Nat} : Canonical (settleEnd a s) := by
  unfold Machine.settleEnd
  extract_lets _ t1
  have h1 : Canonical t1 := h.setAerial.modAerial
  refine .ite h (.ite h1.put.tapResult ?_)
  split
  · exact h1.put.noticeOpen.tapResult
  · exact .ite h1.put.modAerial.tapResult h1.put.modAerial.lookUp

theorem Canonical.applyDecision (h : Canonical s) {a : Nat} {v : Int} : Canonical (applyDecision a v s) :=
  .ite h.modAerial.tapResult (.ite h.modAerial.authorise.tapResult h.modAerial.tapResult)

theorem Canonical.decisionTimeout (h : Canonical s) {a : Nat} : Canonical (decisionTimeout a s) := .ite h.modAerial.tapResult h

theorem Canonical.applyApdu (h : Canonical s) {a : Nat} {v : Int} : Canonical (applyApdu a v s) := by
  unfold Machine.applyApdu
  dsimp only
  split
  · exact h.count.put
  · exact .ite h.count.modAerial.modFrontEnd.showFront.send.send h.count.modAerial.modFrontEnd.showFront.send

theorem Canonical.apduResponse (h : Canonical s) {a : Nat} {wtx : Option Nat} {resp : List Byte} :
    Canonical (apduResponse a wtx resp s) := by
  refine .ite h (.ite h.endExchange ?_)
  split
  · exact h.modAerial.send
  · exact .ite h.endExchange h.put.endExchange.send

theorem Canonical.waitingTimeCap (h : Canonical s) {a : Nat} : Canonical (waitingTimeCap a s) := .ite h.endExchange.notice.send h
theorem Canonical.emulationReply (h : Canonical s) {l : List Nat} : Canonical (s.emulationReply l) := h.send
theorem Canonical.selectAid (h : Canonical s) {aid : List Nat} : Canonical (s.selectAid aid) := .emulationReply h.update

theorem Canonical.emulationApdu (h : Canonical s) {apdu : List Byte} : Canonical (emulationApdu apdu s) :=
  .ite h (.ite h.selectAid (.ite (.ite (.emulationReply h.update) h.emulationReply) (.ite h.emulationReply (.ite h.update
    h.emulationReply))))

theorem Canonical.emulationWtx (h : Canonical s) : Canonical (emulationWtx s) := by
  unfold Machine.emulationWtx
  split
  · exact h
  · exact .ite (.noticeOpen (.emulationReply h.update)) (.ite (.send h.update) h)

theorem Canonical.showAerial (h : Canonical s) {a : Nat} : Canonical (s.showAerial a) :=
  .ite h.setAerial.modAerial (.ite h.setAerial h)

theorem Canonical.apply21 (h : Canonical s) {k i m : Nat} {v : Int} : Canonical (apply21 s k i m v) :=
  .ite (.ite h.applyDecision (.ite h.applyApdu (.ite h.put.showAerial h.put))) h.put

/-! ### Power loss -/

theorem Canonical.watchSag (h : Canonical s) : Canonical s.watchSag := h.update
theorem Canonical.latchCriteria (h : Canonical s) {next : Bool} : Canonical (s.latchCriteria next) := h.update

theorem Canonical.capture (h : Canonical s) {cause tick stamp : Nat} : Canonical (s.capture cause tick stamp) :=
  h.closeSegments.update

theorem Canonical.repeatCapture (h : Canonical s) : Canonical s.repeatCapture := .ite h.capture h
theorem Canonical.writeImage (h : Canonical s) {r : PfRecord} : Canonical (s.writeImage r) := .foldl h.update fun ht => ht.setWord

theorem Canonical.firstCapture (h : Canonical s) {cause tick stamp : Nat} : Canonical (s.firstCapture cause tick stamp) := by
  unfold State.firstCapture
  extract_lets t1 t2
  have h1 : Canonical t1 := h.capture
  have h2 : Canonical t2 := by
    unfold t2
    split
    · exact h1.writeImage
    · exact h1
  split
  · exact h2.captureKey
  · exact h2

theorem Canonical.decide_ (h : Canonical s) {cause : Nat} : Canonical (s.decide_ cause) := .firstCapture h.count.put.notice.update
theorem Canonical.faultCapture (h : Canonical s) : Canonical s.faultCapture := .capture (.ite h.put h.put.update)
theorem Canonical.showPf (h : Canonical s) : Canonical s.showPf := h.put

theorem Canonical.saveComplete (h : Canonical s) {ok : Bool} : Canonical (saveComplete ok s) := by
  unfold Machine.saveComplete
  split
  · exact h
  · exact .ite h (.ite (.ite (.recorderSave h.puts.forTag.update) h.puts.forTag.update) h.count.noticeOpen.startSave.update)

theorem Canonical.withRing (h : Canonical s) : Canonical s.withRing := h.update
theorem Canonical.keepRecord (h : Canonical s) {x : Notice × List (Nat × Int)} : Canonical (s.keepRecord x) := h.newRecord.puts

theorem Canonical.restoreRecorder (h : Canonical s) {keyOk : Bool} : Canonical (s.restoreRecorder keyOk) := by
  unfold State.restoreRecorder
  split
  · exact .notice (.puts (.each (.withRing (.puts (h.each fun ht => ht.clear))) fun ht => ht.keepRecord))
  · exact h.noticeOpen

theorem Canonical.flashPowerFailRecord (h : Canonical s) : Canonical (flashPowerFailRecord s) := by
  refine .ite h ?_
  split
  · exact .showPf h.update
  · exact h.noticeOpen
  · exact h

theorem Canonical.flashRecordCommit (h : Canonical s) : Canonical (flashRecordCommit s) := by
  unfold Machine.flashRecordCommit
  split
  · exact h.update
  · exact h

theorem Canonical.cancelPf (h : Canonical s) : Canonical s.cancelPf := h.update

theorem Canonical.powerFailAreaErase (h : Canonical s) {k : Nat} {ok : Bool} : Canonical (powerFailAreaErase k ok s) :=
  .ite h (.ite (.showPf h.update) (.showPf (.notice (.count h.update))))

theorem Canonical.latchJournal (h : Canonical s) : Canonical s.latchJournal := by
  unfold State.latchJournal
  split
  · exact h
  · exact .when (.flashOp (.forTag (.drew h.update))) fun ht => ht.recorderSave

theorem Canonical.journalWritten (h : Canonical s) : Canonical s.journalWritten := .ite h.update (.flashOp h.update)

theorem Canonical.journalCommit (h : Canonical s) : Canonical (journalCommit s) := by
  unfold Machine.journalCommit
  split
  · exact .ite (.journalWritten h.update) h
  · exact h

theorem Canonical.journalWriteFailure (h : Canonical s) : Canonical (journalWriteFailure s) := .ite h.count.noticeOpen h

theorem Canonical.switchBase (h : Canonical s) : Canonical s.switchBase := by
  unfold State.switchBase
  split
  · exact h.puts.update
  · exact h

theorem Canonical.setRegister (h : Canonical s) {inst v w f : Nat} : Canonical (s.setRegister inst v w f) := h.puts.modMeter

theorem Canonical.fromJournal (h : Canonical s) {sp : Nat} {j : JRecord} : Canonical (s.fromJournal sp j) :=
  .put (h.each fun ht => ht.setRegister)

theorem Canonical.fromBlock (h : Canonical s) {sp : Nat} {j : JRecord} {b : PfSpoke} : Canonical (s.fromBlock sp j b) :=
  .put (h.fromJournal.each fun ht => ht.setRegister)

theorem Canonical.restoreJournal (h : Canonical s) {sp : Nat} {keyOk : Bool} : Canonical (s.restoreJournal sp keyOk) := by
  unfold State.restoreJournal
  split
  · exact h.fromJournal.put
  · exact h.put

theorem Canonical.restoreSpoke (h : Canonical s) {sp : Nat} {used : Option (PfRecord × Nat)} {keyOk : Bool} :
    Canonical (s.restoreSpoke sp used keyOk) := by
  unfold State.restoreSpoke
  extract_lets t1 t2
  have h1 : Canonical t1 := by
    unfold t1
    split
    · exact h.fromBlock.put
    · exact h.restoreJournal
  have h2 : Canonical t2 := .ite h1.notice h1
  exact .ite h2.notice h2

theorem Canonical.restoreShadows (h : Canonical s) {keyOk : Bool} : Canonical (s.restoreShadows keyOk) := by
  unfold State.restoreShadows
  split
  · exact .puts (h.each fun ht => ht.puts)
  · exact h

theorem Canonical.restoreBase (h : Canonical s) {used : Option (PfRecord × Nat)} {keyOk : Bool} :
    Canonical (s.restoreBase used keyOk) := by
  unfold State.restoreBase
  split
  · exact h.puts.update
  · exact h

theorem Canonical.restoreEnergy (h : Canonical s) {used : Option (PfRecord × Nat)} {keyOk : Bool} :
    Canonical (s.restoreEnergy used keyOk) :=
  .restoreShadows (.restoreBase (.ite (.noticeOpen (.puts (h.each fun ht => ht.restoreSpoke))) (.noticeOpen (.noticeOpen (.puts
    (h.each fun ht => ht.restoreSpoke))))))

theorem Canonical.afterRestoration (h : Canonical s) : Canonical s.afterRestoration := .journal (.noteRate h.cancelPf.update)

/-! ### Tandem -/

theorem Canonical.modPeer (h : Canonical s) {m : Nat} {f : Peer → Peer} : Canonical (s.modPeer m f) := h.update
theorem Canonical.tandemSend (h : Canonical s) : Canonical (tandemSend s) := .ite (.send (.send h.put.update)) h
theorem Canonical.refreshTandem (h : Canonical s) : Canonical s.refreshTandem := h.put.each fun ht => ht.setCause

theorem Canonical.losePeer (h : Canonical s) {m code : Nat} : Canonical (s.losePeer m code) :=
  h.put.modPeer.noticeOpen.refreshTandem

theorem Canonical.acceptSeq (h : Canonical s) {m seq : Nat} : Canonical (s.acceptSeq m seq) := .modPeer (.ite h.put h)

theorem Canonical.matchedPair (h : Canonical s) {m seq : Nat} {b : List Nat} : Canonical (s.matchedPair m seq b) :=
  .refreshTandem (.modPeer (.ite h.puts.put.noticeOpen h.puts))

theorem Canonical.tandemCopy (h : Canonical s) {net : Nat} {msg : List Byte} : Canonical (tandemCopy net msg s) := by
  unfold Machine.tandemCopy
  extract_lets _ _ _ _ _ t1
  have h1 : Canonical t1 := .ite h.modPeer.notice.refreshTandem h
  refine .ite h (.ite h.count (.ite h ?_))
  split
  · exact .ite h1.matchedPair h1.acceptSeq.count.losePeer
  · exact .ite h1 h1.modPeer

theorem Canonical.missingTwin (h : Canonical s) {m seq : Nat} : Canonical (missingTwin m seq s) := by
  unfold Machine.missingTwin
  split
  · exact .ite h.acceptSeq.count.losePeer h
  · exact h

theorem Canonical.tandemSilence (h : Canonical s) {m : Nat} : Canonical (tandemSilence m s) := .ite h.losePeer h
theorem Canonical.restartTandem (h : Canonical s) : Canonical s.restartTandem := .refreshTandem (h.each fun ht => ht.put.modPeer)

theorem Canonical.apply1E (h : Canonical s) {k i m : Nat} {v : Int} : Canonical (apply1E s k i m v) :=
  .ite h.put.restartTandem (.ite h.put.refreshTandem h.put)

/-! ### Settings, regions and the flash -/

theorem Canonical.dropOther (h : Canonical s) {r : Nat} : Canonical (s.dropOther r) := h.puts

theorem Canonical.openRegion (h : Canonical s) {r owner size : Nat} : Canonical (s.openRegion r owner size) :=
  h.puts.dropOther.modRegion

theorem Canonical.regionIdle (h : Canonical s) {r result : Nat} : Canonical (s.regionIdle r result) := h.puts.dropOther.modRegion
theorem Canonical.abortRegion (h : Canonical s) {r : Nat} : Canonical (s.abortRegion r) := h.regionIdle.noticeOpen
theorem Canonical.ownerEnds (h : Canonical s) {sid : Nat} : Canonical (s.ownerEnds sid) := h.each fun ht => .ite ht.abortRegion ht
theorem Canonical.freeSid (h : Canonical s) {sid : Nat} : Canonical (s.freeSid sid) := h.puts.modSession

theorem Canonical.endKod (h : Canonical s) {sid reason : Nat} : Canonical (s.endKod sid reason) :=
  .ite (.freeSid (.notice (.ownerEnds h.update))) (.ite h.freeSid h)

theorem Canonical.endBound (h : Canonical s) {i : Nat} : Canonical (s.endBound i) := h.each fun ht => .ite ht.endKod ht
theorem Canonical.dropUpdates (h : Canonical s) : Canonical s.dropUpdates := h.each fun ht => .ite ht.regionIdle.notice ht
theorem Canonical.finishRegion (h : Canonical s) {r : Nat} : Canonical (s.finishRegion r) := h.put.modRegion
theorem Canonical.commitRegion (h : Canonical s) {r : Nat} : Canonical (s.commitRegion r) := h.modRegion.put.flashOp

theorem Canonical.applyRegionCommand (h : Canonical s) {sid r : Nat} {v : Int} : Canonical (applyRegionCommand sid r v s) :=
  .ite h.openRegion (.ite h.finishRegion (.ite h.commitRegion h.abortRegion))

theorem Canonical.stageWord (h : Canonical s) {r o w : Nat} : Canonical (s.stageWord r o w) := .ite h.modRegion.put h.modRegion
theorem Canonical.applyData (h : Canonical s) {r : Nat} {w : Int} : Canonical (applyData r w s) := h.stageWord.put
theorem Canonical.readData (h : Canonical s) {r : Nat} : Canonical (s.readData r).1 := h.put

theorem Canonical.apply0F (h : Canonical s) {sid k r m : Nat} {v : Int} : Canonical (apply0F sid s k r m v) :=
  .ite h.applyRegionCommand (.ite h.applyData h.put)

theorem Canonical.flushRegion (h : Canonical s) {r : Nat} : Canonical (s.flushRegion r) := h.modRegion.put
theorem Canonical.stagingFlush (h : Canonical s) {r : Nat} : Canonical (stagingFlush r s) := .ite h.flushRegion h

theorem Canonical.loadSettings (h : Canonical s) {vals : List (Nat × Int)} : Canonical (s.loadSettings vals) :=
  .put (.each (.showPurses (.assignMasks (.each (.puts (h.each fun ht => ht.clear)) fun ht => .ite (.ite ht ht.modChan) (.puts
    (.modChan (.ite ht ht.modChan)))))) fun ht => ht.showAerial)

theorem Canonical.commitSettings (h : Canonical s) {vals : List (Nat × Int)} : Canonical (s.commitSettings vals) := by
  unfold State.commitSettings
  extract_lets t1 _ _ t2 t3 t4 t5 _ t6 t7 t8 t9 t10 t11 t12
  have h2 : Canonical t2 := .loadSettings (h.each fun ht => ht.closeSegment)
  have h3 : Canonical t3 := h2.each fun ht => ht.restartIntegrators.setCause
  have h4 : Canonical t4 := h3.each fun ht => ht.startGroup
  have h5 : Canonical t5 := h4.each fun ht => ht.put
  have h6 : Canonical t6 := h5.each fun ht => ht.modPilot
  have h7 : Canonical t7 := .ite h6.restartCurve h6
  have h8 : Canonical t8 := h7.each fun ht => ht.zoneCause
  have h9 : Canonical t9 := .ite h8.restartTandem (.ite h8.refreshTandem h8)
  have h10 : Canonical t10 := h9.each fun ht => ht.clearHist
  have h11 : Canonical t11 := h10.each fun ht => ht.clearPair
  have h12 : Canonical t12 := h11.each fun ht => ht.modSwitch
  exact .ite h12 h12.update

theorem Canonical.bodyCheck (h : Canonical s) {r : Nat} {p : List Nat} : Canonical (s.bodyCheck r p).1 := by
  unfold State.bodyCheck
  extract_lets own ref t
  have ht : Canonical t := h.reportPlan
  have hown : ∀ x, Canonical (own x).1 := fun x => by
    cases x with
    | none => exact h
    | some i => exact .ite h h.notice
  clear_value own t ref
  split
  · exact h
  · split
    · exact h
    · split
      · exact ht
      · exact .iteFst ht ht
  · exact hown _
  · exact hown _
  · exact hown _
  · exact hown _

theorem Canonical.failRegion (h : Canonical s) {r st idx : Nat} : Canonical (s.failRegion r st idx) := h.regionIdle.notice

theorem Canonical.imageVerification (h : Canonical s) {r : Nat} : Canonical (imageVerification r s) := by
  refine .ite h ?_
  extract_lets t w
  have ht : Canonical t := h.flushRegion
  split
  · exact .failRegion (.ite ht.noticeOpen ht)
  · have hcheck : Canonical (t.bodyCheck r (w.drop headWords)).1 := ht.bodyCheck
    split
    · next hbody =>
      rw [hbody] at hcheck
      exact hcheck.failRegion
    · next hbody =>
      rw [hbody] at hcheck
      exact .ite hcheck.puts.commitRegion hcheck.puts

theorem Canonical.swapSlots (h : Canonical s) {r other : Nat} : Canonical (s.swapSlots r other) := h.puts
theorem Canonical.committed (h : Canonical s) {r : Nat} : Canonical (s.committed r) := .ite h.swapSlots.put.update h.swapSlots
theorem Canonical.showLog (h : Canonical s) : Canonical s.showLog := h.put
theorem Canonical.ratchetSvn (h : Canonical s) : Canonical s.ratchetSvn := .ite h.put.noticeOpen h

theorem Canonical.rebind (h : Canonical s) : Canonical (s.rebind t) :=
  h.each fun ht => .ite ht.endBound.update ht

theorem Canonical.restartNow (h : Canonical s) : Canonical s.restartNow := h.update

theorem Canonical.regionEffect (h : Canonical s) {r : Nat} : Canonical (s.regionEffect r) := by
  unfold State.regionEffect
  dsimp only
  split
  · exact .restartNow h.puts.update
  · exact .showLog (.update (.awaitPlan (h.commitSettings.rebind)))
  · exact h.tariffCommit
  · exact h.pedalCommit
  · exact h

theorem Canonical.commitEffect (h : Canonical s) {r : Nat} : Canonical (commitEffect r s) :=
  .ite h h.swapSlots.puts.count.modRegion.notice.regionEffect

theorem Canonical.commitsInForce (h : Canonical s) : Canonical s.commitsInForce := h.each fun ht => ht.commitEffect
theorem Canonical.confirmTrial (h : Canonical s) : Canonical s.confirmTrial := .ratchetSvn (.noticeOpen h.puts.flashOp.update)

theorem Canonical.fallBack (h : Canonical s) {cause : Nat} : Canonical (s.fallBack cause) :=
  .restartNow (.notice h.swapSlots.puts.flashOp.update)

theorem Canonical.trialWindowEnd (h : Canonical s) : Canonical (trialWindowEnd s) := by
  unfold Machine.trialWindowEnd
  split
  · exact .ite h.fallBack h
  · exact h

theorem Canonical.applyConfirm (h : Canonical s) {v : Int} : Canonical (applyConfirm v s) := .ite h.confirmTrial h
theorem Canonical.applyReject (h : Canonical s) {v : Int} : Canonical (applyReject v s) := .ite h.fallBack h
theorem Canonical.selfConfirmation (h : Canonical s) : Canonical (selfConfirmation s) := .ite h.confirmTrial h

theorem Canonical.apply31 (h : Canonical s) {k i m : Nat} {v : Int} : Canonical (apply31 s k i m v) :=
  .ite h.applyConfirm (.ite h.applyReject h.put)

theorem Canonical.settingLogAppend (h : Canonical s) : Canonical (settingLogAppend s) := by
  unfold Machine.settingLogAppend
  split
  · exact h
  · exact .ite h (.showLog h.update)

theorem Canonical.opDone (h : Canonical s) {o : FlashOp} : Canonical (s.opDone o) := h.update

theorem Canonical.opEnds (h : Canonical s) {o : FlashOp} : Canonical (s.opEnds o) := by
  unfold State.opEnds
  split
  · exact h.flashRecordCommit
  · exact h.journalCommit
  · exact h.opDone.drew.forTag.update
  · exact h.opDone.drew.forTag.update
  · exact h.opDone.update
  · exact h.opDone.update
  · exact h.opDone.modRegion.update

theorem Canonical.operationEnds (h : Canonical s) {ok : Bool} : Canonical (State.operationEnds ok s) := by
  unfold State.operationEnds
  split
  · exact h
  · exact .ite h.opEnds (.ite h.count.noticeOpen.journalWriteFailure h.count.noticeOpen.update)

theorem Canonical.startOp (h : Canonical s) : Canonical s.startOp := h.update

/-! ### The display -/

theorem Canonical.dsp (h : Canonical s) {f : Display → Display} : Canonical (s.dsp f) := h.update
theorem Canonical.modRect (h : Canonical s) {i : Nat} {f : Slot → Slot} : Canonical (s.modRect i f) := h.dsp
theorem Canonical.showEngine (h : Canonical s) : Canonical s.showEngine := h.put
theorem Canonical.endRect (h : Canonical s) {i st : Nat} : Canonical (s.endRect i st) := h.puts.modRect

theorem Canonical.refuseRect (h : Canonical s) {st : Nat} : Canonical (s.refuseRect st) := by
  unfold State.refuseRect
  split
  · exact h.put
  · exact h

theorem Canonical.noRange (h : Canonical s) : Canonical s.noRange := h.notice
theorem Canonical.beginMode (h : Canonical s) {i range : Nat} : Canonical (s.beginMode i range) := h.modRect.puts.modRect
theorem Canonical.turnPlanes (h : Canonical s) {i n : Nat} : Canonical (s.turnPlanes i n) := .ite h h.modRect
theorem Canonical.scanned (h : Canonical s) {underruns : List Nat} : Canonical (s.scanned underruns) := .ite h h.send.update
theorem Canonical.panelOn (h : Canonical s) : Canonical s.panelOn := .ite h h.dsp
theorem Canonical.panelOff (h : Canonical s) {later : Bool} : Canonical (s.panelOff later) := h.dsp

theorem Canonical.watchIdle (h : Canonical s) : Canonical s.watchIdle := by
  unfold State.watchIdle
  exact h.dsp

theorem Canonical.panelTick (h : Canonical s) : Canonical s.panelTick := h.dsp.when fun ht => ht.showEngine

theorem Canonical.readTemp (h : Canonical s) {temp : Option Int} : Canonical (s.readTemp temp) := by
  unfold State.readTemp
  split
  · exact h.put.dsp
  · exact h

theorem Canonical.takeRanges (h : Canonical s) : Canonical s.takeRanges := by
  refine h.each fun ht => ?_
  split
  · exact ht.beginMode
  · exact ht.noRange.endRect.drew

theorem Canonical.powerGood (h : Canonical s) {reg : Nat} {temp : Option Int} : Canonical (powerGood reg temp s) :=
  .ite h (.ite h h.send.readTemp.dsp.takeRanges.watchIdle.showEngine)

theorem Canonical.powerGoodTimeout (h : Canonical s) : Canonical (powerGoodTimeout s) :=
  .ite h (.showEngine (.noticeOpen (.panelOff (h.each fun ht => ht.endRect))))

theorem Canonical.displayIdle (h : Canonical s) : Canonical (displayIdle s) := by
  unfold Machine.displayIdle
  split
  · exact .ite h.panelOff.put h
  · exact h

theorem Canonical.panelTemperatureRead (h : Canonical s) {temp : Option Int} : Canonical (panelTemperatureRead temp s) := by
  unfold Machine.panelTemperatureRead
  split
  · exact .ite h.readTemp h
  · exact h

theorem Canonical.applyClearCrack (h : Canonical s) {v : Int} : Canonical (applyClearCrack v s) := .ite h.put.noticeOpen h

theorem Canonical.applyUpdateRequest (h : Canonical s) {v : Int} : Canonical (applyUpdateRequest v s) :=
  h.dsp.put.each fun ht => .ite ht.put ht

theorem Canonical.drawWindow (h : Canonical s) {w : Option Nat} : Canonical (s.drawWindow w).2.2 := by
  refine .iteThird h (.put ?_)
  split
  · exact h.dsp
  · exact h

theorem Canonical.applyDrawData (h : Canonical s) {v : Int} : Canonical (applyDrawData v s) := h.drawWindow

theorem Canonical.drawData (h : Canonical s) {sid : Nat} {w : Option Nat} : Canonical (drawData sid w s) := by
  unfold Machine.drawData
  split
  · exact h.writeRow fun ht => ht.applyDrawData
  · exact .ite h.answer (h.windowRow h.drawWindow)

theorem Canonical.apply24 (h : Canonical s) {k m : Nat} {v : Int} : Canonical (apply24 s k m v) :=
  .ite h.applyClearCrack.drew (.ite h.applyUpdateRequest (.ite h.applyDrawData h.put))

theorem Canonical.tryAdmit (h : Canonical s) {closed : Bool} {kept : List Nat} {r : Nat} : Canonical (s.tryAdmit closed kept r).1 := by
  refine .iteFst h.refuseRect (.iteFst h.refuseRect ?_)
  split
  · exact h
  · refine .iteFst h.put.noticeOpen.refuseRect (.iteFst h.noRange.refuseRect.drew (.panelOn ?_))
    split
    · exact .ite h.puts.dsp.modRect.beginMode h.puts.dsp.modRect
    · exact h.puts.dsp.modRect

theorem Canonical.loadTable (h : Canonical s) : Canonical s.loadTable := .ite h h.put.dsp

theorem Canonical.displayAdmission (h : Canonical s) {low high : Bool} : Canonical (displayAdmission low high s) :=
  .ite h (.showEngine (.watchIdle (.put (.dsp (h.loadTable.foldlFst fun ht => ht.tryAdmit)))))

theorem Canonical.underrun (h : Canonical s) {i n : Nat} : Canonical (s.underrun i n) :=
  .modRect (h.each fun ht => ht.count.noticeOpen)

theorem Canonical.modeEnds (h : Canonical s) {i : Nat} : Canonical (s.modeEnds i) := by
  unfold State.modeEnds
  dsimp only
  split
  · exact h.put.modRect.beginMode
  · exact .ite h.modRect.put.modRect.beginMode (.ite h.puts.modRect h.endRect)

theorem Canonical.panelFrame (h : Canonical s) {underruns : List Nat} : Canonical (panelFrame underruns s) := by
  unfold Machine.panelFrame
  split
  · exact h
  · exact .ite h (.showEngine (.watchIdle (.dsp (.each (h.scanned.each fun ht => .ite (.endRect (.turnPlanes (.put (ht.when fun hu
      => hu.underrun)))) (.ite (.modeEnds (.turnPlanes (.put (ht.when fun hu => hu.underrun)))) (.turnPlanes (.put (ht.when fun hu
      => hu.underrun))))) fun ht => ht.modRect))))

theorem Canonical.recoverSlots (h : Canonical s) : Canonical s.recoverSlots :=
  .ite h (.showEngine (.panelOn (h.each fun ht => ht.puts.modRect)))

theorem Canonical.dropRequests (h : Canonical s) : Canonical s.dropRequests := h.dsp.put
theorem Canonical.displayDecision (h : Canonical s) : Canonical s.displayDecision := .dropRequests (.ite h.panelOff.noticeOpen h)
theorem Canonical.displayResume (h : Canonical s) : Canonical s.displayResume := h.recoverSlots
theorem Canonical.displayReset (h : Canonical s) : Canonical s.displayReset := h.panelOff.dropRequests.put
theorem Canonical.displayRestart (h : Canonical s) : Canonical s.displayRestart := .ite h h.recoverSlots.noticeOpen

theorem Canonical.displayPowerUp (h : Canonical s) {map : List Nat} : Canonical (s.displayPowerUp map) :=
  .recoverSlots (h.loadTable.each fun ht => .ite ht.puts ht.puts.modRect.notice)

/-! ### The keypad -/

theorem Canonical.keyScan (h : Canonical s) {keys : List Nat} : Canonical (s.keyScan keys) := .ite h.noticeOpen h.update

theorem Canonical.keyColumn (h : Canonical s) {keys : List Nat} : Canonical (s.keyColumn keys) :=
  .ite h (.ite (.keyScan h.update) h.update)

theorem Canonical.keyEvent (h : Canonical s) {k : Nat} {press : Bool} : Canonical (s.keyEvent k press) := h.put.count.update
theorem Canonical.setDigits (h : Canonical s) {l : List Nat} : Canonical (s.setDigits l) := h.put.update

theorem Canonical.tokenKey (h : Canonical s) {k : Nat} : Canonical (s.tokenKey k) :=
  .ite h (.ite (.ite h.setDigits h) (.ite h.setDigits (.ite h.enterToken.setDigits h)))

theorem Canonical.keyPress (h : Canonical s) {k : Nat} : Canonical (keyPress k s) := .ite h.keyEvent.tokenKey h
theorem Canonical.hashFirst (h : Canonical s) : Canonical s.hashFirst := .ite h.keyPress h

theorem Canonical.tokenEntry (h : Canonical s) {sid : Nat} {v : Int} : Canonical (tokenEntry sid v s) :=
  h.inTurn fun ht => .tokenRow (ht.when fun hu => hu.hashFirst)

theorem Canonical.keyRelease (h : Canonical s) {k : Nat} : Canonical (keyRelease k s) := .ite h.keyEvent h
theorem Canonical.entryTimeout (h : Canonical s) : Canonical (entryTimeout s) := .ite h.setDigits.noticeOpen h

/-! ### Power sharing -/

theorem Canonical.modGuard (h : Canonical s) {c ph : Nat} {f : GuardPhase → GuardPhase} : Canonical (s.modGuard c ph f) := h.update
theorem Canonical.latchPeloton (h : Canonical s) : Canonical s.latchPeloton := h.update

theorem Canonical.publish (h : Canonical s) {sp now g : Nat} : Canonical (s.publish sp now g) :=
  .ite h.put.modPelo h.put.modPelo.raise

theorem Canonical.raiseTrims (h : Canonical s) : Canonical s.raiseTrims := h.each fun ht => .ite ht.modGuard ht
theorem Canonical.showGuard (h : Canonical s) : Canonical s.showGuard := h.each fun ht => ht.puts.puts

theorem Canonical.publishPeriod (h : Canonical s) : Canonical s.publishPeriod :=
  .put (.showGuard (.raiseTrims (h.each fun ht => .modPelo (ht.publish.puts.when fun hu => hu.notice))))

theorem Canonical.allocationPeriod (h : Canonical s) {finished : Bool} : Canonical (allocationPeriod finished s) :=
  .ite h (.ite h.publishPeriod h.count.noticeOpen.raiseTrims.showGuard)

theorem Canonical.guardOpens (h : Canonical s) {c ph : Nat} : Canonical (s.guardOpens c ph) := by
  refine .ite h ?_
  dsimp only
  split
  · exact h.modGuard.openContacts
  · exact h.modGuard

theorem Canonical.evalGuard (h : Canonical s) : Canonical s.evalGuard :=
  .showGuard (.each (.each (h.each fun ht => ht.modGuard) fun ht => ht.guardOpens) fun ht => .ite ht.modPelo ht)

theorem Canonical.guardStage1 (h : Canonical s) {c ph : Nat} : Canonical (guardStage1 c ph s) := .ite h.modGuard.notice.showGuard h
theorem Canonical.guardMark (h : Canonical s) {c sp : Nat} : Canonical (s.guardMark c sp) := h.modPelo.put.count

theorem Canonical.guardStage2 (h : Canonical s) {c ph : Nat} : Canonical (guardStage2 c ph s) := by
  refine .ite h ?_
  dsimp only
  split
  · refine .guardMark (.notice ?_)
    split
    · exact h.modGuard.showGuard.applyStop
    · exact h.modGuard.showGuard
  · exact h.modGuard.showGuard

theorem Canonical.guardStage3 (h : Canonical s) {c ph : Nat} : Canonical (guardStage3 c ph s) := by
  refine .ite h ?_
  dsimp only
  split
  · exact h.modGuard.showGuard.notice.guardMark
  · exact h.modGuard.showGuard

theorem Canonical.guardRecovery (h : Canonical s) {c ph : Nat} : Canonical (guardRecovery c ph s) :=
  .ite h.modGuard.notice.showGuard h

theorem Canonical.guardZero (h : Canonical s) : Canonical s.guardZero := h.each fun ht => .ite ht.modPelo.publish.put.raise ht
theorem Canonical.logCap (h : Canonical s) {i : Nat} : Canonical (s.logCap i) := h.update
theorem Canonical.freeCap (h : Canonical s) {i : Nat} : Canonical (s.freeCap i) := .logCap (.puts h.update)
theorem Canonical.discardCap (h : Canonical s) {i : Nat} : Canonical (s.discardCap i) := h.notice.freeCap
theorem Canonical.activateCap (h : Canonical s) {i : Nat} : Canonical (s.activateCap i) := h.puts.notice.logCap

theorem Canonical.capActivation (h : Canonical s) {i : Nat} : Canonical (capActivation i s) := by
  refine .ite h ?_
  split
  · exact .ite (.activateCap h.update) h
  · exact .ite h.activateCap h

theorem Canonical.rebound (h : Canonical s) : Canonical s.rebound := h.drew.update
theorem Canonical.endCap (h : Canonical s) {i : Nat} : Canonical (s.endCap i) := h.notice.freeCap.rebound
theorem Canonical.capEnd (h : Canonical s) {i : Nat} : Canonical (capEnd i s) := .ite h.endCap h

theorem Canonical.reboundDelayEnd (h : Canonical s) : Canonical (reboundDelayEnd s) := by
  unfold Machine.reboundDelayEnd
  split
  · exact .ite h.update h
  · exact h

/-! ### The dormant tag -/

theorem Canonical.tagReply (h : Canonical s) {l : List Nat} : Canonical (s.tagReply l) := h.send

theorem Canonical.reqa (h : Canonical s) : Canonical (reqa s) := by
  refine .ite h.modTag ?_
  split
  · exact h.modTag.tagReply
  · exact h

theorem Canonical.wupa (h : Canonical s) : Canonical (wupa s) := by
  refine .ite h.modTag ?_
  split
  · exact h.modTag.tagReply
  · exact h.reqa

theorem Canonical.anticollision (h : Canonical s) {level bits uid : Nat} : Canonical (anticollision level bits uid s) := by
  refine .ite h ?_
  split
  · exact .ite h.modTag (.ite h.modTag (.ite (.ite h.modTag.tagReply h.modTag.tagReply) h.send))
  · exact h

theorem Canonical.hlta (h : Canonical s) : Canonical (hlta s) := .ite h.modTag h
theorem Canonical.tagRead (h : Canonical s) {page : Nat} : Canonical (tagRead page s) := .ite h (.ite h.tagReply h.tagReply)
theorem Canonical.startProg (h : Canonical s) {p : TagProg} : Canonical (s.startProg p) := h.modTag

theorem Canonical.commitMarkerWrite (h : Canonical s) {page : Nat} {data : List Byte} {supplyOk : Bool} :
    Canonical (commitMarkerWrite page data supplyOk s) :=
  .ite h (.ite h.tagReply (.ite h.tagReply h.startProg))

theorem Canonical.tagWrite (h : Canonical s) {page : Nat} {data : List Byte} {supplyOk : Bool} :
    Canonical (tagWrite page data supplyOk s) :=
  .ite h.commitMarkerWrite (.ite h (.ite h.tagReply (.ite h.startProg h.tagReply)))

theorem Canonical.ownPage (h : Canonical s) : Canonical s.ownPage := by
  refine .ite h ?_
  split
  · exact h.startProg
  · exact h

theorem Canonical.tagTick (h : Canonical s) : Canonical s.tagTick := by
  unfold State.tagTick
  split
  · exact h
  · refine .ite h ?_
    split
    · exact (h.modTag tagSet_wf).tagReply
    · exact (h.modTag tagSet_wf).startProg
    · exact (h.modTag tagSet_wf).tagReply
    · exact (h.modTag tagSet_wf).ownPage

theorem Canonical.freePage (h : Canonical s) {page : Nat} : Canonical (s.freePage page) :=
  (h.modTag tornPage_wf).drew

theorem Canonical.tagFieldLost (h : Canonical s) : Canonical (tagFieldLost s) := by
  refine .put (.modTag ?_)
  split
  · exact h.freePage
  · exact h.freePage
  · exact h.freePage
  · exact h
  · exact h

theorem Canonical.fdetRelease (h : Canonical s) : Canonical (fdetRelease s) := .ite h h.modTag.put.count

theorem Canonical.fdetLow (h : Canonical s) : Canonical (fdetLow s) := by
  unfold Machine.fdetLow
  split
  · exact .ite h.modTag h
  · exact h

theorem Canonical.identityRewrite (h : Canonical s) : Canonical (identityRewrite s) := .ite h.ownPage h

end Rules

end Sys2Proof.Machine
end

section
/-! Canonical stores, IV: the vehicle link, the vault, Chainline, resets, services, the tick, and the step (O4). -/

namespace Sys2Proof.Machine
set_option Elab.async false

section Rules
variable {s t u : State}

/-! ### The vehicle link -/

theorem Canonical.say (h : Canonical s) {sp : Nat} {m : String} {v : List Int} : Canonical (s.say sp m v) := h.send
theorem Canonical.endVehicle (h : Canonical s) {sp : Nat} : Canonical (s.endVehicle sp) := h.setVehicleMax.puts.modVLink
theorem Canonical.leaveLink (h : Canonical s) {sp st : Nat} : Canonical (s.leaveLink sp st) := h.endVehicle.modVLink.setLinkState

theorem Canonical.failedAttempt (h : Canonical s) {sp : Nat} : Canonical (s.failedAttempt sp) :=
  .ite h.put.leaveLink.notice h.put.leaveLink

theorem Canonical.abnormal (h : Canonical s) {sp : Nat} : Canonical (s.abnormal sp) := h.leaveLink.notice

theorem Canonical.evalLink (h : Canonical s) {sp : Nat} : Canonical (s.evalLink sp) := by
  unfold State.evalLink
  extract_lets _ t1
  have h1 : Canonical t1 := h.put
  exact .ite h (.ite (.ite h1 h1.leaveLink) (.ite h1.leaveLink (.ite h1.setLinkState (.ite h1.modVLink h1))))

theorem Canonical.restartVehicle (h : Canonical s) : Canonical s.restartVehicle :=
  .each h.update fun ht => .ite (.raise (.abnormal (.ite ht.put.modVLink ht))) (.ite ht.put.modVLink ht)

theorem Canonical.loseTls (h : Canonical s) : Canonical s.loseTls := h.each fun ht => .ite ht.abnormal ht

theorem Canonical.modRun (h : Canonical s) {run mac : Nat} {f : SlacRun → SlacRun} : Canonical (s.modRun run mac f) :=
  .ite h.update h.update

theorem Canonical.answerParm (h : Canonical s) {run mac : Nat} {l : List Nat} : Canonical (s.answerParm run mac l) :=
  h.each fun ht => ht.say.modVLink

theorem Canonical.cmSlacParmReq (h : Canonical s) {rx : List Nat} {run mac : Nat} : Canonical (cmSlacParmReq rx run mac s) :=
  .ite h (.ite h.modRun.wakeBy h.modRun.answerParm)

theorem Canonical.slacTick (h : Canonical s) : Canonical s.slacTick := .each h.update fun ht => ht.answerParm

theorem Canonical.cmStartAttenCharInd (h : Canonical s) {rx : List Nat} {run mac : Nat} :
    Canonical (cmStartAttenCharInd rx run mac s) :=
  .ite h h.modRun

theorem Canonical.cmMnbcSoundInd (h : Canonical s) {run : SlacRunId} {atten : List (Nat × List Nat)} :
    Canonical (cmMnbcSoundInd run atten s) :=
  .ite h h.update

theorem Canonical.showMargin (h : Canonical s) {m : Option Int} : Canonical (s.showMargin m) := by
  unfold State.showMargin
  split
  · exact .ite h.put h.put.drew
  · exact h.put.drew

theorem Canonical.decideRun (h : Canonical s) {r : SlacRun} : Canonical (s.decideRun r) := by
  unfold State.decideRun
  extract_lets t1 t2
  have h1 : Canonical t1 := h.each fun ht => ht.put
  have h2 : Canonical t2 := h1.update
  split
  · exact h2.put
  · exact .ite h1.showMargin.put.say.update (h2.showMargin.put.notice.each fun ht => ht.count.failedAttempt)

theorem Canonical.soundingWindowEnd (h : Canonical s) {run : SlacRunId} : Canonical (soundingWindowEnd run s) := by
  unfold Machine.soundingWindowEnd
  split
  · split
    · exact .ite h.decideRun h
    · exact h
  · exact h

theorem Canonical.cmSlacMatchReq (h : Canonical s) {sp run mac : Nat} : Canonical (cmSlacMatchReq sp run mac s) :=
  .ite (.noticeOpen (.setLinkState (.count (.puts (.say h.modVLink.drew.update))))) h

theorem Canonical.cmValidateReq (h : Canonical s) {sp : Nat} : Canonical (cmValidateReq sp s) := .ite h.say h

theorem Canonical.matchTimeout (h : Canonical s) {sp : Nat} : Canonical (matchTimeout sp s) := by
  unfold Machine.matchTimeout
  split
  · exact .ite h.failedAttempt h
  · exact h

theorem Canonical.seccDiscovery (h : Canonical s) {sp : Nat} : Canonical (seccDiscovery sp s) := .ite h.say.drew h
theorem Canonical.fallback (h : Canonical s) {sp n : Nat} : Canonical (s.fallback sp n) := h.leaveLink.notice
theorem Canonical.storeTls (h : Canonical s) {sp : Nat} {b : Blob} : Canonical (s.storeTls sp b) := h.foldl fun ht => ht.setWord

theorem Canonical.tlsHandshake (h : Canonical s) {sp : Nat} {o : TlsOffer} : Canonical (tlsHandshake sp o s) :=
  .ite h (.ite h.useKey.put.modVLink.drew.drew.storeTls.say (.noticeOpen (.modVLink (.say (h.when fun ht => ht.unwrapFailed)))))

theorem Canonical.tlsFallbackTimeout (h : Canonical s) {sp : Nat} : Canonical (tlsFallbackTimeout sp s) := by
  unfold Machine.tlsFallbackTimeout
  split
  · exact .ite h.fallback h
  · exact h

theorem Canonical.forRecord (h : Canonical s) {sp : Nat} : Canonical (s.forRecord sp) := h.forTag

theorem Canonical.supportedAppProtocol (h : Canonical s) {sp offered : Nat} : Canonical (supportedAppProtocol sp offered s) :=
  .ite h (.ite h.forRecord.say.fallback h.forRecord.say.put.modVLink)

theorem Canonical.unsupportedMessage (h : Canonical s) {sp : Nat} : Canonical (unsupportedMessage sp s) :=
  .ite h.forRecord.say.modVLink h

theorem Canonical.answerVehicle (h : Canonical s) {sp : Nat} {protos states : List Nat} {m : String}
    {f : State → State × List Int} (hf : ∀ {t}, Canonical t → Canonical (f t).1) :
    Canonical (s.answerVehicle sp protos states m f) :=
  .ite h.unsupportedMessage (.say (hf h.forRecord.modVLink))

theorem Canonical.sessionSetup (h : Canonical s) {sp evccid : Nat} : Canonical (sessionSetup sp evccid s) :=
  h.answerVehicle fun ht => ht.put.modVLink.setLinkState

theorem Canonical.serviceDiscovery (h : Canonical s) {sp : Nat} : Canonical (serviceDiscovery sp s) :=
  .ite (.fallback (h.answerVehicle fun ht => ht)) (h.answerVehicle fun ht => ht)

theorem Canonical.serviceDetail (h : Canonical s) {sp service : Nat} : Canonical (serviceDetail sp service s) :=
  h.answerVehicle fun ht => ht

theorem Canonical.paymentServiceSelection (h : Canonical s) {sp : Nat} {contract : Bool} :
    Canonical (paymentServiceSelection sp contract s) :=
  h.answerVehicle fun ht => .iteFst ht ht.put

theorem Canonical.presentContract (h : Canonical s) {sp emaid : Nat} {chain : List Nat} :
    Canonical (s.presentContract sp emaid chain).1 := by
  unfold State.presentContract
  extract_lets _ t
  have ht : Canonical t := .ite h h.modVLink
  refine .iteFst (.pair ht.noticeOpen) (.iteFst (.pair ht) ?_)
  split
  · exact .iteFst (.pair ht.authorise.modVLink) (.pair ht.modVLink)
  · exact .pair ht.puts.modVLink

theorem Canonical.paymentDetails (h : Canonical s) {sp emaid : Nat} {chain : List Nat} :
    Canonical (paymentDetails sp emaid chain s) :=
  h.answerVehicle fun ht => .iteFst ht ht.presentContract

theorem Canonical.authorizationSetup (h : Canonical s) {sp : Nat} : Canonical (authorizationSetup sp s) :=
  h.answerVehicle fun ht => ht

theorem Canonical.authorization (h : Canonical s) {sp : Nat} {contract : Option (Nat × List Nat)} :
    Canonical (authorization sp contract s) := by
  refine h.answerVehicle fun ht => ?_
  split
  · exact .iteFst ht ht.put.presentContract
  · exact .ite ht.put ht

theorem Canonical.serviceSelection (h : Canonical s) {sp : Nat} {bpt : Bool} : Canonical (serviceSelection sp bpt s) :=
  h.answerVehicle fun ht => .iteFst ht ht.put

theorem Canonical.chargeParameterDiscovery (h : Canonical s) {sp : Nat} {asked : ChargeRequest} :
    Canonical (chargeParameterDiscovery sp asked s) :=
  .ite h.unsupportedMessage (h.answerVehicle fun ht => ht.setVehicleMax.drew)

theorem Canonical.vehicleFigures (h : Canonical s) {sp : Nat} {vmax : List Nat} {vdis : Nat} :
    Canonical (s.vehicleFigures sp vmax vdis) :=
  .ite h.setVehicleMax.put h.setVehicleMax

theorem Canonical.acChargeParameterDiscovery (h : Canonical s) {sp : Nat} {vmax : List Nat} {vdis : Nat} :
    Canonical (acChargeParameterDiscovery sp vmax vdis s) :=
  h.answerVehicle fun ht => ht.vehicleFigures

theorem Canonical.scheduleExchange (h : Canonical s) {asked : ScheduleRequest} : Canonical (scheduleExchange asked s) :=
  h.answerVehicle fun ht => ht

theorem Canonical.powerDelivery (h : Canonical s) {sp : Nat} {p : PowerRequest} : Canonical (powerDelivery sp p s) := by
  refine h.answerVehicle fun ht => ?_
  cases p with
  | start => exact .iteFst (.pair ht.setLinkState.modVLink) (.pair ht.modVLink)
  | stop => exact .pair ht.raise.setLinkState.modVLink
  | renegotiate => exact .pair (.modVLink (.ite ht.put ht.setLinkState))

theorem Canonical.powerDeliveryTimeout (h : Canonical s) {sp : Nat} : Canonical (powerDeliveryTimeout sp s) := by
  unfold Machine.powerDeliveryTimeout
  split
  · exact .ite h.modVLink h
  · exact h

theorem Canonical.chargingStatus (h : Canonical s) {sp : Nat} : Canonical (chargingStatus sp s) := h.answerVehicle fun ht => ht

theorem Canonical.acChargeLoop (h : Canonical s) {sp : Nat} {vmax : List Nat} {vdis : Nat} :
    Canonical (acChargeLoop sp vmax vdis s) :=
  h.answerVehicle fun ht => ht.vehicleFigures

theorem Canonical.meteringReceipt (h : Canonical s) {sp : Nat} : Canonical (meteringReceipt sp s) := h.answerVehicle fun ht => ht

theorem Canonical.meteringConfirmation (h : Canonical s) {sp : Nat} : Canonical (meteringConfirmation sp s) :=
  h.answerVehicle fun ht => ht

theorem Canonical.sessionStop (h : Canonical s) {sp : Nat} : Canonical (sessionStop sp s) :=
  .ite (.leaveLink (h.answerVehicle fun ht => .ite ht.raise ht)) (h.answerVehicle fun ht => .ite ht.raise ht)

theorem Canonical.abnormalLoss (h : Canonical s) {sp : Nat} {tcpClosed : Bool} : Canonical (abnormalLoss sp tcpClosed s) :=
  .ite h.abnormal h

theorem Canonical.orderlyStopTimeout (h : Canonical s) {sp : Nat} : Canonical (orderlyStopTimeout sp s) := by
  unfold Machine.orderlyStopTimeout
  split
  · exact .ite h.leaveLink h
  · exact h

theorem Canonical.applyContract (h : Canonical s) {sp : Nat} {v : Int} : Canonical (applyContract sp v s) :=
  .ite h.put.modVLink.authorise.modVLink h.put.modVLink.modVLink

theorem Canonical.contractDecisionTimeout (h : Canonical s) {sp : Nat} : Canonical (contractDecisionTimeout sp s) := by
  unfold Machine.contractDecisionTimeout
  split
  · exact .ite h.applyContract h
  · exact h

theorem Canonical.apply1A (h : Canonical s) {k i m : Nat} {v : Int} : Canonical (apply1A s k i m v) := .ite h.applyContract h.put

/-! ### The vault -/

theorem Canonical.resetKod (h : Canonical s) : Canonical s.resetKod :=
  .update (.puts (.puts (.each (h.each fun ht => .ite ht.notice ht) fun ht => ht.puts)))

theorem Canonical.coreDefaults (h : Canonical s) : Canonical s.coreDefaults :=
  .each (h.each fun ht => ht.clear) fun ht => ht.showAerial

theorem Canonical.coreReset (h : Canonical s) {cause : Nat} : Canonical (s.coreReset cause) :=
  .ite h (.ite (.ite h.update h)
    h.startLease.holdPedals.commitsInForce.dropUpdates.resetKod.coreResetPorts.displayReset.coreDefaults.update)

theorem Canonical.zeroise (h : Canonical s) : Canonical s.zeroise := h.puts.put.update

theorem Canonical.logTamper (h : Canonical s) {source : Nat} : Canonical (s.logTamper source) :=
  .update (.ite h.count.puts.put (.ite h.count.puts.put h.count.puts))

theorem Canonical.clockStopped (h : Canonical s) : Canonical s.clockStopped := h.invalidateTime.each fun ht => ht.discardCap
theorem Canonical.cryptoEnds (h : Canonical s) : Canonical s.cryptoEnds := h.each fun ht => .ite ht.put ht

theorem Canonical.tamper (h : Canonical s) {source : Nat} : Canonical (tamper source s) := by
  unfold Machine.tamper
  extract_lets t1 t2
  have h1 : Canonical t1 := h.logTamper.when fun ht => ht.clockStopped
  have h2 : Canonical t2 := h1.zeroise
  exact .ite h (.ite h1 (.ite h2.cryptoEnds.notice.coreReset h2.update))

theorem Canonical.vbatLow (h : Canonical s) : Canonical (vbatLow s) := .ite (.noticeOpen h.update) h
theorem Canonical.randomGeneratorFailure (h : Canonical s) : Canonical (randomGeneratorFailure s) := .ite h.put.noticeOpen h
theorem Canonical.orphanAll (h : Canonical s) : Canonical s.orphanAll := h.foldl fun ht => ht.orphan
theorem Canonical.startVault (h : Canonical s) : Canonical s.startVault := .drew h.put.update

theorem Canonical.checkRoot (h : Canonical s) : Canonical s.checkRoot :=
  .ite h (.ite (.put (.orphanAll h.update)) (.notice (.orphanAll (.drew h.puts.puts.update))))

theorem Canonical.applyReplaceRoot (h : Canonical s) {v : Int} : Canonical (applyReplaceRoot v s) := .ite (.coreReset h.update) h

theorem Canonical.applyBump (h : Canonical s) {i : Nat} {v : Int} : Canonical (applyBump i v s) :=
  .ite (.ite h.put.orphan.notice.loseTls h.put.orphan.notice) h

theorem Canonical.applyKeyInstall (h : Canonical s) {sid k seq : Nat} {v : Int} : Canonical (applyKeyInstall sid k seq v s) := by
  unfold Machine.applyKeyInstall
  split
  · exact h
  · exact .flashOp (.drew h.useKey.puts.notice.update)

theorem Canonical.applyOwnerKey (h : Canonical s) {v : Int} : Canonical (applyOwnerKey v s) := h.puts

theorem Canonical.apply28 (h : Canonical s) {sid seq k i m : Nat} {v : Int} : Canonical (apply28 sid seq s k i m v) :=
  .ite (.ite h.applyReplaceRoot (.ite h.applyOwnerKey h.put)) (.ite h.applyBump (.ite h.applyKeyInstall h.put))

/-! ### The core reset and the watchdogs -/

theorem Canonical.resetNfcEngine (h : Canonical s) : Canonical s.resetNfcEngine :=
  .each (.each h.update fun ht => ht.setAerial) fun ht => ht.showFront

theorem Canonical.resetBistEngine (h : Canonical s) : Canonical s.resetBistEngine := h.update
theorem Canonical.dropReceived (h : Canonical s) {i : Nat} : Canonical (s.dropReceived i) := h.update

theorem Canonical.resetEngine (h : Canonical s) {q : Nat} : Canonical (s.resetEngine q) := by
  refine .ite h.dmaStop ?_
  split
  · exact h.update
  · exact h.resetNfcEngine
  · exact .ite h.update h
  · exact h.dropReceived
  · exact h.dropReceived
  · exact h.dropReceived
  · exact h.update
  · exact h.update
  · exact h.displayReset.displayRestart
  · exact h.update
  · exact h.update
  · exact h.resetBistEngine
  · exact h

theorem Canonical.watchdogBite (h : Canonical s) {port : Nat} {r : RoundIn} : Canonical (watchdogBite port r s) := by
  unfold Machine.watchdogBite
  dsimp only
  split
  · exact .ite h h.count.notice.resetEngine.modPort
  · exact h

/-! ### Chainline -/

theorem Canonical.modChl (h : Canonical s) {f : Chainline → Chainline} : Canonical (s.modChl f) := h.update

theorem Canonical.sendFrame (h : Canonical s) {f : ChlFrame} {channel : Nat} : Canonical (s.sendFrame f channel) :=
  h.send.modChl.count

theorem Canonical.showParent (h : Canonical s) : Canonical s.showParent := .ite h.put.modChl (.ite h.put h.put.modChl.drew)
theorem Canonical.showTier (h : Canonical s) : Canonical s.showTier := h.put.showParent

theorem Canonical.queueMessage (h : Canonical s) {cmd unit : Nat} {words : List Nat} : Canonical (s.queueMessage cmd unit words) :=
  h.modChl.drew

theorem Canonical.inboundSend (h : Canonical s) : Canonical (inboundSend s) := by
  unfold Machine.inboundSend
  split
  · exact .ite h (.modChl (.sendFrame (.ite h.forTag h)))
  · exact h

theorem Canonical.ackTimeout (h : Canonical s) {seq : Nat} : Canonical (ackTimeout seq s) := by
  unfold Machine.ackTimeout
  split
  · split
    · exact .ite h (.ite h.modChl.noticeOpen h.modChl.drew)
    · exact h
  · exact h

theorem Canonical.result (h : Canonical s) {cmd : Nat} {hdr : ChlHdr} {st : Nat} : Canonical (s.result cmd hdr st) :=
  .ite (.queueMessage (.ite h h.notice)) (.ite h h.notice)

theorem Canonical.frameFailed (h : Canonical s) : Canonical s.frameFailed := h.count.noticeOpen
theorem Canonical.keyMissing (h : Canonical s) : Canonical s.keyMissing := .ite h h.modChl.unwrapFailed.noticeOpen
theorem Canonical.retransmit (h : Canonical s) {f : ChlFrame} : Canonical (s.retransmit f) := .ite h.sendFrame h
theorem Canonical.findBoundary (h : Canonical s) : Canonical s.findBoundary := .ite h.put.modChl h
theorem Canonical.heardHeader (h : Canonical s) {f : ChlFrame} : Canonical (s.heardHeader f) := h.findBoundary.put.modChl.showTier

theorem Canonical.takeOutbound (h : Canonical s) {f : ChlFrame} : Canonical (s.takeOutbound f) := by
  refine .ite h.frameFailed ?_
  extract_lets t
  have ht : Canonical t := h.heardHeader
  split
  · exact ht.frameFailed.keyMissing
  · extract_lets t1 _ _ _ t2
    have h1 : Canonical t1 := ht.useKey
    have h2 : Canonical t2 := h1.modChl.retransmit
    exact .ite h1.frameFailed (.ite (.ite h1.noticeOpen h1) (.ite h1 (.ite h2 (.ite h2.result h2.count.modChl))))

theorem Canonical.outboundFrame (h : Canonical s) {f : ChlFrame} : Canonical (outboundFrame f s) := .ite h h.countBy.takeOutbound

theorem Canonical.carryOut (h : Canonical s) {cmd : Nat} {hdr : ChlHdr} {isIt : List Nat → Bool} {f : State → Nat → State}
    (hf : ∀ {t x}, Canonical t → Canonical (f t x)) : Canonical (s.carryOut cmd hdr isIt f) := by
  unfold State.carryOut
  split
  · exact .ite (hf h.modChl) h
  · exact h

theorem Canonical.timeAlign (h : Canonical s) {hdr : ChlHdr} {mc : Nat} : Canonical (timeAlign hdr mc s) :=
  h.carryOut fun ht => .result (.notice (.puts (.modChl (ht.each fun hu => hu.notice))))

theorem Canonical.schedule (h : Canonical s) {m : Nat} {e : ChlEvent} : Canonical (s.schedule m e) := h.modChl

theorem Canonical.timeSet (h : Canonical s) {hdr : ChlHdr} {target mcLow : Nat} {slewOk : Bool} :
    Canonical (timeSet hdr target mcLow slewOk s) :=
  h.carryOut fun ht => .ite ht.result ht.schedule.result

theorem Canonical.snapshot (h : Canonical s) {hdr : ChlHdr} {mc : Nat} : Canonical (snapshot hdr mc s) :=
  h.carryOut fun ht => .ite ht.result (.ite ht.result (.ite ht.result ht.schedule.result))

theorem Canonical.billingCloseCommand (h : Canonical s) {hdr : ChlHdr} {mc : Nat} : Canonical (billingCloseCommand hdr mc s) :=
  h.carryOut fun ht => .ite ht.result (.ite ht.result ht.schedule.result)

theorem Canonical.eventEffect (h : Canonical s) {e : ChlEvent} : Canonical (s.eventEffect e) := by
  unfold State.eventEffect
  split
  · exact .ite h.applySlew h.stepTo
  · exact h.latchSnapshot
  · exact h.billingClose
  · exact .ite h.activateCap h

theorem Canonical.mcTargetReached (h : Canonical s) : Canonical (mcTargetReached s) := h.modChl.each fun ht => ht.eventEffect

theorem Canonical.drCap (h : Canonical s) {hdr : ChlHdr} {ident target mask cap duration start : Nat} :
    Canonical (drCap hdr ident target mask cap duration start s) := by
  refine h.carryOut fun ht => .ite ht.result (.ite ht.result ?_)
  split
  · exact ht.notice.result
  · exact .ite ht.notice.result ht.modChl.puts.logCap.result

theorem Canonical.drCancel (h : Canonical s) {hdr : ChlHdr} {ident : Nat} : Canonical (drCancel hdr ident s) := by
  refine h.carryOut fun ht => ?_
  split
  · exact ht.freeCap.result
  · exact ht.result

theorem Canonical.tariffHeard (h : Canonical s) : Canonical s.tariffHeard := h.modChl

theorem Canonical.tariffBegin (h : Canonical s) {hdr : ChlHdr} {tid size : Nat} : Canonical (tariffBegin hdr tid size s) :=
  h.carryOut fun ht => .ite (.ite ht.result ht.openRegion.modRegion.tariffHeard.result) (.ite ht.tariffHeard.result
    ht.noticeOpen.result)

theorem Canonical.receiveWord (h : Canonical s) {o w : Nat} : Canonical (s.receiveWord o w) :=
  .ite h (.ite h.modRegion.put h.modRegion)

theorem Canonical.tariffData (h : Canonical s) {hdr : ChlHdr} {tid off : Nat} {words : List Nat} :
    Canonical (tariffData hdr tid off words s) :=
  h.carryOut fun ht => .ite (.result (ht.tariffHeard.each fun hu => hu.receiveWord)) ht

theorem Canonical.tariffEnd (h : Canonical s) {hdr : ChlHdr} {tid : Nat} : Canonical (tariffEnd hdr tid s) := by
  refine h.carryOut fun ht => .ite ht.result ?_
  split
  · exact ht.tariffHeard.finishRegion.result
  · exact .ite ht.tariffHeard.queueMessage ht.tariffHeard

theorem Canonical.tariffAbort (h : Canonical s) {hdr : ChlHdr} {tid : Nat} : Canonical (tariffAbort hdr tid s) :=
  h.carryOut fun ht => .ite ht.abortRegion.result ht.result

theorem Canonical.tariffIdleTimeout (h : Canonical s) : Canonical (tariffIdleTimeout s) := .ite h.abortRegion.noticeOpen h

theorem Canonical.chainlineRead (h : Canonical s) {hdr : ChlHdr} {shadow : Bool} {idx : List Nat} :
    Canonical (chainlineRead hdr shadow idx s) :=
  h.carryOut fun ht => .ite ht.result (.ite ht ht.queueMessage)

theorem Canonical.drawRegistration (h : Canonical s) : Canonical s.drawRegistration := h.modChl.drew

theorem Canonical.reregister (h : Canonical s) {hdr : ChlHdr} {window : Nat} : Canonical (reregister hdr window s) :=
  h.carryOut fun ht => .ite ht.result (.ite ht.result ht.put.logSetting.drawRegistration.result)

theorem Canonical.register (h : Canonical s) : Canonical s.register := h.queueMessage
theorem Canonical.registration (h : Canonical s) : Canonical (registration s) := .ite h.modChl.register h
theorem Canonical.orphanCall (h : Canonical s) : Canonical (orphanCall s) := .ite h.modChl.register h
theorem Canonical.hello (h : Canonical s) : Canonical (hello s) := .ite h.modChl.queueMessage h
theorem Canonical.candidateAnswered (h : Canonical s) : Canonical s.candidateAnswered := h.modChl

theorem Canonical.repeater (h : Canonical s) {hdr : ChlHdr} {relay vetoHours : Nat} : Canonical (repeater hdr relay vetoHours s) :=
  h.carryOut fun ht => .ite ht.candidateAnswered.result (.ite ht.candidateAnswered.put.modChl.result (.result (.ite
    ht.candidateAnswered.put.modChl ht.candidateAnswered.put.modChl.put.modChl.noticeOpen)))

theorem Canonical.chlAck (h : Canonical s) {hdr : ChlHdr} {seq : Nat} : Canonical (chlAck hdr seq s) :=
  h.carryOut fun ht => ht.modChl.result

theorem Canonical.hearNode (h : Canonical s) {f : ChlFrame} : Canonical (s.hearNode f) := by
  unfold State.hearNode
  split
  · exact h
  · exact h.puts.modChl.showParent

theorem Canonical.hearOrphan (h : Canonical s) {f : ChlFrame} : Canonical (s.hearOrphan f) := .ite h.modChl h
theorem Canonical.candidacy (h : Canonical s) : Canonical s.candidacy := .ite h h.modChl.queueMessage.noticeOpen
theorem Canonical.chlTick (h : Canonical s) : Canonical s.chlTick := .ite h.candidacy h
theorem Canonical.forward (h : Canonical s) {f : ChlFrame} : Canonical (s.forward f) := .ite h (.ite h.noticeOpen h.modChl.drew)

theorem Canonical.takeInbound (h : Canonical s) {f : ChlFrame} : Canonical (s.takeInbound f) :=
  .ite h.frameFailed h.findBoundary.put.hearNode.hearOrphan.candidacy.forward

theorem Canonical.inboundFrame (h : Canonical s) {f : ChlFrame} : Canonical (inboundFrame f s) := .ite h h.countBy.takeInbound

theorem Canonical.neighbourExpiry (h : Canonical s) {addr : Nat} : Canonical (neighbourExpiry addr s) := by
  unfold Machine.neighbourExpiry
  dsimp only
  split
  · exact .ite h.puts.modChl.showParent h
  · exact h

/-! ### Resets and the boot of the firmware -/

theorem Canonical.loadKeys (h : Canonical s) : Canonical s.loadKeys := .each h.update fun ht => ht.put

/-- The power-on state that a safety-domain reset starts from. -/
theorem safetyReset_stores (s : State) (cause : Nat) :
    ∃ (t : State) (kept : List (Nat × Int)) (dropped : List Nat),
      s.safetyReset cause =
        ((t.puts kept).each dropped fun t r => t.dropOther r).loadKeys.applyFuses.showSeal ∧
      t.variant = s.variant ∧ t.obj = resetObj ∧ t.pannier.mem = [] ∧
      t.tag = s.tag.cutOwn s.drawn :=
  ⟨_, _, _, rfl, rfl, rfl, rfl, rfl⟩

theorem Canonical.safetyReset (h : Canonical s) {cause : Nat} : Canonical (s.safetyReset cause) := by
  obtain ⟨t, kept, dropped, hreset, hvariant, hobj, hmem, htag⟩ := safetyReset_stores s cause
  have ht : Canonical t := by
    refine ⟨?_, ?_, ?_⟩
    · rw [hvariant, hobj]
      exact resetObj_wf s.variant
    · rw [hmem]
      exact ⟨.nil, by simp⟩
    · rw [htag]
      exact cutOwn_wf h.tag
  rw [hreset]
  exact (ht.puts.each fun ht => ht.dropOther).loadKeys.applyFuses.showSeal

theorem Canonical.safetyDomainFault (h : Canonical s) : Canonical (safetyDomainFault s) := .ite h.faultCapture.safetyReset h
theorem Canonical.rstN (h : Canonical s) : Canonical (rstN s) := .ite h.faultCapture.safetyReset h

theorem Canonical.brownOut (h : Canonical s) {mainLost : Bool} : Canonical (brownOut mainLost s) :=
  .ite h (.ite h.safetyReset.put.update h.safetyReset)

theorem Canonical.powerOnReset (h : Canonical s) : Canonical (powerOnReset s) := h.safetyReset.update
theorem Canonical.commandedRestart (h : Canonical s) : Canonical (commandedRestart s) := .ite h.coreReset h

theorem Canonical.controlCoreWatchdog (h : Canonical s) {core : Nat} : Canonical (controlCoreWatchdog core s) :=
  .ite h.notice.coreReset h

theorem Canonical.pllLockLoss (h : Canonical s) {pll : Nat} : Canonical (pllLockLoss pll s) :=
  .ite h.safetyDomainFault (.ite h.notice.coreReset h)

theorem Canonical.applyRestart (h : Canonical s) {v : Int} : Canonical (applyRestart v s) := .ite h.update h

theorem Canonical.failPower (h : Canonical s) {cause : Nat} : Canonical (s.failPower cause) :=
  .ite (.update (.put h.decide_.displayDecision.update)) h.decide_.displayDecision.update

theorem Canonical.powerFailResume (h : Canonical s) : Canonical (powerFailResume s) :=
  .ite (.displayResume (.noticeOpen h.cancelPf.update)) h

theorem Canonical.useOther (h : Canonical s) {r : Nat} : Canonical (s.useOther r) := h.swapSlots.flashOp
theorem Canonical.ratchetIf (h : Canonical s) : Canonical s.ratchetIf := .ite h h.ratchetSvn
theorem Canonical.svnReport (h : Canonical s) {slot : Nat} : Canonical (s.svnReport slot) := .ite h.noticeOpen h

theorem Canonical.bootFw (h : Canonical s) : Canonical s.bootFw :=
  .ite h.put.ratchetIf (.ite (.update (.puts (.notice (.noticeOpen (.flashOp (.swapSlots (.ite h h.svnReport))))))) (.noticeOpen
    (.update (.put (.svnReport (.ite h h.svnReport))))))

theorem Canonical.bootTrial (h : Canonical s) : Canonical s.bootTrial := .ite h (.ite h.fallBack h.puts.flashOp.update)

theorem Canonical.reportTamper (h : Canonical s) : Canonical s.reportTamper := by
  unfold State.reportTamper
  split
  · exact .notice h.update
  · exact h

theorem Canonical.reportCause (h : Canonical s) : Canonical s.reportCause := h.put.notice

theorem Canonical.reclaim (h : Canonical s) : Canonical s.reclaim :=
  .ite (.put h.leaseReclaim.resumePedals.update) h.leaseReclaim.resumePedals.update

theorem Canonical.firmwareRestart (h : Canonical s) : Canonical (firmwareRestart s) := by
  unfold Machine.firmwareRestart
  extract_lets t1 _ t2 t3 t4
  have h1 : Canonical t1 := h.reclaim
  have h2 : Canonical t2 := h1.update
  have h3 : Canonical t3 := .ite h2 h2.put
  have h4 : Canonical t4 := h3.startVault.reportCause.reportTamper.checkRoot.bootFw.bootTrial
  exact .ite h (.ite h3 h4.restartVehicle.displayRestart)

/-! ### Modes -/

theorem Canonical.applyWorkstand (h : Canonical s) {v : Int} : Canonical (applyWorkstand v s) :=
  .ite (.noticeOpen h.puts.update) (.ite h.puts.noticeOpen h)

theorem Canonical.apply01 (h : Canonical s) {k i m : Nat} {v : Int} : Canonical (apply01 s k i m v) :=
  .ite h.applyWorkstand (.ite h.applyRestart h.put)

theorem Canonical.lateEvent (h : Canonical s) : Canonical s.lateEvent := .ite h.notice h
theorem Canonical.exitTick (h : Canonical s) : Canonical s.exitTick := .lateEvent (.ite h.put.update h)
theorem Canonical.modeTick (h : Canonical s) : Canonical s.modeTick := .ite h.puts.put h.puts
theorem Canonical.countMode (h : Canonical s) : Canonical s.countMode := .ite h.count h
theorem Canonical.knownEventExit (h : Canonical s) : Canonical (knownEventExit s) := .ite h.startExit h
theorem Canonical.wake (h : Canonical s) {src : WakeSource} : Canonical (wake src s) := h.wakeBy

/-! ### The effects of object writes -/

theorem Canonical.setKodEnable (h : Canonical s) {ctrl : Nat} {v : Int} : Canonical (s.setKodEnable ctrl v) :=
  .ite h.put.endBound.update h.put

theorem Canonical.apply04 (h : Canonical s) {k i m : Nat} {v : Int} : Canonical (apply04 s k i m v) :=
  .ite h.update (.ite h.setKodEnable (.ite (.ite h.endKod h) h.put))

theorem Canonical.controllerChange (h : Canonical s) {inst : Nat} : Canonical (controllerChange inst s) :=
  .ite h h.puts.endBound.update

theorem Canonical.writeWindow (h : Canonical s) {k : Nat} {v : Int} : Canonical (s.writeWindow k v) :=
  .ite h.applyDescriptorData (.ite h.applyDrawData h.applyData)

theorem Canonical.readWindow (h : Canonical s) {k : Nat} : Canonical (s.readWindow k).2.2 :=
  .iteThird h.descriptorWindow (.iteThird h.hostWindow (.iteThird h.drawWindow (.iteThird h h.readData)))

theorem Canonical.applyItem (h : Canonical s) {sid seq k : Nat} {v : Int} : Canonical (s.applyItem sid seq k v) := by
  refine .ite h.writeWindow ?_
  split
  · exact h.apply01
  · exact h.apply03
  · exact h.apply04
  · exact h.apply05
  · exact h.apply08
  · exact h.apply09
  · exact h.apply0A
  · exact h.apply0B
  · exact h.apply0C
  · exact h.apply0D
  · exact h.apply0F
  · exact .ite h.applyCloseNow h.put
  · exact h.apply12
  · exact h.apply13
  · exact h.apply18
  · exact h.apply19
  · exact h.apply1A
  · exact h.apply1C
  · exact h.apply1D
  · exact h.apply1E
  · exact h.apply21
  · exact h.apply24
  · exact h.apply28
  · exact h.apply29
  · exact h.apply2A
  · exact h.apply2B
  · exact h.apply31
  · exact h.apply38
  · exact h.put

theorem Canonical.refused (h : Canonical s) {k : Nat} {v : Int} : Canonical (s.refused k v) := .ite h.refusedAuthorise h

theorem Canonical.writeItem (h : Canonical s) {sid : Nat} {it : WItem} : Canonical (s.writeItem sid it) :=
  .ite h.tokenRow (.ite h.answer (.ite h.refused.internalNotice.answer (h.writeOne fun ht => ht.applyItem)))

theorem Canonical.writeObject (h : Canonical s) {sid : Nat} {it : WItem} : Canonical (s.writeObject sid it) :=
  h.inTurn fun ht => ht.writeItem

/-! ### Transport -/

theorem Canonical.transmit (h : Canonical s) {ep : Endpoint} {prio service : Nat} {pdu : List Nat} :
    Canonical (s.transmit ep prio service pdu) := by
  unfold State.transmit
  split
  · exact h.each fun ht => ht.send
  · exact .ite h.send h
  · exact .ite (.emulationReply h.update) h

theorem Canonical.respond (h : Canonical s) {r : KodReq} {service : Nat} {key : Option Nat} {body : List Nat} :
    Canonical (s.respond r service key body) :=
  h.forTag.transmit

theorem Canonical.taken (h : Canonical s) {r : KodReq} {service : Nat} {body : List Nat} : Canonical (s.taken r service body) :=
  h.update

theorem Canonical.discardTag (h : Canonical s) {sid : Nat} : Canonical (s.discardTag sid) := h.count.notice

theorem Canonical.conclude (h : Canonical s) {r : KodReq} {service key : Nat} {body : List Nat} :
    Canonical (s.conclude r service key body) :=
  .ite h.respond.modSession h.respond

theorem Canonical.serveOpen (h : Canonical s) {r : KodReq} {service : Nat} {ok : Bool} {run : Service}
    (hrun : ∀ {t}, Canonical t → Canonical (run t).1) :
    Canonical (s.serveOpen r service ok run) := by
  refine .ite h.respond ?_
  split
  · exact .respond (hrun h)
  · exact hrun h

theorem Canonical.keyLost (h : Canonical s) {r : KodReq} {service : Nat} : Canonical (s.keyLost r service) := h.notice.respond

theorem Canonical.serveLogged (h : Canonical s) {r : KodReq} {service : Nat} {ok : Bool} {body : List Nat} {run : Service}
    (hrun : ∀ {t}, Canonical t → Canonical (run t).1) :
    Canonical (s.serveLogged r service ok body run) := by
  unfold State.serveLogged
  extract_lets _ t1 t2
  have h1 : Canonical t1 := h.forTag
  have h2 : Canonical t2 := h1.modSession
  refine .ite h.keyLost (.ite h1.discardTag (.ite h1.respond (.ite h1.transmit (.ite h1.respond (.ite h2.conclude ?_)))))
  split
  · exact .conclude (hrun h2)
  · exact hrun h2

theorem Canonical.serve (h : Canonical s) {r : KodReq} {service : Nat} {body : List Nat} {run : Service}
    (hrun : ∀ {t}, Canonical t → Canonical (run t).1) :
    Canonical (s.serve r service body run) :=
  .ite h.taken (.ite (h.taken.serveOpen hrun) (.ite h.taken.respond (.ite (h.taken.serveOpen hrun) (h.taken.serveLogged hrun))))

theorem Canonical.receive (h : Canonical s) {p : RxPdu} : Canonical (s.receive p) := .ite h (.ite (h.serve fun ht => ht) h.update)

theorem Canonical.dropFragments (h : Canonical s) {ctrl node : Nat} : Canonical (s.dropFragments ctrl node) :=
  .notice (.count h.update)

theorem Canonical.complete (h : Canonical s) {ctrl node dest prio service : Nat} {data : List Byte} :
    Canonical (s.complete ctrl node dest prio service data) :=
  .receive h.update

theorem Canonical.fragment (h : Canonical s) {ctrl node dest prio service frag : Nat} {data : List Byte} :
    Canonical (s.fragment ctrl node dest prio service frag data) := by
  refine .ite (.ite (.update (.ite h.dropFragments h)) (.complete (.ite h.dropFragments h))) ?_
  split
  · exact h.dropFragments
  · exact .ite h.dropFragments (.ite h.update h.complete)

theorem Canonical.canFdFrame (h : Canonical s) {ctrl : Nat} {f : CanFrame} : Canonical (canFdFrame ctrl f s) :=
  .ite h (.ite h (.ite h h.fragment))

theorem Canonical.reassemblyTimeout (h : Canonical s) {ctrl node : Nat} : Canonical (reassemblyTimeout ctrl node s) := by
  unfold Machine.reassemblyTimeout
  split
  · exact .ite h.dropFragments h
  · exact h

theorem Canonical.kodDatagram (h : Canonical s) {addr port : Nat} {dest : UdpDest} {data : List Byte} :
    Canonical (kodDatagram addr port dest data s) :=
  .ite h (.ite h h.receive)

theorem Canonical.echoRequest (h : Canonical s) {v6 : Bool} {src : Nat} {payload : List Byte} :
    Canonical (echoRequest v6 src payload s) :=
  .ite h.send h

theorem Canonical.neighbourDiscovery (h : Canonical s) {src : Nat} : Canonical (neighbourDiscovery src s) := .ite h.send h
theorem Canonical.plcaBeacons (h : Canonical s) : Canonical s.plcaBeacons := .ite h.send h
theorem Canonical.arpRequest (h : Canonical s) {src target : Nat} : Canonical (arpRequest src target s) := .ite h.send h

/-! ### Services -/

theorem Canonical.readItem (h : Canonical s) {sid k : Nat} : Canonical (s.readItem sid k).1 := by
  refine .iteFst h ?_
  split
  · exact h
  · exact .iteFst (.iteFst h h.readWindow) h

theorem Canonical.readItems (h : Canonical s) {sid : Nat} {addrs : List Nat} : Canonical (s.readItems sid addrs).1 :=
  h.foldlFst fun ht => ht.readItem

theorem Canonical.serveRead (h : Canonical s) {sid : Nat} {addrs : List Nat} : Canonical (serveRead sid addrs s).1 :=
  .iteFst h (.iteFst h h.readItems)

theorem Canonical.applyLogged (h : Canonical s) {sid seq : Nat} {it : WItem} : Canonical (s.applyLogged sid seq it) :=
  .ite (.logSetting (h.effect fun ht => ht.applyItem)) (h.effect fun ht => ht.applyItem)

theorem Canonical.validateFrom (h : Canonical s) {sid seq : Nat} {items rest : List WItem} {n : Nat} :
    Canonical (validateFrom sid seq items rest n s).2.2 := by
  induction rest generalizing s n with
  | nil => exact h
  | cons it rest ih => exact .iteThird h (ih h.applyLogged)

theorem Canonical.withWaiting (h : Canonical s) : Canonical s.withWaiting :=
  h.each fun ht => ht.each fun hu => .ite hu hu.applyLogged

theorem Canonical.refusedWrite (h : Canonical s) {sid st : Nat} {it : Option WItem} : Canonical (s.refusedWrite t sid st it) := by
  unfold State.refusedWrite
  split
  · exact h
  · exact .ite h.internalNotice (.ite h.refuseToken (.ite h.noticeOpen (.ite h.offer h)))

theorem Canonical.serveWrite (h : Canonical s) {r : KodReq} {items : List WItem} : Canonical (serveWrite r items s).1 :=
  .iteFst h (.iteFst h.refusedWrite (.modSession h.update))

theorem Canonical.applyWrite (h : Canonical s) {w : PendingWrite} : Canonical (s.applyWrite w) := by
  refine .ite (h.each fun ht => ht.writeItem) ?_
  extract_lets key
  split
  · exact .ite h.refusedWrite.conclude h.refusedWrite
  · have ht := h.each (l := w.items) (f := fun t it => t.applyLogged w.req.sid w.req.seq it) fun ht => ht.applyLogged
    exact .ite ht.holdAnswer (.ite ht.conclude ht)

theorem Canonical.answerHeld (h : Canonical s) {w : PendingWrite} : Canonical (s.answerHeld w) := .ite h.answer (.ite h.conclude h)
theorem Canonical.answerTokens (h : Canonical s) : Canonical s.answerTokens := .each h.update fun ht => ht.answerHeld

theorem Canonical.applyWrites (h : Canonical s) : Canonical s.applyWrites :=
  .each (.update (h.when fun ht => ht.hashFirst)) fun ht => ht.applyWrite

theorem Canonical.flashOperationComplete (h : Canonical s) {ok : Bool} : Canonical (flashOperationComplete ok s) :=
  h.operationEnds.answerTokens

theorem Canonical.readWords (h : Canonical s) {k n : Nat} : Canonical (readWords k n s).1 := by
  induction n generalizing s with
  | zero => exact h
  | succ n ih => exact .iteFst h (ih h.readWindow)

theorem Canonical.serveReadRun (h : Canonical s) {sid k n : Nat} : Canonical (serveReadRun sid k n s).1 :=
  .iteFst h (.iteFst h (.iteFst h h.readWords))

theorem Canonical.writeWords (h : Canonical s) {sid k type : Nat} {ws : List Nat} {n : Nat} :
    Canonical (writeWords sid k type ws n s).1 := by
  induction ws generalizing s n with
  | nil => exact h
  | cons w ws ih => exact .iteFst h (ih (h.effect fun ht => ht.writeWindow))

theorem Canonical.serveWriteRun (h : Canonical s) {sid k type : Nat} {values : List Nat} :
    Canonical (serveWriteRun sid k type values s).1 :=
  .iteFst h (.iteFst h (.iteFst h (.iteFst h h.writeWords)))

theorem Canonical.internal (h : Canonical s) {service : Nat} : Canonical (s.internal service).1 := h.notice

theorem Canonical.serveLoginBegin (h : Canonical s) {r : KodReq} {role hostNonce : Nat} :
    Canonical (serveLoginBegin r role hostNonce s).1 := by
  unfold Machine.serveLoginBegin
  split
  · exact h
  · refine .iteFst h (.iteFst h (.iteFst h ?_))
    split
    · exact h.unwrapFailed
    · exact .iteFst h.internal h.drew.puts.modSession

theorem Canonical.loginFailed (h : Canonical s) {role : Nat} : Canonical (s.loginFailed role) :=
  .ite (.notice (.update h.count.notice.update)) h.count.notice.update

theorem Canonical.serveLoginProof (h : Canonical s) {r : KodReq} {proof : Nat} : Canonical (serveLoginProof r proof s).1 :=
  .iteFst h.freeSid (.iteFst h (.iteFst h.internal (.iteFst h.useKey.freeSid.loginFailed h.useKey.put.modSession)))

theorem Canonical.lockoutEnd (h : Canonical s) {role : Nat} : Canonical (lockoutEnd role s) := .ite h.update h
theorem Canonical.pendingLoginExpiry (h : Canonical s) {sid : Nat} : Canonical (pendingLoginExpiry sid s) := .ite h.freeSid h
theorem Canonical.idleTimeout (h : Canonical s) {sid : Nat} : Canonical (idleTimeout sid s) := .ite h.endKod h

theorem Canonical.serveSubscribe (h : Canonical s) {sid : Nat} {b : SubReq} : Canonical (serveSubscribe sid b s).1 := by
  unfold Machine.serveSubscribe
  split
  · exact h
  · refine .iteFst h ?_
    split
    · exact h
    · exact .iteFst h (.iteFst h h.update)

theorem Canonical.serveUnsubscribe (h : Canonical s) {sid n : Nat} : Canonical (serveUnsubscribe sid n s).1 := by
  unfold Machine.serveUnsubscribe
  split
  · exact .iteFst h.update h
  · exact h

theorem Canonical.sendNotify (h : Canonical s) {n : Nat} {x : Subscription} {at_ : Nat} {items : List (Nat × Int)} :
    Canonical (s.sendNotify n x at_ items) := by
  refine .update (h.each fun ht => ?_)
  dsimp only
  split
  · exact ht
  · exact .ite ht.notice ht.useKey.transmit.modSession

theorem Canonical.evaluate (h : Canonical s) {n : Nat} : Canonical (s.evaluate n) := by
  unfold State.evaluate
  split
  · exact h
  · extract_lets _ _ _ _ t1 _ _ t2
    have h1 : Canonical t1 := .ite h.notice h
    have h2 : Canonical t2 := h1.update
    split
    · exact h1
    · exact .ite h2.drew.sendNotify h2.drew

theorem Canonical.subscriptionEvaluation (h : Canonical s) : Canonical (subscriptionEvaluation s) :=
  .ite (h.each fun ht => ht.evaluate) h

/-! ### The boot -/

theorem Canonical.placeAreas (h : Canonical s) {size : Nat} : Canonical (s.placeAreas size) := h.puts
theorem Canonical.setFlashMode (h : Canonical s) {b : BootIn} : Canonical (s.setFlashMode b) := h.puts

theorem Canonical.discoverFlash (h : Canonical s) {b : BootIn} : Canonical (s.discoverFlash b) :=
  .ite h.put (.ite h.puts.put.placeAreas.setFlashMode h.puts.put.noticeOpen)

theorem Canonical.loadEntry (h : Canonical s) {r : Nat} {e : HeaderEntry} : Canonical (s.loadEntry r e) := h.puts.puts

theorem Canonical.loadHeader (h : Canonical s) : Canonical s.loadHeader := by
  unfold State.loadHeader
  split
  · exact h
  · exact .update (.put (h.each fun ht => ht.loadEntry))

theorem Canonical.applySettings (h : Canonical s) {image : List (Nat × Int)} : Canonical (s.applySettings image) :=
  h.loadSettings.showLog.startFunctions.restartTandem.each fun ht => ht.notice

theorem Canonical.runCfg (h : Canonical s) {p : List Nat} : Canonical (s.runCfg p) :=
  .ite h.applySettings.runPlan.setCapture h.applySettings.runPlan

theorem Canonical.bootCfg (h : Canonical s) : Canonical s.bootCfg := by
  unfold State.bootCfg
  dsimp only
  split
  · exact h.reportPlan.runCfg
  · split
    · exact .runCfg (.showLog h.reportPlan.useOther.notice.update)
    · exact h.reportPlan.noticeOpen.applySettings

theorem Canonical.bootCheck (h : Canonical s) {r slot : Nat} : Canonical (s.bootCheck r slot).1 := .iteFst h.bodyCheck h
theorem Canonical.emptyRegion (h : Canonical s) {r : Nat} : Canonical (s.emptyRegion r) := h.puts.notice

theorem Canonical.bootRegion (h : Canonical s) {r : Nat} : Canonical (s.bootRegion r) :=
  .ite h.emptyRegion (.ite h.bootCheck (.ite h.bootCheck.emptyRegion (.ite h.bootCheck.bootCheck.useOther.notice
    h.bootCheck.bootCheck.emptyRegion)))

theorem Canonical.bootTariff (h : Canonical s) {fellBack : Bool} : Canonical (s.bootTariff fellBack) :=
  .ite h.update (.ite h.update h)

theorem Canonical.bootRegions (h : Canonical s) : Canonical s.bootRegions :=
  .pedalBoot (.showTariff (.bootTariff (h.each fun ht => ht.bootRegion)))

theorem Canonical.bootVault (h : Canonical s) {valid : Bool} : Canonical (s.bootVault valid) := .ite h h.puts.update
theorem Canonical.bootTime (h : Canonical s) {b : BootIn} : Canonical (s.bootTime b) := .ite h.puts.update h.invalidateTime

theorem Canonical.restoreHw (h : Canonical s) {used : Option (PfRecord × Nat)} {keyOk : Bool} :
    Canonical (s.restoreHw used keyOk) :=
  h.put

theorem Canonical.restoreBilling (h : Canonical s) {keyOk : Bool} : Canonical (s.restoreBilling keyOk) := by
  unfold State.restoreBilling
  extract_lets _ t1 t2 t3 t4
  have h1 : Canonical t1 := h.each fun ht => ht.puts
  have h2 : Canonical t2 := h1.puts
  have h3 : Canonical t3 := .showPurses (h2.each fun ht => ht.puts)
  have h4 : Canonical t4 := h3.each fun ht => ht.each fun hu => hu.put
  exact .ite h3 h4.puts

theorem Canonical.completePending (h : Canonical s) {r : PfRecord} {now : Nat} : Canonical (s.completePending r now) := by
  unfold State.completePending
  extract_lets t1 t2 t3
  have h1 : Canonical t1 := h.put.periodFlag
  have h2 : Canonical t2 := .ite h1.put.closeIntervalWith h1
  have h3 : Canonical t3 := .ite h2.closeAt h2
  exact .ite h (.ite h3.selectRate h3)

theorem Canonical.endOpen (h : Canonical s) {r : PfRecord} : Canonical (s.endOpen r) := h.each fun ht => .ite ht.endSlot ht
theorem Canonical.continueInterval (h : Canonical s) {r : PfRecord} : Canonical (s.continueInterval r) := h.put.update

theorem Canonical.bootInterval (h : Canonical s) {used : Option (PfRecord × Nat)} {now : Nat} :
    Canonical (s.bootInterval used now) := by
  unfold State.bootInterval
  dsimp only
  split
  · exact .ite h.startInterval (.ite h.put.closeIntervalWith.startInterval h.startInterval.continueInterval)
  · exact h.startInterval

theorem Canonical.completeBoundaries (h : Canonical s) {used : Option (PfRecord × Nat)} : Canonical (s.completeBoundaries used) := by
  unfold State.completeBoundaries
  extract_lets _ t1 t2 t3 _ t4
  have h1 : Canonical t1 := by
    unfold t1
    split
    · exact .ite h.completePending h
    · exact h
  have h2 : Canonical t2 := .ite h1.closesUpTo h1
  have h3 : Canonical t3 := by
    unfold t3
    split
    · exact h2.endOpen
    · exact h2
  have h4 : Canonical t4 := .ite h3.regression h3
  exact .ite h3.startInterval.selectRate h4.bootInterval.selectRate

theorem Canonical.bootCaps (h : Canonical s) : Canonical s.bootCaps := h.each fun ht => .ite ht.discardCap (.ite ht.freeCap ht)
theorem Canonical.bootRebound (h : Canonical s) : Canonical s.bootRebound := h.drew.update

theorem Canonical.bootMc (h : Canonical s) {used : Option (PfRecord × Nat)} {keyOk : Bool} : Canonical (s.bootMc used keyOk) := by
  unfold State.bootMc
  dsimp only
  split
  · exact .ite h.puts h.puts.drew
  · exact h.puts.drew

theorem Canonical.recordFailed (h : Canonical s) {st : Nat} {status : Option Nat} : Canonical (s.recordFailed st status) := by
  unfold State.recordFailed
  dsimp only
  split
  · exact h.put.notice
  · exact h.put.noticeOpen

theorem Canonical.applyRecord (h : Canonical s) {q : Nat} {items : List WItem} : Canonical (s.applyRecord q items) :=
  .ite h.recordFailed (.notice (.puts (.clear (h.put.each fun ht => ht.applyLogged))))

theorem Canonical.commission (h : Canonical s) : Canonical s.commission := by
  unfold State.commission
  split
  · exact h
  · refine .ite h.recordFailed ?_
    dsimp only
    split
    · exact h.recordFailed
    · exact .ite h.recordFailed h.applyRecord

theorem Canonical.bootRest (h : Canonical s) {b : BootIn} : Canonical (s.bootRest b) :=
  h.bootTrial.checkRoot.bootCfg.setFlashMode.bootRegions.bootTime.restoreRecorder.restoreEnergy
    |>.restoreHw.restoreBilling.completeBoundaries.afterRestoration.bootCaps.bootRebound.bootMc
    |>.drawRegistration.commission.reportTamper.reportCause.displayPowerUp.put.update

theorem Canonical.boot (h : Canonical s) {b : BootIn} : Canonical (boot b s) := by
  unfold Machine.boot
  extract_lets t1 t2 _ t3
  have h1 : Canonical t1 := h.bootVault.startVault.discoverFlash
  have h2 : Canonical t2 := h1.put
  have h3 : Canonical t3 := .ite h1.loadHeader.bootFw (.noticeOpen h2.update)
  exact .ite h (.ite h3.reportCause.put h3.bootRest)

/-! ### The boundary -/

theorem Canonical.stepDone (h : Canonical s) {k : Nat} : Canonical (s.stepDone k) := h.update

theorem Canonical.throughSix (h : Canonical s) : Canonical s.throughSix :=
  .ite h (.stepDone (.each (.guardZero (.ite h.switchBase.applyWrites.replaceSessions.latchPeloton
    h.switchBase.applyWrites.replaceSessions)) fun ht => ht.deliver))

theorem Canonical.throughSeven (h : Canonical s) : Canonical s.throughSeven := .ite h h.repeatCapture
theorem Canonical.boundary (h : Canonical s) : Canonical s.boundary := h.throughSix.throughSeven.stepDone
theorem Canonical.journalLatch (h : Canonical s) : Canonical (journalLatch s) := .ite h.throughSix.latchJournal h
theorem Canonical.powerFailDecision (h : Canonical s) : Canonical (powerFailDecision s) := .ite h h.throughSix.failPower.stepDone

/-! ### The Chainline demodulator -/

theorem Canonical.modPhy (h : Canonical s) {f : ChlPhy → ChlPhy} : Canonical (s.modPhy f) := h.modChl
theorem Canonical.modPhase (h : Canonical s) {ph : Nat} {f : ChlPhase → ChlPhase} : Canonical (s.modPhase ph f) := h.modPhy

theorem Canonical.takeTaps (h : Canonical s) : Canonical s.takeTaps := by
  unfold State.takeTaps
  exact h.modPhy

theorem Canonical.closeHalf (h : Canonical s) {ph : Nat} {time : Rat} {positive stands : Bool} :
    Canonical (s.closeHalf ph time positive stands) :=
  h.modPhase

theorem Canonical.takeL1 (h : Canonical s) : Canonical s.takeL1 := by
  refine h.each fun ht => ?_
  dsimp only
  split
  · exact .ite ht.closeHalf ht
  · exact ht.closeHalf

theorem Canonical.tapDetected (h : Canonical s) {ph : Nat} {time : Rat} {positive : Bool} :
    Canonical (s.tapDetected ph time positive) :=
  .modPhase (.ite h.closeHalf h.modPhase)

theorem Canonical.tapSample (h : Canonical s) {ph : Nat} {n v : Int} : Canonical (s.tapSample ph n v) :=
  .modPhase (.ite h.tapDetected h)

theorem Canonical.tapMissing (h : Canonical s) {ph : Nat} : Canonical (s.tapMissing ph) := by
  unfold State.tapMissing
  dsimp only
  split
  · exact .ite h.closeHalf h
  · exact h

theorem Canonical.takeHalves (h : Canonical s) : Canonical s.takeHalves := by
  refine h.foldl fun ht => ?_
  split
  · exact .tapMissing (.ite ht.modPhase (ht.each fun hu => hu.tapSample))
  · exact ht

theorem Canonical.readWindow20 (h : Canonical s) {ph : Nat} {w : Rat × Bool} : Canonical (s.readWindow20 ph w) := h.countBy.modPhase
theorem Canonical.takeSymbols (h : Canonical s) : Canonical s.takeSymbols := h.each fun ht => ht.each fun hu => hu.readWindow20

theorem Canonical.tryFrames (h : Canonical s) {e : ChlEnd} : Canonical (s.tryFrames e) :=
  .ite h (.ite (.ite (h.each fun ht => .ite ht.takeOutbound ht.takeInbound) h) (.ite h.findBoundary h))

theorem Canonical.firePulse (h : Canonical s) {x : ChlSending} : Canonical (s.firePulse x) := by
  unfold State.firePulse
  split
  · exact .ite h.send h
  · exact h

theorem Canonical.sendPulses (h : Canonical s) : Canonical s.sendPulses := by
  unfold State.sendPulses
  exact .modChl (h.each fun ht => ht.firePulse)

theorem Canonical.phyTick (h : Canonical s) : Canonical s.phyTick :=
  .ite h.modChl (.sendPulses (h.takeTaps.takeHalves.takeL1.takeSymbols.modChl.each fun ht => ht.tryFrames))

/-! ### The tick -/

theorem Canonical.countTick (h : Canonical s) : Canonical s.countTick := h.put.advanceWall

theorem Canonical.applyWord (h : Canonical s) {sp : Nat} : Canonical (s.applyWord sp) := by
  unfold State.applyWord
  split
  · exact h.holdPilot
  · exact h

theorem Canonical.latchInputs (h : Canonical s) {i : TickIn} : Canonical (s.latchInputs i) :=
  .latchCriteria (.sealSample (h.each fun ht => ht.latchFn))

theorem Canonical.edge (h : Canonical s) {i : TickIn} : Canonical (s.edge i) :=
  .latchInputs (.applySwitches (.each (.countTick (.each h.update fun ht => ht.rememberWave)) fun ht => ht.applyWord))

theorem Canonical.worstSeen (h : Canonical s) {cycles : List Nat} : Canonical (s.worstSeen cycles) :=
  h.each fun ht => .ite ht.put ht

theorem Canonical.portUse (h : Canonical s) : Canonical s.portUse :=
  .ite (h.each fun ht => ht.put.modPort) (.put (h.each fun ht => ht.put.modPort))

theorem Canonical.meterSlot (h : Canonical s) {i : TickIn} : Canonical (s.meterSlot i) :=
  .watchSag (.meterFrame (.adcTick (.worstSeen (h.each fun ht => ht.error0))))

theorem Canonical.pedalSlot (h : Canonical s) : Canonical s.pedalSlot := h.each fun ht => ht.pedalTurn

theorem Canonical.safetyEvaluation (h : Canonical s) : Canonical s.safetyEvaluation :=
  .each (.sessionEnds (.each (.each (.evalGuard (.each (.evalSwitches (h.each fun ht => ht.evalPilot.evalResidual)) fun ht =>
    ht.serveLock.watchLock.weldStep)) fun ht => ht.evalLink) fun ht => ht.evalGate)) fun ht => ht.command.showSwitch.latchSeen

theorem Canonical.fixedSamples (h : Canonical s) : Canonical s.fixedSamples := by
  unfold State.fixedSamples
  extract_lets t1
  have h1 : Canonical t1 := .ite (h.each fun ht => .extreme (.ite ht.histogram ht)) h
  refine .ite (h1.foldl fun ht => ?_) h1
  split
  · exact ht.extreme
  · exact ht

theorem Canonical.hostSamples (h : Canonical s) : Canonical s.hostSamples :=
  .ite h (.each (h.each fun ht => .ite ht.histogram ht) fun ht => .ite ht.extreme ht)

theorem Canonical.choosePulses (h : Canonical s) : Canonical s.choosePulses := .ite h (h.each fun ht => .ite ht.modSwitch ht)
theorem Canonical.assemble (h : Canonical s) {d : Die} : Canonical (s.assemble d) := h.modDie

theorem Canonical.sendFrames (h : Canonical s) : Canonical s.sendFrames :=
  .each (.ite h.choosePulses.assemble.assemble h.choosePulses.assemble) fun ht => ht.modSwitch

theorem Canonical.coreEngines (h : Canonical s) {i : TickIn} : Canonical (s.coreEngines i) :=
  .ite h h.keyColumn.startOp.panelTick.plcaBeacons.slacTick.phyTick.chlTick

theorem Canonical.frame (h : Canonical s) {i : TickIn} : Canonical (s.frame i) :=
  .update (.flushNotices (.saveTick (.modeTick (.countMode (.tagTick (.coreEngines (.bistSlice (.runTriggers (.captureSlot
    (.sendFrames (.hostSamples (.fixedSamples (.safetyEvaluation (.pedalSlot (h.exitTick.cryptoTick.portUse.meterSlot.each fun ht
    => ht.senseSpoke)))))))))))))))

theorem Canonical.unpoweredTick (h : Canonical s) : Canonical s.unpoweredTick := .tagTick h.update
theorem Canonical.tick (h : Canonical s) {i : TickIn} : Canonical (tick i s) := .ite h.unpoweredTick h.boundary.edge.frame

/-! ### The step -/

/-- Every meaning ends in a state whose stores are canonical. -/
theorem Canonical.exec_next (h : Canonical s) (c : Instr) : ∃ t, exec c s = .next t ∧ Canonical t := by
  cases c with
  | tick => exact ⟨_, rfl, h.tick⟩
  | upstreamFrame => exact ⟨_, rfl, h.upstreamFrame⟩
  | downstreamFrame => exact ⟨_, rfl, h.downstreamFrame⟩
  | spokeLinkFailed => exact ⟨_, rfl, h.spokeLinkFailed⟩
  | linkRetrained => exact ⟨_, rfl, h.linkRetrained⟩
  | planSwitch => exact ⟨_, rfl, h.planSwitch⟩
  | overrun => exact ⟨_, rfl, h.overrun⟩
  | derailleurRound => exact ⟨_, rfl, h.derailleurRound⟩
  | watchdogBite => exact ⟨_, rfl, h.watchdogBite⟩
  | postTriggerEnd => exact ⟨_, rfl, h.postTriggerEnd⟩
  | manualTrigger => exact ⟨_, rfl, h.writeRow fun ht => ht.applyManualTrigger⟩
  | release => exact ⟨_, rfl, h.writeRow fun ht => ht.applyRelease⟩
  | mapSwitch => exact ⟨_, rfl, h.mapSwitch⟩
  | newSpare => exact ⟨_, rfl, h.newSpare⟩
  | dwellEnd => exact ⟨_, rfl, h.dwellEnd⟩
  | dmaStart => exact ⟨_, rfl, h.writeRow fun ht => ht.applyDmaStart⟩
  | dmaAbort => exact ⟨_, rfl, h.writeRow fun ht => ht.applyDmaAbort⟩
  | descriptorComplete => exact ⟨_, rfl, h.descriptorComplete⟩
  | queueResume => exact ⟨_, rfl, h.queueResume⟩
  | descriptorWindowData => exact ⟨_, rfl, h.descriptorWindowData⟩
  | hostAreaData => exact ⟨_, rfl, h.hostAreaData⟩
  | clearCount => exact ⟨_, rfl, h.writeObject⟩
  | writeSetting => exact ⟨_, rfl, h.writeObject⟩
  | settingLogAppend => exact ⟨_, rfl, h.settingLogAppend⟩
  | canFdFrame => exact ⟨_, rfl, h.canFdFrame⟩
  | reassemblyTimeout => exact ⟨_, rfl, h.reassemblyTimeout⟩
  | kodDatagram => exact ⟨_, rfl, h.kodDatagram⟩
  | read => exact ⟨_, rfl, h.serve fun ht => ht.serveRead⟩
  | write => exact ⟨_, rfl, h.serve fun ht => ht.serveWrite⟩
  | readRun => exact ⟨_, rfl, h.serve fun ht => ht.serveReadRun⟩
  | writeRun => exact ⟨_, rfl, h.serve fun ht => ht.serveWriteRun⟩
  | loginBegin => exact ⟨_, rfl, h.serve fun ht => ht.serveLoginBegin⟩
  | loginProof => exact ⟨_, rfl, h.serve fun ht => ht.serveLoginProof⟩
  | lockoutEnd => exact ⟨_, rfl, h.lockoutEnd⟩
  | pendingLoginExpiry => exact ⟨_, rfl, h.pendingLoginExpiry⟩
  | logout => exact ⟨_, rfl, h.serve fun ht => ht.endKod⟩
  | keepalive => exact ⟨_, rfl, h.serve fun ht => ht⟩
  | subscribe => exact ⟨_, rfl, h.serve fun ht => ht.serveSubscribe⟩
  | unsubscribe => exact ⟨_, rfl, h.serve fun ht => ht.serveUnsubscribe⟩
  | discover => exact ⟨_, rfl, h.serve fun ht => ht⟩
  | idleTimeout => exact ⟨_, rfl, h.idleTimeout⟩
  | close => exact ⟨_, rfl, h.writeRow fun ht => .ite ht.endKod ht⟩
  | controllerChange => exact ⟨_, rfl, h.controllerChange⟩
  | kodEnable => exact ⟨_, rfl, h.writeRow fun ht => ht.setKodEnable⟩
  | subscriptionEvaluation => exact ⟨_, rfl, h.subscriptionEvaluation⟩
  | bulkOpen => exact ⟨_, rfl, h.writeRow fun ht => ht.applyRegionCommand⟩
  | bulkData => exact ⟨_, rfl, h.writeRow fun ht => ht.applyData⟩
  | bulkOffset => exact ⟨_, rfl, h.writeRow fun ht => ht.put⟩
  | bulkFinish => exact ⟨_, rfl, h.writeRow fun ht => ht.applyRegionCommand⟩
  | bulkCommit => exact ⟨_, rfl, h.writeRow fun ht => ht.applyRegionCommand⟩
  | bulkAbort => exact ⟨_, rfl, h.writeRow fun ht => ht.applyRegionCommand⟩
  | stagingFlush => exact ⟨_, rfl, h.stagingFlush⟩
  | sensorType => exact ⟨_, rfl, h.writeRow fun ht => ht.apply08⟩
  | spokeGroup => exact ⟨_, rfl, h.writeRow fun ht => ht.apply09⟩
  | groupEnable => exact ⟨_, rfl, h.writeRow fun ht => ht.apply09⟩
  | referenceGroup => exact ⟨_, rfl, h.writeRow fun ht => ht.apply09⟩
  | calibrationWrite => exact ⟨_, rfl, h.writeObject⟩
  | sealOpening => exact ⟨_, rfl, h.sealOpening⟩
  | sealClosing => exact ⟨_, rfl, h.sealClosing⟩
  | missingCrossing => exact ⟨_, rfl, h.missingCrossing⟩
  | snapshotRequest => exact ⟨_, rfl, h.writeRow fun ht => ht.applySnapshotRequest⟩
  | snapshotLatch => exact ⟨_, rfl, h.snapshotLatch⟩
  | pulseOutputChange => exact ⟨_, rfl, h.pulseOutputChange⟩
  | jitterFreeEnd => exact ⟨_, rfl, h.jitterFreeEnd⟩
  | clearRegisters => exact ⟨_, rfl, h.writeRow fun ht => ht.applyClearRegisters⟩
  | powerFailDecision => exact ⟨_, rfl, h.powerFailDecision⟩
  | flashPowerFailRecord => exact ⟨_, rfl, h.flashPowerFailRecord⟩
  | flashRecordCommit => exact ⟨_, rfl, h.flashRecordCommit⟩
  | powerFailResume => exact ⟨_, rfl, h.powerFailResume⟩
  | journalLatch => exact ⟨_, rfl, h.journalLatch⟩
  | journalCommit => exact ⟨_, rfl, h.journalCommit⟩
  | journalWriteFailure => exact ⟨_, rfl, h.journalWriteFailure⟩
  | slew => exact ⟨_, rfl, h.writeRow fun ht => ht.applySlew⟩
  | step => exact ⟨_, rfl, h.writeRow fun ht => ht.applyStep⟩
  | stepEffect => exact ⟨_, rfl, h.stepEffect⟩
  | tariffActivation => exact ⟨_, rfl, h.tariffActivation⟩
  | rateSwitch => exact ⟨_, rfl, h.rateSwitch⟩
  | demandIntervalClose => exact ⟨_, rfl, h.demandIntervalClose⟩
  | billingPeriodClose => exact ⟨_, rfl, h.billingPeriodClose⟩
  | closeNow => exact ⟨_, rfl, h.writeRow fun ht => ht.applyCloseNow⟩
  | authoriseSpoke => exact ⟨_, rfl, h.authoriseSpoke⟩
  | stop => exact ⟨_, rfl, h.writeRow fun ht => ht.applyStop⟩
  | collect => exact ⟨_, rfl, h.writeRow fun ht => ht.applyCollect⟩
  | costRecomputation => exact ⟨_, rfl, h.costRecomputation⟩
  | tokenEntry => exact ⟨_, rfl, h.tokenEntry⟩
  | tokenLockoutEnd => exact ⟨_, rfl, h.tokenLockoutEnd⟩
  | pilotPeriodStart => exact ⟨_, rfl, h.pilotPeriodStart⟩
  | pedNop => exact ⟨_, rfl, h.pedNop⟩
  | pedLdi => exact ⟨_, rfl, h.pedLdi⟩
  | pedLdu => exact ⟨_, rfl, h.pedLdu⟩
  | pedMov => exact ⟨_, rfl, h.pedMov⟩
  | pedAdd => exact ⟨_, rfl, h.pedAdd⟩
  | pedSub => exact ⟨_, rfl, h.pedSub⟩
  | pedAddi => exact ⟨_, rfl, h.pedAddi⟩
  | pedAnd => exact ⟨_, rfl, h.pedAnd⟩
  | pedOr => exact ⟨_, rfl, h.pedOr⟩
  | pedMin => exact ⟨_, rfl, h.pedMin⟩
  | pedMax => exact ⟨_, rfl, h.pedMax⟩
  | pedEnc => exact ⟨_, rfl, h.pedEnc⟩
  | pedBr => exact ⟨_, rfl, h.pedBr⟩
  | pedBf => exact ⟨_, rfl, h.pedBf⟩
  | pedWait => exact ⟨_, rfl, h.pedWait⟩
  | pedYield => exact ⟨_, rfl, h.pedYield⟩
  | pedTake => exact ⟨_, rfl, h.pedTake⟩
  | pedIn => exact ⟨_, rfl, h.pedIn⟩
  | pedOut => exact ⟨_, rfl, h.pedOut⟩
  | pedOuti => exact ⟨_, rfl, h.pedOuti⟩
  | pedTset => exact ⟨_, rfl, h.pedTset⟩
  | pedTseti => exact ⟨_, rfl, h.pedTseti⟩
  | pedNote => exact ⟨_, rfl, h.pedNote⟩
  | pedHalt => exact ⟨_, rfl, h.pedHalt⟩
  | timerExpiry => exact ⟨_, rfl, h.timerExpiry⟩
  | programSwitch => exact ⟨_, rfl, h.programSwitch⟩
  | pedalRestart => exact ⟨_, rfl, h.writeRow fun ht => ht.applyPedalRestart⟩
  | broadcast => exact ⟨_, rfl, h.writeRow fun ht => ht.applyBroadcast⟩
  | offerLapse => exact ⟨_, rfl, h.offerLapse⟩
  | softGraceEnd => exact ⟨_, rfl, h.softGraceEnd⟩
  | seccDiscovery => exact ⟨_, rfl, h.seccDiscovery⟩
  | supportedAppProtocol => exact ⟨_, rfl, h.supportedAppProtocol⟩
  | cmSlacParmReq => exact ⟨_, rfl, h.cmSlacParmReq⟩
  | cmStartAttenCharInd => exact ⟨_, rfl, h.cmStartAttenCharInd⟩
  | cmMnbcSoundInd => exact ⟨_, rfl, h.cmMnbcSoundInd⟩
  | soundingWindowEnd => exact ⟨_, rfl, h.soundingWindowEnd⟩
  | cmSlacMatchReq => exact ⟨_, rfl, h.cmSlacMatchReq⟩
  | cmValidateReq => exact ⟨_, rfl, h.cmValidateReq⟩
  | matchTimeout => exact ⟨_, rfl, h.matchTimeout⟩
  | sessionSetup => exact ⟨_, rfl, h.sessionSetup⟩
  | serviceDiscovery => exact ⟨_, rfl, h.serviceDiscovery⟩
  | serviceDetail => exact ⟨_, rfl, h.serviceDetail⟩
  | paymentServiceSelection => exact ⟨_, rfl, h.paymentServiceSelection⟩
  | paymentDetails => exact ⟨_, rfl, h.paymentDetails⟩
  | authorizationSetup => exact ⟨_, rfl, h.authorizationSetup⟩
  | authorization => exact ⟨_, rfl, h.authorization⟩
  | serviceSelection => exact ⟨_, rfl, h.serviceSelection⟩
  | chargeParameterDiscovery => exact ⟨_, rfl, h.chargeParameterDiscovery⟩
  | acChargeParameterDiscovery => exact ⟨_, rfl, h.acChargeParameterDiscovery⟩
  | scheduleExchange => exact ⟨_, rfl, h.scheduleExchange⟩
  | powerDelivery => exact ⟨_, rfl, h.powerDelivery⟩
  | powerDeliveryTimeout => exact ⟨_, rfl, h.powerDeliveryTimeout⟩
  | chargingStatus => exact ⟨_, rfl, h.chargingStatus⟩
  | acChargeLoop => exact ⟨_, rfl, h.acChargeLoop⟩
  | meteringReceipt => exact ⟨_, rfl, h.meteringReceipt⟩
  | meteringConfirmation => exact ⟨_, rfl, h.meteringConfirmation⟩
  | sessionStop => exact ⟨_, rfl, h.sessionStop⟩
  | unsupportedMessage => exact ⟨_, rfl, h.unsupportedMessage⟩
  | abnormalLoss => exact ⟨_, rfl, h.abnormalLoss⟩
  | orderlyStopTimeout => exact ⟨_, rfl, h.orderlyStopTimeout⟩
  | tlsHandshake => exact ⟨_, rfl, h.tlsHandshake⟩
  | tlsFallbackTimeout => exact ⟨_, rfl, h.tlsFallbackTimeout⟩
  | contractDecision => exact ⟨_, rfl, h.writeRow fun ht => ht.applyContract⟩
  | contractDecisionTimeout => exact ⟨_, rfl, h.contractDecisionTimeout⟩
  | allocationPeriod => exact ⟨_, rfl, h.allocationPeriod⟩
  | guardStage1 => exact ⟨_, rfl, h.guardStage1⟩
  | guardStage2 => exact ⟨_, rfl, h.guardStage2⟩
  | guardStage3 => exact ⟨_, rfl, h.guardStage3⟩
  | guardRecovery => exact ⟨_, rfl, h.guardRecovery⟩
  | capActivation => exact ⟨_, rfl, h.capActivation⟩
  | capEnd => exact ⟨_, rfl, h.capEnd⟩
  | reboundDelayEnd => exact ⟨_, rfl, h.reboundDelayEnd⟩
  | underVoltage => exact ⟨_, rfl, h.underVoltage⟩
  | channelRestart => exact ⟨_, rfl, h.channelRestart⟩
  | thermalLatch => exact ⟨_, rfl, h.thermalLatch⟩
  | clearLatch => exact ⟨_, rfl, h.writeRow fun ht => ht.applyClearLatch⟩
  | offPulse => exact ⟨_, rfl, h.offPulse⟩
  | strokeEnd => exact ⟨_, rfl, h.strokeEnd⟩
  | brakeEnd => exact ⟨_, rfl, h.brakeEnd⟩
  | lkOvertimeStop => exact ⟨_, rfl, h.lkOvertimeStop⟩
  | weldLockout => exact ⟨_, rfl, h.weldLockout⟩
  | clearWeldLockout => exact ⟨_, rfl, h.writeRow fun ht => ht.applyClearWeld⟩
  | hxCommand => exact ⟨_, rfl, h.writeRow fun ht => ht.applyHxCommand⟩
  | functionDemand => exact ⟨_, rfl, h.functionDemand⟩
  | functionClear => exact ⟨_, rfl, h.functionClear⟩
  | functionReset => exact ⟨_, rfl, h.writeRow fun ht => ht.applyFunctionReset⟩
  | discrepancy => exact ⟨_, rfl, h.discrepancy⟩
  | residualTrip => exact ⟨_, rfl, h.residualTrip⟩
  | crossCheckFailure => exact ⟨_, rfl, h.crossCheckFailure⟩
  | testWinding => exact ⟨_, rfl, h.testWinding⟩
  | testWindingResult => exact ⟨_, rfl, h.testWindingResult⟩
  | earthFault => exact ⟨_, rfl, h.earthFault⟩
  | earthClear => exact ⟨_, rfl, h.earthClear⟩
  | clearLockout => exact ⟨_, rfl, h.writeRow fun ht => ht.applyClearLockout⟩
  | clearDeviceFault => exact ⟨_, rfl, h.writeRow fun ht => ht.applyClearDeviceFault⟩
  | safetyDomainFault => exact ⟨_, rfl, h.safetyDomainFault⟩
  | tandemSend => exact ⟨_, rfl, h.tandemSend⟩
  | tandemCopy => exact ⟨_, rfl, h.tandemCopy⟩
  | missingTwin => exact ⟨_, rfl, h.missingTwin⟩
  | tandemSilence => exact ⟨_, rfl, h.tandemSilence⟩
  | firmwareRestart => exact ⟨_, rfl, h.firmwareRestart⟩
  | leaseReclaim => exact ⟨_, rfl, h.leaseReclaim⟩
  | leaseExpiry => exact ⟨_, rfl, h.leaseExpiry⟩
  | outboundFrame => exact ⟨_, rfl, h.outboundFrame⟩
  | timeAlign => exact ⟨_, rfl, h.timeAlign⟩
  | timeSet => exact ⟨_, rfl, h.timeSet⟩
  | snapshot => exact ⟨_, rfl, h.snapshot⟩
  | billingClose => exact ⟨_, rfl, h.billingCloseCommand⟩
  | mcTargetReached => exact ⟨_, rfl, h.mcTargetReached⟩
  | drCap => exact ⟨_, rfl, h.drCap⟩
  | drCancel => exact ⟨_, rfl, h.drCancel⟩
  | tariffBegin => exact ⟨_, rfl, h.tariffBegin⟩
  | tariffData => exact ⟨_, rfl, h.tariffData⟩
  | tariffEnd => exact ⟨_, rfl, h.tariffEnd⟩
  | tariffAbort => exact ⟨_, rfl, h.tariffAbort⟩
  | tariffIdleTimeout => exact ⟨_, rfl, h.tariffIdleTimeout⟩
  | chainlineRead => exact ⟨_, rfl, h.chainlineRead⟩
  | reregister => exact ⟨_, rfl, h.reregister⟩
  | registration => exact ⟨_, rfl, h.registration⟩
  | repeater => exact ⟨_, rfl, h.repeater⟩
  | ack => exact ⟨_, rfl, h.chlAck⟩
  | inboundFrame => exact ⟨_, rfl, h.inboundFrame⟩
  | inboundSend => exact ⟨_, rfl, h.inboundSend⟩
  | ackTimeout => exact ⟨_, rfl, h.ackTimeout⟩
  | orphanCall => exact ⟨_, rfl, h.orphanCall⟩
  | hello => exact ⟨_, rfl, h.hello⟩
  | neighbourExpiry => exact ⟨_, rfl, h.neighbourExpiry⟩
  | ping => exact ⟨_, rfl, h.ping⟩
  | polling => exact ⟨_, rfl, h.polling⟩
  | settleEnd => exact ⟨_, rfl, h.settleEnd⟩
  | decision => exact ⟨_, rfl, h.writeRow fun ht => ht.applyDecision⟩
  | decisionTimeout => exact ⟨_, rfl, h.decisionTimeout⟩
  | apduCommand => exact ⟨_, rfl, h.writeRow fun ht => ht.applyApdu⟩
  | waitingTimeCap => exact ⟨_, rfl, h.waitingTimeCap⟩
  | emulationApdu => exact ⟨_, rfl, h.emulationApdu⟩
  | emulationWtx => exact ⟨_, rfl, h.emulationWtx⟩
  | externalField => exact ⟨_, rfl, h.externalField⟩
  | fieldAbsent => exact ⟨_, rfl, h.fieldAbsent⟩
  | keyPress => exact ⟨_, rfl, h.keyPress⟩
  | keyRelease => exact ⟨_, rfl, h.keyRelease⟩
  | entryTimeout => exact ⟨_, rfl, h.entryTimeout⟩
  | reqa => exact ⟨_, rfl, h.reqa⟩
  | wupa => exact ⟨_, rfl, h.wupa⟩
  | anticollision => exact ⟨_, rfl, h.anticollision⟩
  | hlta => exact ⟨_, rfl, h.hlta⟩
  | tagRead => exact ⟨_, rfl, h.tagRead⟩
  | tagWrite => exact ⟨_, rfl, h.tagWrite⟩
  | commitMarkerWrite => exact ⟨_, rfl, h.commitMarkerWrite⟩
  | fdetRelease => exact ⟨_, rfl, h.fdetRelease⟩
  | fdetLow => exact ⟨_, rfl, h.fdetLow⟩
  | identityRewrite => exact ⟨_, rfl, h.identityRewrite⟩
  | tamper => exact ⟨_, rfl, h.tamper⟩
  | bump => exact ⟨_, rfl, h.writeRow fun ht => ht.applyBump⟩
  | keyInstall => exact ⟨_, rfl, h.writeRow fun ht => ht.applyKeyInstall⟩
  | replaceRoot => exact ⟨_, rfl, h.writeRow fun ht => ht.applyReplaceRoot⟩
  | ownerKey => exact ⟨_, rfl, h.writeRow fun ht => ht.applyOwnerKey⟩
  | randomGeneratorFailure => exact ⟨_, rfl, h.randomGeneratorFailure⟩
  | histogramDefinition => exact ⟨_, rfl, h.histogramDefinition⟩
  | freeze => exact ⟨_, rfl, h.writeRow fun ht => ht.applyFreeze⟩
  | freezeEnd => exact ⟨_, rfl, h.freezeEnd⟩
  | clearHistogram => exact ⟨_, rfl, h.writeRow fun ht => ht.applyClearHist⟩
  | clearExtreme => exact ⟨_, rfl, h.writeRow fun ht => ht.applyClearPair⟩
  | clearRing => exact ⟨_, rfl, h.writeRow fun ht => ht.applyClearRing⟩
  | saveNow => exact ⟨_, rfl, h.writeRow fun ht => ht.applySaveNow⟩
  | saveComplete => exact ⟨_, rfl, h.saveComplete⟩
  | updateRequest => exact ⟨_, rfl, h.writeRow fun ht => ht.applyUpdateRequest⟩
  | displayAdmission => exact ⟨_, rfl, h.displayAdmission⟩
  | panelFrame => exact ⟨_, rfl, h.panelFrame⟩
  | powerGood => exact ⟨_, rfl, h.powerGood⟩
  | powerGoodTimeout => exact ⟨_, rfl, h.powerGoodTimeout⟩
  | displayIdle => exact ⟨_, rfl, h.displayIdle⟩
  | panelTemperatureRead => exact ⟨_, rfl, h.panelTemperatureRead⟩
  | clearCrack => exact ⟨_, rfl, h.writeRow fun ht => ht.applyClearCrack⟩
  | drawData => exact ⟨_, rfl, h.drawData⟩
  | flashOperationComplete => exact ⟨_, rfl, h.flashOperationComplete⟩
  | powerFailAreaErase => exact ⟨_, rfl, h.powerFailAreaErase⟩
  | boot => exact ⟨_, rfl, h.boot⟩
  | imageVerification => exact ⟨_, rfl, h.imageVerification⟩
  | commitEffect => exact ⟨_, rfl, h.commitEffect⟩
  | trialWindowEnd => exact ⟨_, rfl, h.trialWindowEnd⟩
  | confirm => exact ⟨_, rfl, h.writeRow fun ht => ht.applyConfirm⟩
  | selfConfirmation => exact ⟨_, rfl, h.selfConfirmation⟩
  | rejectTrial => exact ⟨_, rfl, h.writeRow fun ht => ht.applyReject⟩
  | knownEventExit => exact ⟨_, rfl, h.knownEventExit⟩
  | wake => exact ⟨_, rfl, h.wake⟩
  | workstand => exact ⟨_, rfl, h.writeRow fun ht => ht.applyWorkstand⟩
  | restart => exact ⟨_, rfl, h.writeRow fun ht => ht.applyRestart⟩
  | commandedRestart => exact ⟨_, rfl, h.commandedRestart⟩
  | softwareRestart => exact ⟨_, rfl, h.coreReset⟩
  | controlCoreWatchdog => exact ⟨_, rfl, h.controlCoreWatchdog⟩
  | pllLockLoss => exact ⟨_, rfl, h.pllLockLoss⟩
  | powerOnReset => exact ⟨_, rfl, h.powerOnReset⟩
  | brownOut => exact ⟨_, rfl, h.brownOut⟩
  | rstN => exact ⟨_, rfl, h.rstN⟩
  | bistPassDue => exact ⟨_, rfl, h.bistPassDue⟩
  | adcTest => exact ⟨_, rfl, h.adcTest⟩
  | adcTestEnd => exact ⟨_, rfl, h.adcTestEnd⟩
  | programFuses => exact ⟨_, rfl, h.writeRow fun ht => ht.applyProgramFuses⟩
  | apduResponse => exact ⟨_, rfl, h.apduResponse⟩
  | tagFieldLost => exact ⟨_, rfl, h.tagFieldLost⟩
  | vbatLow => exact ⟨_, rfl, h.vbatLow⟩
  | echoRequest => exact ⟨_, rfl, h.echoRequest⟩
  | neighbourDiscovery => exact ⟨_, rfl, h.neighbourDiscovery⟩
  | arpRequest => exact ⟨_, rfl, h.arpRequest⟩

end Rules

/-- Settles O4: the rules of the shared operations carry the canonical form through every meaning. -/
theorem stepKeepsStores : Obligations.StepKeepsStores := by
  unfold Obligations.StepKeepsStores
  intro s t hs hstep
  unfold step at hstep
  split at hstep
  · cases hstep
    exact hs
  · next c rest _ =>
    have hrest : Canonical { s with pending := rest } := ⟨hs⟩
    obtain ⟨u, hexec, hu⟩ := hrest.exec_next c
    rw [hexec] at hstep
    cases hstep
    exact hu.wf

end Sys2Proof.Machine
end

section
/-! The rows of the resets (R14, R153, R440, R463-R468) where no firmware image verifies: what O27 says of every row but the boot, and of the boot there. -/

namespace Sys2Proof.Machine
set_option Elab.async false

section Resets
variable (s : State)

/-! ### Firmware and core domain through a restart (R244, R440, R447) -/

/-- Whether the core domain is in reset, and whether the firmware runs. -/
def State.coreView (s : State) : Bool × Bool := (s.modes.coreInReset, s.lease.fwUp)

theorem coreView_flash (f : Flash) : ({ s with flash := f } : State).coreView = s.coreView := rfl
theorem coreView_vault (v : Vault) : ({ s with vault := v } : State).coreView = s.coreView := rfl
theorem coreView_put (k : Nat) (v : Int) : (s.put k v).coreView = s.coreView := rfl
theorem coreView_notice (i c v : Nat) : (s.notice i c v).coreView = s.coreView := rfl
theorem coreView_noticeOpen (i c : Nat) : (s.noticeOpen i c).coreView = s.coreView := rfl
theorem coreView_drew : s.drew.coreView = s.coreView := rfl
theorem coreView_modVLink (sp : Nat) (f : VLink → VLink) : (s.modVLink sp f).coreView = s.coreView := rfl

theorem coreView_puts (l : List (Nat × Int)) : (s.puts l).coreView = s.coreView := by
  have h := congrArg State.coreView (puts_rest s l)
  exact h

theorem coreView_flashOp (o : FlashOp) : (s.flashOp o).coreView = s.coreView := by
  unfold State.flashOp
  split <;> rfl

theorem coreView_orphanAll : s.orphanAll.coreView = s.coreView := by
  refine each_view State.coreView s [1, 2, 3, 4] State.orphan fun t d _ => ?_
  refine each_view State.coreView t _ _ fun u k _ => ?_
  split <;> rfl

theorem coreView_reportTamper : s.reportTamper.coreView = s.coreView := by
  unfold State.reportTamper
  split <;> rfl

theorem coreView_checkRoot : s.checkRoot.coreView = s.coreView := by
  unfold State.checkRoot
  split
  · rfl
  · split
    · rw [coreView_put, coreView_orphanAll, coreView_vault]
    · rw [coreView_notice, coreView_orphanAll, coreView_drew, coreView_vault, coreView_puts, coreView_puts]

theorem coreView_swapSlots (r other : Nat) : (s.swapSlots r other).coreView = s.coreView := coreView_puts s _

theorem coreView_ratchetIf : s.ratchetIf.coreView = s.coreView := by
  unfold State.ratchetIf State.ratchetSvn
  split
  · rfl
  · extract_lets v
    split <;> rfl

theorem coreView_svnReport (slot : Nat) : (s.svnReport slot).coreView = s.coreView := by
  unfold State.svnReport
  extract_lets w
  split <;> rfl

theorem coreView_bootFw : s.bootFw.coreView = s.coreView := by
  unfold State.bootFw
  extract_lets a o u t v
  have hu : u.coreView = s.coreView := by
    unfold u
    split
    · rfl
    · exact coreView_svnReport s a
  split
  · rw [coreView_ratchetIf, coreView_put]
  · split
    · rw [coreView_flash, coreView_puts, coreView_notice, coreView_noticeOpen, coreView_flashOp, coreView_swapSlots, hu]
    · exact (coreView_svnReport u o).trans hu

theorem coreView_bootTrial : s.bootTrial.coreView = s.coreView := by
  unfold State.bootTrial State.fallBack
  split
  · rfl
  · split
    · show (State.coreView (State.notice _ _ _ _)) = _
      rw [coreView_notice, coreView_flash, coreView_flashOp, coreView_puts, coreView_swapSlots]
    · rw [coreView_flash, coreView_flashOp, coreView_puts]

theorem coreView_setLinkState (sp v : Nat) : (s.setLinkState sp v).coreView = s.coreView := by
  unfold State.setLinkState
  split <;> rfl

theorem coreView_setVehicleMax (sp v : Nat) : (s.setVehicleMax sp v).coreView = s.coreView := by
  unfold State.setVehicleMax
  split <;> rfl

theorem coreView_abnormal (sp : Nat) : (s.abnormal sp).coreView = s.coreView := by
  rw [State.abnormal, coreView_notice, State.leaveLink, coreView_setLinkState, coreView_modVLink, State.endVehicle, coreView_modVLink,
    coreView_puts, coreView_setVehicleMax]

theorem coreView_restartVehicle : s.restartVehicle.coreView = s.coreView := by
  refine each_view State.coreView { s with slac := [] } _ _ fun t sp _ => ?_
  extract_lets u
  have hu : u.coreView = t.coreView := by
    unfold u
    split <;> rfl
  split
  · exact (coreView_abnormal u sp).trans hu
  · exact hu

theorem coreView_recoverSlots : s.recoverSlots.coreView = s.coreView := by
  unfold State.recoverSlots
  split
  · rfl
  · extract_lets t
    have ht : t.coreView = s.coreView := each_view State.coreView s _ _ fun u i _ => coreView_puts u _
    rw [State.showEngine, coreView_put, ← ht]
    unfold State.panelOn
    split <;> rfl

theorem coreView_displayRestart : s.displayRestart.coreView = s.coreView := by
  unfold State.displayRestart
  split
  · rfl
  · exact coreView_recoverSlots s

theorem fwUp_reclaim : s.reclaim.lease.fwUp = true := by
  unfold State.reclaim
  extract_lets t u
  split <;> rfl

theorem firmwareRestart_runs (h : s.modes.coreInReset = true) : (firmwareRestart s).coreView = (false, true) := by
  unfold firmwareRestart
  extract_lets t m u v w
  have hu : u.coreView = (false, true) := congrArg (Prod.mk false) (fwUp_reclaim s)
  have hv : v.coreView = (false, true) := by
    unfold v
    split
    · exact hu
    · exact hu
  rw [if_neg (by rw [h]; exact Bool.false_ne_true)]
  split
  · exact hv
  · rw [coreView_displayRestart, coreView_restartVehicle, coreView_bootTrial, coreView_bootFw, coreView_checkRoot, coreView_reportTamper]
    exact hv

/-! ### The capture before a reset (R153) -/

theorem cc_putLastCause (v : Int) : (s.put k30LastCause v).cc = s.cc := getN_put_other s _ _ v (by decide)

theorem stamp_putLastCause (v : Int) : (s.put k30LastCause v).stamp = s.stamp := by
  rw [State.stamp, State.stamp, State.timeValid, State.timeValid, State.flag, State.flag, State.wall, State.wall,
    get_put_other _ _ _ _ (by decide), getN_put_other _ _ _ _ (by decide)]

theorem faultCapture_active (h : s.pf.active = true) : s.faultCapture = (s.put k30LastCause 4).capture 4 s.cc s.stamp := by
  unfold State.faultCapture
  extract_lets t p u
  have hu : u = t := if_pos h
  rw [hu, cc_putLastCause, stamp_putLastCause]

theorem faultCapture_idle (h : s.pf.active = false) : s.faultCapture =
    ({ s.put k30LastCause 4 with pf := { s.pf with seq := 0 } } : State).capture 4 s.cc s.stamp := by
  unfold State.faultCapture
  extract_lets t p v
  have hv : v = { t with pf := { s.pf with seq := 0 } } := if_neg (by rw [put_pf, h]; exact Bool.false_ne_true)
  rw [hv]
  exact congrArg₂ (State.capture _ 4) (cc_putLastCause s 4) (stamp_putLastCause s 4)

end Resets

/-! ### The boot with a slot that holds no image -/

section Boot
variable {s : State} {b : BootIn}

/-- No slot of the firmware verifies, in whatever state. -/
def NoFirmware : Prop := ∀ (s : State) (slot : Nat), s.slotValid 0 slot = false

theorem modes_svnReport (slot : Nat) : (s.svnReport slot).modes = s.modes := by
  unfold State.svnReport
  extract_lets w
  split <;> rfl

theorem modes_bootFw (h : NoFirmware) : s.bootFw.modes.rom = true ∧ s.bootFw.modes.booted = s.modes.booted := by
  unfold State.bootFw
  extract_lets a o u t v
  have hu : u.modes = s.modes := by
    unfold u
    split
    · rfl
    · exact modes_svnReport a
  rw [h s a, Bool.and_false, if_neg Bool.false_ne_true, h u o, if_neg Bool.false_ne_true]
  refine ⟨rfl, ?_⟩
  exact (congrArg Modes.booted (modes_svnReport (s := u) o)).trans (congrArg Modes.booted hu)

theorem modes_loadHeader : s.loadHeader.modes = s.modes := by
  unfold State.loadHeader
  split
  · rfl
  · extract_lets fw t
    refine (each_view State.modes s _ _ fun u e _ => ?_ : t.modes = s.modes)
    exact (puts_modes _ _).trans (puts_modes _ _)

theorem modes_discoverFlash : (s.discoverFlash b).modes = s.modes := by
  unfold State.discoverFlash
  split
  · rfl
  · extract_lets t
    have ht : t.modes = s.modes := puts_modes s _
    split
    · exact (puts_modes _ _).trans ((puts_modes _ _).trans ht)
    · exact ht

theorem modes_bootVault (valid : Bool) : (s.bootVault valid).modes = s.modes := by
  unfold State.bootVault
  split
  · rfl
  · exact puts_modes s _

/-- The vault and the flash as a boot finds them. -/
def State.found (s : State) (b : BootIn) : State := ((s.bootVault b.vaultValid).startVault).discoverFlash b

theorem modes_found : (s.found b).modes = s.modes := by
  rw [State.found, modes_discoverFlash]
  exact modes_bootVault _

theorem boot_supported (hpowered : s.modes.powered = true) (hbooted : s.modes.booted = false) (hrom : s.modes.rom = false)
    (hcore : s.modes.coreInReset = false) (hflash : flashSupported b = true) : boot b s =
    if (s.found b).loadHeader.bootFw.modes.rom then (s.found b).loadHeader.bootFw.reportCause.put k31BootTime b.millis
    else (s.found b).loadHeader.bootFw.bootRest b := by
  unfold boot
  rw [hpowered, hbooted, hrom, hcore, hflash]
  rfl

theorem brownOut_powered (mainLost : Bool) (hpowered : s.modes.powered = true) : brownOut mainLost s =
    if mainLost then { (s.safetyReset 2).put k01Mode 4 with modes := { (s.safetyReset 2).modes with powered := false } }
    else s.safetyReset 2 := if_neg (by rw [hpowered]; exact Bool.false_ne_true)

theorem boot_unsupported (hpowered : s.modes.powered = true) (hbooted : s.modes.booted = false) (hrom : s.modes.rom = false)
    (hcore : s.modes.coreInReset = false) (hflash : flashSupported b = false) :
    (boot b s).modes.rom = true ∧ (boot b s).modes.booted = false := by
  unfold boot
  rw [hpowered, hbooted, hrom, hcore, hflash]
  exact ⟨rfl, (congrArg Modes.booted modes_found).trans hbooted⟩

end Boot

/-- Where no firmware verifies, every boot ends in the loader in ROM. -/
theorem resetRows_of_noFirmware (h : NoFirmware) : Obligations.ResetRows := by
  unfold Obligations.ResetRows
  refine ⟨fun s hp => ?_, fun s hp => ?_, faultCapture_active, faultCapture_idle, fun s hp => ?_, fun s hp => ⟨_, rfl, ?_, ?_⟩,
    fun s => ⟨_, rfl, rfl, rfl⟩, fun s => rfl, fun s core hc hf hp => ?_, fun s pll hpll => ?_, fun s pll h3 h5 hp => ?_,
    fun s hr => ⟨_, rfl, ?_, ?_⟩, fun s b hp hb hr hc hf => ⟨_, rfl, ?_, ?_⟩, fun s b hp hb hr hc hf => ⟨_, rfl, boot_unsupported hp hb hr hc hf⟩⟩
  · exact congrArg Host.Outcome.next (if_pos hp)
  · exact congrArg Host.Outcome.next (if_pos hp)
  · exact congrArg Host.Outcome.next (brownOut_powered false hp)
  · rw [brownOut_powered true hp]
    rfl
  · rw [brownOut_powered true hp]
    generalize s.safetyReset 2 = t
    exact getN_put_same t k01Mode 4
  · exact congrArg Host.Outcome.next (by simp only [controlCoreWatchdog, hc, hf, hp, decide_true, Bool.and_self, if_true]; rfl)
  · exact congrArg Host.Outcome.next (by rcases hpll with rfl | rfl <;> rfl)
  · exact congrArg Host.Outcome.next (by
      have h12 : (decide (pll = 1) || decide (pll = 2)) = false := by simp; omega
      simp only [pllLockLoss, h12, h3, h5, hp, decide_true, Bool.and_self, if_true, Bool.false_eq_true, if_false]; rfl)
  · exact congrArg Prod.fst (firmwareRestart_runs s hr)
  · exact congrArg Prod.snd (firmwareRestart_runs s hr)
  · intro hrom
    have := (modes_bootFw (s := s.found b) h).1
    rw [State.found, hrom] at this
    cases this
  · intro _
    obtain ⟨hrom, hbooted⟩ := modes_bootFw (s := (s.found b).loadHeader) h
    rw [boot_supported hp hb hr hc hf, if_pos hrom]
    refine ⟨hrom, ?_⟩
    exact hbooted.trans ((congrArg Modes.booted (modes_loadHeader.trans modes_found)).trans hb)

end Sys2Proof.Machine
end

section
/-! The boot clause of O27 and the firmware images that verify (R435, R436, R439, R440, R442). The model's boot loads the header before it
chooses a slot; the clause names the choice before the header is loaded. The two agree only where no image verifies. -/

namespace Sys2Proof.Machine
set_option Elab.async false

section Counter
variable (s : State) (slot : Nat)

theorem headCheck_congr {s t : State} (hbist : t.bist = s.bist) (hcount : t.getN k28AntiRollbackCount = s.getN k28AntiRollbackCount)
    (size : Nat) (w : List Nat) : t.headCheck 0 size w = s.headCheck 0 size w := by
  have hcrypto : t.cryptoOk = s.cryptoOk := congrArg (fun b : Bist => !b.cryptoFailed) hbist
  have hkey : t.keyAccepted 0 w = s.keyAccepted 0 w := rfl
  unfold State.headCheck
  rw [hcrypto, hkey, hcount]

/-- A region whose slot B holds what a slot of another holds, and whose slot A holds nothing. -/
def Region.onlyB (x : Region) (slot : Nat) : Region :=
  if slot = 0 then { slotB := x.slotA, sizeB := x.sizeA } else { slotB := x.slotB, sizeB := x.sizeB }

theorem words_onlyB (x : Region) : (x.onlyB slot).words 1 = x.words slot ∧ (x.onlyB slot).words 0 = [] := by
  unfold Region.onlyB
  split
  · next h =>
    subst h
    exact ⟨rfl, rfl⟩
  · next h => exact ⟨by simp [Region.words, h], rfl⟩

/-- A record whose firmware entry names no active slot. -/
def unsealedRec : HeaderRec := { seq := 0, regions := [⟨255, false, 0, 0, 0, 0, 0, 0⟩], crc := 0 }
def noneActiveRec : HeaderRec := { unsealedRec with crc := crc32 unsealedRec.bytes }

theorem valid_sealed (h : HeaderRec) : ({ h with crc := crc32 h.bytes } : HeaderRec).valid = true := by
  unfold HeaderRec.valid
  exact decide_eq_true rfl

theorem valid_noneActiveRec : noneActiveRec.valid = true := valid_sealed unsealedRec

/-- Powered and not booted: slot B of the firmware holds an image, and the members name slot B while the record names none. -/
def State.disagreeing : State :=
  { s.put (k31ActiveSlot 16) 1 with
    kod := { s.kod with regions := [(s.region 0).onlyB slot] }, flash := { s.flash with headers := [[noneActiveRec]] },
    modes := { powered := true } }

theorem get_disagreeing (k : Nat) : (s.disagreeing slot).get k = (s.put (k31ActiveSlot 16) 1).get k := rfl
theorem modes_disagreeing : (s.disagreeing slot).modes = { powered := true } := rfl
theorem bist_disagreeing : (s.disagreeing slot).bist = s.bist := rfl
theorem kod_disagreeing : (s.disagreeing slot).kod = { s.kod with regions := [(s.region 0).onlyB slot] } := rfl
theorem headers_disagreeing : (s.disagreeing slot).flash.headers = [[noneActiveRec]] := rfl

/-- A supported flash of 512 Mbit, and a vault that kept its supply. -/
def plainBoot : BootIn := ⟨true, 64, 0, 0, true, 0, true, 0⟩

/-- What a plain boot puts into the store before it reads the header. -/
def State.foundPlain (s : State) : State :=
  let t := (s.startVault.puts [(k30FlashSize, (8 * 64 : Nat)), (k30JEDECIdentity, (0 : Nat))]).put k30FlashState 1
  (t.placeAreas 64).setFlashMode plainBoot

theorem found_plain : s.found plainBoot = s.foundPlain := rfl

theorem get_foundPlain {k : Nat} (hflash : keyClass k ≠ 0x30) (hrandom : k ≠ k28RandomGeneratorState) : s.foundPlain.get k = s.get k := by
  have hne : ∀ i m, i < 1024 → m < 256 → key 0x30 i m ≠ k := by
    rintro i m hi hm rfl
    exact hflash (keyClass_key 0x30 hi hm)
  have hmode : ∀ t : State, (t.setFlashMode plainBoot).get k = t.get k := fun t => get_puts_other t _ k
    (by simpa using ⟨hne _ _ (by decide) (by decide), hne _ _ (by decide) (by decide)⟩)
  have hareas : ∀ t : State, (t.placeAreas 64).get k = t.get k := fun t => get_puts_other t _ k
    (by simpa using ⟨hne _ _ (by decide) (by decide), hne _ _ (by decide) (by decide), hne _ _ (by decide) (by decide),
      hne _ _ (by decide) (by decide), hne _ _ (by decide) (by decide), hne _ _ (by decide) (by decide)⟩)
  rw [State.foundPlain, hmode, hareas, get_put_other _ _ _ _ (hne _ _ (by decide) (by decide)).symm,
    get_puts_other _ _ k (by simpa using ⟨hne _ _ (by decide) (by decide), hne _ _ (by decide) (by decide)⟩)]
  rw [State.startVault]
  exact get_put_other s k28RandomGeneratorState k 0 hrandom

/-- What the choice of a slot reads beside the store. -/
def State.slotView (s : State) : Kod × Bist × Flash × Modes := (s.kod, s.bist, s.flash, s.modes)

theorem slotView_puts (l : List (Nat × Int)) : (s.puts l).slotView = s.slotView := by
  have h := congrArg State.slotView (puts_rest s l)
  exact h

theorem slotView_put (k : Nat) (v : Int) : (s.put k v).slotView = s.slotView := rfl

theorem slotView_startVault : s.startVault.slotView = s.slotView := rfl

theorem slotView_foundPlain : s.foundPlain.slotView = s.slotView := by
  rw [State.foundPlain, State.setFlashMode, slotView_puts, State.placeAreas, slotView_puts, slotView_put, slotView_puts, slotView_startVault]

theorem parts_foundPlain : s.foundPlain.kod = s.kod ∧ s.foundPlain.bist = s.bist ∧ s.foundPlain.flash = s.flash ∧
    s.foundPlain.modes = s.modes := by
  have h := slotView_foundPlain s
  simpa only [State.slotView, Prod.mk.injEq] using h

/-- A boot starts slot B where the members name it and it verifies. -/
theorem rom_bootFw_slotB {u : State} (hactive : u.getN (k31ActiveSlot 16) = 1) (hvalid : u.slotValid 0 1 = true)
    (hrom : u.modes.rom = false) : u.bootFw.modes.rom = false := by
  have hboot : u.bootFw = (u.put k31BootSource (1 : Nat)).ratchetIf := by
    unfold State.bootFw
    extract_lets a o v w x
    rw [if_pos (by simp only [a, hactive, hvalid]; rfl)]
    exact congrArg (fun n : Nat => (u.put k31BootSource n).ratchetIf) hactive
  rw [hboot, State.ratchetIf, State.ratchetSvn]
  split
  · exact hrom
  · split <;> exact hrom

/-- A boot finds nothing where no slot is named and slot A is empty. -/
theorem modes_bootFw_none {u : State} (hactive : u.getN (k31ActiveSlot 16) = 2) (hempty : (u.region 0).words 0 = []) :
    u.bootFw.modes.rom = true ∧ u.bootFw.modes.booted = u.modes.booted := by
  have hslot : u.slotValid 0 0 = false := by
    rw [State.slotValid, hempty]
    rfl
  unfold State.bootFw
  extract_lets a o z t w
  have hz : z = u := if_pos hactive
  have ho : o = 0 := by
    show (if u.getN (k31ActiveSlot 16) = 0 then 1 else 0) = 0
    rw [hactive]
    rfl
  rw [if_neg (by simp [a, hactive]), hz, ho, if_neg (by rw [hslot]; exact Bool.false_ne_true)]
  exact ⟨rfl, (congrArg Modes.booted (modes_svnReport (s := z) o)).trans (congrArg (fun v : State => v.modes.booted) hz)⟩

/-- The firmware's entry of a record that names no slot. -/
def noEntry : HeaderEntry := ⟨255, false, 0, 0, 0, 0, 0, 0⟩

theorem kod_loadEntry (r : Nat) (e : HeaderEntry) : (s.loadEntry r e).kod = s.kod := by
  have h : (s.loadEntry r e).slotView = s.slotView := by
    unfold State.loadEntry
    extract_lets a t w held
    exact (slotView_puts _ _).trans (slotView_puts _ _)
  exact congrArg Prod.fst h

theorem active_loadEntry : (s.loadEntry 0 noEntry).getN (k31ActiveSlot 16) = 2 := by
  unfold State.loadEntry
  extract_lets a t w held
  rw [getN_puts_other _ _ (by simp [key])]
  have ht : objects s t _ := objects_puts s _ (by simp [key])
  exact congrArg Int.toNat (ht.1 (k31ActiveSlot (16 + 0), (2 : Nat)) (by simp [a, noEntry]))

theorem loadHeader_one {h : HeaderRec} (hnewest : s.newestHeader = some h) (hregions : h.regions = [noEntry]) :
    s.loadHeader.getN (k31ActiveSlot 16) = 2 ∧ s.loadHeader.kod = s.kod := by
  rw [State.loadHeader, hnewest]
  simp only [hregions, List.zipIdx_cons, List.zipIdx_nil, each_cons, each_nil]
  have hactive : ∀ (v : Int) (f : Flash), ({ (s.loadEntry 0 noEntry).put k31TrialBoots v with flash := f } : State).getN
      (k31ActiveSlot 16) = 2 := fun v f => (getN_put_other (s.loadEntry 0 noEntry) k31TrialBoots _ v (by decide)).trans (active_loadEntry s)
  have hkod := kod_loadEntry s 0 noEntry
  generalize s.loadEntry 0 noEntry = t at *
  exact ⟨hactive _ _, hkod⟩

theorem newestHeader_one {h : HeaderRec} (hvalid : h.valid = true) (hheaders : s.flash.headers = [[h]]) : s.newestHeader = some h := by
  unfold State.newestHeader
  extract_lets l
  have hl : l = [h] := by
    unfold l
    rw [hheaders, List.flatten_singleton, List.filter_cons_of_pos hvalid, List.filter_nil]
  rw [hl, List.find?_singleton]
  exact if_pos (by simp)

/-- The members name slot B, which verifies. -/
theorem bootFw_disagreeing {s : State} {slot : Nat} (h : s.slotValid 0 slot = true) :
    ((s.disagreeing slot).found plainBoot).bootFw.modes.rom = false := by
  obtain ⟨hkod, hbist, -, hmodes⟩ := parts_foundPlain (s.disagreeing slot)
  have hactive : (s.disagreeing slot).foundPlain.get (k31ActiveSlot 16) = 1 :=
    (get_foundPlain _ (by decide) (by decide)).trans ((get_disagreeing s slot _).trans (get_put_same s _ 1))
  have hcount : (s.disagreeing slot).foundPlain.get k28AntiRollbackCount = s.get k28AntiRollbackCount :=
    (get_foundPlain _ (by decide) (by decide)).trans ((get_disagreeing s slot _).trans (get_put_other s _ _ _ (by decide)))
  have hregion : ((s.disagreeing slot).foundPlain.region 0).words 1 = (s.region 0).words slot := by
    rw [State.region, hkod, kod_disagreeing]
    exact (words_onlyB slot (s.region 0)).1
  have hvalid : (s.disagreeing slot).foundPlain.slotValid 0 1 = true := by
    rw [← h, State.slotValid, State.slotValid, hregion,
      headCheck_congr (hbist.trans (bist_disagreeing s slot)) (congrArg Int.toNat hcount)]
  rw [found_plain]
  exact rom_bootFw_slotB (congrArg Int.toNat hactive) hvalid (congrArg Modes.rom (hmodes.trans (modes_disagreeing s slot)))

/-- The record names no slot, and slot A is empty. -/
theorem bootFw_loadHeader_disagreeing : ((s.disagreeing slot).found plainBoot).loadHeader.bootFw.modes.rom = true ∧
    ((s.disagreeing slot).found plainBoot).loadHeader.bootFw.modes.booted = false := by
  obtain ⟨hkod, -, hflash, hmodes⟩ := parts_foundPlain (s.disagreeing slot)
  have hheaders : (s.disagreeing slot).foundPlain.flash.headers = [[noneActiveRec]] :=
    (congrArg Flash.headers hflash).trans (headers_disagreeing s slot)
  rw [found_plain]
  obtain ⟨hactive, hkept⟩ := loadHeader_one _ (newestHeader_one _ valid_noneActiveRec hheaders) rfl
  have hempty : ((s.disagreeing slot).foundPlain.loadHeader.region 0).words 0 = [] := by
    rw [State.region, hkept, hkod, kod_disagreeing]
    exact (words_onlyB slot (s.region 0)).2
  obtain ⟨hrom, hbooted⟩ := modes_bootFw_none hactive hempty
  exact ⟨hrom, hbooted.trans (congrArg Modes.booted (modes_loadHeader.trans (hmodes.trans (modes_disagreeing s slot))))⟩

/-- The clause on the boot holds only where no firmware verifies. -/
theorem noFirmware_of_resetRows (h : Obligations.ResetRows) : NoFirmware := by
  intro s slot
  refine eq_false_of_ne_true fun hvalid => ?_
  obtain ⟨-, -, -, -, -, -, -, -, -, -, -, -, hboot, -⟩ := h
  have hmodes := modes_disagreeing s slot
  have hpowered := congrArg Modes.powered hmodes
  have hbooted := congrArg Modes.booted hmodes
  have hrom := congrArg Modes.rom hmodes
  have hcore := congrArg Modes.coreInReset hmodes
  have hflash : flashSupported plainBoot = true := rfl
  obtain ⟨t, hnext, hstarts, -⟩ := hboot (s.disagreeing slot) plainBoot hpowered hbooted hrom hcore hflash
  have hslotB := bootFw_disagreeing hvalid
  rw [State.found] at hslotB
  obtain ⟨hstarted, -, -⟩ := hstarts hslotB
  obtain ⟨hloader, hidle⟩ := bootFw_loadHeader_disagreeing s slot
  have hboot := boot_supported (s := s.disagreeing slot) (b := plainBoot) hpowered hbooted hrom hcore hflash
  rw [if_pos hloader] at hboot
  rw [← Host.Outcome.next.inj hnext, hboot] at hstarted
  generalize ((s.disagreeing slot).found plainBoot).loadHeader.bootFw = u at *
  exact Bool.false_ne_true (hidle.symm.trans hstarted)

end Counter

/-- The rows of the resets hold exactly where no firmware verifies. The constants of `Config` that decide on an image have no body, so
O27 stands open: `noFirmware_of_signatures` and `firmware_verifies` show that either answer agrees with the model. -/
theorem resetRows_iff_noFirmware : Obligations.ResetRows ↔ NoFirmware :=
  ⟨noFirmware_of_resetRows, resetRows_of_noFirmware⟩

theorem noFirmware_of_signatures (h : ∀ w, Config.signatureOk w = false) : NoFirmware := by
  intro s slot
  unfold State.slotValid
  extract_lets w
  have hfails : s.headCheck 0 w.length w ≠ none := by
    unfold State.headCheck
    extract_lets head
    rw [h]
    split_ifs <;> simp_all
  rw [Option.isNone_eq_false_iff.2 (Option.ne_none_iff_isSome.1 hfails), Bool.and_false]

/-- A firmware image without a payload: its head says so, and its key and signature are zeros. -/
def emptyImage : List Nat := 0x42584D010000 :: List.replicate 36 0

/-- A state that holds it in slot A. -/
def State.holdingEmpty : State :=
  { State.reset with kod := { regions := [{ slotA := [(0, 0x42584D010000)], sizeA := 37 }] } }

theorem firmware_verifies (hhash : Config.sha384 (List.replicate 97 0) = Config.h0) (hsign : Config.signatureOk emptyImage = true) :
    ¬ NoFirmware := by
  intro h
  have hwords : (State.holdingEmpty.region 0).words 0 = emptyImage := by decide
  have hkey : State.holdingEmpty.keyAccepted 0 emptyImage = true := by
    have htail : ((((emptyImage.drop 20).take 17).flatMap wordBytes).drop 97).all (· = 0) = true := by decide
    have hhead : (((emptyImage.drop 20).take 17).flatMap wordBytes).take 97 = List.replicate 97 0 := by decide
    unfold State.keyAccepted
    extract_lets b k
    simp only [b, k, htail, hhead, hhash]
    rfl
  have hcrypto : State.holdingEmpty.cryptoOk = true := rfl
  have hcount : State.holdingEmpty.getN k28AntiRollbackCount = 0 := by decide
  have hhead : State.holdingEmpty.headCheck 0 emptyImage.length emptyImage = none := by
    unfold State.headCheck
    extract_lets head
    rw [if_neg (by decide), if_neg (by decide), if_neg (by rw [hcrypto, hkey]; decide), if_neg (by rw [hsign]; decide),
      if_neg (by rw [hcount]; decide)]
  have hvalid := h State.holdingEmpty 0
  unfold State.slotValid at hvalid
  extract_lets w at hvalid
  have hw : w = emptyImage := hwords
  rw [hw, hhead] at hvalid
  exact absurd hvalid (by decide)

end Sys2Proof.Machine
end
